-- ==== Sys2Proof/Word.lean ====
section
/-! DEFINITION. Words, bit fields and the fixed-size tables every later file is written in.
Multi-byte fields are little-endian (R2). -/

namespace Sys2Proof

/-- A 32-bit register or parameter dword (R2). -/
abbrev Word := BitVec 32

/-- One byte of DRAM or host memory. -/
abbrev Byte := BitVec 8

/-- A 64-bit count: frame numbers, sample counts, host marks (R3). -/
abbrev Count64 := BitVec 64

/-- All ones in 64 bits: "none" in POINT and EFFECT_POINT (R50, R63). -/
abbrev noPoint : Count64 := BitVec.allOnes 64

/-- Entry `i` of a fixed table, or the type's default beyond its end. -/
def tget {α : Type} [Inhabited α] {n : Nat} (t : Vector α n) (i : Nat) : α := t.getD i default

/-- The table with entry `i` replaced; unchanged where `i` lies beyond its end. -/
def tset {α : Type} {n : Nat} (t : Vector α n) (i : Nat) (x : α) : Vector α n := t.setIfInBounds i x

/-- The table with entry `i` changed by `f`. -/
def tmod {α : Type} [Inhabited α] {n : Nat} (t : Vector α n) (i : Nat) (f : α → α) : Vector α n :=
  tset t i (f (tget t i))

end Sys2Proof
end

