-- ==== Sys2Proof/Syntax.lean ====
section
/-! DEFINITION. The commands of the block, row by row of the table of operations and events, and the data they
carry: what the host, the sensors, the panels, the other half, the other device of a pair and the analog parts present
to the device. -/

namespace Sys2Proof

/-- The two halves of the device (R9). -/
inductive Half where
  | A | B
  deriving DecidableEq, Repr, Inhabited

/-- A submission entry as a command (R43). -/
structure Cmd where
  /-- half whose ring received it (R46) -/
  recv : Half := .A
  /-- submission ring that received it -/
  sq : BitVec 5 := 0
  /-- TAG -/
  tag : BitVec 16 := 0
  /-- FENCE -/
  fence : Bool := false
  /-- NOTIFY -/
  notify : Bool := false
  /-- STORE_RAW -/
  storeRaw : Bool := false
  /-- CHAIN -/
  chain : Bool := false
  /-- INDIRECT -/
  indirect : Bool := false
  /-- TARGET -/
  target : BitVec 4 := 0
  /-- PRIORITY -/
  priority : BitVec 4 := 0
  /-- parameter dwords from dword 2 on, inline or of the parameter block -/
  params : List Word := []
  /-- submitted on the management port (R70) -/
  port : Bool := false
  /-- number of the entry in its ring, counted from the ring's enabling -/
  order : Nat := 0
  /-- the model's own number of the submission, which tells a reused TAG from its first use -/
  serial : Nat := 0
  deriving DecidableEq, Repr, Inhabited

/-- A completion entry (R50), but for PHASE and SQ_HEAD, which its writing adds. -/
structure Completion where
  /-- receiving half -/
  recv : Half := .A
  /-- SQ -/
  sq : BitVec 5 := 0
  /-- TAG -/
  tag : BitVec 16 := 0
  /-- STATUS -/
  status : BitVec 16 := 0
  /-- EXEC_HALF -/
  exec : BitVec 2 := 0
  /-- RESULT0 -/
  res0 : Word := 0
  /-- RESULT1 -/
  res1 : Word := 0
  /-- RESULT2 -/
  res2 : Word := 0
  /-- PARAM_INDEX -/
  pidx : BitVec 16 := 0xFFFF
  /-- REASON -/
  reason : BitVec 8 := 0
  /-- BOUNDARY -/
  boundary : BitVec 4 := 0
  /-- EFFECT -/
  effect : Bool := false
  /-- EFFECT_POINT -/
  point : Count64 := noPoint
  /-- the command had NOTIFY set -/
  notify : Bool := false
  /-- number of the submission -/
  serial : Nat := 0
  deriving DecidableEq, Repr, Inhabited

/-- The effect report of a boundary command (R56). -/
structure EffectReport where
  /-- receiving half -/
  recv : Half := .A
  /-- SQ -/
  sq : BitVec 5 := 0
  /-- TAG -/
  tag : BitVec 16 := 0
  /-- opcode -/
  opcode : BitVec 16 := 0
  /-- BOUNDARY -/
  boundary : BitVec 4 := 0
  /-- EFFECT_POINT -/
  point : Count64 := noPoint
  /-- stream number -/
  stream : BitVec 6 := 0
  /-- status -/
  status : BitVec 16 := 0
  /-- EXEC_HALF -/
  exec : BitVec 2 := 0
  /-- RESULT0 of the effect completion -/
  res0 : Word := 0
  /-- RESULT1 of the effect completion -/
  res1 : Word := 0
  /-- NOTIFY -/
  notify : Bool := false
  /-- number of the submission -/
  serial : Nat := 0
  deriving DecidableEq, Repr, Inhabited

/-- T of a trigger rule, as the lead sends it (R146). -/
structure TriggerT where
  /-- rule -/
  rule : Nat := 0
  /-- T -/
  t : Count64 := 0
  deriving DecidableEq, Repr, Inhabited

/-- What the host has made visible in its memory by the time of a doorbell (R39), and where PCIe accesses fail. -/
structure HostUpdate where
  /-- bytes written since the last update: address and bytes -/
  writes : List (Nat × List Byte) := []
  /-- regions that now fail on PCIe, as (address, length); none = as before -/
  bad : Option (List (Nat × Nat)) := none
  deriving DecidableEq, Repr, Inhabited

/-- A write to an MSI-X mask or enable (R402). -/
inductive MsixWrite where
  /-- vector control of vector `n` -/
  | vector (n : Nat) (mask : Bool)
  /-- message control of the capability -/
  | control (enable functionMask : Bool)
  deriving DecidableEq, Repr, Inhabited

/-- A register write (R4, R397). -/
inductive RegWrite where
  /-- BAR0 write of `size` bytes at `offset` -/
  | bar0 (offset size : Nat) (value : BitVec 64)
  /-- standard control registers that enable link low-power states (R405) -/
  | linkPower (l1 l11 l12 l0p : Bool)
  /-- Resizable BAR control: size of BAR2 (R399) -/
  | barSize (log2 : Nat)
  deriving DecidableEq, Repr, Inhabited

/-- Islands of a half (table of clock islands). -/
inductive IslandId where
  | keystone | fabric | ingest (quad : Nat) | ashlar | pipeline | vcu | dram | pcie | viewfinder | audio | mortar | aon
  deriving DecidableEq, Repr, Inhabited

/-- What a receiver reports of a CTLE code: eye width and height (R95, R96). -/
structure EyeResult where
  /-- CTLE code -/
  code : BitVec 4 := 0
  /-- eye width -/
  w : BitVec 8 := 0
  /-- eye height -/
  h : BitVec 8 := 0
  deriving DecidableEq, Repr, Inhabited

/-- One lane's ALIGN block (R80, R81); a list of them is in the order of the link's lanes, its spare last. -/
structure AlignBlock where
  /-- logical lane it carries -/
  lane : Nat := 0
  /-- marker count -/
  marker : BitVec 16 := 0
  /-- BIP-8 carried -/
  bip : BitVec 8 := 0
  /-- skew of its arrival behind the earliest lane, in blocks -/
  skew : Nat := 0
  deriving DecidableEq, Repr, Inhabited

/-- One subchannel's timing block (R372). -/
structure SubTiming where
  /-- RD_DLY of the 40 bits -/
  rd : List Nat := []
  /-- WR_DLY of the 40 bits -/
  wr : List Nat := []
  /-- RX_VREF of the 40 bits -/
  vref : List Nat := []
  /-- RD_GATE of the 10 DQS pairs -/
  gate : List Nat := []
  /-- WR_LVL of the 10 DQS pairs -/
  lvl : List Nat := []
  /-- DRAM VrefDQ code of the 10 DQS pairs -/
  dvref : List Nat := []
  /-- OSC_BASE -/
  oscBase : Nat := 0
  /-- WIN_MIN -/
  winMin : Nat := 0
  /-- CA_VREF -/
  caVref : Nat := 0
  /-- CA_DLY of the 14 CA signals -/
  caDly : List Nat := []
  /-- CS_DLY -/
  csDly : Nat := 0
  deriving DecidableEq, Repr, Inhabited

/-- One rank's record of a timing set (R372). -/
structure TimingRec where
  /-- VALID -/
  valid : Bool := false
  /-- SPEED -/
  speed : Nat := 0
  /-- TIMINGS: 20 values -/
  timings : List Nat := []
  /-- SUB0 -/
  sub0 : SubTiming := {}
  /-- SUB1 -/
  sub1 : SubTiming := {}
  deriving DecidableEq, Repr, Inhabited

/-- Trim values of one instance: the body of its record (R310). -/
inductive TrimVals where
  /-- domain 1: black levels per channel and the stage-3 arrays' addresses, pitch -/
  | black (fixed : List Nat) (adj : List Int) (dark pitch col row : Nat)
  /-- domain 2: defect region, entry count, buffer that holds the map -/
  | defect (base count : Nat) (second : Bool)
  /-- domain 3: trained code of each logical lane, then of the spare -/
  | eq (codes : List (BitVec 4))
  /-- domain 4: the channel's records of the set in force, by rank -/
  | timing (recs : List TimingRec)
  /-- domain 5: twelve thermal offsets in 1/16 C, eight supply offsets in mV -/
  | telemetry (thermal supply : List Int)
  deriving DecidableEq, Repr, Inhabited

/-- What a coding of one half's part of a picture yields (R328, R332, R333). -/
structure PartResult where
  /-- coded size in bits of each coding tree unit or macroblock of the part, in coding order -/
  ctus : List Nat := []
  /-- bytes of the part: a substream or a slice -/
  data : List Byte := []
  deriving DecidableEq, Repr, Inhabited

/-- A decode engine's task (R189). -/
inductive DecTask where
  /-- block of a Quarry-source frame: context, frame, stream, block number -/
  | pipe (ctx : Nat) (f : Count64) (stream block : Nat)
  /-- block of a host decode job: receiving half and tag of its command, and its index -/
  | job (recv : Half) (tag : BitVec 16) (block : Nat)
  deriving DecidableEq, Repr, Inhabited

/-- The opcodes of R539, in the order of their codes. -/
inductive Op where
  /-- 0x0001 DEV_NOP: Immediate -/
  | devNop
  /-- 0x0002 DEV_ABORT: Immediate -/
  | devAbort
  /-- 0x0003 DEV_SET_EVENT_MASK: Immediate -/
  | devSetEventMask
  /-- 0x0004 DEV_READ_EVENT_LOG: Immediate -/
  | devReadEventLog
  /-- 0x0020 DEV_FW_STAGE: Long -/
  | devFwStage
  /-- 0x0021 DEV_FW_VERIFY: Long -/
  | devFwVerify
  /-- 0x0022 DEV_FW_ACTIVATE: Long -/
  | devFwActivate
  /-- 0x0023 DEV_FW_GET_STATUS: Immediate -/
  | devFwGetStatus
  /-- 0x0030 DEV_RESET: Immediate -/
  | devReset
  /-- 0x0031 DEV_GET_HEALTH: Immediate -/
  | devGetHealth
  /-- 0x0032 DEV_SET_THERMAL: Immediate -/
  | devSetThermal
  /-- 0x1001 LINK_SET_QUAD_MODE: Immediate -/
  | linkSetQuadMode
  /-- 0x1002 LINK_CONFIGURE: Immediate -/
  | linkConfigure
  /-- 0x1003 LINK_ENABLE: Long -/
  | linkEnable
  /-- 0x1004 LINK_DISABLE: Immediate -/
  | linkDisable
  /-- 0x1005 LINK_RETRAIN: Long -/
  | linkRetrain
  /-- 0x1006 LINK_GET_STATUS: Immediate -/
  | linkGetStatus
  /-- 0x1007 LINK_CLEAR_COUNTERS: Immediate -/
  | linkClearCounters
  /-- 0x1008 LINK_SET_POLICY: Immediate -/
  | linkSetPolicy
  /-- 0x1009 LINK_REMAP_LANE: Boundary 1 -/
  | linkRemapLane
  /-- 0x100A LINK_SET_EQ: Immediate -/
  | linkSetEq
  /-- 0x100B LINK_PRBS_CHECK: Long -/
  | linkPrbsCheck
  /-- 0x2001 QRY_MAP_STREAM: Immediate -/
  | qryMapStream
  /-- 0x2002 QRY_CONFIGURE_STREAM: Immediate -/
  | qryConfigureStream
  /-- 0x2003 QRY_CONFIGURE_RING: Immediate -/
  | qryConfigureRing
  /-- 0x2004 QRY_START_STREAM: Boundary 1 -/
  | qryStartStream
  /-- 0x2005 QRY_STOP_STREAM: Boundary 1 -/
  | qryStopStream
  /-- 0x2006 QRY_SET_TRIGGER_RULE: Immediate -/
  | qrySetTriggerRule
  /-- 0x2007 QRY_ARM: Immediate -/
  | qryArm
  /-- 0x2008 QRY_TRIGGER: Immediate -/
  | qryTrigger
  /-- 0x2009 QRY_READ: Long -/
  | qryRead
  /-- 0x200A QRY_GET_SEGMENTS: Immediate -/
  | qryGetSegments
  /-- 0x200B QRY_RELEASE: Immediate -/
  | qryRelease
  /-- 0x200C QRY_SET_HOST_MARK: Immediate -/
  | qrySetHostMark
  /-- 0x200D QRY_GET_STATUS: Immediate -/
  | qryGetStatus
  /-- 0x200E QRY_SET_REPORTING: Immediate -/
  | qrySetReporting
  /-- 0x200F QRY_LOCATE: Immediate -/
  | qryLocate
  /-- 0x3001 ASH_ENCODE: Long -/
  | ashEncode
  /-- 0x3002 ASH_DECODE: Long -/
  | ashDecode
  /-- 0x3003 ASH_CONTINUE: Long -/
  | ashContinue
  /-- 0x3004 ASH_DROP_JOB: Immediate -/
  | ashDropJob
  /-- 0x3005 ASH_GET_STATUS: Immediate -/
  | ashGetStatus
  /-- 0x4001 PIPE_OPEN_CONTEXT: Immediate -/
  | pipeOpenContext
  /-- 0x4002 PIPE_SET_SOURCE: Immediate -/
  | pipeSetSource
  /-- 0x4003 PIPE_START_CONTEXT: Boundary 1 -/
  | pipeStartContext
  /-- 0x4004 PIPE_STOP_CONTEXT: Boundary 1 -/
  | pipeStopContext
  /-- 0x4005 PIPE_CLOSE_CONTEXT: Immediate -/
  | pipeCloseContext
  /-- 0x4006 PIPE_SET_SLOT_MASK: Boundary 2 -/
  | pipeSetSlotMask
  /-- 0x4007 PIPE_SET_PRIORITY: Boundary 2 -/
  | pipeSetPriority
  /-- 0x4008 PIPE_SET_SLOT_TIME: Boundary 2 -/
  | pipeSetSlotTime
  /-- 0x4009 PIPE_GET_CONTEXT_STATUS: Immediate -/
  | pipeGetContextStatus
  /-- 0x4020 PIPE_SET_STREAM_CORR: Boundary 1 -/
  | pipeSetStreamCorr
  /-- 0x4021 PIPE_SET_CONTEXT_CORR: Boundary 1 -/
  | pipeSetContextCorr
  /-- 0x4030 PIPE_SET_COLOUR: Boundary 1 -/
  | pipeSetColour
  /-- 0x4031 PIPE_LOAD_LUT: Long -/
  | pipeLoadLut
  /-- 0x4032 PIPE_SET_TAP: Boundary 1 -/
  | pipeSetTap
  /-- 0x4033 PIPE_SET_TAP_RING: Immediate -/
  | pipeSetTapRing
  /-- 0x4034 PIPE_TAP_BUFFER: Immediate -/
  | pipeTapBuffer
  /-- 0x4035 PIPE_GET_TAP_STATUS: Immediate -/
  | pipeGetTapStatus
  /-- 0x5001 STAT_CONFIGURE: Boundary 1 -/
  | statConfigure
  /-- 0x5002 STAT_SET_CONTENT_TRIGGER: Immediate -/
  | statSetContentTrigger
  /-- 0x5003 STAT_READ: Immediate -/
  | statRead
  /-- 0x5101 TRIM_SET_POLICY: Immediate -/
  | trimSetPolicy
  /-- 0x5102 TRIM_MEASURE: Long -/
  | trimMeasure
  /-- 0x5103 TRIM_COMMIT: Boundary 1 (domains 1–2) or 3 (domains 3–5) -/
  | trimCommit
  /-- 0x5104 TRIM_LOAD: Boundary 1 (domains 1–2) or 3 (domain 5) -/
  | trimLoad
  /-- 0x5105 TRIM_READ: Immediate -/
  | trimRead
  /-- 0x6001 VCU_OPEN_SESSION: Immediate -/
  | vcuOpenSession
  /-- 0x6002 VCU_SET_OUTPUT: Immediate -/
  | vcuSetOutput
  /-- 0x6003 VCU_SET_RATE: Boundary 1 -/
  | vcuSetRate
  /-- 0x6004 VCU_START: Boundary 1 -/
  | vcuStart
  /-- 0x6005 VCU_STOP: Boundary 1 -/
  | vcuStop
  /-- 0x6006 VCU_REQUEST_IRAP: Boundary 1 -/
  | vcuRequestIrap
  /-- 0x6007 VCU_CLOSE_SESSION: Immediate -/
  | vcuCloseSession
  /-- 0x6008 VCU_SUBMIT_PICTURE: Long -/
  | vcuSubmitPicture
  /-- 0x6009 VCU_DECODE_DATA: Long -/
  | vcuDecodeData
  /-- 0x600A VCU_FLUSH: Long -/
  | vcuFlush
  /-- 0x600B VCU_CONSUMED: Immediate -/
  | vcuConsumed
  /-- 0x600C VCU_PICTURE_BUFFER: Immediate -/
  | vcuPictureBuffer
  /-- 0x600D VCU_GET_POOL: Immediate -/
  | vcuGetPool
  /-- 0x600E VCU_GET_STATUS: Immediate -/
  | vcuGetStatus
  /-- 0x7001 MEM_GET_STATUS: Immediate -/
  | memGetStatus
  /-- 0x7002 MEM_SET_REGION: Immediate -/
  | memSetRegion
  /-- 0x7003 MEM_SET_POLICY: Immediate -/
  | memSetPolicy
  /-- 0x7004 MEM_TRAIN: Long -/
  | memTrain
  /-- 0x7005 MEM_SET_FREQ: Long -/
  | memSetFreq
  /-- 0x7006 MEM_READ_TIMING: Immediate -/
  | memReadTiming
  /-- 0x7007 MEM_REPAIR: Long -/
  | memRepair
  /-- 0x7008 MEM_SAVE_TRAINING: Long -/
  | memSaveTraining
  /-- 0x7009 MEM_INJECT_ERROR: Immediate -/
  | memInjectError
  /-- 0x8001 VF_SET_SOURCE: Boundary 4 -/
  | vfSetSource
  /-- 0x8002 VF_CONFIGURE_OUTPUT: Long -/
  | vfConfigureOutput
  /-- 0x8003 VF_PANEL_SEQUENCE: Long -/
  | vfPanelSequence
  /-- 0x8004 VF_SET_CHECK: Immediate -/
  | vfSetCheck
  /-- 0x8005 VF_RESUME: Immediate -/
  | vfResume
  /-- 0x8006 VF_GET_STATUS: Immediate -/
  | vfGetStatus
  /-- 0x9001 AUD_CONFIGURE: Immediate -/
  | audConfigure
  /-- 0x9002 AUD_START: Immediate -/
  | audStart
  /-- 0x9003 AUD_STOP: Immediate -/
  | audStop
  /-- 0x9004 AUD_ADVANCE: Immediate -/
  | audAdvance
  /-- 0x9005 AUD_SET_LATCH: Immediate -/
  | audSetLatch
  /-- 0x9006 AUD_GET_STATUS: Immediate -/
  | audGetStatus
  /-- 0xA001 PAIR_CONFIGURE: Immediate -/
  | pairConfigure
  /-- 0xA002 PAIR_GET_STATUS: Immediate -/
  | pairGetStatus
  /-- 0xA003 PAIR_SWITCHOVER: Long -/
  | pairSwitchover
  /-- 0xA004 PAIR_TAKEOVER: Long -/
  | pairTakeover
  /-- 0xB001 PWR_SET_WAKE_BUDGET: Immediate -/
  | pwrSetWakeBudget
  /-- 0xB002 PWR_GET_STATE: Immediate -/
  | pwrGetState
  /-- 0xC001 HOST_GET_LINK_STATUS: Immediate -/
  | hostGetLinkStatus
  deriving DecidableEq, Repr, Inhabited
/-- What a trim measurement yields (R301 to R304): the proposed values, or nothing usable. -/
inductive TrimResult where
  /-- domains 1 and 2 are computed from the accumulated frames -/
  | frames
  /-- domain 3: best codes per logical lane -/
  | eyes (codes : List EyeResult)
  /-- domain 5: calibration readings -/
  | calibration (thermal supply : List Int)
  /-- the measurement failed -/
  | failed
  deriving DecidableEq, Repr, Inhabited

/-- What the active parameter sets of a coded video sequence name (R344, R348). -/
structure SeqInfo where
  /-- profile: 0, 1, 2 as PROFILE of VCU_OPEN_SESSION; any other is outside R311 -/
  profile : Nat := 0
  /-- chroma format: 0 = 4:0:0, 1 = 4:2:0, 2 = 4:2:2; any other is outside R311 -/
  chroma : Nat := 1
  /-- bit depth -/
  depth : Nat := 8
  /-- field coding -/
  field : Bool := false
  /-- level -/
  level : Nat := 0
  /-- High tier -/
  highTier : Bool := false
  /-- coded width, whole coding tree units or macroblocks -/
  codedW : Nat := 0
  /-- coded height -/
  codedH : Nat := 0
  /-- first column, first row, width and height after cropping -/
  crop : Nat × Nat × Nat × Nat := (0, 0, 0, 0)
  /-- log2 of the row unit: 4, 5 or 6 -/
  rowLog2 : Nat := 6
  /-- pictures that may wait for output before one is output -/
  reorder : Nat := 0
  /-- pictures that the decoded picture buffer holds -/
  buffers : Nat := 1
  deriving DecidableEq, Repr, Inhabited

/-- The picture of an access unit as its slices decode, before concealment (R345 to R347). -/
structure AuPic where
  /-- order count -/
  poc : Int := 0
  /-- order counts of the pictures it refers to -/
  refs : List Int := []
  /-- reference marks after its reference picture set: order count, long-term -/
  keep : List (Int × Bool) := []
  /-- the picture itself is kept as a reference -/
  isRef : Bool := false
  /-- luma samples of the coded picture, row by row -/
  luma : List Nat := []
  /-- Cb, Cr pairs of the coded picture, row by row; none in 4:0:0 -/
  chroma : List Nat := []
  /-- units left undecoded, counted across the picture in raster order -/
  missing : List Nat := []
  /-- some of them for want of samples its half does not hold (R335) -/
  splitEdge : Bool := false
  deriving DecidableEq, Repr, Inhabited

/-- What the decoder meets as it reads on in a session's byte stream, up to the end of one access unit (R343 to R345). -/
structure AuResult where
  /-- bytes read -/
  read : Nat := 0
  /-- where among them access units start, in order -/
  starts : List Nat := []
  /-- the oldest access unit begun has ended -/
  ended : Bool := true
  /-- syntax errors met -/
  errors : Nat := 0
  /-- the sequence that its parameter sets name -/
  seq : SeqInfo := {}
  /-- 0 = not an IRAP, 1 = IDR, 2 = CRA or BLA -/
  irap : Nat := 0
  /-- it starts a coded video sequence by its own syntax: an IDR, a BLA, or after an end of sequence -/
  first : Bool := false
  /-- it has no_output_of_prior_pics -/
  noPrior : Bool := false
  /-- RASL picture -/
  rasl : Bool := false
  /-- mark carried in the vendor SEI of R323 -/
  mark : Option Count64 := none
  /-- its picture; none = no decodable slice -/
  pic : Option AuPic := none
  deriving DecidableEq, Repr, Inhabited

/-- A request of a unit to its half's DRAM (R363). -/
structure DramReq where
  /-- write -/
  write : Bool := false
  /-- half address, 64-byte aligned -/
  addr : Nat := 0
  /-- byte enables of a write -/
  mask : BitVec 64 := BitVec.allOnes 64
  /-- 64 bytes of a write -/
  data : List Byte := []
  /-- requesting unit -/
  unit : Nat := 0
  deriving DecidableEq, Repr, Inhabited

/-- What ECC finds in a burst read (R383, R384). -/
inductive EccResult where
  | clean
  /-- corrected: device 0 to 9 -/
  | corrected (device : BitVec 4)
  /-- uncorrectable: which of the 64 bytes -/
  | uncorrectable (bytes : BitVec 64)
  deriving DecidableEq, Repr, Inhabited

/-- What MR4 reports of a rank (R367). -/
inductive Mr4Temp where
  | normal | above85 | overRange
  deriving DecidableEq, Repr, Inhabited

/-- What one subchannel measures in a periodic sample (R377). -/
structure SubSample where
  /-- rank -/
  rank : Nat := 0
  /-- subchannel 1 -/
  sub1 : Bool := false
  /-- drift of each DQS pair in taps, converted from the oscillator -/
  drift : List Int := []
  /-- per bit: the low edge failed, the high edge failed -/
  edges : List (Bool × Bool) := []
  deriving DecidableEq, Repr, Inhabited

/-- What a clearing's work measured or could not do (R370). -/
structure ClearResult where
  /-- a sweep that ends in this clearing yields these records, by rank -/
  sweepDone : Option (List TimingRec) := none
  /-- a soft repair found no resource left -/
  noResource : Bool := false
  deriving DecidableEq, Repr, Inhabited

/-- One channel after power-on training (R356, R373). -/
structure ChanTraining where
  /-- channel of the half -/
  chan : Nat := 0
  /-- DIMMs fitted -/
  dimms : Nat := 0
  /-- ranks per DIMM -/
  ranks : Nat := 1
  /-- x8 devices -/
  x8 : Bool := false
  /-- density code -/
  density : BitVec 2 := 0
  /-- GiB per DIMM -/
  gib : Nat := 0
  /-- SPD maximum, MT/s -/
  spdMax : Nat := 0
  /-- identities -/
  ident : List Nat := []
  /-- 0 usable, 1 unsupported DIMM, 2 DIMMs differ, 3 training failed -/
  cause : Nat := 0
  /-- records of set 0 by rank -/
  set0 : List TimingRec := []
  /-- records of set 1 by rank -/
  set1 : List TimingRec := []
  deriving DecidableEq, Repr, Inhabited

/-- The records of a newly trained set: channel of the half, and its records by rank (R381). -/
structure TimingRecIn where
  /-- channel -/
  chan : Nat := 0
  /-- records by rank -/
  recs : List TimingRec := []
  deriving DecidableEq, Repr, Inhabited

/-- What an audio port's clock monitor finds of a frame (R440). -/
inductive AudTiming where
  /-- valid framing, with the AON cycles that the clock had stopped for where it had -/
  | ok (gap : Nat)
  /-- a glitch in this frame, with the gap in AON cycles to the resynchronisation -/
  | glitch (gap : Nat)
  /-- valid framing with a period outside the tolerance -/
  | offRate
  deriving DecidableEq, Repr, Inhabited

/-- A heartbeat of the peer device (R462). -/
structure Heartbeat where
  /-- EPOCH -/
  epoch : Word := 0
  /-- role -/
  role : BitVec 2 := 0
  /-- SWAP -/
  swap : Bool := false
  /-- liveness count -/
  live : Word := 0
  /-- the peer reports itself fenced -/
  fenced : Bool := false
  /-- the peer reports itself deposed -/
  deposed : Bool := false
  /-- cause of a fence that hands over: 2 a switchover, 3 + bit of FAULT_MASK for a self-reported fault (R464, R471) -/
  cause : Nat := 2
  /-- streams that a mirror covers (R477) -/
  coverage : BitVec 64 := 0
  /-- lowest COVERED_FROM of them (R477) -/
  coveredFrom : Count64 := noPoint
  deriving DecidableEq, Repr, Inhabited

/-- An ACCEPT record (R456, R458). -/
structure AcceptRec where
  /-- the command -/
  cmd : Cmd := default
  /-- its opcode -/
  op : Op := default
  /-- input regions copied into this device's DRAM: half, address, bytes -/
  regions : List (Half × Nat × List Byte) := []
  /-- host-memory tables it reads: address, bytes -/
  tables : List (Nat × List Byte) := []
  deriving DecidableEq, Repr, Inhabited

/-- A TRIGGER or SEGMENT record (R456). -/
inductive SegRec where
  /-- a rule fired with T -/
  | trigger (rule : Nat) (t : Count64)
  /-- a segment froze at its last frame -/
  | freeze (stream : Nat) (last : Count64)
  /-- a segment was released -/
  | release (stream : Nat) (number : Word)
  deriving DecidableEq, Repr, Inhabited

/-- A TRIM record (R456). -/
structure TrimRec where
  /-- domain 1 or 2 -/
  dom : Nat := 1
  /-- stream -/
  stream : Nat := 0
  /-- committed values -/
  vals : TrimVals := default
  /-- array and map contents: address, bytes -/
  data : List (Nat × List Byte) := []
  /-- frame at which the active committed -/
  f : Count64 := 0
  deriving DecidableEq, Repr, Inhabited

/-- A record of the pair link (R456). -/
inductive MirrorRec where
  /-- ACCEPT -/
  | accept (r : AcceptRec)
  /-- APPLY -/
  | apply (c : Completion)
  /-- POSTED: a completion, and whether it was the final one -/
  | posted (recv : Half) (tag : BitVec 16) (final : Bool)
  /-- STAGE -/
  | stage (recv : Half) (tag : BitVec 16)
  /-- EFFECT -/
  | effect (recv : Half) (tag : BitVec 16) (point : Count64) (stream : Nat)
  /-- ADMIT -/
  | admitted (ctx : Nat) (h : Half) (f : Count64)
  /-- FRAME -/
  | frame (stream : Nat) (sensorFn : Word) (number : Count64) (mark : Option Count64)
  /-- TRIGGER or SEGMENT -/
  | segment (r : SegRec)
  /-- TRIM -/
  | trim (r : TrimRec)
  deriving DecidableEq, Repr, Inhabited

/-- What the checks of an image find (R487). -/
structure ImageCheck where
  /-- the key hash equals the OTP's -/
  key : Bool := true
  /-- the signature verifies -/
  sig : Bool := true
  /-- the resident part matches its digest -/
  digest : Bool := true
  /-- SECURITY_VERSION is at least the OTP minimum -/
  secver : Bool := true
  deriving DecidableEq, Repr, Inhabited

/-- What the header of a running image gives (R487), with the outcome of the loadable parts' check. -/
structure ImageInfo where
  /-- FW_MAJOR -/
  major : BitVec 8 := 0
  /-- FW_MINOR -/
  minor : BitVec 8 := 0
  /-- FW_PATCH -/
  patch : BitVec 8 := 0
  /-- every loadable part matches its digest -/
  partsOk : Bool := true
  deriving DecidableEq, Repr, Inhabited

/-- What firmware reads as it starts (R485). -/
structure BootEnv where
  /-- sensor readings, 1/16 C -/
  temps : List Int := []
  /-- rail readings, mV -/
  rails : List Nat := []
  /-- lowest passing core voltage, mV -/
  vcore : Nat := 785
  /-- AON cycles from release to CMD_READY -/
  cycles : Nat := 0
  deriving DecidableEq, Repr, Inhabited

/-- Reference clocks (R494, R495). -/
inductive ClockId where
  | sysClk | lane (h : Half) | pcie (h : Half) | audMclk
  deriving DecidableEq, Repr, Inhabited

/-- What an AVS reading finds (R497, R498). -/
structure AvsRead where
  /-- the regulator answered -/
  answered : Bool := true
  /-- lowest voltage at which the critical-path monitors pass, mV -/
  lowest : Nat := 785
  /-- VDD_CORE current, 0.1 A -/
  icore : BitVec 16 := 0
  deriving DecidableEq, Repr, Inhabited


/-- The commands of the block: one constructor per row of the table of operations and events. -/
inductive Instr where
  /-- DEV_NOP (R72) -/
  | devNop (c : Cmd)
  /-- DEV_ABORT (R58) -/
  | devAbort (c : Cmd)
  /-- DEV_SET_EVENT_MASK (R65) -/
  | devSetEventMask (c : Cmd)
  /-- DEV_READ_EVENT_LOG (R66) -/
  | devReadEventLog (c : Cmd)
  /-- DEV_FW_STAGE (R472) -/
  | devFwStage (c : Cmd)
  /-- DEV_FW_VERIFY (R472) -/
  | devFwVerify (c : Cmd)
  /-- DEV_FW_ACTIVATE (R473) -/
  | devFwActivate (c : Cmd)
  /-- DEV_FW_GET_STATUS (R472) -/
  | devFwGetStatus (c : Cmd)
  /-- DEV_RESET (R480) -/
  | devReset (c : Cmd)
  /-- DEV_GET_HEALTH (R508) -/
  | devGetHealth (c : Cmd)
  /-- DEV_SET_THERMAL (R507) -/
  | devSetThermal (c : Cmd)
  /-- LINK_SET_QUAD_MODE (R112) -/
  | linkSetQuadMode (c : Cmd)
  /-- LINK_CONFIGURE (R113) -/
  | linkConfigure (c : Cmd)
  /-- LINK_ENABLE (R87) -/
  | linkEnable (c : Cmd)
  /-- LINK_DISABLE (R114) -/
  | linkDisable (c : Cmd)
  /-- LINK_RETRAIN (R116) -/
  | linkRetrain (c : Cmd)
  /-- LINK_GET_STATUS (R109) -/
  | linkGetStatus (c : Cmd)
  /-- LINK_CLEAR_COUNTERS (R109) -/
  | linkClearCounters (c : Cmd)
  /-- LINK_SET_POLICY (R106) -/
  | linkSetPolicy (c : Cmd)
  /-- LINK_REMAP_LANE (R115) -/
  | linkRemapLane (c : Cmd)
  /-- LINK_SET_EQ (R116) -/
  | linkSetEq (c : Cmd)
  /-- LINK_PRBS_CHECK (R117) -/
  | linkPrbsCheck (c : Cmd)
  /-- QRY_MAP_STREAM (R156) -/
  | qryMapStream (c : Cmd)
  /-- QRY_CONFIGURE_STREAM (R157) -/
  | qryConfigureStream (c : Cmd)
  /-- QRY_CONFIGURE_RING (R159) -/
  | qryConfigureRing (c : Cmd)
  /-- QRY_START_STREAM (R132) -/
  | qryStartStream (c : Cmd)
  /-- QRY_STOP_STREAM (R132) -/
  | qryStopStream (c : Cmd)
  /-- QRY_SET_TRIGGER_RULE (R146) -/
  | qrySetTriggerRule (c : Cmd)
  /-- QRY_ARM (R148) -/
  | qryArm (c : Cmd)
  /-- QRY_TRIGGER (R148) -/
  | qryTrigger (c : Cmd)
  /-- QRY_READ (R150) -/
  | qryRead (c : Cmd)
  /-- QRY_GET_SEGMENTS (R145) -/
  | qryGetSegments (c : Cmd)
  /-- QRY_RELEASE (R160) -/
  | qryRelease (c : Cmd)
  /-- QRY_SET_HOST_MARK (R149) -/
  | qrySetHostMark (c : Cmd)
  /-- QRY_GET_STATUS (R161) -/
  | qryGetStatus (c : Cmd)
  /-- QRY_SET_REPORTING (R153) -/
  | qrySetReporting (c : Cmd)
  /-- QRY_LOCATE (R152) -/
  | qryLocate (c : Cmd)
  /-- ASH_ENCODE (R194) -/
  | ashEncode (c : Cmd)
  /-- ASH_DECODE (R198) -/
  | ashDecode (c : Cmd)
  /-- ASH_CONTINUE (R195) -/
  | ashContinue (c : Cmd)
  /-- ASH_DROP_JOB (R195) -/
  | ashDropJob (c : Cmd)
  /-- ASH_GET_STATUS (R200) -/
  | ashGetStatus (c : Cmd)
  /-- PIPE_OPEN_CONTEXT (R241) -/
  | pipeOpenContext (c : Cmd)
  /-- PIPE_SET_SOURCE (R204) -/
  | pipeSetSource (c : Cmd)
  /-- PIPE_START_CONTEXT (R221) -/
  | pipeStartContext (c : Cmd)
  /-- PIPE_STOP_CONTEXT (R206) -/
  | pipeStopContext (c : Cmd)
  /-- PIPE_CLOSE_CONTEXT (R206) -/
  | pipeCloseContext (c : Cmd)
  /-- PIPE_SET_SLOT_MASK (R215) -/
  | pipeSetSlotMask (c : Cmd)
  /-- PIPE_SET_PRIORITY (R214) -/
  | pipeSetPriority (c : Cmd)
  /-- PIPE_SET_SLOT_TIME (R214) -/
  | pipeSetSlotTime (c : Cmd)
  /-- PIPE_GET_CONTEXT_STATUS (R243) -/
  | pipeGetContextStatus (c : Cmd)
  /-- PIPE_SET_STREAM_CORR (R242) -/
  | pipeSetStreamCorr (c : Cmd)
  /-- PIPE_SET_CONTEXT_CORR (R242) -/
  | pipeSetContextCorr (c : Cmd)
  /-- PIPE_SET_COLOUR (R280) -/
  | pipeSetColour (c : Cmd)
  /-- PIPE_LOAD_LUT (R255) -/
  | pipeLoadLut (c : Cmd)
  /-- PIPE_SET_TAP (R258) -/
  | pipeSetTap (c : Cmd)
  /-- PIPE_SET_TAP_RING (R273) -/
  | pipeSetTapRing (c : Cmd)
  /-- PIPE_TAP_BUFFER (R283) -/
  | pipeTapBuffer (c : Cmd)
  /-- PIPE_GET_TAP_STATUS (R284) -/
  | pipeGetTapStatus (c : Cmd)
  /-- STAT_CONFIGURE (R288) -/
  | statConfigure (c : Cmd)
  /-- STAT_SET_CONTENT_TRIGGER (R296) -/
  | statSetContentTrigger (c : Cmd)
  /-- STAT_READ (R293) -/
  | statRead (c : Cmd)
  /-- TRIM_SET_POLICY (R300) -/
  | trimSetPolicy (c : Cmd)
  /-- TRIM_MEASURE (R301) -/
  | trimMeasure (c : Cmd)
  /-- TRIM_COMMIT (R309) -/
  | trimCommit (c : Cmd)
  /-- TRIM_LOAD (R310) -/
  | trimLoad (c : Cmd)
  /-- TRIM_READ (R310) -/
  | trimRead (c : Cmd)
  /-- VCU_OPEN_SESSION (R313) -/
  | vcuOpenSession (c : Cmd)
  /-- VCU_SET_OUTPUT (R340) -/
  | vcuSetOutput (c : Cmd)
  /-- VCU_SET_RATE (R330) -/
  | vcuSetRate (c : Cmd)
  /-- VCU_START (R316) -/
  | vcuStart (c : Cmd)
  /-- VCU_STOP (R352) -/
  | vcuStop (c : Cmd)
  /-- VCU_REQUEST_IRAP (R320) -/
  | vcuRequestIrap (c : Cmd)
  /-- VCU_CLOSE_SESSION (R315) -/
  | vcuCloseSession (c : Cmd)
  /-- VCU_SUBMIT_PICTURE (R319) -/
  | vcuSubmitPicture (c : Cmd)
  /-- VCU_DECODE_DATA (R343) -/
  | vcuDecodeData (c : Cmd)
  /-- VCU_FLUSH (R353) -/
  | vcuFlush (c : Cmd)
  /-- VCU_CONSUMED (R342) -/
  | vcuConsumed (c : Cmd)
  /-- VCU_PICTURE_BUFFER (R348) -/
  | vcuPictureBuffer (c : Cmd)
  /-- VCU_GET_POOL (R338) -/
  | vcuGetPool (c : Cmd)
  /-- VCU_GET_STATUS (R354) -/
  | vcuGetStatus (c : Cmd)
  /-- MEM_GET_STATUS (R392) -/
  | memGetStatus (c : Cmd)
  /-- MEM_SET_REGION (R361) -/
  | memSetRegion (c : Cmd)
  /-- MEM_SET_POLICY (R390) -/
  | memSetPolicy (c : Cmd)
  /-- MEM_TRAIN (R378) -/
  | memTrain (c : Cmd)
  /-- MEM_SET_FREQ (R381) -/
  | memSetFreq (c : Cmd)
  /-- MEM_READ_TIMING (R372) -/
  | memReadTiming (c : Cmd)
  /-- MEM_REPAIR (R386) -/
  | memRepair (c : Cmd)
  /-- MEM_SAVE_TRAINING (R375) -/
  | memSaveTraining (c : Cmd)
  /-- MEM_INJECT_ERROR (R391) -/
  | memInjectError (c : Cmd)
  /-- VF_SET_SOURCE (R424) -/
  | vfSetSource (c : Cmd)
  /-- VF_CONFIGURE_OUTPUT (R425) -/
  | vfConfigureOutput (c : Cmd)
  /-- VF_PANEL_SEQUENCE (R426) -/
  | vfPanelSequence (c : Cmd)
  /-- VF_SET_CHECK (R427) -/
  | vfSetCheck (c : Cmd)
  /-- VF_RESUME (R427) -/
  | vfResume (c : Cmd)
  /-- VF_GET_STATUS (R430) -/
  | vfGetStatus (c : Cmd)
  /-- AUD_CONFIGURE (R448) -/
  | audConfigure (c : Cmd)
  /-- AUD_START (R449) -/
  | audStart (c : Cmd)
  /-- AUD_STOP (R438) -/
  | audStop (c : Cmd)
  /-- AUD_ADVANCE (R436) -/
  | audAdvance (c : Cmd)
  /-- AUD_SET_LATCH (R444) -/
  | audSetLatch (c : Cmd)
  /-- AUD_GET_STATUS (R451) -/
  | audGetStatus (c : Cmd)
  /-- PAIR_CONFIGURE (R454) -/
  | pairConfigure (c : Cmd)
  /-- PAIR_GET_STATUS (R455) -/
  | pairGetStatus (c : Cmd)
  /-- PAIR_SWITCHOVER (R471) -/
  | pairSwitchover (c : Cmd)
  /-- PAIR_TAKEOVER (R476) -/
  | pairTakeover (c : Cmd)
  /-- PWR_SET_WAKE_BUDGET (R409) -/
  | pwrSetWakeBudget (c : Cmd)
  /-- PWR_GET_STATE (R411) -/
  | pwrGetState (c : Cmd)
  /-- HOST_GET_LINK_STATUS (R412) -/
  | hostGetLinkStatus (c : Cmd)
  /-- WRITE_ENTRY (R70) -/
  | writeEntry (dwords : List Word)
  /-- READ_COMPLETION (R69) -/
  | readCompletion
  /-- READ_EVENT (R71) -/
  | readEvent
  /-- WRITE_DATA (R69) -/
  | writeData (bytes : List Byte)
  /-- READ_DATA (R69) -/
  | readData (n : Nat)
  /-- READ_STATUS (R69) -/
  | readStatus
  /-- SQ_TAIL_DOORBELL (R38) -/
  | sqTailDoorbell (h : Half) (n : Nat) (value : Word) (env : HostUpdate)
  /-- CQ_HEAD_DOORBELL (R42) -/
  | cqHeadDoorbell (h : Half) (n : Nat) (value : Word)
  /-- HEAD_DB (R42) -/
  | headDb (h : Half) (value : Word)
  /-- SQ_ENABLE (R36) -/
  | sqEnable (h : Half) (n : Nat) (value : Word)
  /-- SQ_DISABLE (R36) -/
  | sqDisable (h : Half) (n : Nat) (value : Word)
  /-- CQ_ENABLE (R40) -/
  | cqEnable (h : Half) (n : Nat) (value : Word)
  /-- CQ_DISABLE (R67) -/
  | cqDisable (h : Half) (n : Nat) (value : Word)
  /-- EVENT_RING_ENABLE (R40) -/
  | eventRingEnable (h : Half) (value : Word)
  /-- EVENT_RING_DISABLE (R36) -/
  | eventRingDisable (h : Half) (value : Word)
  /-- MSIX_MASK_WRITE (R402) -/
  | msixMaskWrite (h : Half) (w : MsixWrite)
  /-- D_STATE_WRITE (R406) -/
  | dStateWrite (h : Half) (d3 : Bool) (pmeEn : Bool)
  /-- REGISTER_WRITE (R4) -/
  | registerWrite (h : Half) (w : RegWrite)
  /-- BAR2_READ (R399) -/
  | bar2Read (h : Half) (offset : Nat) (len : Nat)
  /-- BAR2_WRITE (R400) -/
  | bar2Write (h : Half) (offset : Nat) (bytes : List Byte)
  /-- QUIESCED (R36) -/
  | quiesced (h : Half) (n : Nat)
  /-- ENTRY_FETCH (R62) -/
  | entryFetch (h : Half) (n : Nat)
  /-- ENTRY_READ_DONE (R49) -/
  | entryReadDone (h : Half) (n : Nat)
  /-- PARAM_BLOCK_READ_DONE (R544) -/
  | paramBlockReadDone (h : Half) (tag : BitVec 16)
  /-- COMMAND_START (R51) -/
  | commandStart (h : Half)
  /-- COAL_DELAY_EXPIRY (R36) -/
  | coalDelayExpiry (h : Half) (n : Nat)
  /-- MORTAR_FLIT_SEND (R16) -/
  | mortarFlitSend (from_ : Half)
  /-- MORTAR_FLIT_RECEIVED (R19) -/
  | mortarFlitReceived (at_ : Half) (crcOk : Bool)
  /-- MORTAR_REPLAY_REQUEST (R19) -/
  | mortarReplayRequest (at_ : Half) (seq : BitVec 12)
  /-- MORTAR_FLIT_ACK (R22) -/
  | mortarFlitAck (at_ : Half) (seq : BitVec 12)
  /-- MORTAR_UNACK_TIMEOUT (R20) -/
  | mortarUnackTimeout (at_ : Half)
  /-- MORTAR_TRAINING_ATTEMPT_DONE (R21) -/
  | mortarTrainingAttemptDone (ok : Bool) (downCycles : Nat)
  /-- MORTAR_BACKOFF_EXPIRY (R21) -/
  | mortarBackoffExpiry
  /-- MORTAR_IDLE_ENTRY (R22) -/
  | mortarIdleEntry
  /-- FORWARDED_COMMAND_RECEIVED (R31) -/
  | forwardedCommandReceived (at_ : Half)
  /-- FORWARDED_REPORT_RECEIVED (R31) -/
  | forwardedReportReceived (at_ : Half)
  /-- PEER_COMMAND_READY (R546) -/
  | peerCommandReady (h : Half)
  /-- APER_REQUEST_RECEIVED (R18) -/
  | aperRequestReceived (at_ : Half)
  /-- ISLAND_WAKE_REQUEST (R26) -/
  | islandWakeRequest (h : Half) (i : IslandId)
  /-- ISLAND_WAKE_DONE (R26) -/
  | islandWakeDone (h : Half) (i : IslandId)
  /-- ISLAND_STATE_ENTRY (R407) -/
  | islandStateEntry (h : Half) (i : IslandId)
  /-- ISLAND_FAULT (R27) -/
  | islandFault (h : Half) (i : IslandId)
  /-- ISLAND_RESET_DONE (R27) -/
  | islandResetDone (h : Half) (i : IslandId) (cycles : Nat)
  /-- TRIG_IN_EDGE (R29) -/
  | trigInEdge (h : Half) (ball : Nat) (rising : Bool)
  /-- TRIGGER_T_RECEIVED (R146) -/
  | triggerTReceived (at_ : Half)
  /-- TRIGGER_HOLDOFF_END (R147) -/
  | triggerHoldoffEnd (rule : Nat)
  /-- TRIG_OUT_PULSE_END (R147) -/
  | trigOutPulseEnd (ball : Nat)
  /-- SIGNAL_ENERGY_DETECTED (R93) -/
  | signalEnergyDetected (link : Nat)
  /-- SIGNAL_ENERGY_LOST (R91) -/
  | signalEnergyLost (link : Nat)
  /-- CAP_BLOCK (R86) -/
  | capBlock (lane : Nat) (payload : BitVec 56)
  /-- APPLIED (R85) -/
  | applied (link : Nat)
  /-- LOCK_STAGE_DONE (R95) -/
  | lockStageDone (lane : Nat) (sweep : List EyeResult)
  /-- LOCK_STAGE_TIMEOUT (R88) -/
  | lockStageTimeout (lane : Nat)
  /-- PRBS_STAGE_DONE (R89) -/
  | prbsStageDone (link : Nat) (errors : List Nat) (cycles : Nat)
  /-- CAP_ROUND_TIMEOUT (R92) -/
  | capRoundTimeout (link : Nat)
  /-- LINK_BACKOFF_EXPIRY (R91) -/
  | linkBackoffExpiry (link : Nat)
  /-- PSL_BLOCK (R77) -/
  | pslBlock (lane : Nat) (hdr : BitVec 2) (payload : BitVec 64)
  /-- ALIGN (R81) -/
  | align (link : Nat) (blocks : List AlignBlock)
  /-- EIDLE (R99) -/
  | eidle (link : Nat)
  /-- TRAIN (R103) -/
  | train (link : Nat)
  /-- LINK_RETRAIN_DONE (R101) -/
  | linkRetrainDone (link : Nat) (sweeps : List (List EyeResult)) (cycles : Nat)
  /-- ACTIVE_SIGNAL_LOSS (R94) -/
  | activeSignalLoss (link : Nat)
  /-- EQ_TRACK_EVAL (R96) -/
  | eqTrackEval (lane : Nat) (below : EyeResult) (now : EyeResult) (above : EyeResult) (density : Nat)
  /-- REMAP_DONE_READ (R107) -/
  | remapDoneRead (link : Nat) (done : Bool)
  /-- SPARE_RETRAIN_DONE (R108) -/
  | spareRetrainDone (link : Nat) (sweep : List EyeResult)
  /-- CSI2_CLOCK_LP11 (R83) -/
  | csi2ClockLp11 (link : Nat)
  /-- CSI2_SHORT_PACKET (R124) -/
  | csi2ShortPacket (link : Nat) (vc : BitVec 4) (dt : BitVec 6) (value : BitVec 16) (period : Nat)
  /-- CSI2_LONG_PACKET (R124) -/
  | csi2LongPacket (link : Nat) (vc : BitVec 4) (dt : BitVec 6) (bytes : List Byte) (crcOk : Bool)
  /-- FRAME_START (R126) -/
  | frameStart (link : Nat) (block : BitVec 64) (period : Nat)
  /-- LINE_HEADER (R123) -/
  | lineHeader (link : Nat) (block : BitVec 64)
  /-- PSL_DATA_BLOCK (R121) -/
  | pslDataBlock (link : Nat) (payload : BitVec 64)
  /-- LINE_CRC (R123) -/
  | lineCrc (link : Nat) (block : BitVec 64)
  /-- FRAME_END (R129) -/
  | frameEnd (link : Nat) (block : BitVec 64) (period : Nat)
  /-- LINE_GAP_WATCHDOG_EXPIRY (R130) -/
  | lineGapWatchdogExpiry (stream : Nat) (period : Nat)
  /-- FRAME_CLOSE_WRITE (R136) -/
  | frameCloseWrite (stream : Nat)
  /-- QRY_PROGRESS (R153) -/
  | qryProgress (stream : Nat)
  /-- ENCODER_TAKE_BLOCK (R188) -/
  | encoderTakeBlock (h : Half)
  /-- BLOCK_ENCODED (R179) -/
  | blockEncoded (h : Half) (engine : Nat)
  /-- DECODER_TAKE_BLOCK (R189) -/
  | decoderTakeBlock (h : Half)
  /-- BLOCK_DECODED (R191) -/
  | blockDecoded (h : Half) (engine : Nat)
  /-- SLOT_POINTER_ADVANCE (R211) -/
  | slotPointerAdvance (h : Half)
  /-- UNIT_ADMIT (R213) -/
  | unitAdmit (h : Half)
  /-- UNIT_FINISH (R208) -/
  | unitFinish (h : Half)
  /-- SEAM_BAND_ROW_RECEIVED (R223) -/
  | seamBandRowReceived (at_ : Half)
  /-- SPAN_SIDE_CLOSED_RECEIVED (R212) -/
  | spanSideClosedReceived (at_ : Half)
  /-- SPAN_FALLBACK_NOTICE (R219) -/
  | spanFallbackNotice (at_ : Half)
  /-- SPAN_TAP_WRITTEN_RECEIVED (R279) -/
  | spanTapWrittenReceived (at_ : Half)
  /-- STAT_PARTIAL_RECEIVED (R291) -/
  | statPartialReceived (at_ : Half)
  /-- TRIM_MEASUREMENT_DONE (R298) -/
  | trimMeasurementDone (dom : Nat) (inst : Nat) (r : TrimResult)
  /-- TELEMETRY_CAL_PERIOD (R297) -/
  | telemetryCalPeriod (h : Half)
  /-- VCU_PICTURE_START (R320) -/
  | vcuPictureStart (session : Nat)
  /-- VCU_PICTURE_CODED (R340) -/
  | vcuPictureCoded (session : Nat) (h : Half) (part : PartResult)
  /-- VCU_SUBSTREAM_RECEIVED (R333) -/
  | vcuSubstreamReceived (at_ : Half)
  /-- VCU_REF_BAND_RECEIVED (R334) -/
  | vcuRefBandReceived (at_ : Half)
  /-- VCU_AU_DECODED (R345) -/
  | vcuAuDecoded (session : Nat) (au : AuResult)
  /-- VCU_PICTURE_OUTPUT (R348) -/
  | vcuPictureOutput (session : Nat)
  /-- DRAM_REQUEST_ACCEPT (R363) -/
  | dramRequestAccept (h : Half) (r : DramReq)
  /-- DRAM_COMMAND_ISSUE (R365) -/
  | dramCommandIssue (h : Half) (chan : Nat) (sub : Bool) (err : EccResult)
  /-- REFRESH_ISSUE (R368) -/
  | refreshIssue (h : Half) (chan : Nat) (rank : Nat) (cycles : Nat)
  /-- REFRESH_DEBT_LIMIT (R368) -/
  | refreshDebtLimit (h : Half) (chan : Nat) (rank : Nat)
  /-- MR4_POLL (R367) -/
  | mr4Poll (h : Half) (chan : Nat) (rank : Nat) (temp : Mr4Temp) (cycles : Nat)
  /-- CLEARING_FOUND (R370) -/
  | clearingFound (h : Half) (chan : Nat) (sub : Bool) (r : ClearResult)
  /-- CLEARING_MADE (R370) -/
  | clearingMade (h : Half) (chan : Nat) (sub : Bool) (r : ClearResult)
  /-- RETRAIN_SAMPLE (R377) -/
  | retrainSample (h : Half) (chan : Nat) (samples : List SubSample)
  /-- PATROL_SCRUB_READ (R385) -/
  | patrolScrubRead (h : Half) (chan : Nat) (err : EccResult)
  /-- MEM_SCRUB_PASS (R385) -/
  | memScrubPass (h : Half) (chan : Nat)
  /-- RANK_SPARE_COPY_DONE (R387) -/
  | rankSpareCopyDone (h : Half) (chan : Nat)
  /-- DRAM_INIT_DONE (R374) -/
  | dramInitDone (h : Half) (chan : Nat)
  /-- DRAM_TRAINING_DONE (R373) -/
  | dramTrainingDone (h : Half) (chans : List ChanTraining)
  /-- POWER_DOWN_ENTRY (R382) -/
  | powerDownEntry (h : Half) (chan : Nat) (rank : Nat)
  /-- MEM_FREQ_CHANGED (R381) -/
  | memFreqChanged (h : Half) (set : Nat) (trained : List TimingRecIn)
  /-- PCIE_DL_DOWN (R395) -/
  | pcieDlDown (h : Half)
  /-- HOST_LINK_CHANGE (R412) -/
  | hostLinkChange (h : Half) (gen : BitVec 3) (width : BitVec 4) (flit : Bool)
  /-- FLR (R68) -/
  | flr (h : Half)
  /-- PERST_ASSERT (R478) -/
  | perstAssert (h : Half)
  /-- PERST_RELEASE (R478) -/
  | perstRelease (h : Half)
  /-- ASPM_L1_ENTRY (R405) -/
  | aspmL1Entry (h : Half)
  /-- L0P_EVAL (R405) -/
  | l0pEval (h : Half) (need : Nat)
  /-- TE_EDGE (R421) -/
  | teEdge (output : Nat)
  /-- VF_TE_LOST (R421) -/
  | vfTeLost (output : Nat)
  /-- VF_RENDER_DONE (R422) -/
  | vfRenderDone (output : Nat)
  /-- VF_PUSH_DONE (R423) -/
  | vfPushDone (output : Nat)
  /-- VF_SOURCE_ARMED (R424) -/
  | vfSourceArmed (output : Nat)
  /-- VF_PEER_FRAME_SEND (R417) -/
  | vfPeerFrameSend (h : Half)
  /-- VF_PEER_FRAME_RECEIVED (R417) -/
  | vfPeerFrameReceived (at_ : Half)
  /-- VF_LINK_RESTART_DONE (R425) -/
  | vfLinkRestartDone (output : Nat)
  /-- AUDIO_FRAME (R436) -/
  | audioFrame (port : Nat) (left : Int) (right : Int) (timing : AudTiming)
  /-- CLOCK_STOP (R440) -/
  | clockStop (port : Nat)
  /-- RATE_CHANGE (R442) -/
  | rateChange (port : Nat) (hz : Nat) (gap : Nat)
  /-- REMOTE_LATCH (R444) -/
  | remoteLatch (at_ : Half) (phases : List (Nat × Nat))
  /-- HEARTBEAT_SEND (R462) -/
  | heartbeatSend (live : Word)
  /-- HEARTBEAT_RECEIVED (R462) -/
  | heartbeatReceived (hb : Heartbeat)
  /-- HEARTBEAT_PERIOD_END (R462) -/
  | heartbeatPeriodEnd
  /-- LIVENESS_FENCE (R463) -/
  | livenessFence
  /-- PAIR_ARB_PULSE (R465) -/
  | pairArbPulse
  /-- PAIR_ARB_LOW_SEEN (R466) -/
  | pairArbLowSeen (long : Bool)
  /-- CLAIM_WAIT_END (R466) -/
  | claimWaitEnd
  /-- CLAIM_DRIVE_END (R466) -/
  | claimDriveEnd (high : Bool) (cycles : Nat)
  /-- PAIR_PORT_TRAINED (R454) -/
  | pairPortTrained (half : Half) (peerRequest : BitVec 2) (peerEpoch : Word) (peerActive : Bool) (sameDram : Bool) (compatible : Bool)
  /-- ACCEPT (R456) -/
  | accept (r : AcceptRec)
  /-- APPLY (R456) -/
  | apply (c : Completion)
  /-- POSTED (R456) -/
  | posted (recv : Half) (tag : BitVec 16) (final : Bool)
  /-- STAGE (R456) -/
  | stage (recv : Half) (tag : BitVec 16)
  /-- EFFECT (R456) -/
  | effect (recv : Half) (tag : BitVec 16) (point : Count64) (stream : Nat)
  /-- ADMIT (R457) -/
  | admitFrame (ctx : Nat) (h : Half) (f : Count64) (cycles : Nat)
  /-- FRAME (R460) -/
  | frame (stream : Nat) (sensorFn : Word) (number : Count64) (mark : Option Count64)
  /-- SEGMENT (R456) -/
  | segment (r : SegRec)
  /-- TRIM (R456) -/
  | trim (r : TrimRec)
  /-- MIRROR_ACK_RECEIVED (R456) -/
  | mirrorAckReceived (recv : Half) (tag : BitVec 16)
  /-- SNAPSHOT_APPLIED (R459) -/
  | snapshotApplied (recs : List MirrorRec)
  /-- MIRROR_FRAME_TIMEOUT (R460) -/
  | mirrorFrameTimeout (stream : Nat)
  /-- SWITCHOVER_DRAIN_END (R471) -/
  | switchoverDrainEnd
  /-- FW_STAGE_COPY_DONE (R473) -/
  | fwStageCopyDone (ok : Bool)
  /-- FW_SWAP_CLEARING (R473) -/
  | fwSwapClearing
  /-- FW_SWAP_DONE (R473) -/
  | fwSwapDone (img : ImageInfo) (cycles : Nat)
  /-- POWER_ON (R488) -/
  | powerOn (halfId : Bool) (pairId : Bool)
  /-- WARM_RESET_N_ASSERT (R479) -/
  | warmResetNAssert
  /-- WARM_RESET_N_RELEASE (R479) -/
  | warmResetNRelease
  /-- DEV_RESET_DELAY_EXPIRY (R480) -/
  | devResetDelayExpiry
  /-- DEV_WATCHDOG (R481) -/
  | devWatchdog (h : Half)
  /-- KEYSTONE_FAULT (R481) -/
  | keystoneFault (h : Half)
  /-- BOOT_IMAGE_VERIFIED (R488) -/
  | bootImageVerified (h : Half) (img : ImageCheck)
  /-- BOOT_FIRMWARE_LOADED (R488) -/
  | bootFirmwareLoaded (h : Half) (img : ImageInfo) (env : BootEnv)
  /-- BOOT_WATCHDOG_EXPIRY (R490) -/
  | bootWatchdogExpiry
  /-- DEV_CLOCK_LOSS (R495) -/
  | devClockLoss (clk : ClockId)
  /-- SYS_CLK_RESTORED (R495) -/
  | sysClkRestored
  /-- AVS_MONITOR_READ (R497) -/
  | avsMonitorRead (h : Half) (r : AvsRead)
  /-- AVS_RETRY (R498) -/
  | avsRetry (h : Half) (answered : Bool)
  /-- PMBUS_TELEMETRY_POLL (R496) -/
  | pmbusTelemetryPoll (values : List Word)
  /-- PMB_ALERT (R496) -/
  | pmbAlert (status : List Word)
  /-- DEV_SUPPLY_DIP (R500) -/
  | devSupplyDip (h : Half) (rail : Nat) (mv : Nat)
  /-- DEV_GUARD_END (R500) -/
  | devGuardEnd (h : Half) (cycles : Nat)
  /-- SUPPLY_RESET_LEVEL (R501) -/
  | supplyResetLevel (h : Half) (rail : Nat) (mv : Nat)
  /-- THERMAL_READING (R503) -/
  | thermalReading (h : Half) (temps : List Int) (rails : List Nat)
  /-- THERMTRIP (R506) -/
  | thermtrip (h : Half) (sensor : Nat)
  /-- RAIL_ABOVE_WARNING (R500) -/
  | railAboveWarning (h : Half) (rail : Nat)
  /-- QSPI_SELF_READ_TIMEOUT (R488) -/
  | qspiSelfReadTimeout
  /-- SKEW_CALIBRATION (R83) -/
  | skewCalibration (link : Nat)
  /-- UNIT_ROW_PROCESSED (R217) -/
  | unitRowProcessed (h : Half)
  /-- PAIR_LINK_REPLAY_REQUEST (R453) -/
  | pairLinkReplayRequest (h : Half)
  /-- PRBS_CHECK_DONE (R117) -/
  | prbsCheckDone (link : Nat) (errors : List Nat)
  /-- LUT_LOAD_DONE (R255) -/
  | lutLoadDone (h : Half)
  /-- QRY_READ_RECORD_COPIED (R151) -/
  | qryReadRecordCopied (recv : Half) (tag : BitVec 16)
  /-- QSPI_PROGRAM_DONE (R541) -/
  | qspiProgramDone (ok : Bool)
  /-- IMAGE_CHECK_DONE (R472) -/
  | imageCheckDone (img : ImageCheck)
  /-- PANEL_SEQUENCE_DELAY_EXPIRY (R426) -/
  | panelSequenceDelayExpiry (output : Nat)
  deriving DecidableEq, Repr

end Sys2Proof
end

