-- ==== Sys2Proof/WellFormed.lean ====
section
/-! DEFINITION. Which commands exist: a row that names an object (a link, a lane, a stream, a ring) names one that the
device has. Every opcode is well formed whatever it carries: its own checks answer for its contents (R49). -/

namespace Sys2Proof

/-- An island of a half: twelve ingest quads (table of clock islands). -/
def IslandId.valid : IslandId → Bool
  | .ingest q => decide (q < 12)
  | _ => true

/-- An MSI-X vector the table has: 128 of them (R402). -/
def MsixWrite.valid : MsixWrite → Bool
  | .vector n _ => decide (n < 128)
  | .control _ _ => true

/-- A TRIGGER or SEGMENT record names a rule or a stream that the device has. -/
def SegRec.valid : SegRec → Bool
  | .trigger k _ => decide (k < 16)
  | .freeze n _ => decide (n < 64)
  | .release n _ => decide (n < 64)

/-- A TRIM record names a stream of the device, in domain 1 or 2 (R456). -/
def TrimRec.valid (r : TrimRec) : Bool := decide (r.stream < 64) && (decide (r.dom = 1) || decide (r.dom = 2))

/-- An instance of a trim domain: streams for domains 1 and 2, links for 3, channels of the device for 4, halves for 5
(R297). -/
def instOk (dom inst : Nat) : Bool :=
  match dom with
  | 1 => decide (inst < 64)
  | 2 => decide (inst < 64)
  | 3 => decide (inst < 32)
  | 4 => decide (inst < 16)
  | 5 => decide (inst < 2)
  | _ => false

/-- The command names objects that the device has. -/
def Instr.wf (i : Instr) : Bool :=
  match i with
  | .devNop _ => true
  | .devAbort _ => true
  | .devSetEventMask _ => true
  | .devReadEventLog _ => true
  | .devFwStage _ => true
  | .devFwVerify _ => true
  | .devFwActivate _ => true
  | .devFwGetStatus _ => true
  | .devReset _ => true
  | .devGetHealth _ => true
  | .devSetThermal _ => true
  | .linkSetQuadMode _ => true
  | .linkConfigure _ => true
  | .linkEnable _ => true
  | .linkDisable _ => true
  | .linkRetrain _ => true
  | .linkGetStatus _ => true
  | .linkClearCounters _ => true
  | .linkSetPolicy _ => true
  | .linkRemapLane _ => true
  | .linkSetEq _ => true
  | .linkPrbsCheck _ => true
  | .qryMapStream _ => true
  | .qryConfigureStream _ => true
  | .qryConfigureRing _ => true
  | .qryStartStream _ => true
  | .qryStopStream _ => true
  | .qrySetTriggerRule _ => true
  | .qryArm _ => true
  | .qryTrigger _ => true
  | .qryRead _ => true
  | .qryGetSegments _ => true
  | .qryRelease _ => true
  | .qrySetHostMark _ => true
  | .qryGetStatus _ => true
  | .qrySetReporting _ => true
  | .qryLocate _ => true
  | .ashEncode _ => true
  | .ashDecode _ => true
  | .ashContinue _ => true
  | .ashDropJob _ => true
  | .ashGetStatus _ => true
  | .pipeOpenContext _ => true
  | .pipeSetSource _ => true
  | .pipeStartContext _ => true
  | .pipeStopContext _ => true
  | .pipeCloseContext _ => true
  | .pipeSetSlotMask _ => true
  | .pipeSetPriority _ => true
  | .pipeSetSlotTime _ => true
  | .pipeGetContextStatus _ => true
  | .pipeSetStreamCorr _ => true
  | .pipeSetContextCorr _ => true
  | .pipeSetColour _ => true
  | .pipeLoadLut _ => true
  | .pipeSetTap _ => true
  | .pipeSetTapRing _ => true
  | .pipeTapBuffer _ => true
  | .pipeGetTapStatus _ => true
  | .statConfigure _ => true
  | .statSetContentTrigger _ => true
  | .statRead _ => true
  | .trimSetPolicy _ => true
  | .trimMeasure _ => true
  | .trimCommit _ => true
  | .trimLoad _ => true
  | .trimRead _ => true
  | .vcuOpenSession _ => true
  | .vcuSetOutput _ => true
  | .vcuSetRate _ => true
  | .vcuStart _ => true
  | .vcuStop _ => true
  | .vcuRequestIrap _ => true
  | .vcuCloseSession _ => true
  | .vcuSubmitPicture _ => true
  | .vcuDecodeData _ => true
  | .vcuFlush _ => true
  | .vcuConsumed _ => true
  | .vcuPictureBuffer _ => true
  | .vcuGetPool _ => true
  | .vcuGetStatus _ => true
  | .memGetStatus _ => true
  | .memSetRegion _ => true
  | .memSetPolicy _ => true
  | .memTrain _ => true
  | .memSetFreq _ => true
  | .memReadTiming _ => true
  | .memRepair _ => true
  | .memSaveTraining _ => true
  | .memInjectError _ => true
  | .vfSetSource _ => true
  | .vfConfigureOutput _ => true
  | .vfPanelSequence _ => true
  | .vfSetCheck _ => true
  | .vfResume _ => true
  | .vfGetStatus _ => true
  | .audConfigure _ => true
  | .audStart _ => true
  | .audStop _ => true
  | .audAdvance _ => true
  | .audSetLatch _ => true
  | .audGetStatus _ => true
  | .pairConfigure _ => true
  | .pairGetStatus _ => true
  | .pairSwitchover _ => true
  | .pairTakeover _ => true
  | .pwrSetWakeBudget _ => true
  | .pwrGetState _ => true
  | .hostGetLinkStatus _ => true
  | .writeEntry dwords => decide (dwords.length = 16)
  | .readCompletion => true
  | .readEvent => true
  | .writeData bytes => decide (bytes.length ≤ 4096)
  | .readData n => decide (n ≤ 4096)
  | .readStatus => true
  | .sqTailDoorbell _ n _ _ => decide (n < 32)
  | .cqHeadDoorbell _ n _ => decide (n < 32)
  | .headDb _ _ => true
  | .sqEnable _ n _ => decide (n < 32)
  | .sqDisable _ n _ => decide (n < 32)
  | .cqEnable _ n _ => decide (n < 32)
  | .cqDisable _ n _ => decide (n < 32)
  | .eventRingEnable _ _ => true
  | .eventRingDisable _ _ => true
  | .msixMaskWrite _ w => w.valid
  | .dStateWrite _ _ _ => true
  | .registerWrite _ _ => true
  | .bar2Read _ _ _ => true
  | .bar2Write _ _ _ => true
  | .quiesced _ n => decide (n < 32)
  | .entryFetch _ n => decide (n < 32)
  | .entryReadDone _ n => decide (n < 32)
  | .paramBlockReadDone _ _ => true
  | .commandStart _ => true
  | .coalDelayExpiry _ n => decide (n < 32)
  | .mortarFlitSend _ => true
  | .mortarFlitReceived _ _ => true
  | .mortarReplayRequest _ _ => true
  | .mortarFlitAck _ _ => true
  | .mortarUnackTimeout _ => true
  | .mortarTrainingAttemptDone _ _ => true
  | .mortarBackoffExpiry => true
  | .mortarIdleEntry => true
  | .forwardedCommandReceived _ => true
  | .forwardedReportReceived _ => true
  | .peerCommandReady _ => true
  | .aperRequestReceived _ => true
  | .islandWakeRequest _ i => i.valid
  | .islandWakeDone _ i => i.valid
  | .islandStateEntry _ i => i.valid
  | .islandFault _ i => i.valid
  | .islandResetDone _ i _ => i.valid
  | .trigInEdge _ ball _ => decide (ball < 4)
  | .triggerTReceived _ => true
  | .triggerHoldoffEnd rule => decide (rule < 16)
  | .trigOutPulseEnd ball => decide (ball < 4)
  | .signalEnergyDetected link => decide (link < 32)
  | .signalEnergyLost link => decide (link < 32)
  | .capBlock lane _ => decide (lane < 96)
  | .applied link => decide (link < 32)
  | .lockStageDone lane _ => decide (lane < 96)
  | .lockStageTimeout lane => decide (lane < 96)
  | .prbsStageDone link _ _ => decide (link < 32)
  | .capRoundTimeout link => decide (link < 32)
  | .linkBackoffExpiry link => decide (link < 32)
  | .pslBlock lane _ _ => decide (lane < 96)
  | .align link _ => decide (link < 32)
  | .eidle link => decide (link < 32)
  | .train link => decide (link < 32)
  | .linkRetrainDone link _ _ => decide (link < 32)
  | .activeSignalLoss link => decide (link < 32)
  | .eqTrackEval lane _ _ _ _ => decide (lane < 96)
  | .remapDoneRead link _ => decide (link < 32)
  | .spareRetrainDone link _ => decide (link < 32)
  | .csi2ClockLp11 link => decide (link < 32)
  | .csi2ShortPacket link _ _ _ _ => decide (link < 32)
  | .csi2LongPacket link _ _ _ _ => decide (link < 32)
  | .frameStart link _ _ => decide (link < 32)
  | .lineHeader link _ => decide (link < 32)
  | .pslDataBlock link _ => decide (link < 32)
  | .lineCrc link _ => decide (link < 32)
  | .frameEnd link _ _ => decide (link < 32)
  | .lineGapWatchdogExpiry stream _ => decide (stream < 64)
  | .frameCloseWrite stream => decide (stream < 64)
  | .qryProgress stream => decide (stream < 64)
  | .encoderTakeBlock _ => true
  | .blockEncoded _ engine => decide (engine < 12)
  | .decoderTakeBlock _ => true
  | .blockDecoded _ engine => decide (engine < 4)
  | .slotPointerAdvance _ => true
  | .unitAdmit _ => true
  | .unitFinish _ => true
  | .seamBandRowReceived _ => true
  | .spanSideClosedReceived _ => true
  | .spanFallbackNotice _ => true
  | .spanTapWrittenReceived _ => true
  | .statPartialReceived _ => true
  | .trimMeasurementDone dom inst _ => instOk dom inst
  | .telemetryCalPeriod _ => true
  | .vcuPictureStart session => decide (session < 16)
  | .vcuPictureCoded session _ _ => decide (session < 16)
  | .vcuSubstreamReceived _ => true
  | .vcuRefBandReceived _ => true
  | .vcuAuDecoded session _ => decide (session < 16)
  | .vcuPictureOutput session => decide (session < 16)
  | .dramRequestAccept _ _ => true
  | .dramCommandIssue _ chan _ _ => decide (chan < 8)
  | .refreshIssue _ chan rank _ => decide (chan < 8 ∧ rank < 4)
  | .refreshDebtLimit _ chan rank => decide (chan < 8 ∧ rank < 4)
  | .mr4Poll _ chan rank _ _ => decide (chan < 8 ∧ rank < 4)
  | .clearingFound _ chan _ _ => decide (chan < 8)
  | .clearingMade _ chan _ _ => decide (chan < 8)
  | .retrainSample _ chan _ => decide (chan < 8)
  | .patrolScrubRead _ chan _ => decide (chan < 8)
  | .memScrubPass _ chan => decide (chan < 8)
  | .rankSpareCopyDone _ chan => decide (chan < 8)
  | .dramInitDone _ chan => decide (chan < 8)
  | .dramTrainingDone _ _ => true
  | .powerDownEntry _ chan rank => decide (chan < 8 ∧ rank < 4)
  | .memFreqChanged _ set _ => decide (set < 4)
  | .pcieDlDown _ => true
  | .hostLinkChange _ _ _ _ => true
  | .flr _ => true
  | .perstAssert _ => true
  | .perstRelease _ => true
  | .aspmL1Entry _ => true
  | .l0pEval _ _ => true
  | .teEdge output => decide (output < 4)
  | .vfTeLost output => decide (output < 4)
  | .vfRenderDone output => decide (output < 4)
  | .vfPushDone output => decide (output < 4)
  | .vfSourceArmed output => decide (output < 4)
  | .vfPeerFrameSend _ => true
  | .vfPeerFrameReceived _ => true
  | .vfLinkRestartDone output => decide (output < 4)
  | .audioFrame port _ _ _ => decide (port < 8)
  | .clockStop port => decide (port < 8)
  | .rateChange port _ _ => decide (port < 8)
  | .remoteLatch _ _ => true
  | .heartbeatSend _ => true
  | .heartbeatReceived _ => true
  | .heartbeatPeriodEnd => true
  | .livenessFence => true
  | .pairArbPulse => true
  | .pairArbLowSeen _ => true
  | .claimWaitEnd => true
  | .claimDriveEnd _ _ => true
  | .pairPortTrained _ _ _ _ _ _ => true
  | .accept _ => true
  | .apply _ => true
  | .posted _ _ _ => true
  | .stage _ _ => true
  | .effect _ _ _ stream => decide (stream < 64)
  | .admitFrame ctx _ _ _ => decide (ctx < 32)
  | .frame stream _ _ _ => decide (stream < 64)
  | .segment r => r.valid
  | .trim r => r.valid
  | .mirrorAckReceived _ _ => true
  | .snapshotApplied _ => true
  | .mirrorFrameTimeout stream => decide (stream < 64)
  | .switchoverDrainEnd => true
  | .fwStageCopyDone _ => true
  | .fwSwapClearing => true
  | .fwSwapDone _ _ => true
  | .powerOn _ _ => true
  | .warmResetNAssert => true
  | .warmResetNRelease => true
  | .devResetDelayExpiry => true
  | .devWatchdog _ => true
  | .keystoneFault _ => true
  | .bootImageVerified _ _ => true
  | .bootFirmwareLoaded _ _ _ => true
  | .bootWatchdogExpiry => true
  | .devClockLoss _ => true
  | .sysClkRestored => true
  | .avsMonitorRead _ _ => true
  | .avsRetry _ _ => true
  | .pmbusTelemetryPoll values => decide (values.length = 8)
  | .pmbAlert status => decide (status.length = 8)
  | .devSupplyDip _ rail _ => decide (rail < 9)
  | .devGuardEnd _ _ => true
  | .supplyResetLevel _ rail _ => decide (rail < 9)
  | .thermalReading _ temps rails => decide (temps.length = 12 ∧ rails.length = 8)
  | .thermtrip _ sensor => decide (sensor < 12)
  | .railAboveWarning _ rail => decide (rail < 9)
  | .qspiSelfReadTimeout => true
  | .skewCalibration link => decide (link < 32)
  | .unitRowProcessed _ => true
  | .pairLinkReplayRequest _ => true
  | .prbsCheckDone link _ => decide (link < 32)
  | .lutLoadDone _ => true
  | .qryReadRecordCopied _ _ => true
  | .qspiProgramDone _ => true
  | .imageCheckDone _ => true
  | .panelSequenceDelayExpiry output => decide (output < 4)

end Sys2Proof
end

