-- ==== Sys2Proof/Decode.lean ====
section
/-! DEFINITION. The words of the commands. The table of operations and events gives no row any bits, so no word spells a
command: the block takes its commands from its queue (R539, R543 and 95_what_each_step_holds.md). -/

namespace Sys2Proof

/-- The command that a word of `nbits` bits spells by the table's bits: none, since no row of the table has bits. -/
def decodeTableWord (_nbits _w : Nat) : Option Instr := none

end Sys2Proof
end

