-- ==== Sys2Proof/Machine/StateAud.lean ====
section
/-! DEFINITION. The state of the audio ports (chapter 13). -/

namespace Sys2Proof.Machine

/-- PSTATE of a port (R451). -/
inductive AudState where
  | unconfigured | stopped | running | waiting
  deriving DecidableEq, Repr, Inhabited

/-- PHASE of a port (R451). -/
inductive AudPhase where
  | full | fading | silent | ramping | measuring
  deriving DecidableEq, Repr, Inhabited

/-- Configuration of a port (AUD_CONFIGURE). -/
structure AudCfg where
  /-- R431 | DC40 | DIR: output -/
  output : Bool := false
  /-- R432 | DC40 | FORMAT -/
  leftJust : Bool := false
  /-- R432 | DC40 | WORD: 16, 24 or 32 bits -/
  word : Nat := 16
  /-- R432 | DC40 | SLOT32 -/
  slot32 : Bool := false
  /-- R433 | DC40 | CLK_SRC -/
  clkSrc : BitVec 2 := 0
  /-- R433 | DC40 | CLK_PORT -/
  clkPort : BitVec 2 := 0
  /-- R434 | DC40 | MCLK -/
  mclk : Bool := false
  /-- R438 | DC40 | KEEP_CLOCK -/
  keepClock : Bool := false
  /-- R435 | DC40 | RING_BASE -/
  ringBase : Nat := 0
  /-- R435 | DC40 | RING_LOG2 -/
  ringLog2 : Nat := 12
  /-- R440 | spec | RESUME in force -/
  resume : Nat := 256
  /-- R443 | DC40 | MARK_BASE -/
  markBase : Nat := 0
  deriving DecidableEq, Repr, Inhabited

/-- One audio port (R431 to R451). -/
structure AudPort where
  /-- R451 | spec | PSTATE -/
  st : AudState := .unconfigured
  /-- R448 | spec | configuration -/
  cfg : AudCfg := {}
  /-- R451 | spec | PHASE -/
  phase : AudPhase := .full
  /-- R451 | spec | LEVEL -/
  level : Nat := 0
  /-- R451 | spec | CLOCK_OK -/
  clockOk : Bool := false
  /-- R451 | spec | RATE -/
  rate : Nat := 0
  /-- R451 | spec | SAMPLE_COUNT -/
  sampleCount : Count64 := 0
  /-- R451 | spec | RING_POS -/
  ringPos : Count64 := 0
  /-- R451 | spec | HOST_POS -/
  hostPos : Count64 := 0
  /-- R451 | spec | MARK_SEQ -/
  markSeq : Word := 0
  /-- R451 | spec | UNDERRUNS -/
  underruns : BitVec 16 := 0
  /-- R451 | spec | GLITCHES -/
  glitches : BitVec 16 := 0
  /-- R451 | spec | CLOCK_STOPS -/
  clockStops : BitVec 16 := 0
  /-- R451 | spec | RATE_CHANGES -/
  rateChanges : BitVec 16 := 0
  /-- R444 | spec | LATCH_STREAM; none = 0x7F -/
  latchStream : Option Nat := none
  /-- R444 | spec | LATCH_DIV -/
  latchDiv : Nat := 1
  /-- R449 | spec | latch set and not yet in effect: stream and divisor -/
  latchNext : Option (Nat × Nat) := none
  /-- R439 | spec | delay line of an input port, oldest first: left, right, level -/
  delay : List (Int × Int × Nat) := []
  /-- R440 | spec | conditions that caused the fade and have not cleared, by mark kind -/
  causes : List Nat := []
  /-- R442 | spec | frames measured so far of a re-measurement -/
  measured : Nat := 0
  /-- R440 | spec | consecutive out-of-tolerance frames since a resynchronisation -/
  offFrames : Nat := 0
  /-- R440 | spec | glitches within the last 1,024 frames: frames since each -/
  recentGlitches : List Nat := []
  /-- R443 | spec | marks waiting for the first frame after resynchronisation: kind and gap -/
  pendingMarks : List (Nat × Nat) := []
  /-- R449 | spec | AUD_START waiting for the clock of this port -/
  startCmd : Option Cmd := none
  /-- R438 | spec | AUD_STOP waiting for the end of the frame in progress -/
  stopCmd : Option Cmd := none
  /-- R447 | spec | waits for a valid frame after an island reset: gap in AON cycles -/
  restart : Option Nat := none
  /-- R438 | model | last frame sent on the data line of an output port -/
  sent : Option (Int × Int) := none
  /-- R438 | spec | clocks driven by a leader -/
  clocks : Bool := false
  /-- R449 | spec | the next frame is the first after a start -/
  first : Bool := false
  deriving DecidableEq, Repr, Inhabited

end Sys2Proof.Machine
end

