-- ==== Sys2Proof/Machine/StateCmd.lean ====
section
/-! DEFINITION. The state of the command protocol of one half: ring records, event log, in-flight commands,
management port, MSI-X (chapters 02 and 11). -/

namespace Sys2Proof.Machine

/-- Submission ring record of one ring (R36). -/
structure SqRec where
  /-- R36 | spec | BASE_HI and BASE_LO: ring base address, its bits [11:0] read 0 -/
  base : BitVec 64 := 0
  /-- R36 | spec | SIZE_LOG2 -/
  sizeLog2 : BitVec 5 := 0
  /-- R36 | spec | CQ_ID -/
  cqId : BitVec 5 := 0
  /-- R36 | spec | ENABLE -/
  enable : Bool := false
  /-- R36 | spec | QUIESCED -/
  quiesced : Bool := true
  /-- R36 | spec | ERROR -/
  error : Bool := false
  /-- R36 | spec | CQ_STALLED -/
  cqStalled : Bool := false
  /-- R36 | spec | ERR_CODE -/
  errCode : BitVec 4 := 0
  /-- R36 | spec | HEAD -/
  head : BitVec 16 := 0
  /-- R36 | spec | HWB_HI and HWB_LO: head write-back address, its bits [2:0] read 0 -/
  hwb : BitVec 64 := 0
  /-- R36 | spec | LAST_TAIL -/
  lastTail : BitVec 16 := 0
  /-- R62 | spec | fetches in progress, oldest first: the completion slots reserved and the entry's sixteen dwords -/
  fetching : List (Nat × List Word) := []
  /-- R62 | spec | slots reserved for the next entry of a ring that was stalled -/
  preReserved : Nat := 0
  /-- R42 | spec | entries fetched since the last head write-back -/
  sinceHwb : Nat := 0
  /-- R51 | spec | entries fetched so far, with one step at each enabling: the order of the ring's commands -/
  fetchCount : Nat := 0
  /-- R53 | spec | outcome of the newest fetched entry's first completion: none = not completed yet, some ok -/
  lastOutcome : Option Bool := some true
  deriving DecidableEq, Repr, Inhabited

/-- Completion ring record of one ring (R36). -/
structure CqRec where
  /-- R36 | spec | BASE_HI and BASE_LO -/
  base : BitVec 64 := 0
  /-- R36 | spec | SIZE_LOG2 -/
  sizeLog2 : BitVec 5 := 0
  /-- R36 | spec | VECTOR -/
  vector : BitVec 7 := 0
  /-- R36 | spec | INT_ENABLE -/
  intEnable : Bool := false
  /-- R36 | spec | ENABLE -/
  enable : Bool := false
  /-- R36 | spec | ERROR -/
  error : Bool := false
  /-- R36 | spec | ERR_CODE -/
  errCode : BitVec 4 := 0
  /-- R36 | spec | TAIL -/
  tail : BitVec 16 := 0
  /-- R36 | spec | PHASE -/
  phase : Bool := true
  /-- R36 | spec | COAL_COUNT -/
  coalCount : BitVec 8 := 0
  /-- R36 | spec | COAL_DELAY -/
  coalDelay : BitVec 16 := 0
  /-- R36 | spec | HEAD -/
  head : BitVec 16 := 0
  /-- R36 | spec | completions written and not yet signalled (coalescing) -/
  unsignalled : Nat := 0
  /-- R62 | spec | completion slots reserved and not yet written or released -/
  reserved : Nat := 0
  /-- R62 | spec | freed slots held for the oldest stalled submission ring -/
  held : Nat := 0
  /-- R62 | spec | stalled submission rings that name this ring, in the order in which they stalled, with the slots each needs -/
  stalled : List (Nat × Nat) := []
  deriving DecidableEq, Repr, Inhabited

/-- Event record (R63); PHASE belongs to the slot and is added as the record is written. -/
structure EventRec where
  /-- R63 | spec | CODE -/
  code : BitVec 16 := 0
  /-- R63 | spec | HALF: 0b01 = A, 0b10 = B -/
  half : BitVec 2 := 0
  /-- R63 | spec | SEVERITY -/
  severity : BitVec 2 := 0
  /-- R63 | spec | SEQ -/
  seq : Word := 0
  /-- R63 | spec | POINT -/
  point : Count64 := 0
  /-- R63 | spec | OBJECT_ID -/
  objectId : BitVec 16 := 0
  /-- R63 | spec | OBJECT_KIND -/
  objectKind : BitVec 8 := 0
  /-- R63 | spec | DATA0 -/
  data0 : Word := 0
  /-- R63 | spec | DATA1 -/
  data1 : Word := 0
  /-- R63 | spec | DATA2 -/
  data2 : Word := 0
  deriving DecidableEq, Repr, Inhabited

/-- Event ring record (R36). -/
structure EvRec where
  /-- R36 | spec | BASE_HI and BASE_LO -/
  base : BitVec 64 := 0
  /-- R36 | spec | SIZE_LOG2 -/
  sizeLog2 : BitVec 5 := 0
  /-- R36 | spec | VECTOR -/
  vector : BitVec 7 := 0
  /-- R36 | spec | INT_ENABLE -/
  intEnable : Bool := false
  /-- R36 | spec | ENABLE -/
  enable : Bool := false
  /-- R36 | spec | ERROR -/
  error : Bool := false
  /-- R36 | spec | OVERFLOWED -/
  overflowed : Bool := false
  /-- R36 | spec | ERR_CODE -/
  errCode : BitVec 4 := 0
  /-- R36 | spec | TAIL -/
  tail : BitVec 16 := 0
  /-- R36 | spec | PHASE -/
  phase : Bool := true
  /-- R42 | spec | index of the next record the host will read, as last written to HEAD_DB -/
  head : BitVec 16 := 0
  /-- R36 | spec | LOST -/
  lost : Word := 0
  /-- R64 | spec | SEQ of the first record lost since the last DEV_EVENT_OVERFLOW -/
  firstLost : Word := 0
  /-- R64 | spec | SEQ of the last record lost since the last DEV_EVENT_OVERFLOW -/
  lastLost : Word := 0
  deriving DecidableEq, Repr, Inhabited

/-- One MSI-X vector (R401, R402). -/
structure MsixVec where
  /-- R401 | spec | message address -/
  addr : BitVec 64 := 0
  /-- R401 | spec | message data -/
  data : Word := 0
  /-- R402 | spec | per-vector mask bit -/
  mask : Bool := true
  /-- R402 | spec | pending bit -/
  pendingBit : Bool := false
  deriving DecidableEq, Repr, Inhabited

/-- Where a command in flight stands (R60). -/
inductive CmdState where
  /-- indirect parameter block being read (R544) -/
  | readingBlock
  /-- fetched and checked, not started: waiting for a FENCE or CHAIN condition, or for its turn (R51 to R53) -/
  | fetched
  /-- placed in the other half, which is not command-ready: held in the receiving half (R546) -/
  | held
  /-- on its way to the other half (R31) -/
  | forwarded
  /-- long command running (R60) -/
  | running
  /-- boundary command staged, OK_DEFERRED posted (R60) -/
  | deferred
  deriving DecidableEq, Repr, Inhabited

/-- A command in flight (R46, R60). -/
structure Flight where
  /-- R46 | spec | the command as submitted -/
  cmd : Cmd
  /-- R539 | spec | its opcode -/
  op : Op
  /-- R60 | spec | command state -/
  st : CmdState := .fetched
  /-- R32 | spec | half in which it was placed -/
  exec : Half := .A
  /-- R53 | spec | predecessor's first completion: none = not yet posted, some ok -/
  predOutcome : Option Bool := none
  /-- R62 | spec | completion slots reserved for it and not yet used -/
  slots : Nat := 0
  /-- R62 | spec | completion ring in which they are reserved -/
  cq : Nat := 0
  /-- R61 | spec | first completion already posted in the receiving half -/
  firstDone : Bool := false
  /-- R456 | spec | in a pair: ACCEPT sent and not yet acknowledged -/
  awaitsAck : Bool := false
  /-- R68 | spec | received through rings that a reset has cleared: its reports are discarded -/
  dropped : Bool := false
  /-- R545 | spec | accounted for in its receiving half as the Mortar link went DOWN: the executing half records its reports -/
  orphan : Bool := false
  /-- R456 | spec | a command of an active with a mirror: its reports wait for the mirror's acknowledgement -/
  mirrored : Bool := false
  /-- R461 | spec | carried out by a mirror for the active: nothing of it is reported here -/
  silent : Bool := false
  /-- R470 | spec | its first completion is REPLAYED -/
  replay : Bool := false
  deriving DecidableEq, Repr, Inhabited

/-- The boundary at which a staged change takes effect (R50, R55). -/
inductive BKey where
  /-- start of the next frame of a stream (BOUNDARY 1) -/
  | streamStart (stream : Nat)
  /-- close of a stream's frame in progress (BOUNDARY 1) -/
  | streamEnd (stream : Nat)
  /-- next admitted frame of a context (BOUNDARY 1) -/
  | contextFrame (half : Half) (ctx : Nat)
  /-- Frame Start of frame F of a remap (BOUNDARY 1) -/
  | remap (link : Nat)
  /-- next frame of a stream admitted by any context that reads it (BOUNDARY 1) -/
  | streamAdmit (stream : Nat)
  /-- slot-table epoch of a half (BOUNDARY 2) -/
  | epoch (half : Half)
  /-- clearing of a trim instance (BOUNDARY 3) -/
  | clearing (dom inst : Nat)
  /-- TE edge of a viewfinder output (BOUNDARY 4) -/
  | te
  /-- its effect has already come about, at this point of this stream (R56) -/
  | now (point : Count64) (stream : Nat)
  /-- next coded picture of a VCU session (BOUNDARY 1) -/
  | vcu (session : Nat)
  /-- next picture of a VCU session that may begin a group: its next IDR by request (BOUNDARY 1) -/
  | vcuIrap (session : Nat)
  /-- last coded picture of a VCU session that stops (BOUNDARY 1) -/
  | vcuLast (session : Nat)
  deriving DecidableEq, Repr, Inhabited

/-- A staged boundary change (R55, R57), kept in the order in which the changes started. -/
structure Staged where
  /-- R55 | spec | the command that staged it -/
  cmd : Cmd
  /-- R55 | spec | its opcode -/
  op : Op
  /-- R55 | spec | half that holds the staged change -/
  exec : Half
  /-- R55 | spec | boundary it waits for -/
  key : BKey
  /-- R242 | spec | the tables that the command named in host memory, read while it was checked; for a trim commit (R299),
  the domains that commit -/
  data : List Byte := []
  deriving DecidableEq, Repr, Inhabited

/-- The management port (R69 to R72). -/
structure MgmtPort where
  /-- R69 | DC20 | the port's 4 KiB data buffer -/
  buf : List Byte := []
  /-- R70 | spec | a port command is running -/
  running : Bool := false
  /-- R70 | spec | the running command has been forwarded to the half that does not lead -/
  forwarded : Option Cmd := none
  /-- R546 | spec | that half is not command-ready: the command is held in the lead -/
  waiting : Bool := false
  /-- R69 | spec | the completion entry not yet read, as eight dwords -/
  completion : Option (List Word) := none
  /-- R69 | spec | event records of the port not yet read, oldest first -/
  events : List EventRec := []
  /-- R69 | model | bytes of the last read transaction, as shifted out to the host -/
  out : List Byte := []
  deriving DecidableEq, Repr, Inhabited

end Sys2Proof.Machine
end

