-- ==== Sys2Proof/Machine/StateHost.lean ====
section
/-! DEFINITION. The state of the host attachment and the wake budgets of one half (chapter 11). -/

namespace Sys2Proof.Machine

/-- The PCIe endpoint of one half (R393 to R406, R412). -/
structure Endpoint where
  /-- R403 | spec | PERST ball level: true = released (high) -/
  perstHigh : Bool := false
  /-- R403 | spec | PERST has been released since power-on: the half is attached -/
  everReleased : Bool := false
  /-- R412 | spec | GEN; 0 = link down -/
  gen : BitVec 3 := 0
  /-- R412 | spec | WIDTH -/
  width : BitVec 4 := 0
  /-- R412 | spec | L0P_WIDTH -/
  l0pWidth : BitVec 4 := 0
  /-- R412 | spec | FLIT -/
  flit : Bool := false
  /-- R412 | spec | LSTATE -/
  lstate : BitVec 4 := 0
  /-- R412 | spec | D3HOT -/
  d3hot : Bool := false
  /-- R412 | spec | RECOVERIES -/
  recoveries : Word := 0
  /-- R412 | spec | CORRECTED -/
  corrected : Word := 0
  /-- R412 | spec | L1_ENTRIES -/
  l1Entries : Word := 0
  /-- R412 | spec | GEN and WIDTH the link last trained to -/
  lastTrained : Option (BitVec 3 × BitVec 4) := none
  /-- R405 | PRESUMED 37 | ASPM L1 enabled by the host -/
  aspmL1 : Bool := false
  /-- R405 | PRESUMED 37 | L1.1 enabled by the host -/
  l11 : Bool := false
  /-- R405 | PRESUMED 37 | L1.2 enabled by the host -/
  l12 : Bool := false
  /-- R405 | PRESUMED 37 | L0p enabled by the host -/
  l0p : Bool := false
  /-- R406 | PRESUMED 37 | PME_En -/
  pmeEn : Bool := false
  /-- R406 | spec | PME sent -/
  pmeSent : Bool := false
  /-- R402 | PRESUMED 37 | MSI-X enable -/
  msixEnable : Bool := false
  /-- R402 | PRESUMED 37 | MSI-X function mask -/
  msixMask : Bool := false
  /-- R402 | spec | MSI-X table and pending bits -/
  msix : Vector MsixVec 128 := Vector.replicate 128 {}
  /-- R401 | spec | WIN_BASE bits [63:28] -/
  winBase : BitVec 36 := 0
  /-- R401 | spec | PEER -/
  peer : Bool := false
  /-- R401 | spec | SIZE_LOG2 -/
  sizeLog2 : BitVec 6 := 28
  /-- R401 | spec | POISON_READS -/
  poisonReads : Word := 0
  /-- R406 | spec | completions held in D3hot, in the order produced, each with its completion ring -/
  heldCompletions : List (Nat × Completion) := []
  /-- R18 | spec | a BAR2 read that waits for the other half's DRAM: address and length -/
  aperRead : Option (Nat × Nat) := none
  /-- R399 | model | data of the last BAR2 read and its EP bit, as returned to the host -/
  bar2Out : Option (List Byte × Bool) := none
  /-- R402 | model | MSI-X messages sent, newest first: address and data -/
  msgs : List (BitVec 64 × Word) := []
  /-- R405 | spec | latency of the last LTR message, in microseconds; none before the first -/
  ltr : Option Word := none
  deriving DecidableEq, Repr, Inhabited

/-- Identity block fields that change (R398). -/
structure Ident where
  /-- R398 | spec | CMD_READY -/
  cmdReady : Bool := false
  /-- R398 | spec | MEM_READY -/
  memReady : Bool := false
  /-- R398 | spec | FAULT -/
  fault : Bool := false
  /-- R398 | spec | BOOT_STAGE -/
  bootStage : BitVec 4 := 0
  /-- R398 | DC38 | FW_PATCH, from the image -/
  fwPatch : BitVec 8 := 0
  /-- R398 | DC38 | FW_MINOR, from the image -/
  fwMinor : BitVec 8 := 0
  /-- R398 | DC38 | FW_MAJOR, from the image -/
  fwMajor : BitVec 8 := 0
  /-- R398 | DC38 | FW_BANK, from boot -/
  fwBank : Bool := false
  /-- R398 | spec | STEPPING -/
  stepping : BitVec 8 := 0x10
  deriving DecidableEq, Repr, Inhabited

/-- Rings, event log and MSI-X of one half (chapters 02 and 11). -/
structure HalfCmd where
  /-- R36 | spec | submission rings -/
  sq : Vector SqRec 32 := Vector.replicate 32 {}
  /-- R36 | spec | completion rings -/
  cq : Vector CqRec 32 := Vector.replicate 32 {}
  /-- R36 | spec | event ring -/
  ev : EvRec := {}
  /-- R63 | spec | event log: the newest 1,024 records, oldest first -/
  log : List EventRec := []
  /-- R63 | spec | SEQ of the next event -/
  nextSeq : Word := 0
  /-- R65 | spec | CLASS_ENABLE -/
  classEnable : BitVec 13 := 0x1FFF
  /-- R65 | spec | MIN_SEVERITY -/
  minSeverity : BitVec 2 := 0
  /-- R51 | spec | competitor that started last: receiving half and ring; none before the first start -/
  lastStart : Option (Half × Nat) := none
  /-- R51 | spec | times each competitor has been passed over: half A rings 0 to 31, then half B rings -/
  passed : Vector Nat 64 := Vector.replicate 64 0
  /-- R22 | spec | MORTAR_RETRAINS -/
  mortarRetrains : BitVec 8 := 0
  deriving DecidableEq, Repr, Inhabited

/-- Wake budgets and unit power states of one half (R407 to R411). -/
structure Power where
  /-- R410 | spec | budgets of the nine domains -/
  budget : Vector Word 9 := Vector.replicate 9 0
  /-- R411 | spec | WAKES -/
  wakes : Word := 0
  deriving DecidableEq, Repr, Inhabited

end Sys2Proof.Machine
end

