-- ==== Sys2Proof/Machine/StateIngest.lean ====
section
/-! DEFINITION. The state of stream ingest, the Quarry rings, the trigger rules (chapter 04) and the Ashlar engines
(chapter 05). -/

namespace Sys2Proof.Machine

/-- The (link, STREAM_ID) pair a stream number is bound to (R125, R156). -/
structure Binding where
  /-- R125 | spec | link number -/
  link : Nat := 0
  /-- R125 | spec | STREAM_ID or virtual channel -/
  streamId : BitVec 4 := 0
  /-- R124 | spec | CSI-2 data type, 0 for PSL -/
  csiDt : BitVec 6 := 0
  deriving DecidableEq, Repr, Inhabited

/-- Stream configuration (R157). -/
structure StreamCfg where
  /-- R157 | spec | WIDTH -/
  width : Nat := 0
  /-- R157 | spec | HEIGHT -/
  height : Nat := 0
  /-- R157 | spec | DEPTH code -/
  depth : BitVec 2 := 0
  /-- R157 | spec | PAD_VALUE -/
  pad : BitVec 16 := 0
  /-- R157 | spec | ASH_MODE -/
  ashMode : BitVec 3 := 0
  /-- R157 | spec | WATCHDOG in ingest cycles -/
  watchdog : Word := 0
  deriving DecidableEq, Repr, Inhabited

/-- Stream states (R132). -/
inductive StreamState where
  | unconfigured | idle | starting | capturing | stopping | halted
  deriving DecidableEq, Repr, Inhabited

/-- Counts and flags of a frame's header (R129, R138). -/
structure FrameCounts where
  /-- R138 | spec | FLAGS -/
  flags : Word := 0
  /-- R138 | spec | LINES_PLACED -/
  linesPlaced : Nat := 0
  /-- R138 | spec | LINES_SENT -/
  linesSent : Nat := 0xFFFF
  /-- R138 | spec | PAD_LINES -/
  padLines : Nat := 0
  /-- R138 | spec | CRC_LINES -/
  crcLines : Nat := 0
  /-- R138 | spec | SHORT_LINES -/
  shortLines : Nat := 0
  /-- R138 | spec | LONG_LINES -/
  longLines : Nat := 0
  /-- R138 | spec | EXTRA_LINES, saturating -/
  extraLines : Nat := 0
  /-- R138 | spec | ORDER_LINES, saturating -/
  orderLines : Nat := 0
  /-- R138 | spec | PAD_PIXELS -/
  padPixels : Nat := 0
  /-- R138 | spec | CUT_PIXELS -/
  cutPixels : Nat := 0
  /-- R138 | spec | FORMAT_LINES -/
  formatLines : Nat := 0
  /-- R138 | spec | HDR_ERR -/
  hdrErr : Nat := 0
  /-- R138 | spec | RAW_BLOCKS -/
  rawBlocks : Nat := 0
  deriving DecidableEq, Repr, Inhabited

/-- A frame open in ingest (R126 to R130). -/
structure OpenFrame where
  /-- R126 | spec | frame number -/
  number : Count64 := 0
  /-- R127 | spec | carried frame number -/
  carried : Word := 0
  /-- R127 | spec | FN_DELTA -/
  delta : Word := 0
  /-- R157 | spec | geometry in force for this frame -/
  cfg : StreamCfg := {}
  /-- R129 | spec | rows placed so far, row 0 first, each WIDTH pixels -/
  rows : List (List Nat) := []
  /-- R138 | spec | counts and flags -/
  counts : FrameCounts := {}
  /-- R136 | spec | stored by the Quarry writer -/
  captured : Bool := false
  /-- R124 | spec | CSI-2: line number from the last Line Start short packet -/
  csiLine : Option Nat := none
  /-- R124 | spec | CSI-2: long packets received in this frame -/
  csiLines : Nat := 0
  /-- R133 | spec | pixel rows already handed to the encoders, in rows of blocks -/
  blockRowsOut : Nat := 0
  /-- R149 | spec | sticky mark at opening or pending mark for this frame -/
  mark : Option Count64 := none
  deriving DecidableEq, Repr, Inhabited

/-- A line packet in progress on a link (R122). -/
structure LinePkt where
  /-- R119 | spec | STREAM_ID -/
  streamId : BitVec 4 := 0
  /-- R119 | spec | FORMAT -/
  format : BitVec 2 := 0
  /-- R119 | spec | LINE -/
  line : Nat := 0
  /-- R119 | spec | PIXELS -/
  pixels : Nat := 0
  /-- R121 | spec | payload bytes of the data blocks received, in order -/
  data : List Byte := []
  /-- R123 | spec | data blocks received -/
  blocks : Nat := 0
  deriving DecidableEq, Repr, Inhabited

/-- SSTATE of a segment table entry (R145). -/
inductive SegState where
  | free | segOpen | frozen | released
  deriving DecidableEq, Repr, Inhabited

/-- A frame the ring holds (R136, R138). -/
structure Stored where
  /-- R138 | spec | FRAME_NUMBER -/
  number : Count64 := 0
  /-- R136 | spec | header and index slot -/
  slot : Nat := 0
  /-- R135 | spec | logical address of its first byte in the data space, before the cyclic reduction -/
  start : Nat := 0
  /-- R138 | spec | DATA_BYTES -/
  bytes : Nat := 0
  /-- R138 | spec | ORDINAL -/
  ordinal : Nat := 0
  deriving DecidableEq, Repr, Inhabited

/-- A segment table entry (R145). -/
structure Segment where
  /-- R145 | spec | SEGMENT -/
  number : Word := 0
  /-- R145 | spec | SSTATE -/
  st : SegState := .free
  /-- R145 | spec | TRUNCATED -/
  truncated : Bool := false
  /-- R145 | spec | SHORT_PRE -/
  shortPre : Bool := false
  /-- R145 | spec | RECOVERED -/
  recovered : Bool := false
  /-- R145 | spec | TRIGGERS -/
  triggers : BitVec 16 := 0
  /-- R145 | spec | the frames the segment still holds, oldest first: FIRST_FRAME, FRAME_COUNT, FIRST_SLOT -/
  frames : List Stored := []
  /-- R145 | spec | DATA_START -/
  dataStart : Nat := 0
  /-- R145 | spec | TRIG_OFFSET -/
  trigOffset : BitVec 24 := 0xFFFFFF
  /-- R145 | spec | table slot 0 to 4,095 -/
  slot : Nat := 0
  /-- R138 | spec | ORDINAL of the next frame stored -/
  nextOrdinal : Nat := 0
  /-- R140 | spec | its window is over: it freezes once its last frame is stored -/
  closing : Bool := false
  deriving DecidableEq, Repr, Inhabited

/-- The pre/post or burst window of a ring (R140, R141). -/
structure TrigWindow where
  /-- R140 | spec | frame T -/
  t : Count64 := 0
  /-- R140 | spec | last frame of the window -/
  last : Count64 := 0
  /-- R138 | spec | rule that triggered -/
  rule : Nat := 0
  /-- R145 | spec | triggers applied so far -/
  count : Nat := 1
  deriving DecidableEq, Repr, Inhabited

/-- A Quarry ring (R134 to R145, R159). -/
structure Ring where
  /-- R134 | spec | half whose DRAM holds the ring -/
  half : Half := .A
  /-- R140 | spec | MODE -/
  mode : BitVec 2 := 0
  /-- R142 | spec | FULL_ACTION -/
  fullAction : Bool := false
  /-- R362 | spec | PIN -/
  pin : Bool := false
  /-- R362 | spec | CHANNEL_MASK -/
  channelMask : BitVec 8 := 0
  /-- R159 | spec | CTRL_BASE -/
  ctrlBase : Nat := 0
  /-- R159 | spec | HDR_BASE -/
  hdrBase : Nat := 0
  /-- R159 | spec | IDX_BASE -/
  idxBase : Nat := 0
  /-- R159 | spec | LIST_BASE -/
  listBase : Nat := 0
  /-- R134 | spec | buffers as (address, size), in list order -/
  bufs : List (Nat × Nat) := []
  /-- R549 | spec | LIST_CRC -/
  listCrc : Word := 0
  /-- R159 | spec | SLOTS_LOG2 -/
  slotsLog2 : Nat := 4
  /-- R134 | spec | slot stride in index entries -/
  stride : Nat := 0
  /-- R159 | spec | PRE -/
  pre : Nat := 0
  /-- R159 | spec | POST, or BURST_LEN in mode 2 -/
  post : Nat := 0
  /-- R143 | spec | NEXT_SEGMENT -/
  nextSegment : Word := 0
  /-- R145 | spec | segments held, oldest first -/
  segs : List Segment := []
  /-- R136 | spec | next header and index slot -/
  nextSlot : Nat := 0
  /-- R135 | spec | logical data address of the next block, before the cyclic reduction -/
  writePos : Nat := 0
  /-- R140 | spec | window of an applied trigger -/
  window : Option TrigWindow := none
  /-- R140 | spec | a trigger frame that has not opened yet, and its rule -/
  future : Option (Count64 × Nat) := none
  /-- R142 | spec | stopped for want of room -/
  full : Bool := false
  deriving DecidableEq, Repr, Inhabited

/-- One entry of a block index (R181). -/
structure IndexEntry where
  /-- R181 | spec | OFFSET -/
  offset : Nat := 0
  /-- R181 | spec | LENGTH -/
  length : Nat := 0
  /-- R181 | spec | CODED -/
  coded : Bool := false
  /-- R181 | spec | RAW -/
  raw : Bool := false
  /-- R181 | spec | ERROR -/
  error : Bool := false
  /-- R181 | spec | SKIP -/
  skip : Bool := false
  deriving DecidableEq, Repr, Inhabited

/-- How a finished block came about (R131, R133, R180). -/
inductive BlockKind where
  /-- coded -/
  | coded
  /-- stored raw in ASH_MODE 0 -/
  | plain
  /-- stored raw for no gain -/
  | noGain
  /-- stored raw by the overload rule -/
  | overload
  /-- lost in an island reset -/
  | lost
  deriving DecidableEq, Repr, Inhabited

/-- A frame whose blocks the Quarry writer is placing (R136, R165). -/
structure WFrame where
  /-- R136 | spec | frame number -/
  number : Count64 := 0
  /-- R136 | spec | header and index slot -/
  slot : Nat := 0
  /-- R138 | spec | segment number -/
  segment : Word := 0
  /-- R138 | spec | ORDINAL -/
  ordinal : Nat := 0
  /-- R157 | spec | geometry in force -/
  cfg : StreamCfg := {}
  /-- R127 | spec | carried frame number -/
  carried : Word := 0
  /-- R127 | spec | FN_DELTA -/
  delta : Word := 0
  /-- R165 | spec | number of the next block to place -/
  nextBlock : Nat := 0
  /-- R165 | spec | finished blocks held in staging: block number, bytes, kind -/
  staged : List (Nat × List Byte × BlockKind) := []
  /-- R181 | spec | index entries placed so far, in block order -/
  index : List IndexEntry := []
  /-- R135 | spec | logical address of the frame's first byte -/
  start : Nat := 0
  /-- R138 | spec | DATA_BYTES so far -/
  bytes : Nat := 0
  /-- R138 | spec | counts and flags, final once closed -/
  counts : FrameCounts := {}
  /-- R136 | spec | ingest has closed the frame -/
  closed : Bool := false
  /-- R149 | spec | host mark to write at close -/
  mark : Option Count64 := none
  /-- R135 | spec | its first block has been placed -/
  placed : Bool := false
  /-- R131 | spec | flags that the writer adds: ISLAND_RESET, OVERLOAD_RAW, RAW_BLOCKS -/
  wflags : Word := 0
  /-- R138 | spec | TRIG_KIND -/
  trigKind : BitVec 3 := 0
  /-- R138 | spec | TRIG_RULE -/
  trigRule : Nat := 0
  /-- R138 | spec | LINK -/
  link : Nat := 0
  /-- R138 | spec | STREAM_ID -/
  streamId : BitVec 4 := 0
  /-- R140 | spec | older than T - PRE: released instead of stored -/
  drop : Bool := false
  /-- R132 | spec | the stream goes to IDLE once this frame is stored -/
  stop : Bool := false
  /-- R142 | spec | the ring is full once this frame is stored -/
  full : Bool := false
  /-- R460 | spec | on a mirror: the number and mark that its header takes -/
  given : Option (Count64 × Option Count64) := none
  deriving DecidableEq, Repr, Inhabited

/-- Reporting of a stream (R153). -/
structure Reporting where
  /-- R153 | DC25 | REPORT -/
  report : BitVec 2 := 0
  /-- R153 | spec | PROGRESS_LOG2, default 16 -/
  progressLog2 : Nat := 16
  /-- R153 | spec | per-frame reporting in force -/
  perFrame : Bool := false
  /-- R153 | spec | captured frames since the last progress report -/
  sinceReport : Nat := 0
  /-- R153 | spec | flagged frames since the last progress report -/
  flaggedSince : Nat := 0
  /-- R153 | spec | flagged frames since the last QRY_GEOMETRY -/
  geomCount : Nat := 0
  /-- R153 | spec | FLAGS OR-ed since the last QRY_GEOMETRY -/
  geomFlags : Word := 0
  /-- R153 | spec | frames captured since the last QRY_GEOMETRY; none before the first -/
  geomGap : Option Nat := none
  /-- R153 | spec | periods of the last 16 frames closed, in ingest cycles, newest first -/
  periods : List Nat := []
  /-- R153 | spec | frames closed since the stream was configured -/
  closedFrames : Nat := 0
  deriving DecidableEq, Repr, Inhabited

/-- Counts of the ring status record (R161). -/
structure RingCounts where
  /-- R161 | spec | FLAGGED -/
  flagged : Word := 0
  /-- R161 | spec | ORPHAN_LINES -/
  orphanLines : Word := 0
  /-- R161 | spec | BUSY_TRIGGERS -/
  busyTriggers : BitVec 16 := 0
  /-- R161 | spec | UNARMED_TRIGGERS -/
  unarmedTriggers : BitVec 16 := 0
  /-- R161 | spec | OVERLOAD_FRAMES -/
  overloadFrames : Word := 0
  deriving DecidableEq, Repr, Inhabited

/-- A QRY_READ under way (R150, R151). -/
structure QryRead where
  /-- R150 | spec | the command -/
  cmd : Cmd
  /-- R150 | spec | half that carries it out -/
  half : Half := .A
  /-- R150 | spec | frame number of the record being copied -/
  next : Count64 := 0
  /-- R150 | spec | records still to copy, this one included -/
  left : Nat := 0
  /-- R150 | spec | frames copied -/
  copied : Nat := 0
  /-- R150 | spec | frames absent -/
  absent : Nat := 0
  /-- R150 | spec | offset of the record in the buffer -/
  at_ : Nat := 0
  /-- R150 | spec | bytes written so far -/
  written : Nat := 0
  /-- R150 | spec | the record as its copy reads it, and whether the frame was present -/
  record : List Byte × Bool := ([], false)
  /-- R384 | spec | poisoned data were read -/
  poison : Bool := false
  deriving DecidableEq, Repr

/-- One of the 64 device streams (R125 to R162). -/
structure Stream where
  /-- R125 | spec | binding; none = unbound -/
  bind : Option Binding := none
  /-- R157 | spec | configuration last accepted -/
  cfg : Option StreamCfg := none
  /-- R132 | spec | SSTATE -/
  st : StreamState := .unconfigured
  /-- R128 | spec | current frame number, in AON; none before the first frame after power-on -/
  frame : Option Count64 := none
  /-- R128 | spec | last carried frame number, in AON -/
  carried : Option Word := none
  /-- R157 | spec | geometry in effect since the newest frame opened: width, height, DEPTH -/
  lastGeom : Option (Nat × Nat × Nat) := none
  /-- R129 | spec | frame open in ingest -/
  openFrame : Option OpenFrame := none
  /-- R136 | spec | frames whose blocks are being placed, oldest first -/
  writing : List WFrame := []
  /-- R134 | spec | Quarry ring -/
  ring : Option Ring := none
  /-- R148 | spec | ring armed -/
  armed : Bool := false
  /-- R148 | spec | ONESHOT -/
  oneshot : Bool := false
  /-- R149 | spec | sticky mark -/
  sticky : Option Count64 := none
  /-- R149 | spec | marks waiting for frames not yet opened, at most 256 -/
  marks : List (Count64 × Count64) := []
  /-- R153 | spec | reporting -/
  reporting : Reporting := {}
  /-- R161 | spec | counts -/
  counts : RingCounts := {}
  /-- R132 | spec | frame at whose close the accepted stop takes effect, when one was open -/
  stopAt : Option Count64 := none
  /-- R132 | spec | last frame stored since QRY_START_STREAM took effect -/
  lastStored : Option Count64 := none
  /-- R133 | spec | overload-raw blocks of the current overload and its first frame -/
  overload : Option (Count64 × Nat) := none
  deriving DecidableEq, Repr, Inhabited

/-- One of the 16 device-wide trigger rules (R146, R147). -/
structure TrigRule where
  /-- R146 | spec | set by QRY_SET_TRIGGER_RULE -/
  defined : Bool := false
  /-- R146 | spec | ENABLE -/
  enable : Bool := false
  /-- R146 | DC26 | LEAD -/
  lead : Nat := 0
  /-- R147 | DC26 | TRIG_OUT -/
  trigOut : BitVec 4 := 0
  /-- R146 | DC26 | RISE -/
  rise : BitVec 4 := 0
  /-- R146 | DC26 | FALL -/
  fall : BitVec 4 := 0
  /-- R146 | DC26 | CONTENT -/
  content : BitVec 16 := 0
  /-- R146 | DC26 | COMMAND -/
  command : Bool := false
  /-- R146 | DC26 | STREAMS -/
  streams : BitVec 64 := 0
  /-- R147 | DC26 | HOLDOFF -/
  holdoff : Nat := 0
  /-- R147 | spec | 0 while the rule listens, else one more than the frames of LEAD still to close -/
  holdLeft : Nat := 0
  /-- R147 | spec | SUPPRESSED -/
  suppressed : Nat := 0
  /-- R29 | spec | numbers latched by the half that does not hold LEAD, by stream, until T arrives -/
  latch : List (Nat × Count64) := []
  /-- R29 | spec | the half that does not hold LEAD has still to see the edge of the last firing -/
  await : Bool := false
  deriving DecidableEq, Repr, Inhabited

/-- A capture block waiting for, or in, an encode engine (R133, R188). -/
structure BlockJob where
  /-- R188 | spec | stream of a capture block; none for a host job's block -/
  stream : Option Nat := none
  /-- R188 | spec | job number of a host job's block -/
  job : Nat := 0
  /-- R188 | spec | order number of a host job's block -/
  order : Nat := 0
  /-- R163 | spec | frame number -/
  frame : Count64 := 0
  /-- R163 | spec | block number -/
  block : Nat := 0
  /-- R163 | spec | block width -/
  w : Nat := 0
  /-- R163 | spec | block height -/
  h : Nat := 0
  /-- R167 | spec | DEPTH code -/
  depth : BitVec 2 := 0
  /-- R167 | spec | ERR code -/
  err : BitVec 3 := 0
  /-- R163 | spec | pixels in raster order -/
  px : List Nat := []
  deriving DecidableEq, Repr, Inhabited

/-- A host encode job (R186, R194 to R196). -/
structure EncJob where
  /-- R194 | spec | command that runs it; none while suspended -/
  cmd : Option Cmd := none
  /-- R195 | spec | STORE_RAW -/
  storeRaw : Bool := false
  /-- R194 | spec | depth, mode and source format -/
  depth : BitVec 2 := 0
  /-- R194 | spec | MODE -/
  mode : BitVec 3 := 0
  /-- R194 | spec | SRC_FMT -/
  srcFmt : Bool := false
  /-- R194 | spec | WIDTH -/
  width : Nat := 0
  /-- R194 | spec | HEIGHT -/
  height : Nat := 0
  /-- R194 | spec | SRC_ADDR -/
  src : Nat := 0
  /-- R194 | spec | SRC_PITCH -/
  pitch : Nat := 0
  /-- R186 | spec | chain so far as (address, size) -/
  chain : List (Nat × Nat) := []
  /-- R194 | spec | INDEX_ADDR -/
  index : Nat := 0
  /-- R194 | spec | number of the next block to place -/
  next : Nat := 0
  /-- R188 | spec | number of the next block an engine takes -/
  taken : Nat := 0
  /-- R165 | spec | finished blocks held in staging: number and bytes; none = no gain -/
  staged : List (Nat × Option (List Byte)) := []
  /-- R194 | spec | blocks with no gain -/
  noGain : Nat := 0
  /-- R194 | spec | bytes of logical space used -/
  used : Nat := 0
  /-- R188 | spec | order in which the job started -/
  order : Nat := 0
  deriving DecidableEq, Repr, Inhabited

/-- A host decode job (R197 to R199). -/
structure DecJob where
  /-- R198 | spec | command that runs it -/
  cmd : Cmd
  /-- R189 | spec | number of entries or blocks of the job -/
  total : Nat := 0
  /-- R189 | spec | next entry or block that an engine takes -/
  next : Nat := 0
  /-- R199 | spec | blocks decoded -/
  decoded : Nat := 0
  /-- R199 | spec | blocks written with PAD_VALUE -/
  padded : Nat := 0
  /-- R199 | spec | corrupt blocks -/
  corrupt : Nat := 0
  /-- R189 | spec | order in which the job started -/
  order : Nat := 0
  deriving DecidableEq, Repr

/-- The Ashlar unit of a half (R187 to R201). -/
structure Ashlar where
  /-- R188 | spec | capture blocks waiting for an encoder, oldest first -/
  waiting : List BlockJob := []
  /-- R187 | spec | the twelve encode engines; none = idle -/
  enc : Vector (Option BlockJob) 12 := Vector.replicate 12 none
  /-- R187 | spec | the four decode engines: some (none) = a pipeline block, some (some j) = a block of decode job j -/
  dec : Vector (Option DecTask) 4 := Vector.replicate 4 none
  /-- R133 | spec | overload rule in force -/
  overload : Bool := false
  /-- R194 | spec | host encode jobs by number 0 to 63 -/
  jobs : Vector (Option EncJob) 64 := Vector.replicate 64 none
  /-- R198 | spec | host decode jobs running -/
  decJobs : List DecJob := []
  /-- R189 | spec | blocks of Quarry frames waiting to be decoded for a context, oldest first -/
  pipeWaiting : List DecTask := []
  /-- R188 | spec | order number of the next host job -/
  nextOrder : Nat := 0
  /-- R200 | spec | QUEUE_PEAK -/
  queuePeak : BitVec 16 := 0
  /-- R200 | spec | OVERLOAD_ENTRIES -/
  overloadEntries : Word := 0
  /-- R200 | spec | ENC_BLOCKS -/
  encBlocks : Count64 := 0
  /-- R200 | spec | NOGAIN_BLOCKS -/
  noGainBlocks : Count64 := 0
  /-- R200 | spec | DEC_BLOCKS -/
  decBlocks : Count64 := 0
  /-- R200 | spec | DEC_CORRUPT -/
  decCorrupt : Word := 0
  deriving DecidableEq, Repr

end Sys2Proof.Machine
end

