-- ==== Sys2Proof/Machine/StateLink.lean ====
section
/-! DEFINITION. The state of the sensor lanes and links (chapter 03). -/

namespace Sys2Proof.Machine

/-- Link states with their codes (R93). -/
inductive LinkState where
  | disabled | detect | cap | train | active | idle | exit | retrain | backoff | silent | down
  deriving DecidableEq, Repr, Inhabited

/-- LSTATE of a lane record (R110). -/
inductive LaneState where
  | off | training | active | idle | spareReady | down | backgroundRetrain
  deriving DecidableEq, Repr, Inhabited

/-- One receive lane (R77 to R82, R95 to R98, R106, R110). -/
structure Lane where
  /-- R110 | spec | LSTATE -/
  lstate : LaneState := .off
  /-- R110 | spec | LOCKED -/
  locked : Bool := false
  /-- R110 | spec | EQ_TRAINED -/
  eqTrained : BitVec 4 := 0
  /-- R110 | spec | EQ_NOW -/
  eqNow : BitVec 4 := 0
  /-- R110 | spec | FROZEN: tracking frozen or density below 30 % -/
  frozen : Bool := false
  /-- R110 | spec | WANDER_CLAMPED -/
  wanderClamped : Bool := false
  /-- R110 | spec | FAILING -/
  failing : Bool := false
  /-- R110 | spec | EYE_W -/
  eyeW : BitVec 8 := 0
  /-- R110 | spec | EYE_H -/
  eyeH : BitVec 8 := 0
  /-- R110 | spec | SYNC_ERR -/
  syncErr : Word := 0
  /-- R110 | spec | LOCK_LOSS -/
  lockLoss : BitVec 16 := 0
  /-- R110 | spec | DESKEW_ERR -/
  deskewErr : BitVec 16 := 0
  /-- R110 | spec | BIP_ERR -/
  bipErr : Word := 0
  /-- R110 | spec | CODE_ERR -/
  codeErr : BitVec 16 := 0
  /-- R110 | spec | UNCORR_ERR -/
  uncorrErr : BitVec 16 := 0
  /-- R110 | spec | PRBS_ERR -/
  prbsErr : Word := 0
  /-- R110 | spec | EXITS -/
  exits : BitVec 16 := 0
  /-- R110 | spec | EXIT_FAILS -/
  exitFails : BitVec 16 := 0
  /-- R78 | spec | consecutive valid sync headers while out of lock, up to 64 -/
  validRun : Nat := 0
  /-- R78 | spec | the last 64 headers, one bit each, 1 = invalid -/
  hdrWindow : BitVec 64 := 0
  /-- R77 | DC22 | the self-synchronous descrambler's 58 bits -/
  scrambler : BitVec 58 := 0
  /-- R81 | DC22 | marker count expected of the next ALIGN; none before the first -/
  marker : Option (BitVec 16) := none
  /-- R80 | spec | BIP-8 over the lane's blocks since the previous ALIGN -/
  bip : BitVec 8 := 0
  /-- R86 | spec | last CAP payload [63:8] seen and how many identical ones in a row -/
  capBits : BitVec 56 := 0
  /-- R86 | spec | identical CAP blocks in a row -/
  capRun : Nat := 0
  /-- R106 | spec | blocks received so far, which dates the entries of the two lists below -/
  blocks : Nat := 0
  /-- R106 | spec | when the last 65 sync-header errors came, newest first -/
  syncAt : List Nat := []
  /-- R106 | spec | when the last 5 BIP-8 mismatches came, newest first -/
  bipAt : List Nat := []
  /-- R97 | spec | IDLE blocks in a row -/
  idleRun : Nat := 0
  /-- R88 | spec | timeouts missed in the current stage -/
  misses : Nat := 0
  /-- R87 | spec | lock stage passed at the current step -/
  stageLocked : Bool := false
  /-- R89 | spec | PRBS stage result at the current step: none = running, some errors -/
  prbsResult : Option Nat := none
  /-- R116 | spec | LINK_SET_EQ with FORCE holds the code until the next training -/
  eqForced : Bool := false
  /-- R81 | spec | aligned at the last ALIGN -/
  deskewed : Bool := false
  deriving DecidableEq, Repr, Inhabited

/-- Capabilities accepted from the sensor (R86). -/
structure Cap where
  /-- R86 | spec | VERSION -/
  version : BitVec 8 := 0
  /-- R86 | spec | SPEED_MASK -/
  speedMask : BitVec 8 := 0
  /-- R86 | spec | WIDTH_MASK -/
  widthMask : BitVec 6 := 0
  /-- R86 | spec | EQ_HINT -/
  eqHint : BitVec 4 := 0
  /-- R86 | spec | REMAP -/
  remap : Bool := false
  /-- R86 | spec | FAST_EXIT -/
  fastExit : Bool := false
  /-- R86 | spec | HOLD_OK -/
  holdOk : Bool := false
  /-- R86 | spec | SENSOR_LINK -/
  sensorLink : BitVec 4 := 0
  /-- R86 | spec | STREAMS -/
  streams : BitVec 4 := 0
  deriving DecidableEq, Repr, Inhabited

/-- The sensor register block as the device has last written it over the control channel (R84). -/
structure SensorRegs where
  /-- R84 | DC23 | SPEED -/
  speed : BitVec 4 := 0
  /-- R84 | DC23 | WIDTH -/
  width : BitVec 5 := 0
  /-- R84 | DC23 | TX_MODE -/
  txMode : BitVec 3 := 0
  /-- R84 | DC23 | IDLE_ALLOW -/
  idleAllow : Bool := false
  /-- R84 | DC23 | HOLD -/
  hold : Bool := false
  /-- R84 | DC23 | RETRAIN_ON_EXIT -/
  retrainOnExit : Bool := false
  /-- R84 | DC23 | APPLY, cleared when the sensor reports APPLIED -/
  apply : Bool := false
  /-- R84 | DC23 | REMAP_LOGICAL -/
  remapLogical : BitVec 5 := 0
  /-- R84 | DC23 | REMAP_PHYSICAL -/
  remapPhysical : BitVec 5 := 0
  /-- R84 | DC23 | REMAP_VALID -/
  remapValid : Bool := false
  /-- R84 | DC23 | PSL_REMAP_FRAME -/
  remapFrame : Word := 0
  deriving DecidableEq, Repr, Inhabited

/-- A remap that is armed or awaits its REMAP_DONE (R107). -/
structure Remap where
  /-- R107 | spec | logical lane moved -/
  logical : Nat := 0
  /-- R107 | spec | device lane it leaves -/
  oldLane : BitVec 7 := 0
  /-- R107 | spec | device lane it moves to -/
  newLane : BitVec 7 := 0
  /-- R107 | spec | frame F -/
  frame : Count64 := 0
  /-- R107 | spec | the device has switched its map at F -/
  applied : Bool := false
  /-- R115 | spec | the REMAP_LANE command that ordered it, if one did -/
  cmd : Option Cmd := none
  /-- R107 | spec | REMAP_DONE read 0: the map is restored at the next Frame Start -/
  restore : Bool := false
  deriving DecidableEq, Repr, Inhabited

/-- Configuration of a link as LINK_CONFIGURE set it (R113). -/
structure LinkCfg where
  /-- R113 | DC24 | configured at least once -/
  configured : Bool := false
  /-- R113 | DC24 | FIRST_LANE -/
  firstLane : BitVec 7 := 0
  /-- R113 | DC24 | WIDTH -/
  width : BitVec 5 := 0
  /-- R113 | DC24 | SPARE_LANE -/
  spareLane : BitVec 7 := 0x7F
  /-- R113 | DC24 | MAX_SPEED -/
  maxSpeed : BitVec 4 := 0
  /-- R113 | DC24 | MIN_SPEED -/
  minSpeed : BitVec 4 := 0
  /-- R113 | DC24 | MIN_WIDTH -/
  minWidth : BitVec 5 := 0
  /-- R113 | DC24 | CTRL_BUS -/
  ctrlBus : BitVec 2 := 0
  /-- R113 | DC24 | CTRL_ADDR -/
  ctrlAddr : BitVec 7 := 0
  /-- R113 | DC24 | I2C -/
  i2c : Bool := false
  /-- R113 | DC24 | SENSOR_LINK -/
  sensorLink : BitVec 4 := 0
  /-- R113 | DC24 | CSI2_RATE -/
  csi2Rate : BitVec 13 := 0
  deriving DecidableEq, Repr, Inhabited

/-- Link policy (LINK_SET_POLICY). -/
structure LinkPolicy where
  /-- R106 | spec | AUTO_RETRAIN -/
  autoRetrain : Bool := true
  /-- R106 | spec | AUTO_SPARE -/
  autoSpare : Bool := true
  /-- R106 | spec | ALLOW_HOLD -/
  allowHold : Bool := false
  /-- R106 | spec | NO_IDLE -/
  noIdle : Bool := false
  /-- R106 | spec | TRACK_OFF -/
  trackOff : Bool := false
  deriving DecidableEq, Repr, Inhabited

/-- One sensor link (R84 to R118). -/
structure Link where
  /-- R113 | spec | configuration -/
  cfg : LinkCfg := {}
  /-- R106 | spec | policy -/
  policy : LinkPolicy := {}
  /-- R109 | spec | STATE -/
  st : LinkState := .disabled
  /-- R109 | spec | SPEED -/
  speed : BitVec 4 := 0
  /-- R109 | spec | WIDTH in use -/
  width : BitVec 5 := 0
  /-- R109 | spec | REDUCED -/
  reduced : Bool := false
  /-- R109 | spec | SPARE: device lane acting as spare; trained once its lane is SPARE READY -/
  spare : BitVec 7 := 0x7F
  /-- R104 | spec | retrain pending at a clearing: mechanism order (R103) and lanes covered -/
  pendingRetrain : Option (Nat × List Nat) := none
  /-- R116 | spec | LINK_RETRAIN commands that hold their TAG for the retrain -/
  retrainCmds : List Cmd := []
  /-- R107 | spec | remap armed or awaiting confirmation -/
  remap : Option Remap := none
  /-- R79 | spec | device lane of each logical lane in use -/
  lanes : List (BitVec 7) := []
  /-- R90 | spec | device lane of each logical lane of the configured width -/
  full : List (BitVec 7) := []
  /-- R109 | spec | LINE_CRC_ERR -/
  lineCrcErr : Word := 0
  /-- R109 | spec | RETRAINS -/
  retrains : BitVec 16 := 0
  /-- R109 | spec | LOSSES -/
  losses : BitVec 16 := 0
  /-- R109 | spec | REMAPS -/
  remaps : BitVec 16 := 0
  /-- R109 | spec | IDLE_ENTRIES -/
  idleEntries : BitVec 16 := 0
  /-- R109 | spec | DISCARDED -/
  discarded : Word := 0
  /-- R109 | spec | PRBS_MS_LOW: AON cycles of the last training -/
  trainCycles : Word := 0
  /-- R109 | spec | HDR_DISCARDS -/
  hdrDiscards : Word := 0
  /-- R86 | spec | capabilities accepted; none before acceptance -/
  cap : Option Cap := none
  /-- R84 | spec | sensor registers as last written -/
  sensor : SensorRegs := {}
  /-- R87 | spec | speed code of the step being trained -/
  step : BitVec 4 := 0
  /-- R87 | spec | last step whose PRBS stage passed -/
  passed : Option (BitVec 4) := none
  /-- R87 | spec | highest speed S -/
  top : BitVec 4 := 0
  /-- R87 | spec | bring-up waits for APPLIED -/
  awaitApplied : Bool := false
  /-- R114 | spec | stage retries of this training -/
  retries : Nat := 0
  /-- R92 | spec | consecutive unanswered rounds -/
  rounds : Nat := 0
  /-- R91 | spec | consecutive losses of energy in training -/
  lossCount : Nat := 0
  /-- R91 | spec | backoff in force, in AON clock cycles -/
  backoff : Nat := 0
  /-- R90 | spec | logical lanes marked down, bit 16 for the spare -/
  downMask : BitVec 17 := 0
  /-- R89 | spec | the single-lane exception has been used at this step -/
  spareUsed : Bool := false
  /-- R114 | spec | LINK_ENABLE command in progress -/
  enableCmd : Option Cmd := none
  /-- R101 | spec | mechanism of the retrain under way (0 = at once) and lanes retrained -/
  retraining : Option (Nat × List Nat) := none
  /-- R101 | spec | the retrain under way follows a failed exit -/
  exitFailed : Bool := false
  /-- R117 | spec | LINK_PRBS_CHECK in progress and its BITS_LOG2 -/
  prbsCheck : Option (Cmd × Nat) := none
  /-- R108 | spec | device lane being retrained in the background -/
  background : Option (BitVec 7) := none
  /-- R83 | spec | CSI-2: clock lane seen in LP-11 -/
  csi2Lp11 : Bool := false
  /-- R83 | spec | CSI-2: initial skew calibration received -/
  csi2Skew : Bool := false
  deriving DecidableEq, Repr, Inhabited

end Sys2Proof.Machine
end

