-- ==== Sys2Proof/Machine/StateMem.lean ====
section
/-! DEFINITION. The state of the DRAM subsystem of one half (chapter 10) and the byte memories. -/

namespace Sys2Proof.Machine

/-- A range of addresses whose contents the spec leaves undefined (R361): first address, length, and the index of the
free value that its unwritten bytes read as. -/
structure FreeRange where
  /-- R361 | free | first address -/
  base : Nat := 0
  /-- R361 | free | length in bytes -/
  len : Nat := 0
  /-- R361 | free | index of the free bytes -/
  tag : Nat := 0
  deriving DecidableEq, Repr, Inhabited

/-- A sparse byte memory in canonical form: addresses strictly rising, no entry equal to what an unlisted address
reads as (`Memory.wf`). -/
structure Memory where
  /-- R388 | spec | bytes listed -/
  cells : List (Nat × Byte) := []
  /-- R361 | free | ranges of undefined contents, newest first -/
  free : List FreeRange := []
  deriving DecidableEq, Repr, Inhabited

/-- Policies of a channel (R390). -/
structure MemPolicy where
  /-- R366 | DC33 | PAGE -/
  page : BitVec 2 := 0
  /-- R367 | DC33 | REF_MODE -/
  refMode : Bool := false
  /-- R386 | spec | AUTO_REPAIR -/
  autoRepair : Bool := true
  /-- R387 | spec | AUTO_SPARE -/
  autoSpare : Bool := true
  /-- R387 | spec | SPARE_RESERVE -/
  spareReserve : Bool := false
  /-- R390 | spec | TRACK -/
  track : Bool := true
  /-- R385 | spec | SCRUB_HOURS in force -/
  scrubHours : Nat := 24
  /-- R387 | spec | CE_THRESHOLD in force -/
  ceThreshold : Nat := 64
  /-- R387 | spec | SPARE_RATE in force, MB/s -/
  spareRate : Nat := 2000
  deriving DecidableEq, Repr, Inhabited

/-- A request in a subchannel queue (R363). -/
structure MemReq where
  /-- R363 | spec | half address of the burst -/
  burst : Nat := 0
  /-- R363 | spec | byte-enable mask of a write; all ones for a read -/
  mask : BitVec 64 := BitVec.allOnes 64
  /-- R363 | spec | order of arrival -/
  order : Nat := 0
  /-- R384 | spec | requesting unit -/
  unit : Nat := 0
  /-- R363 | spec | bytes of a write -/
  data : List Byte := []
  deriving DecidableEq, Repr, Inhabited

/-- A bank's page predictor (R366). -/
structure Bank where
  /-- R366 | spec | rank, bank group, bank -/
  key : Nat := 0
  /-- R366 | spec | predictor -/
  pred : BitVec 2 := 2
  /-- R366 | DC34 | row of its last access; none before the first -/
  lastRow : Option Nat := none
  /-- R366 | spec | the row is open -/
  rowOpen : Bool := false
  deriving DecidableEq, Repr, Inhabited

/-- What a clearing of a subchannel has to carry out (R370), beside the commits of domain 4. -/
inductive ClearWork where
  /-- a sweep sample (R378) -/
  | sweep
  /-- a soft repair of a row: rank, bank group, bank, row, and the MEM_REPAIR that ordered it (R386) -/
  | repair (rank bg bank row : Nat) (cmd : Option Cmd)
  /-- the final step of a rank spare (R387) -/
  | spare (rank : Nat)
  deriving DecidableEq, Repr, Inhabited

/-- One subchannel (R355, R363 to R370). -/
structure SubChan where
  /-- R363 | spec | read queue, oldest first, at most 64 -/
  readQ : List MemReq := []
  /-- R363 | spec | write queue, oldest first, at most 64 -/
  writeQ : List MemReq := []
  /-- R365 | spec | draining writes -/
  draining : Bool := false
  /-- R366 | spec | banks accessed so far -/
  banks : List Bank := []
  /-- R370 | spec | work waiting for a clearing, oldest first -/
  work : List ClearWork := []
  deriving DecidableEq, Repr, Inhabited

/-- One rank's refresh (R367 to R369). -/
structure RankRefresh where
  /-- R368 | spec | refresh debt D in controller cycles -/
  debt : Nat := 0
  /-- R367 | spec | tREFI halved -/
  hot : Bool := false
  /-- R367 | spec | consecutive MR4 reads at or below 85 C while halved -/
  coolReads : Nat := 0
  /-- R367 | spec | MR4 above the range doubled refresh covers -/
  limited : Bool := false
  /-- R368 | spec | D when the top-priority repayment began and refreshes issued in it; none outside one -/
  repay : Option (Nat × Nat) := none
  /-- R382 | spec | in power-down -/
  powerDown : Bool := false
  deriving DecidableEq, Repr, Inhabited

/-- A sweep of a channel (R378). -/
structure Sweep where
  /-- R378 | spec | MEM_TRAIN that ordered it; none for an automatic one -/
  cmd : Option Cmd := none
  /-- R378 | spec | points tested so far, per subchannel -/
  points : Nat := 0
  /-- R391 | spec | the sweep of another channel under the same MEM_TRAIN has failed -/
  failed : Bool := false
  deriving DecidableEq, Repr, Inhabited

/-- One DRAM channel (R355 to R392). -/
structure Chan where
  /-- R392 | DC35 | DIMMS -/
  dimms : Nat := 0
  /-- R392 | DC35 | RANKS per DIMM -/
  ranks : Nat := 1
  /-- R392 | DC35 | X8 -/
  x8 : Bool := false
  /-- R392 | DC35 | DENSITY -/
  density : BitVec 2 := 0
  /-- R392 | spec | EXCLUDED -/
  excluded : Bool := false
  /-- R392 | DC35 | capacity in GiB, spare not excluded -/
  capacity : Nat := 0
  /-- R357 | DC35 | SPD maximum in MT/s -/
  spdMax : Nat := 0
  /-- R373 | DC35 | identities of the DIMMs, read over the sideband bus -/
  ident : List Nat := []
  /-- R390 | spec | policies -/
  policy : MemPolicy := {}
  /-- R392 | spec | CE -/
  ce : Count64 := 0
  /-- R392 | spec | UE -/
  ue : Word := 0
  /-- R392 | spec | REPAIRS -/
  repairs : BitVec 16 := 0
  /-- R392 | spec | LAST_ADDR -/
  lastAddr : Count64 := noPoint
  /-- R392 | spec | LAST_KIND -/
  lastKind : BitVec 2 := 0
  /-- R392 | spec | LAST_SUBCH -/
  lastSub : Bool := false
  /-- R392 | spec | LAST_RANK -/
  lastRank : BitVec 2 := 0
  /-- R392 | spec | LAST_DEVICE -/
  lastDevice : BitVec 4 := 0
  /-- R392 | spec | SCRUB_PASSES -/
  scrubPasses : Word := 0
  /-- R392 | spec | DEBT_PEAK -/
  debtPeak : Word := 0
  /-- R392 | spec | TOP_REFRESH -/
  topRefresh : Word := 0
  /-- R392 | spec | RMW_WRITES -/
  rmwWrites : Word := 0
  /-- R392 | spec | FWD_READS -/
  fwdReads : Word := 0
  /-- R392 | spec | OSC_DRIFT -/
  oscDrift : BitVec 16 := 0
  /-- R392 | spec | TEMP_MAX: as the newest status record found it -/
  tempMax : BitVec 16 := 0
  /-- R374 | spec | initialisation watermark, in bursts of channel space -/
  initMark : Nat := 0
  /-- R392 | spec | INIT_DONE -/
  initDone : Bool := false
  /-- R392 | spec | TRACK_FROZEN -/
  trackFrozen : Bool := false
  /-- R392 | spec | SWEEP -/
  sweep : Option Sweep := none
  /-- R392 | spec | SPARED: rank replaced by the spare -/
  spared : Option Nat := none
  /-- R387 | spec | rank being copied to the spare, and the MEM_REPAIR that ordered it -/
  sparing : Option (Nat × Option Cmd) := none
  /-- R386 | spec | rows that gave corrections: subchannel, row key, scrub pass of the last -/
  ceRows : List (Nat × Nat × Nat) := []
  /-- R386 | spec | rows repaired by soft repair: subchannel, row key -/
  repairedRows : List (Nat × Nat) := []
  /-- R387 | spec | corrected errors per rank in this scrub pass -/
  ceInPass : Vector Nat 4 := Vector.replicate 4 0
  /-- R385 | spec | uncorrectable errors in this scrub pass -/
  ueInPass : Nat := 0
  /-- R383 | spec | corrections counted per rank and device -/
  ceByDevice : List (Nat × Nat) := []
  /-- R385 | spec | patrol scrub pointer, in bursts of channel space -/
  scrubPtr : Nat := 0
  /-- R372 | spec | records in force, by set then rank -/
  sets : Vector (Vector TimingRec 4) 4 := Vector.replicate 4 (Vector.replicate 4 {})
  /-- R376 | spec | baselines, by set then rank -/
  base : Vector (Vector TimingRec 4) 4 := Vector.replicate 4 (Vector.replicate 4 {})
  /-- R377 | spec | subchannels that have still to commit the staged values -/
  commitWait : BitVec 2 := 0
  /-- R377 | spec | set at which the staged values were measured, and the values per rank -/
  stagedSet : Option (Nat × List TimingRec) := none
  /-- R363 | spec | subchannel 0 -/
  sub0 : SubChan := {}
  /-- R363 | spec | subchannel 1 -/
  sub1 : SubChan := {}
  /-- R368 | spec | ranks -/
  rank : Vector RankRefresh 4 := Vector.replicate 4 {}
  deriving DecidableEq, Repr, Inhabited

/-- A region of the address map (R358). -/
structure MemRegion where
  /-- R358 | spec | ENABLE -/
  enable : Bool := false
  /-- R358 | DC36 | BASE in GiB -/
  base : Nat := 0
  /-- R358 | DC36 | SIZE in GiB -/
  size : Nat := 0
  /-- R358 | DC36 | CHANNEL_MASK -/
  mask : BitVec 8 := 0
  /-- R358 | DC36 | ORDER -/
  order : BitVec 2 := 1
  deriving DecidableEq, Repr, Inhabited

/-- A frequency change under way (R381). -/
structure FreqChange where
  /-- R381 | spec | MEM_SET_FREQ that ordered it; none for firmware's own choice -/
  cmd : Option Cmd := none
  /-- R381 | spec | new set -/
  newSet : Nat := 0
  deriving DecidableEq, Repr, Inhabited

/-- The training area of a half in the QSPI flash (R375). -/
structure SavedTraining where
  /-- R375 | spec | identities of the DIMMs, by channel -/
  ident : List (List Nat) := []
  /-- R375 | spec | records of every set, by channel, set and rank -/
  sets : List (List (List TimingRec)) := []
  /-- R375 | spec | rows repaired, by channel: subchannel, row key -/
  repairs : List (List (Nat × Nat)) := []
  deriving DecidableEq, Repr, Inhabited

/-- The DRAM of one half. -/
structure HalfMem where
  /-- R388 | spec | contents by half address -/
  mem : Memory := {}
  /-- R384 | spec | poisoned bursts by half address divided by 64, rising -/
  poison : List Nat := []
  /-- R358 | spec | regions -/
  regions : Vector MemRegion 8 := Vector.replicate 8 {}
  /-- R355 | spec | channels -/
  chans : Vector Chan 8 := Vector.replicate 8 {}
  /-- R392 | spec | SET in force -/
  set : BitVec 2 := 0
  /-- R382 | spec | MEM_SET_FREQ HOLD in force -/
  hold : Bool := false
  /-- R381 | spec | frequency change under way -/
  freq : Option FreqChange := none
  /-- R50 | spec | clearing count -/
  clearings : Count64 := 0
  /-- R373 | spec | power-on training has used stored records -/
  stored : Bool := false
  /-- R411 | spec | DRAM power state code: 0, 4, 5 or 6 -/
  pstate : BitVec 4 := 0
  /-- R363 | model | order number of the next request -/
  nextReq : Nat := 0
  /-- R388 | spec | DIMMs held in self-refresh by the AON sequencer -/
  selfRefresh : Bool := false
  /-- R389 | spec | frames of capturing streams not stored during an island reset: stream, first, last -/
  lostFrames : List (Nat × Count64 × Count64) := []
  /-- R391 | spec | bursts whose stored form holds an injected error: half address divided by 64, KIND, DEVICE -/
  injected : List (Nat × Nat × Nat) := []
  deriving DecidableEq, Repr, Inhabited

end Sys2Proof.Machine
end

