-- ==== Sys2Proof/Machine/StateVf.lean ====
section
/-! DEFINITION. The state of the viewfinder (chapter 12). -/

namespace Sys2Proof.Machine

/-- The viewfinder source (R415). -/
structure VfSource where
  /-- R415 | spec | KIND: host picture -/
  host : Bool := false
  /-- R415 | spec | CONTEXT -/
  ctx : Nat := 0
  /-- R415 | spec | TAP -/
  tap : Nat := 0
  /-- R415 | spec | YCC of a host picture -/
  ycc : Bool := false
  /-- R415 | spec | RANGE of a host picture -/
  full : Bool := false
  /-- R415 | spec | HALF of a host picture -/
  half : Half := .A
  /-- R415 | spec | ADDR -/
  addr : Nat := 0
  /-- R415 | spec | PITCH -/
  pitch : Nat := 0
  /-- R415 | spec | W -/
  w : Nat := 0
  /-- R415 | spec | H -/
  h : Nat := 0
  /-- R417 | spec | PEER_A -/
  peerA : Nat := 0
  /-- R417 | spec | PEER_B -/
  peerB : Nat := 0
  /-- R415 | model | number of the VF_SET_SOURCE, which tells host pictures apart -/
  serial : Nat := 0
  deriving DecidableEq, Repr, Inhabited

/-- A frame an output can render from: where its parts lie in the output's half (R416, R417). -/
structure VfFrame where
  /-- R417 | spec | frame F; all ones for a host picture -/
  f : Count64 := noPoint
  /-- R417 | model | number of the source it comes from -/
  serial : Nat := 0
  /-- R416 | spec | context of the tap -/
  ctx : Nat := 0
  /-- R416 | spec | tap -/
  tap : Nat := 0
  /-- R417 | spec | tap buffer held in this half; none for a host picture or a part of the other half -/
  buf : Option Nat := none
  /-- R417 | spec | peer buffer that holds the other half's part -/
  peer : Option Nat := none
  /-- R415 | spec | YCC in force for the frame -/
  ycc : Bool := false
  /-- R415 | spec | RANGE in force for the frame -/
  full : Bool := false
  /-- R415 | spec | width of the whole picture -/
  w : Nat := 0
  /-- R415 | spec | height -/
  h : Nat := 0
  /-- R262 | spec | columns of half A's part of a span tap -/
  split : Nat := 0
  deriving DecidableEq, Repr, Inhabited

/-- The viewfinder engine of one half (R416, R417). -/
structure VfEngine where
  /-- R416 | spec | frames held, oldest first: own part -/
  holds : List VfFrame := []
  /-- R417 | spec | peer buffers 0 and 1: the frame whose part each holds -/
  peer : Vector (Option VfFrame) 2 := Vector.replicate 2 none
  /-- R417 | spec | newest frame sent to the other half: source number and F -/
  sent : Option (Nat × Count64) := none
  /-- R415 | model | number of the next VF_SET_SOURCE (half A counts for the device) -/
  serials : Nat := 1
  deriving DecidableEq, Repr, Inhabited

/-- Configuration of an output (R414, R418). -/
structure VfCfg where
  /-- R430 | spec | RUN -/
  run : BitVec 2 := 0
  /-- R414 | DC39 | LANES -/
  lanes : BitVec 3 := 1
  /-- R414 | DC39 | CONT_CLK -/
  contClk : Bool := false
  /-- R421 | DC39 | TE_POL -/
  tePol : Bool := false
  /-- R421 | DC39 | TE_DIV -/
  teDiv : Nat := 1
  /-- R418 | DC39 | ROTATE -/
  rotate : BitVec 2 := 0
  /-- R418 | DC39 | MIRROR -/
  mirror : Bool := false
  /-- R414 | DC39 | LANE_MBPS -/
  mbps : Nat := 80
  /-- R418 | DC39 | PANEL_W -/
  panelW : Nat := 16
  /-- R418 | DC39 | PANEL_H -/
  panelH : Nat := 16
  /-- R418 | DC39 | OUT_X -/
  outX : Nat := 0
  /-- R418 | DC39 | OUT_Y -/
  outY : Nat := 0
  /-- R418 | DC39 | OUT_W -/
  outW : Nat := 16
  /-- R418 | DC39 | OUT_H -/
  outH : Nat := 16
  /-- R418 | DC39 | SRC_X -/
  srcX : Nat := 0
  /-- R418 | DC39 | SRC_Y -/
  srcY : Nat := 0
  /-- R418 | DC39 | SRC_W -/
  srcW : Nat := 0
  /-- R418 | DC39 | SRC_H -/
  srcH : Nat := 0
  /-- R418 | DC39 | BG -/
  bg : BitVec 24 := 0
  /-- R418 | DC39 | RENDER_BASE -/
  renderBase : Nat := 0
  /-- R423 | DC39 | MAX_PKT_PIXELS -/
  maxPkt : Nat := 1024
  /-- R421 | DC39 | TE_TIMEOUT in AON cycles -/
  teTimeout : Nat := 2500000
  deriving DecidableEq, Repr, Inhabited

/-- A check rectangle (R427). -/
structure VfCheck where
  /-- R427 | spec | ENABLE -/
  enable : Bool := false
  /-- R427 | DC39 | FREEZE -/
  freeze : Bool := false
  /-- R427 | DC39 | LEARN -/
  learn : Bool := false
  /-- R427 | DC39 | X -/
  x : Nat := 0
  /-- R427 | DC39 | Y -/
  y : Nat := 0
  /-- R427 | DC39 | W -/
  w : Nat := 1
  /-- R427 | DC39 | H -/
  h : Nat := 1
  /-- R427 | DC39 | EXPECTED -/
  expected : Word := 0
  /-- R430 | spec | LAST_CRC -/
  lastCrc : Word := 0
  /-- R427 | spec | the last comparison did not match -/
  mismatched : Bool := false
  deriving DecidableEq, Repr, Inhabited

/-- Where an output's update stands (R422). -/
inductive VfPhase where
  | idle | rendering | pushing | restarting | sequence
  deriving DecidableEq, Repr, Inhabited

/-- A source staged for an output (R424). -/
structure VfStaged where
  /-- R424 | spec | the new source -/
  src : VfSource := {}
  /-- R424 | spec | the VF_SET_SOURCE command -/
  cmd : Cmd := default
  /-- R424 | spec | armed -/
  armed : Bool := false
  /-- R424 | spec | edges acted on since it was written -/
  edges : Nat := 0
  deriving DecidableEq, Repr, Inhabited

/-- A packet of a panel sequence (R426, R430). -/
structure PanelPkt where
  /-- R430 | spec | data type -/
  dataType : BitVec 8 := 0
  /-- R430 | spec | payload -/
  payload : List Byte := []
  /-- R430 | spec | DELAY in AON cycles -/
  delay : Nat := 0
  deriving DecidableEq, Repr, Inhabited

/-- What waits for the update in progress of an output (R425, R426). -/
inductive VfJob where
  /-- a VF_CONFIGURE_OUTPUT and its configuration -/
  | config (cmd : Cmd) (cfg : VfCfg)
  /-- a VF_PANEL_SEQUENCE and its packets still to send; while it runs, the first is the one just sent -/
  | sequence (cmd : Cmd) (pkts : List PanelPkt)
  deriving DecidableEq, Repr, Inhabited

/-- One of the four viewfinder outputs (R414 to R430). -/
structure VfOut where
  /-- R430 | spec | configuration in force -/
  cfg : VfCfg := {}
  /-- R425 | spec | VF_CONFIGURE_OUTPUT and VF_PANEL_SEQUENCE commands waiting or in progress, oldest first -/
  jobs : List VfJob := []
  /-- R424 | spec | source in force for this output -/
  src : Option VfSource := none
  /-- R424 | spec | sources staged, oldest first -/
  staged : List VfStaged := []
  /-- R422 | spec | update in progress -/
  phase : VfPhase := .idle
  /-- R422 | spec | frame of the update in progress -/
  frame : Option VfFrame := none
  /-- R422 | spec | frame of the last update -/
  lastUpdate : Option VfFrame := none
  /-- R422 | spec | a change has been latched since the last update -/
  changed : Bool := false
  /-- R430 | spec | FROZEN -/
  frozen : Bool := false
  /-- R430 | spec | TE_LOST -/
  teLost : Bool := false
  /-- R430 | spec | PEER_WAIT -/
  peerWait : Bool := false
  /-- R430 | spec | FULL_DUE -/
  fullDue : Bool := false
  /-- R430 | spec | TE_COUNT -/
  teCount : Count64 := 0
  /-- R430 | spec | LAST_FRAME -/
  lastFrame : Count64 := noPoint
  /-- R430 | spec | PUSHES -/
  pushes : Word := 0
  /-- R430 | spec | OVERRUNS -/
  overruns : Word := 0
  /-- R421 | spec | an overrun has been reported since an update that ended in time -/
  overrunSeen : Bool := false
  /-- R421 | spec | an edge has arrived during the last update -/
  late : Bool := false
  /-- R421 | spec | qualifying edges since the last one acted on -/
  divCount : Nat := 0
  /-- R430 | spec | LAST_RECTS -/
  lastRects : BitVec 4 := 0
  /-- R430 | spec | MISMATCHES -/
  mismatches : Word := 0
  /-- R430 | spec | LAST_BYTES -/
  lastBytes : Word := 0
  /-- R430 | spec | NO_CHANGE -/
  noChange : Word := 0
  /-- R427 | spec | check rectangles -/
  checks : Vector VfCheck 8 := Vector.replicate 8 {}
  /-- R419 | spec | signatures of the tiles as last pushed, row-major; empty before the first push -/
  sigs : List Word := []
  /-- R422 | spec | signatures of the tiles as just rendered -/
  newSigs : List Word := []
  /-- R420 | spec | rectangles of the push in progress: x, y, w, h -/
  rects : List (Nat × Nat × Nat × Nat) := []
  /-- R423 | spec | packets of the last HS burst, or the last packet of a sequence, as sent on the link -/
  sent : List PanelPkt := []
  deriving DecidableEq, Repr, Inhabited

end Sys2Proof.Machine
end

