-- ==== Sys2Proof/Machine/StateMortar.lean ====
section
/-! DEFINITION. The state of the Mortar link and of the clock islands (chapter 01). -/

namespace Sys2Proof.Machine

/-- MORTAR_STATE (R22). -/
inductive MState where
  | reset | training | active | replay | retrain | idle | down
  deriving DecidableEq, Repr, Inhabited

/-- A message on the Mortar link; its class is `Msg.cls` (R15). -/
inductive Msg where
  /-- CTRL: a forwarded command (R31) -/
  | command (f : Flight)
  /-- CTRL: a first completion of a forwarded command (R31) -/
  | completion (recv : Half) (c : Completion)
  /-- CTRL: an effect report of a forwarded boundary command (R31) -/
  | effect (recv : Half) (r : EffectReport)
  /-- CTRL: trigger T of a rule (R146) -/
  | trigger (t : TriggerT)
  /-- CTRL: a Frame Start for REMOTE latches (R444) -/
  | remoteLatch (stream : Nat) (frame : Count64)
  /-- CTRL: the span frame switched to its Quarry source (R219) -/
  | fallback (ctx : Nat) (frame : Count64)
  /-- CTRL: this side of the span frame is closed in its Quarry (R212) -/
  | sideClosed (ctx : Nat) (frame : Count64)
  /-- CTRL: this side wrote its tap record in this buffer (R279) -/
  | tapWritten (ctx tap buffer : Nat) (frame : Count64)
  /-- SEAM: one seam band row (R223) -/
  | seamRow (ctx : Nat) (frame : Count64) (row : Nat) (px : List (BitVec 16))
  /-- STAT: one side's partial statistics record (R291) -/
  | statPartial (ctx : Nat) (frame : Count64) (rec : List Byte)
  /-- VF: this half's part of a held frame (R417) -/
  | vfFrame (frame : VfFrame) (data : List Byte)
  /-- VCU: one tile or slice substream (R333) -/
  | substream (session : Nat) (picture : Count64) (part : PartResult)
  /-- VCU: a band of reference rows (R334) -/
  | refBand (session : Nat) (picture : Count64) (bytes : Nat)
  /-- APER: read of the other half's DRAM (R18) -/
  | aperRead (addr : Nat) (len : Nat)
  /-- APER: write of the other half's DRAM (R18) -/
  | aperWrite (addr : Nat) (data : List Byte)
  deriving DecidableEq, Repr

/-- A flit: class, sequence number, and the message it completes, if it is a message's last (R19). -/
structure Flit where
  /-- R19 | spec | class in the flit header -/
  cls : Nat := 0
  /-- R19 | spec | 12-bit sequence number -/
  seq : BitVec 12 := 0
  /-- R19 | spec | the message whose last flit this is -/
  msg : Option Msg := none
  deriving DecidableEq, Repr, Inhabited

/-- One direction of the Mortar link: sender, wire and receiver. Classes are numbered CTRL 0, SEAM 1, STAT 2, VF 3,
VCU 4, APER 5 in the order of the table of R15. -/
structure MortarDir where
  /-- R16 | spec | messages waiting at the sender, per class, oldest first -/
  queue : Vector (List Msg) 6 := Vector.replicate 6 []
  /-- R19 | spec | flits of the oldest waiting message already sent, per class -/
  partSent : Vector Nat 6 := Vector.replicate 6 0
  /-- R15 | spec | receive credits the sender holds, per class -/
  credits : Vector Nat 6 := #v[32, 128, 32, 64, 32, 64]
  /-- R19 | DC21 | sequence number of the next new flit -/
  nextSeq : BitVec 12 := 0
  /-- R19 | spec | replay buffer: flits sent and not acknowledged, oldest first, at most 512 -/
  replayBuf : List Flit := []
  /-- R19 | spec | flits of the replay buffer still to be sent again -/
  replayLeft : Nat := 0
  /-- R19 | spec | flits sent and not yet arrived -/
  wire : List Flit := []
  /-- R19 | DC21 | sequence number the receiver expects -/
  expSeq : BitVec 12 := 0
  /-- R20 | spec | consecutive CRC failures of the flit expected -/
  fails : Nat := 0
  /-- R19 | spec | receiver discards flits until the replayed flit arrives -/
  discarding : Bool := false
  /-- R15 | spec | complete messages in the receive buffer, per class, oldest first -/
  rx : Vector (List Msg) 6 := Vector.replicate 6 []
  /-- R15 | spec | flits of messages in the receive buffer not yet consumed, per class -/
  rxFlits : Vector Nat 6 := Vector.replicate 6 0
  /-- R16 | spec | weighted round robin: flits of the round left per class -/
  wrrLeft : Vector Nat 6 := Vector.replicate 6 0
  /-- R16 | spec | CTRL flits sent of the last twelve, for its cap of 2 of 24 GB/s -/
  ctrlWindow : List Bool := []
  deriving DecidableEq, Repr, Inhabited

/-- The Mortar link (R15 to R23, R547). -/
structure Mortar where
  /-- R22 | spec | MORTAR_STATE -/
  st : MState := .reset
  /-- R15 | spec | direction half A to half B -/
  ab : MortarDir := {}
  /-- R15 | spec | direction half B to half A -/
  ba : MortarDir := {}
  /-- R21 | spec | consecutive failed training attempts -/
  attempts : Nat := 0
  /-- R543 | spec | condition that started the training: 0 CRC, 1 unacknowledged flit, 2 TRAINING -/
  cause : Nat := 2
  /-- R21 | spec | background wait in force, in AON clock cycles; 0 while not DOWN -/
  backoff : Nat := 0
  /-- R21 | spec | a background attempt is under way -/
  attempting : Bool := false
  /-- R543 | spec | AON cycles spent DOWN so far -/
  downCycles : Nat := 0
  deriving DecidableEq, Repr, Inhabited

/-- Power state of an island (table of clock islands, R407). -/
inductive PState where
  | on | gated | retention | off
  deriving DecidableEq, Repr, Inhabited

/-- One clock island of a half (R25 to R27). -/
structure Island where
  /-- R407 | spec | power state -/
  pstate : PState := .on
  /-- R27 | spec | automatic island reset in progress -/
  resetting : Bool := false
  /-- R26 | spec | wake in progress -/
  waking : Bool := false
  /-- R26 | spec | requests held at the crossing -/
  heldReqs : Nat := 0
  deriving DecidableEq, Repr, Inhabited

end Sys2Proof.Machine
end

