-- ==== Sys2Proof/Machine/StatePair.lean ====
section
/-! DEFINITION. The state of paired operation (chapter 14). -/

namespace Sys2Proof.Machine

/-- Pair states with their codes (R455). -/
inductive PairState where
  | unpaired | syncing | paired | linkLost | takingOver | deposed
  deriving DecidableEq, Repr, Inhabited

/-- A tag of the mirrored table (R456, R470). -/
structure PairTag where
  /-- R456 | spec | the command as accepted by the active -/
  cmd : Cmd := default
  /-- R456 | spec | its opcode -/
  op : Op := default
  /-- R456 | spec | host-memory tables it reads: address, bytes -/
  tables : List (Nat × List Byte) := []
  /-- R456 | spec | this mirror has made its changes, under the command's submission number here -/
  ran : Bool := false
  /-- R456 | spec | APPLY contents: the completion; none before APPLY -/
  apply : Option Completion := none
  /-- R456 | spec | first completion POSTED by the active -/
  posted : Bool := false
  /-- R456 | spec | staged boundary change, effect not yet reported -/
  staged : Bool := false
  deriving DecidableEq, Repr, Inhabited

/-- A report of the active that waits for the mirror's acknowledgement (R456). -/
inductive HeldReport where
  /-- a completion of the half that carried the command out, and whether it is the command's last report -/
  | completion (h : Half) (k : Completion) (final : Bool)
  /-- an effect report -/
  | effect (h : Half) (r : EffectReport)
  deriving DecidableEq, Repr, Inhabited

/-- The pairing state of this device (R452 to R477). -/
structure Pair where
  /-- R477 | spec | PSTATE -/
  st : PairState := .unpaired
  /-- R477 | spec | ROLE: 0 none, 1 active, 2 mirror -/
  role : BitVec 2 := 0
  /-- R454 | spec | pairing enabled -/
  enable : Bool := false
  /-- R454 | spec | the pair has formed since the last reset or since pairing was enabled -/
  formed : Bool := false
  /-- R454 | DC41 | ROLE_REQUEST -/
  roleRequest : BitVec 2 := 0
  /-- R464 | spec | FAULT_MASK -/
  faultMask : BitVec 5 := 0x1B
  /-- R462 | spec | HB_MISS in force -/
  hbMiss : Nat := 8
  /-- R477 | spec | PAIR_ID strap as sampled -/
  pairId : Bool := false
  /-- R477 | spec | FENCED -/
  fenced : Bool := false
  /-- R477 | spec | PEER_FENCED -/
  peerFenced : Bool := false
  /-- R477 | spec | HB_MISSED -/
  hbMissed : BitVec 4 := 0
  /-- R477 | spec | EPOCH -/
  epoch : Word := 0
  /-- R477 | spec | COVERAGE -/
  coverage : BitVec 64 := 0
  /-- R477 | spec | COVERED_FROM per stream -/
  coveredFrom : Vector Count64 64 := Vector.replicate 64 noPoint
  /-- R477 | spec | MIRROR_LAG -/
  mirrorLag : Word := 0
  /-- R477 | spec | TAKEOVERS -/
  takeovers : BitVec 16 := 0
  /-- R477 | spec | REPLAYED -/
  replayed : Word := 0
  /-- R477 | spec | LOST -/
  lost : Word := 0
  /-- R477 | spec | LINK_REPLAYS -/
  linkReplays : Word := 0
  /-- R462 | spec | role in the peer's last heartbeat -/
  peerRole : BitVec 2 := 0
  /-- R462 | spec | EPOCH in the peer's last heartbeat -/
  peerEpoch : Word := 0
  /-- R462 | spec | liveness count in the peer's last heartbeat -/
  peerLive : Word := 0
  /-- R462 | spec | a good heartbeat has arrived in this period -/
  hbGood : Bool := false
  /-- R462 | spec | a heartbeat with SWAP has arrived in this period -/
  hbSwap : Bool := false
  /-- R462 | spec | consecutive periods with SWAP -/
  swapPeriods : Nat := 0
  /-- R462 | spec | this device's own SWAP flag -/
  swap : Bool := false
  /-- R462 | spec | liveness count sent with the last heartbeat -/
  liveSent : Word := 0
  /-- R463 | spec | consecutive periods in which the own liveness count has not advanced -/
  stall : Nat := 0
  /-- R456 | spec | mirrored tag table -/
  tags : List PairTag := []
  /-- R457 | spec | admissions are gated by ADMIT records -/
  gating : Bool := false
  /-- R466 | spec | a claim is under way: 0 none, 1 waiting, 2 driving -/
  claim : BitVec 2 := 0
  /-- R466 | spec | cause of the claim: DATA0 of PAIR_TAKEOVER -/
  claimCause : Nat := 0
  /-- R466 | spec | EPOCH the claimant takes -/
  claimEpoch : Word := 0
  /-- R476 | spec | FENCED of PAIR_TAKEOVER -/
  hostFenced : Bool := false
  /-- R466 | spec | the wire went low during the wait without an active pulse shape -/
  claimSpoiled : Bool := false
  /-- R466 | spec | PAIR_TAKEOVER or PAIR_SWITCHOVER command in progress -/
  cmd : Option Cmd := none
  /-- R466 | spec | this device drives PAIR_ARB low -/
  arbDriven : Bool := false
  /-- R465 | spec | an active pulse has been seen on PAIR_ARB in the last 256 us -/
  pulseSeen : Bool := false
  /-- R465 | spec | this device sends active pulses -/
  pulses : Bool := false
  /-- R453 | spec | PAIR_OWN_N driven low -/
  own : Bool := false
  /-- R471 | spec | switchover: fetching stopped until DRAIN ends -/
  draining : Bool := false
  /-- R468 | spec | the active has a mirror -/
  hasMirror : Bool := false
  /-- R469 | spec | trigger firings of the last 8 periods that match no TRIGGER record yet: rule, age in periods, T -/
  firings : List (Nat × Nat × Count64) := []
  /-- R469 | spec | TRIGGER records of the last 8 periods that match no own firing yet: rule, age in periods, T -/
  fired : List (Nat × Nat × Count64) := []
  /-- R457 | spec | admissions permitted by ADMIT records: context, half, frame -/
  admits : List (Nat × Half × Count64) := []
  /-- R457 | spec | effect points that the active has reported: receiving half, tag, point -/
  effects : List (Half × BitVec 16 × Count64) := []
  /-- R456 | spec | TRIM records whose frame has not come -/
  trims : List TrimRec := []
  /-- R456 | spec | reports that wait for an acknowledgement, oldest first -/
  held : List HeldReport := []
  /-- R456 | spec | records on their way to the mirror, oldest first; a heartbeat finds them gone -/
  out : List MirrorRec := []
  /-- R454 | spec | pair ports trained: bit 0 half A, bit 1 half B -/
  portsUp : BitVec 2 := 0
  /-- R454 | spec | the peer's heartbeat has been seen since the pair ports trained -/
  peerSeen : Bool := false
  /-- R454 | spec | ROLE_REQUEST of the peer, as the pair ports carry it -/
  peerRequest : BitVec 2 := 0
  /-- R458 | spec | both devices have the same usable capacity and regions -/
  sameDram : Bool := true
  /-- R474 | spec | both images declare each other's STATE_VERSION compatible -/
  compatible : Bool := true
  /-- R464 | spec | cause that this device's heartbeats give for its fence: DATA0 of PAIR_TAKEOVER -/
  fenceCause : Nat := 2
  deriving DecidableEq, Repr, Inhabited

end Sys2Proof.Machine
end

