-- ==== Sys2Proof/Machine/StatePipe.lean ====
section
/-! DEFINITION. The state of the pipeline: contexts, slot table, line store, sensor corrections (chapter 06), colour, the
LUT bank and the output taps (chapter 07). -/

namespace Sys2Proof.Machine

/-- Per-stream sensor corrections, stages 1 to 4 (R226 to R238, R242). -/
structure StreamCorr where
  /-- R226 | spec | linearisation LUT of 4,096 entries; none = the default i x 256 -/
  lut : Option (List Nat) := none
  /-- R227 | spec | OB_FIRST -/
  obFirst : Nat := 0
  /-- R227 | spec | OB_ROWS -/
  obRows : Nat := 0
  /-- R227 | DC27 | BLK_SHIFT -/
  blkShift : Nat := 0
  /-- R227 | spec | BLACK_FIXED per channel -/
  blackFixed : Vector Nat 4 := #v[0, 0, 0, 0]
  /-- R227 | spec | BLACK_ADJ per channel -/
  blackAdj : Vector Int 4 := #v[0, 0, 0, 0]
  /-- R228 | spec | crosstalk enabled -/
  xtOn : Bool := false
  /-- R228 | DC27 | four 5 x 5 kernels, row-major, channel 0 first -/
  xt : List Int := []
  /-- R229 | spec | green imbalance enabled -/
  giOn : Bool := false
  /-- R229 | DC27 | GI_STRENGTH -/
  giStrength : Nat := 0
  /-- R229 | DC27 | GI_LIMIT -/
  giLimit : Nat := 0
  /-- R230 | spec | fixed pattern enabled -/
  fpOn : Bool := false
  /-- R230 | DC27 | DARK_ADDR; 0 disables the dark term -/
  darkAddr : Nat := 0
  /-- R230 | DC27 | DARK_PITCH -/
  darkPitch : Nat := 0
  /-- R230 | DC27 | DARK_SCALE -/
  darkScale : Nat := 0
  /-- R230 | DC27 | COL_ADDR; 0 disables the column term -/
  colAddr : Nat := 0
  /-- R230 | DC27 | ROW_ADDR; 0 disables the row term -/
  rowAddr : Nat := 0
  /-- R233 | spec | defect correction enabled -/
  defOn : Bool := false
  /-- R232 | DC27 | DEFECT_BASE -/
  defectBase : Nat := 0
  /-- R232 | spec | entry count of the committed map; none before the first commit -/
  mapCount : Option Nat := none
  /-- R232 | spec | committed map is in the second 16 MiB buffer of the region -/
  mapSecond : Bool := false
  /-- R234 | DC27 | DYN_ABS -/
  dynAbs : Nat := 0
  /-- R234 | DC27 | DYN_REL -/
  dynRel : Nat := 0
  /-- R234 | DC27 | DYN_HOT -/
  dynHot : Bool := false
  /-- R234 | DC27 | DYN_COLD -/
  dynCold : Bool := false
  deriving DecidableEq, Repr, Inhabited

/-- Per-context sensor corrections, stages 5 to 7 (R235 to R238). -/
structure CtxCorr where
  /-- R235 | spec | shading enabled -/
  shOn : Bool := false
  /-- R235 | DC27 | four grids of 65 x 33 gains -/
  shading : List Nat := []
  /-- R236 | spec | WB per channel -/
  wb : Vector Nat 4 := #v[0x1000, 0x1000, 0x1000, 0x1000]
  /-- R237 | spec | noise reduction enabled -/
  nrOn : Bool := false
  /-- R237 | DC27 | NR_A -/
  nrA : Nat := 0
  /-- R237 | DC27 | NR_B -/
  nrB : Nat := 0
  /-- R237 | DC27 | NR_K -/
  nrK : Nat := 1
  /-- R237 | DC27 | NR_STRENGTH -/
  nrStrength : Nat := 0
  deriving DecidableEq, Repr, Inhabited

/-- Colour settings of a context (R245 to R256). -/
structure Colour where
  /-- R245 | DC28 | DM_MODE -/
  dmMode : BitVec 2 := 0
  /-- R247 | DC28 | DM_FC -/
  dmFc : Nat := 0
  /-- R249 | spec | input matrix, row-major -/
  matrix : List Int := [65536, 0, 0, 0, 65536, 0, 0, 0, 65536]
  /-- R249 | spec | offsets -/
  offs : List Int := [0, 0, 0]
  /-- R249 | spec | LUT_ON -/
  lutOn : Bool := false
  /-- R254 | DC28 | LUT_ID -/
  lutId : Nat := 0
  /-- R251 | DC28 | three shaper tables of 4,096 entries, R then G then B -/
  shaper : List Nat := []
  /-- R256 | DC28 | WORK_GAMUT -/
  workGamut : Nat := 0
  deriving DecidableEq, Repr, Inhabited

/-- State of a tap buffer (R274, R277). -/
inductive BufState where
  | free | writing | ready | held
  deriving DecidableEq, Repr, Inhabited

/-- One buffer of a tap ring (R274 to R278). -/
structure TapBuf where
  /-- R274 | spec | state -/
  st : BufState := .free
  /-- R278 | spec | FRAME of its record -/
  frame : Count64 := noPoint
  /-- R278 | spec | SEQ of its record -/
  seq : Count64 := 0
  /-- R277 | spec | held by the host -/
  hostHold : Bool := false
  /-- R277 | spec | rings through which the host hold was taken: 0b01 half A, 0b10 half B -/
  holdVia : BitVec 2 := 0
  /-- R277 | spec | VCU sessions holding it -/
  vcuHolds : List Nat := []
  /-- R277 | spec | held by the viewfinder engine -/
  vfHold : Bool := false
  deriving DecidableEq, Repr, Inhabited

/-- A tap's ring in one half (R273). -/
structure TapRing where
  /-- R273 | spec | BUF_COUNT -/
  count : Nat := 0
  /-- R273 | spec | BUF_BASE -/
  base : Nat := 0
  /-- R273 | spec | BUF_STRIDE in 4 KiB units -/
  stride : Nat := 0
  /-- R273 | spec | PITCH0 -/
  pitch0 : Nat := 0
  /-- R273 | spec | PITCH1 -/
  pitch1 : Nat := 0
  /-- R273 | spec | PLANE1_OFF in 64-byte units -/
  plane1 : Nat := 0
  /-- R273 | spec | PLANE2_OFF in 64-byte units -/
  plane2 : Nat := 0
  /-- R273 | spec | REC_BASE -/
  recBase : Nat := 0
  /-- R274 | spec | buffer states -/
  bufs : List TapBuf := []
  deriving DecidableEq, Repr, Inhabited

/-- Counts of a tap in one half (R284). -/
structure TapCounts where
  /-- R284 | spec | LAST_FRAME -/
  lastFrame : Count64 := noPoint
  /-- R284 | spec | SEQ -/
  seq : Count64 := 0
  /-- R284 | spec | SKIPPED -/
  skipped : Word := 0
  /-- R284 | spec | RECLAIMED -/
  reclaimed : Word := 0
  /-- R284 | spec | CLIP_FRAMES -/
  clipFrames : Word := 0
  /-- R275 | spec | the last frame was skipped -/
  skipping : Bool := false
  deriving DecidableEq, Repr, Inhabited

/-- Settings of a tap (R257 to R271). -/
structure TapCfg where
  /-- R258 | spec | ENABLE -/
  enable : Bool := false
  /-- R269 | DC28 | FORMAT -/
  format : Nat := 0
  /-- R268 | DC28 | RANGE -/
  full : Bool := false
  /-- R267 | DC28 | YCC -/
  ycc : Bool := false
  /-- R265 | DC28 | TF -/
  tf : Nat := 0
  /-- R264 | DC28 | GAMUT -/
  gamut : Nat := 0
  /-- R261 | DC28 | FILTER -/
  filter : Nat := 0
  /-- R277 | DC28 | HOST_HOLD -/
  hostHold : Bool := false
  /-- R279 | DC28 | REPORT -/
  report : Nat := 0
  /-- R279 | DC28 | REPORT_LOG2 -/
  reportLog2 : Nat := 0
  /-- R258 | DC28 | CX -/
  cx : Nat := 0
  /-- R258 | DC28 | CY -/
  cy : Nat := 0
  /-- R258 | DC28 | CW -/
  cw : Nat := 1
  /-- R258 | DC28 | CH -/
  ch : Nat := 1
  /-- R258 | DC28 | OW -/
  ow : Nat := 2
  /-- R258 | DC28 | OH -/
  oh : Nat := 2
  /-- R265 | DC28 | TF_PARAM -/
  tfParam : Nat := 0
  /-- R264 | DC28 | custom matrix and offsets, 12 values -/
  customMatrix : List Int := []
  /-- R265 | DC28 | custom TF table -/
  customTf : List Nat := []
  /-- R261 | DC28 | custom coefficients, phase-major -/
  customCoef : List Int := []
  deriving DecidableEq, Repr, Inhabited

/-- A tap record of a span context's lead that is written and awaits the other half's (R279). -/
structure TapWritten where
  /-- R278 | spec | FRAME -/
  f : Count64 := 0
  /-- R274 | spec | buffer -/
  buf : Nat := 0
  /-- R278 | spec | PFLAGS -/
  pflags : Word := 0
  /-- R278 | spec | SEQ -/
  seq : Count64 := 0
  /-- R262 | spec | OUT_SPLIT -/
  split : Nat := 0
  /-- R278 | spec | host mark -/
  mark : Option Count64 := none
  /-- R210 | spec | tap settings of the frame -/
  cfg : TapCfg := {}
  deriving DecidableEq, Repr, Inhabited

/-- One tap of a context (R257). -/
structure Tap where
  /-- R258 | spec | settings in force -/
  cfg : TapCfg := {}
  /-- R273 | spec | ring in half A -/
  ringA : Option TapRing := none
  /-- R273 | spec | ring in half B -/
  ringB : Option TapRing := none
  /-- R284 | spec | counts in half A -/
  cntA : TapCounts := {}
  /-- R284 | spec | counts in half B -/
  cntB : TapCounts := {}
  /-- R279 | spec | span tap, at the lead: records of the other half's part that are written, frame and buffer -/
  peerWritten : List (Count64 × Nat) := []
  /-- R279 | spec | span tap, at the lead: records of its own part that await the other half's -/
  ownWritten : List TapWritten := []
  deriving DecidableEq, Repr, Inhabited

/-- Context states (R206). -/
inductive CtxState where
  | closed | open_ | starting | running | stopping
  deriving DecidableEq, Repr, Inhabited

/-- A source of a context (R204). -/
structure Source where
  /-- R204 | spec | stream number -/
  stream : Nat := 0
  /-- R204 | spec | X_OFFSET -/
  x : Nat := 0
  /-- R204 | spec | Y_OFFSET -/
  y : Nat := 0
  /-- R205 | spec | FN_OFFSET -/
  fnOffset : Int := 0
  deriving DecidableEq, Repr, Inhabited

/-- A statistics setup of a context (R288 to R292). -/
structure StatCfg where
  /-- R288 | spec | ENABLE -/
  enable : Bool := false
  /-- R288 | DC29 | the STAT_CONFIGURE parameter dwords in force, from dword 2 -/
  params : List Word := []
  deriving DecidableEq, Repr, Inhabited

/-- A span frame's sums at the lead that await the other half's (R291). -/
structure StatOwn where
  /-- R289 | spec | FRAME -/
  f : Count64 := 0
  /-- R289 | spec | PFLAGS -/
  pflags : Word := 0
  /-- R289 | spec | host mark -/
  mark : Option Count64 := none
  /-- R304 | spec | the record is to be written with STALE -/
  stale : Bool := false
  /-- R285 | spec | setup of the frame -/
  cfg : StatCfg := {}
  /-- R291 | spec | sums and counts -/
  sums : List Byte := []
  deriving DecidableEq, Repr, Inhabited

/-- Settings latched at a frame's first admission (R210). -/
structure Latched where
  /-- R210 | spec | stages 5 to 7 -/
  corr : CtxCorr := {}
  /-- R210 | spec | colour -/
  colour : Colour := {}
  /-- R210 | spec | tap settings -/
  taps : List TapCfg := []
  /-- R210 | spec | stream corrections, per source in the order half A 0 to 7, half B 0 to 7 -/
  streams : List (Nat × StreamCorr) := []
  /-- R275 | spec | buffer chosen per tap; none = tap writes nothing -/
  bufs : List (Option Nat) := []
  /-- R227 | spec | black levels in force, per source stream: four channels -/
  black : List (Nat × List Int) := []
  /-- R239 | spec | PFLAGS given at the first admission: LAG_SKIP, SETTINGS_CHANGED -/
  pflags : Word := 0
  /-- R285 | spec | statistics setup latched -/
  stat : StatCfg := {}
  /-- R278 | spec | host mark of the reference source's frame, once the reference half has finished -/
  mark : Option Count64 := none
  /-- R212 | spec | halves in which the frame has finished: bit 0 half A, bit 1 half B -/
  done : BitVec 2 := 0
  deriving DecidableEq, Repr, Inhabited

/-- A frame of a context in one half, from its first stored line to its last unit (R212, R217, R219). -/
structure CtxFrame where
  /-- R205 | spec | context frame F -/
  f : Count64 := 0
  /-- R219 | spec | taken from the Quarry -/
  quarry : Bool := false
  /-- R239 | spec | PFLAGS so far -/
  pflags : Word := 0
  /-- R217 | spec | lines stored: stream, row, pixels -/
  lines : List (Nat × Nat × List Nat) := []
  /-- R223 | spec | seam band rows received: row, 64 pixels -/
  band : List (Nat × List (BitVec 16)) := []
  /-- R212 | spec | the other half has been told that this side is closed in the Quarry -/
  sideSent : Bool := false
  /-- R207 | spec | next unit to be admitted -/
  nextUnit : Nat := 0
  /-- R207 | spec | units finished -/
  unitsDone : Nat := 0
  /-- R221 | spec | blocks handed to the decoders for this frame -/
  fed : Bool := false
  /-- R215 | spec | counted in STARVED_FRAMES -/
  starvedCounted : Bool := false
  /-- R217 | spec | rows the running unit has processed -/
  rowsDone : Nat := 0
  /-- R221 | spec | decoded blocks from the Quarry: stream, block number, pixels -/
  decoded : List (Nat × Nat × List Nat) := []
  /-- R192 | spec | corrupt blocks met: stream, block number -/
  corrupt : List (Nat × Nat) := []
  /-- R220 | spec | sources that were not CAPTURING when F closed -/
  missed : List Nat := []
  /-- R239 | spec | FLAGS of the source frames as ingest closed them, by stream -/
  srcFlags : List (Nat × Word) := []
  /-- R278 | spec | host mark of the reference source's frame, while it is not stored -/
  mark : Option Count64 := none
  deriving DecidableEq, Repr, Inhabited

/-- Counts of a context in one half (R243). -/
structure CtxCounts where
  /-- R243 | spec | DYN_DEFECTS -/
  dynDefects : Word := 0
  /-- R243 | spec | LAST_FRAME -/
  lastFrame : Count64 := noPoint
  /-- R243 | spec | FRAMES_DONE -/
  framesDone : Word := 0
  /-- R243 | spec | FALLBACKS -/
  fallbacks : Word := 0
  /-- R243 | spec | LAG_SKIPPED -/
  lagSkipped : Word := 0
  /-- R243 | spec | SOURCE_LOST -/
  sourceLost : Word := 0
  /-- R243 | spec | STARVED_FRAMES -/
  starvedFrames : Word := 0
  /-- R243 | spec | SWITCHES -/
  switches : Word := 0
  /-- R243 | spec | BORROWED -/
  borrowed : Word := 0
  /-- R243 | spec | LS_PEAK -/
  lsPeak : BitVec 16 := 0
  /-- R243 | spec | UNREPAIRED -/
  unrepaired : Word := 0
  deriving DecidableEq, Repr, Inhabited

/-- A context's part in one half (R211, R213, R217). -/
structure CtxHalf where
  /-- R211 | spec | slot mask in force -/
  mask : BitVec 64 := BitVec.allOnes 64
  /-- R213 | spec | PRIORITY in force -/
  prio : BitVec 3 := 4
  /-- R204 | spec | sources 0 to 7 of this half -/
  sources : Vector (Option Source) 8 := Vector.replicate 8 none
  /-- R217 | spec | line-store share in MiB -/
  share : Nat := 0
  /-- R212 | spec | frames waiting or in progress, oldest first -/
  frames : List CtxFrame := []
  /-- R227 | spec | black levels B_c per source stream, kept from frame to frame -/
  black : List (Nat × List Int) := []
  /-- R243 | spec | counts -/
  counts : CtxCounts := {}
  /-- R215 | spec | PIPE_STARVED raised since the last mask change -/
  starvedRaised : Bool := false
  /-- R21 | spec | span admission stopped by Mortar DOWN until the context is started again -/
  held : Bool := false
  /-- R212 | spec | frames whose other side is reported closed in its Quarry -/
  peerSides : List Count64 := []
  deriving DecidableEq, Repr, Inhabited

/-- One pipeline context, by its name 0 to 31 (R202 to R206). -/
structure Context where
  /-- R206 | spec | CSTATE -/
  st : CtxState := .closed
  /-- R202 | spec | CLASS: span -/
  span : Bool := false
  /-- R202 | spec | half of a slice context -/
  half : Half := .A
  /-- R241 | spec | SOURCE_KIND is Quarry -/
  quarry : Bool := false
  /-- R225 | spec | CFA -/
  cfa : Nat := 0
  /-- R223 | spec | SEAM_X -/
  seamX : Nat := 0
  /-- R204 | spec | WIDTH -/
  width : Nat := 0
  /-- R204 | spec | HEIGHT -/
  height : Nat := 0
  /-- R241 | spec | ACTIVE_X -/
  ax : Nat := 0
  /-- R241 | spec | ACTIVE_Y -/
  ay : Nat := 0
  /-- R241 | spec | ACTIVE_W -/
  aw : Nat := 0
  /-- R241 | spec | ACTIVE_H -/
  ah : Nat := 0
  /-- R205 | spec | DIVISOR -/
  divisor : Nat := 1
  /-- R222 | spec | MAX_LAG -/
  maxLag : Nat := 0
  /-- R202 | spec | part in half A -/
  ha : CtxHalf := {}
  /-- R202 | spec | part in half B -/
  hb : CtxHalf := {}
  /-- R236 | spec | stages 5 to 7 -/
  corr : CtxCorr := {}
  /-- R249 | spec | colour -/
  colour : Colour := {}
  /-- R257 | spec | taps -/
  taps : Vector Tap 12 := Vector.replicate 12 {}
  /-- R221 | spec | play: next frame to develop; none = follow -/
  play : Option Count64 := none
  /-- R221 | spec | COUNT of play turns left; none = until stopped -/
  playLeft : Option Nat := none
  /-- R221 | spec | frames played and skipped so far -/
  played : Nat := 0
  /-- R221 | spec | frames skipped so far in this play -/
  skipped : Nat := 0
  /-- R217 | spec | first frame it may take: those opened after it left OPEN -/
  from_ : Option Count64 := none
  /-- R210 | spec | frames admitted in a half it occupies and not finished in each: what was latched for them -/
  latched : List (Count64 × Latched) := []
  /-- R288 | spec | statistics -/
  stat : StatCfg := {}
  /-- R288 | spec | SEQ of the newest statistics record -/
  statSeq : Count64 := 0
  /-- R291 | spec | span, at the lead: its own sums of frames that await the other half's -/
  statOwn : List StatOwn := []
  /-- R291 | spec | span, at the lead: sums that half B has sent, by frame -/
  statPeer : List (Count64 × List Byte) := []
  deriving DecidableEq, Repr, Inhabited

/-- The unit in the pipeline (R208, R213). -/
structure RunUnit where
  /-- R213 | spec | context name -/
  ctx : Nat := 0
  /-- R213 | spec | frame -/
  f : Count64 := 0
  /-- R207 | spec | stripe number -/
  k : Nat := 0
  /-- R208 | spec | pipeline cycles it occupies, context switch included -/
  cycles : Nat := 0
  deriving DecidableEq, Repr, Inhabited

/-- One LUT of the bank (R252, R254, R255). -/
structure Lut where
  /-- R254 | spec | 65-node size -/
  big : Bool := false
  /-- R255 | spec | LOAD_SEQ -/
  loadSeq : Word := 0
  /-- R255 | spec | command that loaded it: identity shared by both halves of one load -/
  loadId : Nat := 0
  /-- R255 | spec | source region -/
  src : Nat := 0
  /-- R252 | spec | nodes (r, g, b) in entry order -/
  nodes : List (Nat × Nat × Nat) := []
  deriving DecidableEq, Repr, Inhabited

/-- The pipeline of one half (R211 to R217, R254). -/
structure Pipe where
  /-- R211 | spec | slot pointer -/
  slot : Nat := 0
  /-- R211 | spec | SLOT_CYCLES -/
  slotCycles : Nat := 12000
  /-- R213 | spec | unit in the pipeline -/
  running : Option RunUnit := none
  /-- R213 | spec | context of the last admitted unit -/
  lastCtx : Option Nat := none
  /-- R254 | spec | LUT bank by LUT_ID 0 to 15 -/
  luts : Vector (Option Lut) 16 := Vector.replicate 16 none
  /-- R255 | spec | loads running, oldest first: LUT_ID, 65-node size, source region, and the submission that loads -/
  loading : List (Nat × Bool × Nat × Nat) := []
  /-- R255 | DC28 | LOAD_SEQ of the newest completed load -/
  loadSeq : Word := 0
  deriving DecidableEq, Repr, Inhabited

end Sys2Proof.Machine
end

