-- ==== Sys2Proof/Machine/StateStat.lean ====
section
/-! DEFINITION. The state of the content triggers and of the trim service (chapter 08). -/

namespace Sys2Proof.Machine

/-- One of the 16 content triggers (R294 to R296). -/
structure ContentTrig where
  /-- R294 | spec | ENABLE -/
  enable : Bool := false
  /-- R294 | DC30 | CONTEXT -/
  ctx : Nat := 0
  /-- R294 | DC30 | POLARITY -/
  polarity : Nat := 0
  /-- R294 | DC30 | X0 -/
  x0 : Nat := 0
  /-- R294 | DC30 | X1 -/
  x1 : Nat := 0
  /-- R294 | DC30 | Y0 -/
  y0 : Nat := 0
  /-- R294 | DC30 | Y1 -/
  y1 : Nat := 0
  /-- R294 | DC30 | THRESH -/
  thresh : Nat := 1
  /-- R294 | DC30 | COUNT_MIN -/
  countMin : Nat := 1
  /-- R295 | DC30 | PERSIST -/
  persist : Nat := 1
  /-- R295 | spec | armed -/
  armed : Bool := false
  /-- R295 | spec | consecutive evaluated records on which the condition has held -/
  run : Nat := 0
  deriving DecidableEq, Repr, Inhabited

/-- The latest statistics record of a context with STALE = 0, and the fields the next record needs (R287, R304). -/
structure StatLast where
  /-- R287 | spec | frame P -/
  frame : Count64 := 0
  /-- R287 | spec | zone luminances Z_P, by zone number -/
  zones : List Nat := []
  /-- R304 | spec | the record's body bytes 0x100 to 0x178FF -/
  body : List Byte := []
  deriving DecidableEq, Repr, Inhabited

/-- States of a trim cycle (R298). -/
inductive TrimState where
  | idle | measuring | checking | staged | commitPending
  deriving DecidableEq, Repr, Inhabited

/-- One trim instance (R297 to R310); kept in AON retention SRAM but for staged values and runs (R308). -/
structure TrimInst where
  /-- R298 | spec | TSTATE -/
  st : TrimState := .idle
  /-- R310 | spec | committed values; none before the first commit -/
  committed : Option TrimVals := none
  /-- R297 | spec | staged values -/
  staged : Option TrimVals := none
  /-- R308 | spec | RETAINED_ONLY -/
  retainedOnly : Bool := false
  /-- R308 | spec | WIDTH, HEIGHT, DEPTH of the retained values -/
  geom : Option (Nat × Nat × Nat) := none
  /-- R310 | spec | FAILS -/
  fails : Word := 0
  /-- R310 | spec | COMMIT_POINT -/
  commitPoint : Count64 := noPoint
  /-- R310 | spec | MEASURE_POINT -/
  measurePoint : Count64 := noPoint
  /-- R310 | spec | COMMITS -/
  commits : Word := 0
  /-- R300 | spec | L0 set by policy; none = default -/
  l0 : Option Word := none
  /-- R300 | spec | L1 set by policy; none = default -/
  l1 : Option Word := none
  /-- R300 | spec | L2 set by policy; none = default -/
  l2 : Option Word := none
  /-- R297 | DC31 | AUTO -/
  auto : Bool := true
  /-- R297 | DC31 | PERIOD as set; 0 = the domain's default -/
  period : Word := 0
  /-- R309 | spec | command that measures -/
  cmd : Option Cmd := none
  /-- R309 | spec | AUTO_COMMIT of the run -/
  autoCommit : Bool := false
  /-- R300 | spec | domain 3: the run's check has been made and the retrain it belongs to is still under way -/
  checked : Bool := false
  deriving DecidableEq, Repr, Inhabited

/-- A run of the trim accumulator for one stream (R301). -/
structure Accum where
  /-- R301 | spec | command -/
  cmd : Cmd
  /-- R301 | spec | domains measured: bit 0 domain 1, bit 1 domain 2 -/
  domains : BitVec 2 := 0
  /-- R301 | spec | frames wanted -/
  n : Nat := 1
  /-- R301 | spec | clean frames taken -/
  taken : Nat := 0
  /-- R301 | spec | flagged frames passed over -/
  passed : Nat := 0
  /-- R310 | spec | first frame taken -/
  first : Option Count64 := none
  /-- R301 | spec | the stream frame at which the measurement begins -/
  start : Option Count64 := none
  /-- R309 | spec | domains that have staged, then domains that have failed -/
  staged : BitVec 2 := 0
  /-- R309 | spec | domains that have failed -/
  failed : BitVec 2 := 0
  /-- R309 | spec | limit that a domain failed -/
  failLimit : BitVec 16 := 0xFFFF
  deriving DecidableEq, Repr

/-- The trim service of the device (R297). -/
structure Trim where
  /-- R297 | spec | domain 1, by stream -/
  d1 : Vector TrimInst 64 := Vector.replicate 64 { auto := false }
  /-- R297 | spec | domain 2, by stream -/
  d2 : Vector TrimInst 64 := Vector.replicate 64 { auto := false }
  /-- R297 | spec | domain 3, by link -/
  d3 : Vector TrimInst 32 := Vector.replicate 32 {}
  /-- R297 | spec | domain 4, by channel -/
  d4 : Vector TrimInst 16 := Vector.replicate 16 {}
  /-- R297 | spec | domain 5, by half -/
  d5 : Vector TrimInst 2 := Vector.replicate 2 {}
  /-- R301 | spec | accumulators at work, by stream -/
  accums : List (Nat × Accum) := []
  /-- R304 | spec | frames taken by the newest measurement of a stream, at most 256: stream and frame number -/
  taken : List (Nat × Count64) := []
  deriving DecidableEq, Repr

end Sys2Proof.Machine
end

