-- ==== Sys2Proof/Machine/StateSys.lean ====
section
/-! DEFINITION. The state of boot, flash, supplies, clocks, thermal limits, resets and pins (chapters 14 to 16). -/

namespace Sys2Proof.Machine

/-- What the spec lets the device know of the image in a flash bank (R472, R487). -/
structure Bank2 where
  /-- R472 | spec | mark: 0 unverified, 1 valid, 2 invalid -/
  mark : BitVec 2 := 0
  deriving DecidableEq, Repr, Inhabited

/-- A flash write in progress or waiting for a guard (R500, R541). -/
structure FlashJob where
  /-- R541 | spec | the command -/
  cmd : Cmd := default
  /-- R541 | spec | its opcode -/
  op : Op := default
  /-- R473 | spec | RESULT0 of its completion: the length of a swap's clearing -/
  res0 : Word := 0
  /-- R486 | spec | bank that a DEV_FW_ACTIVATE selects -/
  bank : Bool := false
  /-- R541 | spec | half that carries it out -/
  half : Half := .A
  /-- R500 | spec | 4 KiB pieces still to program: address and bytes, in order -/
  pieces : List (Nat × List Byte) := []
  /-- R375 | spec | what a MEM_SAVE_TRAINING saves -/
  training : Option SavedTraining := none
  /-- R500 | spec | a piece is being programmed -/
  busy : Bool := false
  deriving DecidableEq, Repr, Inhabited

/-- A live swap (R473). -/
structure LiveSwap where
  /-- R473 | spec | the DEV_FW_ACTIVATE command -/
  cmd : Cmd := default
  /-- R473 | spec | half that carries it out -/
  half : Half := .A
  /-- R473 | spec | PERSIST -/
  persist : Bool := false
  /-- R473 | spec | STAGE_A -/
  stageA : Nat := 0
  /-- R473 | spec | STAGE_B -/
  stageB : Nat := 0
  /-- R473 | spec | step: 1 copying, 2 waiting for a clearing, 3 in the clearing -/
  step : Nat := 1
  /-- R473 | spec | events logged in the clearing, to be written to their rings: port, record -/
  events : List (Half × EventRec) := []
  /-- R473 | spec | completions of the clearing, to be posted: ring, completion -/
  posts : List (Nat × Completion) := []
  deriving DecidableEq, Repr, Inhabited

/-- Supplies, thermal state and AVS of one half (R496 to R508). -/
structure HalfSys where
  /-- R508 | spec | GUARD -/
  guard : Bool := false
  /-- R500 | spec | rails below their warning level: bits 0 to 7 as RAIL, bit 8 VDD_AON -/
  railLow : BitVec 9 := 0
  /-- R508 | spec | STEP -/
  step : BitVec 3 := 0
  /-- R508 | spec | SHED -/
  shed : BitVec 4 := 0
  /-- R505 | spec | islands in the order in which they were shed -/
  shedOrder : List Nat := []
  /-- R508 | spec | HOTTEST -/
  hottest : BitVec 4 := 0
  /-- R508 | spec | AVS_FAULT -/
  avsFault : Bool := false
  /-- R498 | spec | consecutive AVSBus transactions not answered -/
  avsMisses : Nat := 0
  /-- R508 | spec | T_MAX, signed, 1/16 C -/
  tMax : Int := 0
  /-- R508 | spec | VCORE_TARGET, mV -/
  vcore : Nat := 800
  /-- R497 | spec | a lowering deferred by the guard: target, mV -/
  deferred : Option Nat := none
  /-- R508 | spec | ICORE, 0.1 A -/
  icore : BitVec 16 := 0
  /-- R508 | spec | LAST_RESET -/
  lastReset : BitVec 4 := 0
  /-- R508 | spec | TEMP: reading and STALE of each sensor -/
  temp : Vector (Int × Bool) 12 := Vector.replicate 12 (0, false)
  /-- R508 | spec | RAIL: mV and STALE of each rail -/
  rail : Vector (Nat × Bool) 8 := Vector.replicate 8 (0, false)
  /-- R508 | spec | DIPS -/
  dips : Word := 0
  /-- R508 | spec | THROTTLE_ENTRIES -/
  throttleEntries : BitVec 16 := 0
  /-- R508 | spec | SHEDS -/
  sheds : BitVec 16 := 0
  /-- R508 | spec | WARM_RESETS -/
  warmResets : BitVec 8 := 0
  /-- R508 | spec | HALF_RESETS -/
  halfResets : BitVec 8 := 0
  /-- R508 | spec | ISLAND_RESETS -/
  islandResets : BitVec 8 := 0
  /-- R508 | spec | WATCHDOGS -/
  watchdogs : BitVec 8 := 0
  /-- R507 | spec | THROTTLE_AT, C -/
  throttleAt : Nat := 100
  /-- R507 | spec | SHED_AT, C -/
  shedAt : Nat := 112
  /-- R507 | spec | SHED_MASK -/
  shedMask : BitVec 4 := 0xF
  /-- R503 | spec | consecutive readings below THROTTLE_AT - 3 C -/
  coolReadings : Nat := 0
  /-- R503 | spec | readings since the last change of the throttle step, at most 10 -/
  sinceStep : Nat := 10
  /-- R505 | spec | consecutive readings below SHED_AT - 4 C -/
  unshedReadings : Nat := 0
  /-- R505 | spec | readings since the last change of shedding, at most 10 -/
  sinceShed : Nat := 10
  /-- R478 | spec | the half is in a half reset or a wider one -/
  inReset : Bool := false
  /-- R547 | spec | the half's boot ROM runs after its reset -/
  bootRom : Bool := true
  /-- R496 | PRESUMED 42 | telemetry read over PMBus, by regulator address index: eight words -/
  pmbus : Vector Word 8 := Vector.replicate 8 0
  /-- R509 | spec | kind of the last reset, for DEV_RESET_DONE: 1 half, 2 warm, 3 power-on -/
  resetKind : BitVec 2 := 3
  deriving DecidableEq, Repr, Inhabited

/-- Device-wide boot, flash, clock and pin state (R478 to R506, R541). -/
structure DevSys where
  /-- R11 | spec | HALF_ID level as sampled: half B leads -/
  halfId : Bool := false
  /-- R486 | DC43 | flash contents, 64 MiB; an erased byte reads 0xFF -/
  flash : Memory := {}
  /-- R375 | DC43 | training areas of half A and half B; none = not valid -/
  saved : Vector (Option SavedTraining) 2 := Vector.replicate 2 none
  /-- R472 | spec | marks of banks 0 and 1 -/
  banks : Vector Bank2 2 := Vector.replicate 2 {}
  /-- R486 | spec | boot selector in force: SEQ; none = neither copy valid -/
  selSeq : Option Word := none
  /-- R486 | DC43 | boot selector in force: BOOT_BANK -/
  selBank : Bool := false
  /-- R486 | DC43 | boot selector in force: PERSISTED -/
  selPersisted : Bool := false
  /-- R489 | spec | bank being booted -/
  bootBank : Bool := false
  /-- R489 | spec | banks that have failed in this boot -/
  failed : BitVec 2 := 0
  /-- R488 | spec | boot step reached: 1 waits for the rails, 3 boot ROMs run, 8 firmware runs, 9 stays in the boot ROM -/
  bootStep : Nat := 1
  /-- R488 | spec | the half that does not lead reads the flash itself, because the Mortar link did not train in time -/
  selfRead : Bool := false
  /-- R490 | spec | boot watchdog misses in this boot -/
  bootMisses : Nat := 0
  /-- R488 | spec | halves whose boot ROM has verified header and resident part -/
  verified : BitVec 2 := 0
  /-- R541 | spec | flash writes, oldest first -/
  jobs : List FlashJob := []
  /-- R472 | spec | DEV_FW_VERIFY commands in progress with the half that carries each out, oldest first -/
  verifyCmd : List (Cmd × Half) := []
  /-- R473 | spec | live swap in progress -/
  swap : Option LiveSwap := none
  /-- R480 | spec | DEV_RESET scheduled: SCOPE -/
  devReset : List (BitVec 2) := []
  /-- R479 | spec | WARM_RESET_N held low -/
  warmHeld : Bool := false
  /-- R495 | spec | SYS_CLK lost -/
  sysClkLost : Bool := false
  /-- R506 | spec | THERMTRIP_N driven low: every clock stopped, outputs high impedance -/
  tripped : Bool := false
  /-- R29 | PRESUMED 44 | TRIG_IN levels -/
  trigIn : BitVec 4 := 0
  /-- R147 | spec | TRIG_OUT pulses in progress -/
  trigOut : BitVec 4 := 0
  /-- R478 | model | free-value counter (the model's own field) -/
  fresh : Nat := 0
  deriving DecidableEq, Repr, Inhabited

end Sys2Proof.Machine
end

