-- ==== Sys2Proof/Machine/StateVcu.lean ====
section
/-! DEFINITION. The state of the video codec units (chapter 09). -/

namespace Sys2Proof.Machine

/-- Session states (R315). -/
inductive SessState where
  | closed | open_ | starting | running | stopping | draining
  deriving DecidableEq, Repr, Inhabited

/-- Session parameters of VCU_OPEN_SESSION (R311 to R337). -/
structure SessCfg where
  /-- R314 | spec | DIR: decode -/
  decode : Bool := false
  /-- R311 | spec | CODEC: AVC -/
  avc : Bool := false
  /-- R314 | spec | HALF: 1 A, 2 B, 3 split -/
  half : BitVec 2 := 0
  /-- R331 | spec | SPLIT_KIND: slices -/
  slices : Bool := false
  /-- R337 | spec | REF_MODE: compatibility -/
  compat : Bool := false
  /-- R317 | spec | INPUT: host -/
  hostInput : Bool := false
  /-- R311 | spec | TIER: High -/
  highTier : Bool := false
  /-- R311 | spec | PROFILE -/
  profile : Nat := 0
  /-- R311 | spec | LEVEL -/
  level : Nat := 0
  /-- R312 | spec | WIDTH -/
  width : Nat := 0
  /-- R312 | spec | HEIGHT -/
  height : Nat := 0
  /-- R331 | spec | SPLIT_POS -/
  splitPos : Nat := 0
  /-- R317 | spec | CONTEXT -/
  ctx : Nat := 0
  /-- R317 | spec | TAP -/
  tap : Nat := 0
  /-- R313 | spec | RATE_NUM -/
  rateNum : Nat := 1
  /-- R313 | spec | RATE_DEN -/
  rateDen : Nat := 1
  /-- R320 | spec | GOP_LEN -/
  gopLen : Nat := 1
  /-- R320 | spec | B_FRAMES -/
  bFrames : Nat := 0
  /-- R320 | spec | NUM_REF -/
  numRef : Nat := 1
  /-- R323 | spec | MARK_SEI -/
  markSei : Bool := false
  /-- R337 | spec | DPB -/
  dpb : Nat := 1
  /-- R328 | spec | QP_MIN -/
  qpMin : Nat := 0
  /-- R328 | spec | QP_MAX -/
  qpMax : Nat := 51
  /-- R322 | spec | GAMUT, TF, YCC, RANGE of host input -/
  colour : BitVec 8 := 0
  /-- R337 | spec | REF_A -/
  refA : Nat := 0
  /-- R337 | spec | REF_A_SIZE -/
  refASize : Nat := 0
  /-- R337 | spec | REF_B -/
  refB : Nat := 0
  /-- R337 | spec | REF_B_SIZE -/
  refBSize : Nat := 0
  deriving DecidableEq, Repr, Inhabited

/-- Rate setting (R326, R330). -/
structure RateCfg where
  /-- R326 | spec | MODE -/
  mode : Nat := 0
  /-- R326 | spec | HRD -/
  hrd : Bool := false
  /-- R326 | spec | TARGET_KBPS -/
  target : Nat := 0
  /-- R326 | spec | MAX_KBPS -/
  maxRate : Nat := 0
  /-- R326 | spec | CPB_KBITS -/
  cpb : Nat := 0
  /-- R326 | spec | INIT_FULL -/
  initFull : Nat := 1
  /-- R326 | spec | QP_I, QP_P, QP_B -/
  qpI : Nat := 0
  /-- R326 | spec | QP_P -/
  qpP : Nat := 0
  /-- R326 | spec | QP_B -/
  qpB : Nat := 0
  /-- R327 | spec | MAX_PIC_KBITS -/
  maxPic : Nat := 0
  deriving DecidableEq, Repr, Inhabited

/-- Output rings of a session (R340, R348). -/
structure SessOut where
  /-- R340 | spec | SPACE: half DRAM -/
  inDram : Bool := false
  /-- R340 | spec | REPORT -/
  report : Bool := false
  /-- R340 | spec | DATA_BASE or BUF_BASE -/
  base : Nat := 0
  /-- R340 | spec | DATA_LOG2 or BUF_STRIDE -/
  size : Nat := 0
  /-- R340 | spec | REC_LOG2 or BUF_COUNT -/
  recs : Nat := 0
  /-- R340 | spec | REC_BASE -/
  recBase : Nat := 0
  deriving DecidableEq, Repr, Inhabited

/-- Pool mark entry (R338), also used for the decoded picture buffer in native mode. -/
structure Mark where
  /-- R338 | spec | REF: 0 unused, 1 short-term, 2 long-term -/
  ref : BitVec 2 := 0
  /-- R338 | spec | OUTPUT_PENDING -/
  outputPending : Bool := false
  /-- R338 | spec | HOST_HELD -/
  hostHeld : Bool := false
  /-- R338 | spec | CONCEALED -/
  concealed : Bool := false
  /-- R339 | spec | IN_USE -/
  inUse : Bool := false
  /-- R338 | spec | POC -/
  poc : Int := 0
  /-- R338 | spec | NUMBER -/
  number : Count64 := noPoint
  deriving DecidableEq, Repr, Inhabited

/-- A picture an encode session holds (R318, R319). -/
structure EncPic where
  /-- R320 | spec | F, or PIC_NUMBER -/
  f : Count64 := 0
  /-- R318 | spec | tap buffer held; none for host input -/
  buf : Option Nat := none
  /-- R319 | spec | VCU_SUBMIT_PICTURE that gave it -/
  cmd : Option Cmd := none
  /-- R319 | spec | FORCE_IDR -/
  forceIdr : Bool := false
  /-- R323 | spec | host mark -/
  mark : Option Count64 := none
  /-- R341 | spec | PFLAGS of the source tap record -/
  pflags : Word := 0
  deriving DecidableEq, Repr, Inhabited

/-- The picture being coded (R320, R327 to R329). -/
structure Coding where
  /-- R320 | spec | the picture -/
  pic : EncPic := {}
  /-- R320 | spec | TYPE: 0 I, 1 P, 2 B -/
  ptype : Nat := 0
  /-- R320 | spec | IDR -/
  idr : Bool := false
  /-- R327 | spec | cap in bits -/
  cap : Nat := 0
  /-- R327 | free | target in bits, set by Keystone firmware -/
  target : Nat := 0
  /-- R320 | spec | kept as a reference -/
  isRef : Bool := false
  /-- R339 | spec | pool buffer taken in half A, in compatibility mode -/
  poolA : Option Nat := none
  /-- R339 | spec | pool buffer taken in half B, in compatibility mode -/
  poolB : Option Nat := none
  /-- R351 | spec | coded again after an island reset -/
  again : Bool := false
  /-- R333 | spec | part of half A coded -/
  partA : Option PartResult := none
  /-- R333 | spec | part of half B coded -/
  partB : Option PartResult := none
  /-- R333 | spec | substreams on their way to the lead -/
  owed : Nat := 0
  deriving DecidableEq, Repr, Inhabited

/-- A chunk of VCU_DECODE_DATA in flight (R343, R353). -/
structure Chunk where
  /-- R343 | spec | command -/
  cmd : Cmd
  /-- R343 | spec | bytes read -/
  read : Nat := 0
  /-- R343 | spec | LENGTH -/
  length : Nat := 0
  /-- R343 | spec | AUs started in the chunk -/
  aus : Nat := 0
  /-- R351 | spec | bytes of the chunk before the newest AU that starts in it -/
  auAt : Nat := 0
  /-- R343 | spec | HOST_MARK -/
  mark : Option Count64 := none
  /-- R343 | spec | END -/
  last : Bool := false
  deriving DecidableEq, Repr

/-- A picture of the decoded picture buffer (R345 to R349). -/
structure DecPic where
  /-- R348 | spec | coded video sequence it belongs to, counted by the session -/
  cvs : Nat := 0
  /-- R349 | spec | POC -/
  poc : Int := 0
  /-- R349 | spec | DECODE_NUMBER -/
  decodeNumber : Nat := 0
  /-- R349 | spec | FLAGS -/
  flags : Word := 0
  /-- R349 | spec | CONCEALED_UNITS -/
  units : Nat := 0
  /-- R349 | spec | ERROR_MAP: rows with a concealed unit -/
  rows : List Nat := []
  /-- R349 | spec | HOST_MARK -/
  mark : Option Count64 := none
  /-- R349 | spec | size, cropping, chroma format, bit depth, row unit -/
  seq : SeqInfo := {}
  /-- R348 | spec | luma samples of the coded picture -/
  luma : List Nat := []
  /-- R348 | spec | Cb, Cr pairs of the coded picture -/
  chroma : List Nat := []
  /-- R338 | spec | pool buffer in half A in compatibility mode -/
  poolA : Option Nat := none
  /-- R338 | spec | pool buffer in half B in compatibility mode -/
  poolB : Option Nat := none
  /-- R348 | spec | still to be output -/
  waits : Bool := true
  /-- R346 | spec | REF: 0 unused, 1 short-term, 2 long-term -/
  ref : BitVec 2 := 0
  deriving DecidableEq, Repr, Inhabited

/-- Counts of a session in one half (R354). -/
structure SessCounts where
  /-- R354 | spec | PICTURES -/
  pictures : Count64 := 0
  /-- R354 | spec | SKIPPED_INPUT -/
  skippedInput : Word := 0
  /-- R354 | spec | EXHAUSTED -/
  exhausted : Word := 0
  /-- R354 | spec | CONCEALED_PICTURES -/
  concealedPictures : Word := 0
  /-- R354 | spec | DROPPED_AUS -/
  droppedAus : Word := 0
  /-- R354 | spec | SYNTAX_ERRORS -/
  syntaxErrors : Word := 0
  /-- R354 | spec | OUTPUT_STALLS -/
  outputStalls : Word := 0
  /-- R354 | spec | bytes sent in the VCU class, which MORTAR_KIB counts -/
  mortarBytes : Nat := 0
  deriving DecidableEq, Repr, Inhabited

/-- One of the 16 device-wide sessions (R314). -/
structure Session where
  /-- R315 | spec | SSTATE -/
  st : SessState := .closed
  /-- R314 | spec | parameters -/
  cfg : SessCfg := {}
  /-- R326 | spec | rate setting in force -/
  rate : Option RateCfg := none
  /-- R317 | spec | coded bit depth -/
  bits : Nat := 8
  /-- R322 | spec | GAMUT, TF, YCC, RANGE that the VUI describes, as VCU_OPEN_SESSION packs them -/
  vui : BitVec 8 := 0
  /-- R337 | spec | pool buffer addresses in half A -/
  bufsA : List Nat := []
  /-- R337 | spec | pool buffer addresses in half B -/
  bufsB : List Nat := []
  /-- R340 | spec | output of an encode session, or of half A of a decode session -/
  outA : Option SessOut := none
  /-- R348 | spec | output ring of half B of a decode session -/
  outB : Option SessOut := none
  /-- R318 | spec | pictures held, oldest first -/
  held : List EncPic := []
  /-- R320 | spec | picture being coded -/
  coding : Option Coding := none
  /-- R320 | spec | F of the last IDR -/
  lastIdr : Option Count64 := none
  /-- R352 | spec | F of the last picture coded -/
  lastCoded : Option Count64 := none
  /-- R319 | spec | PIC_NUMBER of the previous submission -/
  lastPic : Option Count64 := none
  /-- R320 | spec | pictures of the group being coded, in coding order: F, TYPE, IDR, kept as a reference -/
  plan : List (Count64 × Nat × Bool × Bool) := []
  /-- R321 | spec | removal times of those pictures, rising -/
  times : List Count64 := []
  /-- R321 | spec | removal time of the last picture coded -/
  lastTime : Option Count64 := none
  /-- R473 | spec | target of the picture begun last -/
  lastTarget : Nat := 0
  /-- R334 | spec | bands of the last reference picture that have still to arrive: bit 0 at half A, bit 1 at half B -/
  bands : BitVec 2 := 0
  /-- R327 | free | bits the reference decoder's buffer holds at the next removal -/
  bufferBits : Nat := 0
  /-- R340 | spec | bytes used in the data ring -/
  dataPos : Nat := 0
  /-- R340 | spec | records written -/
  recPos : Nat := 0
  /-- R342 | spec | bytes the host has read -/
  dataHead : Nat := 0
  /-- R342 | spec | records the host has read -/
  recHead : Nat := 0
  /-- R342 | spec | output stall raised -/
  stalled : Bool := false
  /-- R318 | spec | frames not coded since the previous AU -/
  skippedBefore : Nat := 0
  /-- R318 | spec | last frame was not coded -/
  skipping : Bool := false
  /-- R338 | spec | pool marks of half A -/
  poolA : List Mark := []
  /-- R338 | spec | pool marks of half B -/
  poolB : List Mark := []
  /-- R353 | spec | chunks being read, oldest first -/
  chunks : List Chunk := []
  /-- R353 | spec | VCU_FLUSH in progress -/
  flush : Option Cmd := none
  /-- R353 | spec | chunks before that VCU_FLUSH still to be read -/
  flushChunks : Nat := 0
  /-- R346 | spec | decoded picture buffer, in decoding order -/
  dpb : List DecPic := []
  /-- R349 | spec | OUTPUT_NUMBER of the next picture -/
  outputNumber : Count64 := 0
  /-- R349 | spec | DECODE_NUMBER of the next picture -/
  decodeNumber : Nat := 0
  /-- R348 | spec | output buffers held by the host: buffer number -/
  hostBufs : List Nat := []
  /-- R344 | spec | sequence being discarded -/
  discarding : Bool := false
  /-- R345 | spec | RASL pictures of the CRA or BLA picture that decoding started at are discarded -/
  dropRasl : Bool := false
  /-- R348 | spec | coded video sequences decoded so far -/
  cvs : Nat := 0
  /-- R344 | spec | sequence being decoded -/
  seq : SeqInfo := {}
  /-- R343 | spec | AUs begun and not ended, oldest first, with their host marks -/
  auMarks : List (Option Count64) := []
  /-- R343 | spec | END has been read and its pictures are not all output -/
  ending : Bool := false
  /-- R353 | spec | pictures output since the last flush -/
  outSinceFlush : Nat := 0
  /-- R353 | spec | DROPPED_AUS since the last flush -/
  droppedSinceFlush : Nat := 0
  /-- R354 | spec | counts in half A -/
  cntA : SessCounts := {}
  /-- R354 | spec | counts in half B -/
  cntB : SessCounts := {}
  deriving DecidableEq, Repr, Inhabited

end Sys2Proof.Machine
end

