-- ==== Sys2Proof/Machine/State.lean ====
section
/-! DEFINITION. The state of the PY9632 as plain data, the reasons a step can stop, and the state after the power-on
reset is released (R478, R484, R488). -/

namespace Sys2Proof.Machine

/-- What each half holds of its own (R9). -/
structure HalfState where
  /-- R36 | spec | rings, event log, arbitration -/
  cmd : HalfCmd := {}
  /-- R393 | spec | PCIe endpoint -/
  ep : Endpoint := {}
  /-- R398 | spec | identity block -/
  ident : Ident := {}
  /-- R407 | spec | wake budgets -/
  power : Power := {}
  /-- R25 | spec | islands: Keystone, fabric, twelve ingest quads, Ashlar, pipeline, VCU, DRAM controller, viewfinder, audio, PCIe -/
  islands : Vector Island 21 := Vector.replicate 21 {}
  /-- R355 | spec | DRAM -/
  mem : HalfMem := {}
  /-- R211 | spec | pipeline -/
  pipe : Pipe := {}
  /-- R187 | spec | Ashlar engines -/
  ash : Ashlar := {}
  /-- R496 | spec | supplies, clocks, thermal state -/
  sys : HalfSys := {}
  /-- R416 | spec | viewfinder engine -/
  vf : VfEngine := {}
  /-- R434 | spec | audio PLL family: true = 44.1 kHz; none before a leader port is configured -/
  audFamily : Option Bool := none
  deriving DecidableEq, Repr

/-- One link's packet reception (R119 to R125). -/
structure LinkRx where
  /-- R122 | spec | line packet in progress -/
  pkt : Option LinePkt := none
  /-- R161 | spec | UNMAPPED: packets of STREAM_IDs with no stream number -/
  unmapped : Word := 0
  deriving DecidableEq, Repr, Inhabited

/-- The state of the device. -/
structure State where
  /-- R9 | spec | half A -/
  a : HalfState := {}
  /-- R9 | spec | half B -/
  b : HalfState := {}
  /-- R15 | spec | Mortar link -/
  mortar : Mortar := {}
  /-- R74 | spec | quad modes: 0 Off, 1 PSL generation 2, 2 PSL generation 1, 3 CSI-2 -/
  quads : Vector (BitVec 2) 24 := Vector.replicate 24 0
  /-- R113 | spec | links -/
  links : Vector Link 32 := Vector.replicate 32 {}
  /-- R110 | spec | device lanes -/
  lanes : Vector Lane 96 := Vector.replicate 96 {}
  /-- R119 | spec | packet reception of each link -/
  rx : Vector LinkRx 32 := Vector.replicate 32 {}
  /-- R125 | spec | streams -/
  streams : Vector Stream 64 := Vector.replicate 64 {}
  /-- R150 | spec | QRY_READ commands under way -/
  reads : List QryRead := []
  /-- R146 | spec | trigger rules -/
  rules : Vector TrigRule 16 := Vector.replicate 16 {}
  /-- R226 | spec | sensor corrections in force, by stream -/
  corrs : Vector StreamCorr 64 := Vector.replicate 64 {}
  /-- R202 | spec | pipeline contexts -/
  ctxs : Vector Context 32 := Vector.replicate 32 {}
  /-- R287 | spec | latest statistics record of each context -/
  statLast : Vector (Option StatLast) 32 := Vector.replicate 32 none
  /-- R294 | spec | content triggers -/
  contentTrigs : Vector ContentTrig 16 := Vector.replicate 16 {}
  /-- R297 | spec | trim service -/
  trim : Trim := {}
  /-- R314 | spec | VCU sessions -/
  sessions : Vector Session 16 := Vector.replicate 16 {}
  /-- R414 | spec | viewfinder outputs -/
  outs : Vector VfOut 4 := Vector.replicate 4 {}
  /-- R415 | spec | viewfinder source in force -/
  vfSrc : Option VfSource := none
  /-- R431 | spec | audio ports -/
  ports : Vector AudPort 8 := Vector.replicate 8 {}
  /-- R452 | spec | pairing -/
  pair : Pair := {}
  /-- R478 | spec | boot, flash, clocks, pins -/
  sys : DevSys := {}
  /-- R46 | spec | commands in flight, device-wide, oldest first -/
  flights : List Flight := []
  /-- R46 | model | number of the next submission (the model's own field) -/
  nextSerial : Nat := 1
  /-- R55 | spec | staged boundary changes, in the order in which they started -/
  staged : List Staged := []
  /-- R69 | spec | management port -/
  mgmt : MgmtPort := {}
  /-- R39 | DC45 | host memory as the device finds it -/
  hostMem : Memory := {}
  /-- R36 | DC45 | regions of host memory in which PCIe accesses fail: address, length -/
  hostBad : List (Nat × Nat) := []
  /-- R539 | model | commands of the block waiting, first in, first out (the model's own field) -/
  pending : List Instr := []
  deriving DecidableEq, Repr

/-- Why a step of the model stops with a fault. -/
inductive Fault where
  /-- Raised by a row of the table whose operand names an object the device does not have (a link above 31, a lane above
  95, an engine above its count): no such command or event exists. Safe: the model stops. -/
  | noSuchObject
  deriving DecidableEq, Repr

/-- Why a step of the model refuses a command. -/
inductive Refusal where
  /-- Raised by the dispatch for a row that has no meaning yet, named by its mnemonic. Safe: the model stops. -/
  | notModelled (mnemonic : String)
  deriving DecidableEq, Repr

/-- The device as its power-on reset is released, before boot (R488 step 1), with nothing fitted but erased flash, and
no command waiting. -/
def State.reset : State := {}

end Sys2Proof.Machine
end

