-- ==== Sys2Proof/Machine/Operands.lean ====
section
/-! DEFINITION. The operand forms of the block: the parameter dwords of a command and their bit fields, little-endian byte
order (R2), the checks on reserved bits and values (R5, R49), statuses and replies (R540). -/

namespace Sys2Proof.Machine

/-- Bits [hi:lo] of a dword as a number. -/
def fld (w : Word) (hi lo : Nat) : Nat := (w.toNat >>> lo) % 2 ^ (hi - lo + 1)

/-- Bit `i` of a dword. -/
def bitOf (w : Word) (i : Nat) : Bool := w.getLsbD i

/-- A number read as a two's-complement value of `n` bits. -/
def signed (n v : Nat) : Int := if v < 2 ^ (n - 1) then v else (v : Int) - (2 ^ n : Nat)

/-- A signed number as the `n`-bit pattern that holds it. -/
def pattern (n : Nat) (v : Int) : Nat := (v % (2 ^ n : Nat)).toNat

/-- 0 or 1. -/
def b2n (b : Bool) : Nat := if b then 1 else 0

/-- Parameter dword `k` of a command; 0 beyond those given. -/
def dw (c : Cmd) (k : Nat) : Word := c.params.getD (k - 2) 0

/-- Bits [hi:lo] of parameter dword `k`. -/
def pf (c : Cmd) (k hi lo : Nat) : Nat := fld (dw c k) hi lo

/-- Bit `i` of parameter dword `k`. -/
def pb (c : Cmd) (k i : Nat) : Bool := bitOf (dw c k) i

/-- The 64-bit field in parameter dwords `k` and `k + 1`. -/
def pq (c : Cmd) (k : Nat) : Nat := (dw c k).toNat + 2 ^ 32 * (dw c (k + 1)).toNat

/-- The low `n` bytes of a number, least significant first (R2). -/
def leBytes : Nat → Nat → List Byte
  | 0, _ => []
  | n + 1, v => BitVec.ofNat 8 v :: leBytes n (v / 256)

/-- The number that bytes hold, least significant first (R2). -/
def leNat : List Byte → Nat
  | [] => 0
  | b :: bs => b.toNat + 256 * leNat bs

/-- Bytes of a list of dwords. -/
def dwordBytes (ws : List Word) : List Byte := (ws.map fun w => leBytes 4 w.toNat).flatten

/-- Dwords from bytes; a short tail is padded with zeros. -/
def bytesDwords : Nat → List Byte → List Word
  | 0, _ => []
  | n + 1, bs => BitVec.ofNat 32 (leNat (bs.take 4)) :: bytesDwords n (bs.drop 4)

/-- A dword built from fields, each a (low bit, value). -/
def pack (fs : List (Nat × Nat)) : Word := BitVec.ofNat 32 ((fs.map fun f => f.2 * 2 ^ f.1).sum)

/-- Low dword of a 64-bit count. -/
def lo32 (v : Nat) : Word := BitVec.ofNat 32 v

/-- High dword of a 64-bit count. -/
def hi32 (v : Nat) : Word := BitVec.ofNat 32 (v / 2 ^ 32)

/-- A count one higher, saturating at all ones. -/
def satInc {n : Nat} (x : BitVec n) : BitVec n := if x = BitVec.allOnes n then x else x + 1

/-- A count higher by `k`, saturating at all ones. -/
def satAdd {n : Nat} (x : BitVec n) (k : Nat) : BitVec n :=
  if x.toNat + k < 2 ^ n then BitVec.ofNat n (x.toNat + k) else BitVec.allOnes n

/-- The other half. -/
def otherHalf : Half → Half
  | .A => .B
  | .B => .A

/-- Half index: 0 for half A, 1 for half B (R543). -/
def halfIdx : Half → Nat
  | .A => 0
  | .B => 1

/-- Half code: 0b01 for half A, 0b10 for half B (R50, R63). -/
def halfCode : Half → BitVec 2
  | .A => 1
  | .B => 2

/-- The half that a two-bit code names; none for 0b00 and 0b11. -/
def halfOfCode (n : Nat) : Option Half :=
  if n = 1 then some .A else if n = 2 then some .B else none

/-- Half of an index from 0. -/
def halfOfIdx (n : Nat) : Half := if n = 0 then .A else .B

/-! Status codes (R540). -/

/-- OK -/
def stOk : BitVec 16 := 0x0000
/-- OK_DEFERRED -/
def stOkDeferred : BitVec 16 := 0x0001
/-- BAD_OPCODE -/
def stBadOpcode : BitVec 16 := 0x0101
/-- BAD_PARAM -/
def stBadParam : BitVec 16 := 0x0102
/-- BAD_TARGET -/
def stBadTarget : BitVec 16 := 0x0103
/-- BAD_LENGTH -/
def stBadLength : BitVec 16 := 0x0104
/-- WRONG_STATE -/
def stWrongState : BitVec 16 := 0x0201
/-- BUSY -/
def stBusy : BitVec 16 := 0x0202
/-- NOT_ARMED -/
def stNotArmed : BitVec 16 := 0x0203
/-- NO_TAGS -/
def stNoTags : BitVec 16 := 0x0301
/-- NO_MEMORY -/
def stNoMemory : BitVec 16 := 0x0302
/-- OUTPUT_EXHAUSTED -/
def stOutputExhausted : BitVec 16 := 0x0303
/-- NO_GAIN -/
def stNoGain : BitVec 16 := 0x0401
/-- DATA_CORRUPT -/
def stDataCorrupt : BitVec 16 := 0x0402
/-- PLAUSIBILITY_FAIL -/
def stPlausibilityFail : BitVec 16 := 0x0403
/-- BUDGET_EXHAUSTED -/
def stBudgetExhausted : BitVec 16 := 0x0404
/-- HW_FAULT -/
def stHwFault : BitVec 16 := 0x0501
/-- ISLAND_RESET -/
def stIslandReset : BitVec 16 := 0x0502
/-- LINK_DOWN -/
def stLinkDown : BitVec 16 := 0x0503
/-- ABORTED -/
def stAborted : BitVec 16 := 0x0601
/-- REPLAYED -/
def stReplayed : BitVec 16 := 0x0602
/-- LOST -/
def stLost : BitVec 16 := 0x0603

/-- How a command answers as it starts (R60). -/
inductive Reply where
  /-- it completes now -/
  | done (status : BitVec 16) (reason : BitVec 8) (pidx : BitVec 16) (r0 r1 r2 : Word)
  /-- its change is staged: OK_DEFERRED with this BOUNDARY -/
  | deferred (boundary : BitVec 4)
  /-- a long command runs on -/
  | running
  deriving DecidableEq, Repr, Inhabited

/-- OK with results. -/
def okWith (r0 r1 r2 : Word) : Reply := .done stOk 0 0xFFFF r0 r1 r2

/-- OK. -/
def ok : Reply := okWith 0 0 0

/-- An error that names no dword. -/
def err (status : BitVec 16) (reason : BitVec 8) : Reply := .done status reason 0xFFFF 0 0 0

/-- An error of check 8 that names dword `k`. -/
def errAt (status : BitVec 16) (reason : BitVec 8) (k : Nat) : Reply := .done status reason (BitVec.ofNat 16 k) 0 0 0

/-- BAD_PARAM with a reason, at dword `k`. -/
def badParam (reason : BitVec 8) (k : Nat) : Reply := errAt stBadParam reason k

/-- A value out of range at dword `k` (check 8). -/
def badValue (k : Nat) : Reply := badParam 0x06 k

/-- WRONG_STATE with a reason (check 9). -/
def wrongState (reason : BitVec 8) : Reply := err stWrongState reason

/-- BAD_TARGET (check 7). -/
def badTarget : Reply := errAt stBadTarget 0 1

/-- The reply of the first check that fails, in the order of R49. -/
def firstErr : List (Bool × Reply) → Option Reply
  | [] => none
  | (true, r) :: _ => some r
  | (false, _) :: t => firstErr t

/-- Checks on reserved bits: each pair names a parameter dword and the mask of its reserved bits (R5). -/
def rsv (c : Cmd) (ms : List (Nat × Word)) : List (Bool × Reply) :=
  ms.map fun m => (dw c m.1 &&& m.2 != 0, badParam 0x03 m.1)

/-- Checks on values: each pair names a parameter dword and whether its value is out of range. -/
def bad (ms : List (Nat × Bool)) : List (Bool × Reply) := ms.map fun m => (m.2, badValue m.1)

/-- An outcome that stops where the row names an object the device does not have. -/
def inRange (b : Bool) (s : State) : Host.Outcome State Fault Refusal :=
  if b then .next s else .fault .noSuchObject

end Sys2Proof.Machine
end

