-- ==== Sys2Proof/Machine/Codec.lean ====
section
/-! DEFINITION. The bit-exact pieces that ingest, the Quarry writer and the Ashlar engines share: the CRCs, the packing of
pixels, the block codec and the block index (chapters 04 and 05). -/

namespace Sys2Proof.Machine

/-! CRCs (R120, R121). -/

/-- One bit of a reflected CRC register. -/
def crcBit (poly c : Nat) : Nat := if c % 2 = 1 then (c / 2) ^^^ poly else c / 2

/-- Eight bits of a reflected CRC register. -/
def crcByte (poly c : Nat) (b : Byte) : Nat :=
  (List.range 8).foldl (fun c _ => crcBit poly c) (c ^^^ b.toNat)

/-- The CRC-32C register after these bytes (R121). -/
def crc32cFrom (c : Nat) (bs : List Byte) : Nat := bs.foldl (crcByte 0x82F63B78) c

/-- CRC-32C: initial value all ones, final inversion (R121). -/
def crc32c (bs : List Byte) : Word := BitVec.ofNat 32 (crc32cFrom 0xFFFFFFFF bs ^^^ 0xFFFFFFFF)

/-- HCRC over payload bytes 0 to 6 of a packet block (R120). -/
def hcrc (block : BitVec 64) : Byte :=
  BitVec.ofNat 8 ((leBytes 7 block.toNat).foldl (crcByte 0xE0) 0xFF)

/-- A packet block whose HCRC holds. -/
def hcrcOk (block : BitVec 64) : Bool := decide (block.extractLsb' 56 8 = hcrc block)

/-! Pixels (R121, R167, R177). -/

/-- Bits of a DEPTH code. -/
def depthBits (d : BitVec 2) : Nat := 10 + 2 * d.toNat

/-- Pixels packed least significant bit first, as one number. -/
def packNat (d : Nat) (px : List Nat) : Nat := px.foldr (fun p a => p % 2 ^ d + 2 ^ d * a) 0

/-- Pixels packed least significant bit first into whole bytes; the bits after the last pixel are 0 (R121). -/
def packPixels (d : Nat) (px : List Nat) : List Byte := leBytes ((px.length * d + 7) / 8) (packNat d px)

/-- `n` pixels read from bytes packed least significant bit first. -/
def unpackPixels (d n : Nat) (bs : List Byte) : List Nat :=
  let v := leNat bs
  (List.range n).map fun i => (v >>> (i * d)) % 2 ^ d

/-- A row in 16-bit containers: the value in bits [D-1:0] (SRC_FMT 1). -/
def unpackContainers (d n : Nat) (bs : List Byte) : List Nat :=
  (List.range n).map fun i => (leNat ((bs.drop (2 * i)).take 2)) % 2 ^ d

/-- A row as 16-bit containers, upper bits 0 (DST_FMT 1). -/
def packContainers (px : List Nat) : List Byte := (px.map fun p => leBytes 2 p).flatten

/-! Geometry of blocks (R163). -/

/-- Block columns of a width. -/
def blockCols (w : Nat) : Nat := (w + 127) / 128

/-- Block rows of a height. -/
def blockRows (h : Nat) : Nat := (h + 7) / 8

/-- Width of the blocks of a block column. -/
def blockW (w bx : Nat) : Nat := min 128 (w - 128 * bx)

/-- Height of the blocks of a block row. -/
def blockH (h by_ : Nat) : Nat := min 8 (h - 8 * by_)

/-- Blocks of a frame. -/
def blockCount (w h : Nat) : Nat := blockCols w * blockRows h

/-- Length of a raw block (R177). -/
def rawLen (w h d : Nat) : Nat := (w * h * d + 7) / 8

/-! Prediction (R168). -/

/-- MED(a, b, q). -/
def med (a b q : Nat) : Nat :=
  if max a b ≤ q then min a b else if q ≤ min a b then max a b else a + b - q

/-- The prediction for pixel `i` (raster order) of a block of width `w`, from the reconstructed pixels before it. -/
def predictPx (pred base w : Nat) (xs : List Nat) (i : Nat) : Nat :=
  let d := if pred < 4 then 1 else 2
  let r := i / w
  let c := i % w
  let at_ := fun r c => xs.getD (r * w + c) 0
  if r < d ∧ c < d then base
  else if r < d then at_ r (c - d)
  else if c < d then at_ (r - d) c
  else
    let a := at_ r (c - d)
    let b := at_ (r - d) c
    let q := at_ (r - d) (c - d)
    match pred % 4 with
    | 0 => a
    | 1 => b
    | 2 => med a b q
    | _ => (a + b + 1) / 2

/-- Error bound of an ERR code (R167). -/
def errBound (e : BitVec 3) : Nat :=
  match e.toNat with
  | 0 => 0
  | 1 => 1
  | 2 => 2
  | 3 => 4
  | _ => 8

/-- The residual of a pixel (R169, R170). -/
def residual (d e x p : Nat) : Int :=
  if e = 0 then (((x : Int) - p + 2 ^ (d - 1)) % (2 ^ d : Nat)) - 2 ^ (d - 1)
  else
    let r : Int := (x : Int) - p
    if 0 ≤ r then (r + e) / (2 * e + 1) else -((e - r) / (2 * e + 1))

/-- The reconstructed value of a residual (R169, R170). -/
def reconstruct (d e p : Nat) (v : Int) : Nat :=
  if e = 0 then (((p : Int) + v) % (2 ^ d : Nat)).toNat
  else min (2 ^ d - 1) ((p : Int) + v * (2 * e + 1)).toNat

/-- The unsigned value of a residual (R171). -/
def foldSign (v : Int) : Nat := if 0 ≤ v then (2 * v).toNat else (-2 * v - 1).toNat

/-- The residual of an unsigned value (R171). -/
def unfoldSign (m : Nat) : Int := if m % 2 = 1 then -((m + 1) / 2 : Nat) else (m / 2 : Nat)

/-! Golomb-Rice coding (R172 to R175). -/

/-- The low `n` bits of a number, most significant first (R172). -/
def bitsMsb (n v : Nat) : List Bool := (List.range n).map fun i => v.testBit (n - 1 - i)

/-- The parameter k: the smallest from 0 to 15 with N * 2^k at least A, else 15 (R174). -/
def riceK (a n : Nat) : Nat := ((List.range 15).find? fun k => decide (a ≤ n * 2 ^ k)).getD 15

/-- The code of a value (R173). -/
def riceCode (d k m : Nat) : List Bool :=
  let u := m >>> k
  if u < 24 then List.replicate u true ++ false :: bitsMsb k m else List.replicate 24 true ++ bitsMsb d m

/-- The adaptation state after a value (R174). -/
def adapt (a n m : Nat) : Nat × Nat := if n + 1 = 32 then ((a + m) / 2, 16) else (a + m, n + 1)

/-- The code bits of the pixels from index `i` on, given the pixels reconstructed before. -/
def codePixels (d e pred base w : Nat) : List Nat → Nat → List Nat → Nat → Nat → List Bool
  | [], _, _, _, _ => []
  | x :: t, i, xs, a, n =>
    let p := predictPx pred base w xs i
    let v := residual d e x p
    let m := foldSign v
    let s := adapt a n m
    riceCode d (riceK a n) m ++ codePixels d e pred base w t (i + 1) (xs ++ [reconstruct d e p v]) s.1 s.2

/-- The payload bits of a predicted block: every pixel but the first, from A = 2^K0 and N = 1 (R168, R174). -/
def payloadBits (d e pred k0 w : Nat) (px : List Nat) : List Bool :=
  let base := px.headD 0
  codePixels d e pred base w px.tail 1 [base] (2 ^ k0) 1

/-- A byte of a payload, bit 7 first (R172). -/
def bitsByte (bs : List Bool) : Byte :=
  BitVec.ofNat 8 (((List.range 8).map fun i => if bs.getD i false then 2 ^ (7 - i) else 0).sum)

/-- Payload bits as bytes, filled with zeros (R172, R175). -/
def bitsBytes (bs : List Bool) : List Byte :=
  (List.range ((bs.length + 7) / 8)).map fun i => bitsByte ((bs.drop (8 * i)).take 8)

/-- The header dword of a predicted or flat block (R167). -/
def blockHeader (flat : Bool) (pred : Nat) (err : BitVec 3) (k0 : Nat) (depth : BitVec 2) (base : Nat) : Word :=
  pack [(0, b2n flat), (2, pred), (5, err.toNat), (8, k0), (12, depth.toNat), (16, base)]

/-- Least and greatest pixel. -/
def pxMin (px : List Nat) : Nat := px.foldl min (px.headD 0)
/-- Greatest pixel. -/
def pxMax (px : List Nat) : Nat := px.foldl max 0

/-- Every predictor with every K0, in the order in which ties are decided (R178). -/
def allCodings : List (Nat × Nat) := (List.range 8).flatMap fun p => (List.range 16).map fun k => (p, k)

/-- The coding with the fewest payload bits; ties go to the lowest predictor, then the lowest K0 (R178). -/
def bestCoding (d e w : Nat) (px : List Nat) : Nat × Nat × List Bool :=
  allCodings.foldl (fun best pk =>
    let bits := payloadBits d e pk.1 pk.2 w px
    if bits.length < best.2.2.length then (pk.1, pk.2, bits) else best) (0, 0, payloadBits d e 0 0 w px)

/-- A block coded as flat or predicted, whatever its gain (R176, R178). -/
def codedBlock (depth : BitVec 2) (err : BitVec 3) (w : Nat) (px : List Nat) : List Byte :=
  let d := depthBits depth
  let e := errBound err
  if pxMax px - pxMin px ≤ 2 * e then
    leBytes 4 (blockHeader true 0 err 0 depth ((pxMax px + pxMin px) / 2)).toNat
  else
    let b := bestCoding d e w px
    leBytes 4 (blockHeader false b.1 err b.2.1 depth (px.headD 0)).toNat ++ bitsBytes b.2.2

/-- What an encode engine emits; none = no gain (R179). -/
def encodeBlock (depth : BitVec 2) (err : BitVec 3) (w h : Nat) (px : List Nat) : Option (List Byte) :=
  let bs := codedBlock depth err w px
  if rawLen w h (depthBits depth) < bs.length + 4 then none else some bs

/-! Decoding (R191). -/

/-- Bits of bytes, most significant first (R172). -/
def bytesBits (bs : List Byte) : List Bool := (bs.map fun b => bitsMsb 8 b.toNat).flatten

/-- A number from bits, most significant first. -/
def bitsNum (bs : List Bool) : Nat := bs.foldl (fun a b => 2 * a + b2n b) 0

/-- One-bits at the front, at most 24. -/
def onesRun : Nat → List Bool → Nat
  | 0, _ => 0
  | _, [] => 0
  | n + 1, b :: t => if b then onesRun n t + 1 else 0

/-- One value read from the payload, with the bits that remain; none where the codes run out (R173). -/
def riceRead (d k : Nat) (bs : List Bool) : Option (Nat × List Bool) :=
  let u := onesRun 24 bs
  let used := if u = 24 then 24 + d else u + 1 + k
  if bs.length < used then none
  else if u = 24 then some (bitsNum ((bs.drop 24).take d), bs.drop used)
  else some (u * 2 ^ k + bitsNum ((bs.drop (u + 1)).take k), bs.drop used)

/-- Pixels decoded from index `i` on, `left` of them, with the bits that remain. -/
def decodePixels (d e pred base w : Nat) : Nat → Nat → List Nat → Nat → Nat → List Bool → Option (List Nat × List Bool)
  | 0, _, xs, _, _, bs => some (xs, bs)
  | left + 1, i, xs, a, n, bs =>
    match riceRead d (riceK a n) bs with
    | none => none
    | some (m, rest) =>
      let s := adapt a n m
      let x := reconstruct d e (predictPx pred base w xs i) (unfoldSign m)
      decodePixels d e pred base w left (i + 1) (xs ++ [x]) s.1 s.2 rest

/-- A predicted or flat block decoded; none where it is corrupt (R191). -/
def decodeCoded (depth : BitVec 2) (w h : Nat) (bs : List Byte) : Option (List Nat) :=
  let hd := BitVec.ofNat 32 (leNat (bs.take 4))
  let d := depthBits depth
  let kind := fld hd 1 0
  let err := fld hd 7 5
  let base := fld hd 31 16
  if bs.length < 4 ∨ 2 ≤ kind ∨ 5 ≤ err ∨ fld hd 15 14 ≠ 0 ∨ fld hd 13 12 ≠ depth.toNat ∨ 2 ^ d ≤ base then none
  else if kind = 1 then
    if bs.length = 4 then some (List.replicate (w * h) base) else none
  else
    match decodePixels d (errBound (BitVec.ofNat 3 err)) (fld hd 4 2) base w (w * h - 1) 1 [base] (2 ^ fld hd 11 8) 1
        (bytesBits (bs.drop 4)) with
    | some (xs, rest) => if rest.length < 8 ∧ rest.all (fun b => !b) = true then some xs else none
    | none => none

/-- A raw block decoded; none where it is corrupt (R191). -/
def decodeRaw (depth : BitVec 2) (w h : Nat) (bs : List Byte) : Option (List Nat) :=
  let d := depthBits depth
  if bs.length = rawLen w h d ∧ leNat bs < 2 ^ (w * h * d) then some (unpackPixels d (w * h) bs) else none

/-! The block index (R181, R182). -/

/-- The 8 bytes of an index entry (R181). -/
def idxBytes (e : IndexEntry) : List Byte :=
  leBytes 8 (e.offset % 2 ^ 40 + e.length % 2 ^ 16 * 2 ^ 40 + b2n e.coded * 2 ^ 56 + b2n e.raw * 2 ^ 57 +
    b2n e.error * 2 ^ 58 + b2n e.skip * 2 ^ 59)

/-- An index entry from its 8 bytes. -/
def idxOf (bs : List Byte) : IndexEntry :=
  let v := leNat (bs.take 8)
  { offset := v % 2 ^ 40, length := (v >>> 40) % 2 ^ 16, coded := v.testBit 56, raw := v.testBit 57
    error := v.testBit 58, skip := v.testBit 59 }

/-- The flags combine as the table of index flag combinations gives (R182). -/
def idxValid (e : IndexEntry) : Bool :=
  match e.coded, e.raw, e.error with
  | true, false, false => decide (4 ≤ e.length)
  | false, true, false => decide (0 < e.length)
  | false, false, _ => decide (e.length = 0) && !e.skip
  | _, _, _ => false

/-- No block is stored: lost, or no gain and not stored (R182). -/
def idxEmpty (e : IndexEntry) : Bool := !e.coded && !e.raw

end Sys2Proof.Machine
end

