-- ==== Sys2Proof/Config.lean ====
section
/-! DEFINITION. The free values of the model: what the spec leaves undefined or unstated. None has a body, so a statement
about one holds for every value of it. -/

namespace Sys2Proof.Config

/-- What an undefined byte of a half's DRAM reads as, by the index of the change that made it undefined and its address
(R361). -/
opaque freeByte (tag addr : Nat) : Byte

/-- A 32-bit value the spec does not state, by the model's counter. -/
opaque freeWord (k : Nat) : Word

/-- A natural number the spec does not state, by the model's counter. -/
opaque freeNat (k : Nat) : Nat

/-- A choice the spec leaves to the device's firmware, by the model's counter. -/
opaque freeBool (k : Nat) : Bool

/-- Target size in bits that Keystone firmware sets for a picture (R327), by the model's counter. -/
opaque targetBits (k : Nat) : Nat

/-- Bytes of the parameter sets of a stream in the standard's syntax (R311, R321 to R323), by what they describe. -/
opaque paramSets (desc : List Nat) : List Byte

/-- Bytes of the buffering-period, picture-timing and motion-constrained tile set SEI of a picture (R323, R332), by what
they describe. -/
opaque timingSei (desc : List Nat) : List Byte

/-- Bytes of the slice segment header of a picture split into tiles (R333), by what it describes. -/
opaque tileHeader (desc : List Nat) : List Byte

end Sys2Proof.Config
end

