-- ==== Sys2Proof/Machine/Ops.lean ====
section
/-! DEFINITION. The named operations over the state: halves, memories, host memory, MSI-X, events, completions, effect
reports, the Mortar queues and the staged boundary changes. Every family is written over these. -/

namespace Sys2Proof.Machine

/-! Halves. -/

/-- What half `h` holds. -/
def half (s : State) (h : Half) : HalfState :=
  match h with
  | .A => s.a
  | .B => s.b

/-- The state with half `h` replaced. -/
def setHalf (s : State) (h : Half) (x : HalfState) : State :=
  match h with
  | .A => { s with a := x }
  | .B => { s with b := x }

/-- The state with half `h` changed by `f`. -/
def modHalf (s : State) (h : Half) (f : HalfState → HalfState) : State := setHalf s h (f (half s h))

/-- Half `h` with its command rings and logs changed. -/
def modCmd (s : State) (h : Half) (f : HalfCmd → HalfCmd) : State := modHalf s h fun x => { x with cmd := f x.cmd }

/-- Half `h` with its endpoint changed. -/
def modEp (s : State) (h : Half) (f : Endpoint → Endpoint) : State := modHalf s h fun x => { x with ep := f x.ep }

/-- Half `h` with its identity block changed. -/
def modIdent (s : State) (h : Half) (f : Ident → Ident) : State := modHalf s h fun x => { x with ident := f x.ident }

/-- Half `h` with its DRAM changed. -/
def modMem (s : State) (h : Half) (f : HalfMem → HalfMem) : State := modHalf s h fun x => { x with mem := f x.mem }

/-- Half `h` with its pipeline changed. -/
def modPipe (s : State) (h : Half) (f : Pipe → Pipe) : State := modHalf s h fun x => { x with pipe := f x.pipe }

/-- Half `h` with its Ashlar unit changed. -/
def modAsh (s : State) (h : Half) (f : Ashlar → Ashlar) : State := modHalf s h fun x => { x with ash := f x.ash }

/-- Half `h` with its supplies and thermal state changed. -/
def modSys (s : State) (h : Half) (f : HalfSys → HalfSys) : State := modHalf s h fun x => { x with sys := f x.sys }

/-- Half `h` with its viewfinder engine changed. -/
def modVfe (s : State) (h : Half) (f : VfEngine → VfEngine) : State := modHalf s h fun x => { x with vf := f x.vf }

/-- The lead half (R11). -/
def leadHalf (s : State) : Half := if s.sys.halfId then .B else .A

/-- Half of a link (R73), a device lane, a stream's link, a port, an output: the lower numbers belong to half A. -/
def halfOf (n perHalf : Nat) : Half := if n < perHalf then .A else .B

/-! Tables of the device. -/

/-- Link `n`. -/
def linkAt (s : State) (n : Nat) : Link := tget s.links n
/-- The state with link `n` changed. -/
def modLink (s : State) (n : Nat) (f : Link → Link) : State := { s with links := tmod s.links n f }
/-- Device lane `n`. -/
def laneAt (s : State) (n : Nat) : Lane := tget s.lanes n
/-- The state with device lane `n` changed. -/
def modLane (s : State) (n : Nat) (f : Lane → Lane) : State := { s with lanes := tmod s.lanes n f }
/-- Stream `n`. -/
def streamAt (s : State) (n : Nat) : Stream := tget s.streams n
/-- The state with stream `n` changed. -/
def modStream (s : State) (n : Nat) (f : Stream → Stream) : State := { s with streams := tmod s.streams n f }
/-- Context `n`. -/
def ctxAt (s : State) (n : Nat) : Context := tget s.ctxs n
/-- The state with context `n` changed. -/
def modCtx (s : State) (n : Nat) (f : Context → Context) : State := { s with ctxs := tmod s.ctxs n f }
/-- Session `n`. -/
def sessAt (s : State) (n : Nat) : Session := tget s.sessions n
/-- The state with session `n` changed. -/
def modSess (s : State) (n : Nat) (f : Session → Session) : State := { s with sessions := tmod s.sessions n f }
/-- Output `n`. -/
def outAt (s : State) (n : Nat) : VfOut := tget s.outs n
/-- The state with output `n` changed. -/
def modOut (s : State) (n : Nat) (f : VfOut → VfOut) : State := { s with outs := tmod s.outs n f }
/-- Audio port `n`. -/
def portAt (s : State) (n : Nat) : AudPort := tget s.ports n
/-- The state with audio port `n` changed. -/
def modPort (s : State) (n : Nat) (f : AudPort → AudPort) : State := { s with ports := tmod s.ports n f }
/-- Trigger rule `n`. -/
def ruleAt (s : State) (n : Nat) : TrigRule := tget s.rules n
/-- The state with trigger rule `n` changed. -/
def modRule (s : State) (n : Nat) (f : TrigRule → TrigRule) : State := { s with rules := tmod s.rules n f }
/-- The state with the pairing state changed. -/
def modPair (s : State) (f : Pair → Pair) : State := { s with pair := f s.pair }
/-- The state with the device-wide boot, flash and pin state changed. -/
def modDev (s : State) (f : DevSys → DevSys) : State := { s with sys := f s.sys }
/-- The index of the next free value, and the state after taking it. -/
def fresh (s : State) : Nat × State := (s.sys.fresh, modDev s fun d => { d with fresh := d.fresh + 1 })

/-! Islands (R25 to R27, R407). -/

/-- Index of an island in a half's table; none for the Mortar link and AON. -/
def islandIdx : IslandId → Option Nat
  | .keystone => some 0
  | .fabric => some 1
  | .ingest q => some (2 + q)
  | .ashlar => some 14
  | .pipeline => some 15
  | .vcu => some 16
  | .dram => some 17
  | .viewfinder => some 18
  | .audio => some 19
  | .pcie => some 20
  | .mortar => none
  | .aon => none

/-- The island of a half. -/
def islandAt (s : State) (h : Half) (i : IslandId) : Island :=
  match islandIdx i with
  | some k => tget (half s h).islands k
  | none => {}

/-- The state with an island of half `h` changed. -/
def modIsland (s : State) (h : Half) (i : IslandId) (f : Island → Island) : State :=
  match islandIdx i with
  | some k => modHalf s h fun x => { x with islands := tmod x.islands k f }
  | none => s

/-- The island runs: it is on and not in an automatic reset (R26, R27). -/
def islandRuns (s : State) (h : Half) (i : IslandId) : Bool :=
  let x := islandAt s h i
  decide (x.pstate = .on) && !x.resetting && !(half s h).sys.inReset

/-- The half has shed an island for temperature: bit 0 VCU, 1 viewfinder, 2 pipeline, 3 Ashlar (R505). -/
def isShed (s : State) (h : Half) (k : Nat) : Bool := (half s h).sys.shed.getLsbD k

/-- An exit from a state of code `c` deeper than clock-gated counts in WAKES (R411). -/
def countWake (s : State) (h : Half) (c : Nat) : State :=
  if c = 2 ∨ c = 3 ∨ c = 5 ∨ c = 6 then
    modHalf s h fun x => { x with power := { x.power with wakes := satInc x.power.wakes } }
  else s

/-- State code of an island's power state. -/
def pstateCode : PState → Nat
  | .on => 0
  | .gated => 1
  | .retention => 2
  | .off => 3

/-- An island goes on, and the requests held at its crossing are delivered (R26). -/
def islandOn (s : State) (h : Half) (i : IslandId) : State :=
  countWake (modIsland s h i fun x => { x with pstate := .on, waking := false, heldReqs := 0 }) h
    (pstateCode (islandAt s h i).pstate)

/-- The half's PCIe link leaves a low-power state for traffic; exits from L1 and its substates count in WAKES (R405,
R411). -/
def linkWake (s : State) (h : Half) : State :=
  let p := (half s h).ep
  if 9 ≤ p.lstate.toNat then
    modHalf s h fun x => { x with
      ep := { x.ep with lstate := if x.ep.l0pWidth.toNat < x.ep.width.toNat then 8 else 0 }
      power := { x.power with wakes := satInc x.power.wakes } }
  else s

/-! Sparse byte memories in canonical form. -/

/-- What an unlisted byte reads as: a free value in a range of undefined contents, else the memory's own default. -/
def memDefault (m : Memory) (d : Byte) (a : Nat) : Byte :=
  match m.free.find? (fun r => decide (r.base ≤ a ∧ a < r.base + r.len)) with
  | some r => Config.freeByte r.tag a
  | none => d

/-- The byte listed at an address. -/
def cellGet : List (Nat × Byte) → Nat → Option Byte
  | [], _ => none
  | (x, y) :: t, a => if x = a then some y else if a < x then none else cellGet t a

/-- The list with the entry at an address set or removed. -/
def cellSet : List (Nat × Byte) → Nat → Option Byte → List (Nat × Byte)
  | [], a, some v => [(a, v)]
  | [], _, none => []
  | (x, y) :: t, a, v =>
    if x < a then (x, y) :: cellSet t a v
    else
      let rest := if x = a then t else (x, y) :: t
      match v with
      | some w => (a, w) :: rest
      | none => rest

/-- Read one byte. -/
def Memory.read (m : Memory) (d : Byte) (a : Nat) : Byte := (cellGet m.cells a).getD (memDefault m d a)

/-- Write one byte; a byte equal to what an unlisted address reads as leaves no entry. -/
def Memory.write (m : Memory) (d : Byte) (a : Nat) (v : Byte) : Memory :=
  { m with cells := cellSet m.cells a (if v = memDefault m d a then none else some v) }

/-- Write consecutive bytes. -/
def Memory.writeBytes (m : Memory) (d : Byte) : Nat → List Byte → Memory
  | _, [] => m
  | a, b :: bs => (m.write d a b).writeBytes d (a + 1) bs

/-- Read consecutive bytes. -/
def Memory.readBytes (m : Memory) (d : Byte) : Nat → Nat → List Byte
  | _, 0 => []
  | a, n + 1 => m.read d a :: m.readBytes d (a + 1) n

/-- Addresses strictly rise from `lo` on and no entry equals its default. -/
def cellsWf (m : Memory) (d : Byte) : Nat → List (Nat × Byte) → Bool
  | _, [] => true
  | lo, (x, y) :: t => decide (lo ≤ x) && (y != memDefault m d x) && cellsWf m d (x + 1) t

/-- The canonical form of a memory. -/
def Memory.wf (m : Memory) (d : Byte) : Bool := cellsWf m d 0 m.cells

/-- Make a range undefined: its entries go, and its bytes read as free values of index `tag` (R361). -/
def Memory.scramble (m : Memory) (base len tag : Nat) : Memory :=
  { cells := m.cells.filter fun c => !decide (base ≤ c.1 ∧ c.1 < base + len),
    free := { base, len, tag } :: m.free }

/-! Host memory over PCIe (R39, R41, R404). -/

/-- An unlisted byte of host memory reads 0 (DESIGN CHOICE 45). -/
def hostDefault : Byte := 0
/-- An unlisted byte of DRAM reads 0: initialisation writes zeros (R374). -/
def dramDefault : Byte := 0
/-- An erased flash byte reads 0xFF (DESIGN CHOICE 43). -/
def flashDefault : Byte := 0xFF

/-- The half is unattached: its PERST ball has been low since power-on (R403). -/
def unattached (s : State) (h : Half) : Bool := !(half s h).ep.everReleased

/-- The half whose port carries this half's host traffic: the other half's while only that one is attached (R404). -/
def portOf (s : State) (h : Half) : Half :=
  if unattached s h && !unattached s (otherHalf h) then otherHalf h else h

/-- PCIe accesses of this range succeed. -/
def hostOk (s : State) (addr len : Nat) : Bool :=
  s.hostBad.all fun r => decide (addr + len ≤ r.1 ∨ r.1 + r.2 ≤ addr)

/-- Read host memory; none where the read fails on PCIe. -/
def hostRead (s : State) (addr len : Nat) : Option (List Byte) :=
  if hostOk s addr len then some (s.hostMem.readBytes hostDefault addr len) else none

/-- Write host memory as one memory write; none where it fails on PCIe. A fenced device issues no request (R463). -/
def hostWrite (s : State) (addr : Nat) (bs : List Byte) : Option State :=
  if s.pair.fenced then some s
  else if hostOk s addr bs.length then some { s with hostMem := s.hostMem.writeBytes hostDefault addr bs }
  else none

/-! MSI-X (R402). -/

/-- Send the message of vector `v` of half `h`: a memory write of its data to its address. -/
def sendMsix (s : State) (h : Half) (v : Nat) : State :=
  let e := tget (half s h).ep.msix v
  let s1 := (hostWrite (linkWake s h) e.addr.toNat (leBytes 4 e.data.toNat)).getD s
  modEp s1 h fun p => { p with
    msix := tset p.msix v { tget p.msix v with pendingBit := false }
    msgs := (e.addr, e.data) :: p.msgs }

/-- Raise vector `v` of half `h`: sent, or pending while masked; nothing while MSI-X is disabled. -/
def signal (s : State) (h : Half) (v : Nat) : State :=
  let p := (half s h).ep
  if !p.msixEnable then s
  else if p.msixMask || (tget p.msix v).mask then
    modEp s h fun p => { p with msix := tset p.msix v { tget p.msix v with pendingBit := true } }
  else sendMsix s h v

/-! Events (R63 to R67, R542). -/

/-- An event record of half `h`; its SEQ is given as it is logged. -/
def mkEvent (h : Half) (code : BitVec 16) (sev : BitVec 2) (kind : BitVec 8) (id : Nat) (point : Count64)
    (d0 d1 d2 : Word) : EventRec :=
  { code, half := halfCode h, severity := sev, seq := 0, point, objectId := BitVec.ofNat 16 id, objectKind := kind,
    data0 := d0, data1 := d1, data2 := d2 }

/-- The 32 bytes of a record with its phase bit (R63). -/
def eventBytes (e : EventRec) (phase : Bool) : List Byte :=
  dwordBytes [pack [(0, e.code.toNat), (16, e.half.toNat), (18, e.severity.toNat), (31, b2n phase)], e.seq,
    lo32 e.point.toNat, hi32 e.point.toNat, pack [(0, e.objectId.toNat), (16, e.objectKind.toNat)],
    e.data0, e.data1, e.data2]

/-- Entries of a ring of 2^`l` slots between two indices. -/
def ringDist (l : BitVec 5) (from_ to_ : BitVec 16) : Nat :=
  (to_.toNat + 2 ^ l.toNat - from_.toNat) % 2 ^ l.toNat

/-- The index after `i` in a ring of 2^`l` slots. -/
def ringNext (l : BitVec 5) (i : BitVec 16) : BitVec 16 := BitVec.ofNat 16 ((i.toNat + 1) % 2 ^ l.toNat)

/-- The event ring has room for one more record (R64). -/
def evRoom (r : EvRec) : Bool := decide (ringDist r.sizeLog2 r.head r.tail < 2 ^ r.sizeLog2.toNat - 1)

/-- Log an event: its SEQ, the log's newest 1,024 records, and FAULT for severity 3 (R63, R398). -/
def logEvent (s : State) (h : Half) (e : EventRec) : EventRec × State :=
  let c := (half s h).cmd
  let e' := { e with seq := c.nextSeq }
  let l := c.log ++ [e']
  let s1 := modCmd s h fun c => { c with log := l.drop (l.length - 1024), nextSeq := c.nextSeq + 1 }
  (e', if e.severity = 3 then modIdent s1 h fun i => { i with fault := true } else s1)

/-- Whether the mask lets an event reach the ring (R65). -/
def passesMask (c : HalfCmd) (e : EventRec) : Bool :=
  e.code = 0x0001 || e.code = 0x0002 || e.code = 0x0003 || e.code = 0x0010 || e.severity = 3 ||
    (c.classEnable.getLsbD (e.code.toNat >>> 12) && decide (c.minSeverity.toNat ≤ e.severity.toNat))

/-- Write a record at TAIL of the event ring of half `p`, which has room; a write that fails stops the ring with
ERR_CODE 0x3 (R40, R67). -/
def pushRecord (s : State) (p : Half) (e : EventRec) : State :=
  let r := (half s p).cmd.ev
  match hostWrite (linkWake s p) (r.base.toNat + 32 * r.tail.toNat) (eventBytes e r.phase) with
  | some s1 =>
    let t := ringNext r.sizeLog2 r.tail
    let s2 := modCmd s1 p fun c => { c with ev := { c.ev with tail := t, phase := if t = 0 then !r.phase else r.phase } }
    if r.intEnable then signal s2 p r.vector.toNat else s2
  | none =>
    let s1 := modCmd s p fun c => { c with ev := { c.ev with error := true, errCode := 3 } }
    (logEvent s1 p (mkEvent p 0x0002 2 0x01 0 noPoint 3 (BitVec.ofNat 32 r.tail.toNat) 0)).2

/-- A live swap is in its clearing: firmware stands still (R473 steps 3 to 6). -/
def inSwap (s : State) : Bool := (s.sys.swap.map fun w => decide (w.step = 3)).getD false

/-- The state with the live swap changed. -/
def modSwap (s : State) (f : LiveSwap → LiveSwap) : State := modDev s fun d => { d with swap := d.swap.map f }

/-- The record that names the records lost from the ring, written first once space has returned (R64). -/
def pushOverflow (s : State) (p : Half) : State :=
  let r := (half s p).cmd.ev
  if r.enable && !r.error && r.overflowed && evRoom r && !(half s p).ep.d3hot && !inSwap s then
    let (e, s1) := logEvent s p (mkEvent p 0x0001 1 0x01 0 noPoint r.lost r.firstLost r.lastLost)
    pushRecord (modCmd s1 p fun c => { c with ev := { c.ev with overflowed := false, lost := 0 } }) p e
  else s

/-- Offer a logged record to the event ring of half `p` (R64); in D3hot it is treated as a full ring (R406), and in the
clearing of a live swap it waits (R473). -/
def ringEvent (s : State) (p : Half) (e : EventRec) : State :=
  if inSwap s then modSwap s fun w => { w with events := w.events ++ [(p, e)] } else
  let s0 := pushOverflow s p
  let r := (half s0 p).cmd.ev
  if !r.enable || r.error then s0
  else if (half s0 p).ep.d3hot || !evRoom r then
    modCmd s0 p fun c => { c with ev := { c.ev with
      lost := satInc c.ev.lost
      firstLost := if c.ev.overflowed then c.ev.firstLost else e.seq
      lastLost := e.seq
      overflowed := true } }
  else pushRecord s0 p e

/-- Raise an event of half `h`: log, event ring, management port (R63, R71), and PME in D3hot (R406). -/
def raise (s : State) (h : Half) (e : EventRec) : State :=
  let (e', s1) := logEvent s h e
  let p := portOf s1 h
  let s2 := if passesMask (half s1 p).cmd e' then ringEvent s1 p e' else s1
  let s3 := if decide (2 ≤ e'.severity.toNat) && decide (h = leadHalf s2) then
      { s2 with mgmt := { s2.mgmt with events := s2.mgmt.events ++ [e'] } } else s2
  if (half s3 h).ep.d3hot && (half s3 h).ep.pmeEn && decide (2 ≤ e'.severity.toNat) then
    modEp s3 h fun p => { p with pmeSent := true }
  else s3

/-- Raise an event given by its fields. -/
def event (s : State) (h : Half) (code : BitVec 16) (sev : BitVec 2) (kind : BitVec 8) (id : Nat) (point : Count64)
    (d0 d1 d2 : Nat) : State :=
  raise s h (mkEvent h code sev kind id point (BitVec.ofNat 32 d0) (BitVec.ofNat 32 d1) (BitVec.ofNat 32 d2))

/-! Rings (R36, R62, R67). -/

/-- Submission ring `n` of half `h`. -/
def sqAt (s : State) (h : Half) (n : Nat) : SqRec := tget (half s h).cmd.sq n
/-- The state with submission ring `n` of half `h` changed. -/
def modSq (s : State) (h : Half) (n : Nat) (f : SqRec → SqRec) : State :=
  modCmd s h fun c => { c with sq := tmod c.sq n f }
/-- Completion ring `n` of half `h`. -/
def cqAt (s : State) (h : Half) (n : Nat) : CqRec := tget (half s h).cmd.cq n
/-- The state with completion ring `n` of half `h` changed. -/
def modCq (s : State) (h : Half) (n : Nat) (f : CqRec → CqRec) : State :=
  modCmd s h fun c => { c with cq := tmod c.cq n f }

/-- Stop a submission ring with a ring error (R67). -/
def sqError (s : State) (h : Half) (n : Nat) (code : BitVec 4) (data1 : Nat) : State :=
  event (modSq s h n fun r => { r with error := true, errCode := code, quiesced := r.quiesced || r.fetching.isEmpty })
    h 0x0002 2 0x02 n noPoint code.toNat data1 0

/-- Stop a completion ring with a ring error (R67). -/
def cqError (s : State) (h : Half) (n : Nat) (code : BitVec 4) (data1 : Nat) : State :=
  event (modCq s h n fun r => { r with error := true, errCode := code }) h 0x0002 2 0x03 n noPoint code.toNat data1 0

/-- Stop the event ring with a ring error (R67): its own report goes to the log only. -/
def evError (s : State) (h : Half) (code : BitVec 4) (data1 : Nat) : State :=
  event (modCmd s h fun c => { c with ev := { c.ev with error := true, errCode := code } })
    h 0x0002 2 0x01 0 noPoint code.toNat data1 0

/-- Unconsumed entries of a completion ring. -/
def cqUsed (r : CqRec) : Nat := ringDist r.sizeLog2 r.head r.tail

/-- Slots of a completion ring neither used nor reserved. -/
def cqFree (r : CqRec) : Nat := 2 ^ r.sizeLog2.toNat - 1 - cqUsed r - r.reserved

/-- Give free slots to the stalled rings in the order in which they stalled; what does not complete the oldest one's
reservation is held for it (R62). -/
def offerLoop (s : State) (h : Half) (n : Nat) : List (Nat × Nat) → State
  | [] => modCq s h n fun r => { r with stalled := [], held := 0 }
  | (q, need) :: t =>
    if need ≤ cqFree (cqAt s h n) then
      offerLoop (modSq (modCq s h n fun r => { r with reserved := r.reserved + need, stalled := t, held := r.held - need })
        h q fun r => { r with cqStalled := false, preReserved := need }) h n t
    else s

/-- `k` slots of completion ring `n` have become free: offer them (R62). -/
def offerSlots (s : State) (h : Half) (n k : Nat) : State :=
  let r := cqAt s h n
  if r.stalled.isEmpty then s
  else offerLoop (modCq s h n fun r => { r with held := r.held + k }) h n r.stalled

/-- Release `k` reserved slots of completion ring `n` (R62, R548). -/
def releaseSlots (s : State) (h : Half) (n k : Nat) : State :=
  if k = 0 then s else offerSlots (modCq s h n fun r => { r with reserved := r.reserved - k }) h n k

/-! Completions (R50, R54, R62, R548). -/

/-- The 32 bytes of a completion entry. -/
def completionBytes (c : Completion) (phase : Bool) (sqHead : Nat) : List Word :=
  [pack [(0, c.tag.toNat), (16, c.status.toNat)],
   pack [(0, c.sq.toNat), (5, c.exec.toNat), (7, b2n phase), (16, sqHead)],
   c.res0, c.res1, c.res2,
   pack [(0, c.pidx.toNat), (16, c.reason.toNat), (24, c.boundary.toNat), (31, b2n c.effect)],
   lo32 c.point.toNat, hi32 c.point.toNat]

/-- A completion that no ring receives is recorded in the event log (R548), by half `h`. -/
def logCompletion (s : State) (h : Half) (c : Completion) : State :=
  raise s h
    { code := 0x0003, half := halfCode h, severity := 1, objectId := c.tag, objectKind := 0x04,
      point := BitVec.ofNat 64 (c.res1.toNat + 2 ^ 32 * c.res2.toNat),
      data0 := pack [(0, c.status.toNat), (16, c.sq.toNat), (21, (halfCode c.recv).toNat), (23, c.exec.toNat),
        (25, c.boundary.toNat), (29, b2n c.effect)],
      data1 := c.res0,
      data2 := pack [(0, c.pidx.toNat), (16, c.reason.toNat)] }

/-- Write a completion entry at TAIL of completion ring `n` of half `h`, and signal it (R40, R41, coalescing of R36). -/
def writeCompletion (s : State) (h : Half) (n : Nat) (c : Completion) : State :=
  let r := cqAt s h n
  match hostWrite (linkWake s h) (r.base.toNat + 32 * r.tail.toNat)
      (dwordBytes (completionBytes c r.phase (sqAt s h c.sq.toNat).head.toNat)) with
  | some s1 =>
    let t := ringNext r.sizeLog2 r.tail
    let u := r.unsignalled + 1
    let fire := r.intEnable && (c.notify || decide (max 1 r.coalCount.toNat ≤ u))
    let s2 := modCq s1 h n fun r => { r with
      tail := t, phase := if t = 0 then !r.phase else r.phase, unsignalled := if fire then 0 else u }
    if fire then signal s2 h r.vector.toNat else s2
  | none => logCompletion (cqError s h n 3 r.tail.toNat) h c

/-- Post a completion in its receiving half to completion ring `n`: held in D3hot (R406) and in the clearing of a live swap
(R473), written, or logged (R548). -/
def postTo (s : State) (n : Nat) (c : Completion) : State :=
  let r := cqAt s c.recv n
  if inSwap s then modSwap s fun w => { w with posts := w.posts ++ [(n, c)] }
  else if !r.enable || r.error then logCompletion s c.recv c
  else if (half s c.recv).ep.d3hot then
    modEp s c.recv fun p => { p with heldCompletions := p.heldCompletions ++ [(n, c)] }
  else writeCompletion s c.recv n c

/-- Is this flight the submission of this number? -/
def isFlight (serial : Nat) (f : Flight) : Bool := decide (f.cmd.serial = serial)

/-- The submission of this number, while it is in flight. -/
def flightOf (s : State) (serial : Nat) : Option Flight := s.flights.find? (isFlight serial)

/-- The half that carries out a command in flight. -/
def cmdHalf (s : State) (c : Cmd) : Half :=
  match flightOf s c.serial with
  | some f => f.exec
  | none => leadHalf s

/-- The command in flight with this receiving half and TAG (R46). -/
def liveFlight (s : State) (recv : Half) (tag : BitVec 16) : Option Flight :=
  s.flights.find? fun f => decide (f.cmd.recv = recv) && decide (f.cmd.tag = tag) && !f.dropped

/-- The state with the flight of this number changed. -/
def modFlight (s : State) (serial : Nat) (f : Flight → Flight) : State :=
  { s with flights := s.flights.map fun x => if isFlight serial x then f x else x }

/-! Pair records and acknowledgements (R456). -/

/-- The pair is up: this active has a mirror that has every record (R455). -/
def pairUp (s : State) : Bool := decide (s.pair.role = 1) && s.pair.hasMirror && decide (s.pair.st = .paired)

/-- The active sends its mirror a record. -/
def tell (s : State) (r : MirrorRec) : State := if pairUp s then modPair s fun p => { p with out := p.out ++ [r] } else s

/-- The flight is a command of an active with a mirror. -/
def isMirrored (s : State) (serial : Nat) : Bool := ((flightOf s serial).map (·.mirrored)).getD false

/-- A mirror carries the command out for the active: it reports nothing (R461). -/
def isSilent (s : State) (serial : Nat) : Bool := ((flightOf s serial).map (·.silent)).getD false

/-- Submission number of a held report. -/
def heldSerial : HeldReport → Nat
  | .completion _ k _ => k.serial
  | .effect _ r => r.serial

/-- A report of this command already waits for an acknowledgement. -/
def isHeld (s : State) (serial : Nat) : Bool := s.pair.held.any fun r => decide (heldSerial r = serial)

/-- A completion waits for the mirror's acknowledgement of its APPLY record. -/
def mustHold (s : State) (serial : Nat) : Bool := isHeld s serial || (isMirrored s serial && pairUp s)

/-- A report waits. -/
def hold (s : State) (r : HeldReport) : State := modPair s fun p => { p with held := p.held ++ [r] }

/-- The first completion of a command that the old active had accepted: REPLAYED, with the command's own status and reason
in PARAM_INDEX and REASON (R470). -/
def replayed (c : Completion) : Completion := { c with status := stReplayed, pidx := c.status }

/-- A completion ring takes completions. -/
def cqOpen (s : State) (h : Half) (n : Nat) : Bool := (cqAt s h n).enable && !(cqAt s h n).error

/-- Report a tag's outcome: on its completion ring, else in a PAIR_TAG_RESULT event (R470). -/
def tagOutcome (s : State) (cq : Nat) (c : Completion) (own : BitVec 16) : State :=
  let s1 := modPair s fun p =>
    if c.status = stLost then { p with lost := satInc p.lost } else { p with replayed := satInc p.replayed }
  if cqOpen s1 c.recv cq then postTo s1 cq c
  else event s1 c.recv 0xA005 1 0x04 c.tag.toNat noPoint
    (pack [(0, c.status.toNat), (16, c.sq.toNat), (21, (halfCode c.recv).toNat)]).toNat own.toNat 0

/-- Note the outcome of an entry's first completion for a CHAIN successor (R53). -/
def noteOutcome (s : State) (recv : Half) (sq : BitVec 5) (order : Nat) (good : Bool) : State :=
  let s1 := { s with flights := s.flights.map fun x =>
    if x.cmd.recv = recv ∧ x.cmd.sq = sq ∧ x.cmd.order = order + 1 ∧ !x.dropped then { x with predOutcome := some good }
    else x }
  if (sqAt s1 recv sq.toNat).fetchCount = order + 1 then
    modSq s1 recv sq.toNat fun r => { r with lastOutcome := some good }
  else s1

/-- Post a completion of a command in its receiving half, on the ring its slots were reserved in, and use up one of its
slots; the mirror hears of it. Reports of a command dropped by a reset of its rings are discarded, and a fenced device
posts none (R68, R456, R463, R467). -/
def deliver (s : State) (c : Completion) : State :=
  match flightOf s c.serial with
  | some f =>
    if f.dropped || s.pair.fenced then s else
    let good := decide (c.status = stOk) || decide (c.status = stOkDeferred)
    let s1 := if f.slots = 0 then s else
      modCq (modFlight s c.serial fun f => { f with slots := f.slots - 1 }) c.recv f.cq fun r =>
        { r with reserved := r.reserved - 1 }
    let s2 := if f.replay && !f.firstDone then tagOutcome s1 f.cq (replayed c) c.status else postTo s1 f.cq c
    let s3 := if f.mirrored then tell s2 (.posted c.recv c.tag (c.effect || decide (c.status ≠ stOkDeferred))) else s2
    if c.effect then s3
    else noteOutcome (modFlight s3 c.serial fun f => { f with firstDone := true }) c.recv c.sq f.cmd.order good
  | none => s

/-- A command has made its final report: its tag returns to the pool and its unused slots are released (R46, R62). -/
def retire (s : State) (serial : Nat) : State :=
  match flightOf s serial with
  | some f => releaseSlots { s with flights := s.flights.filter fun x => !isFlight serial x } f.cmd.recv f.cq f.slots
  | none => s

/-! The Mortar link's queues (R15, R16). -/

/-- Class number of a message (R15): CTRL 0, SEAM 1, STAT 2, VF 3, VCU 4, APER 5. -/
def msgClass : Msg → Nat
  | .command _ | .completion .. | .effect .. | .trigger _ | .remoteLatch .. | .fallback .. | .sideClosed ..
  | .tapWritten .. => 0
  | .seamRow .. => 1
  | .statPartial .. => 2
  | .vfFrame .. => 3
  | .substream .. | .refBand .. => 4
  | .aperRead .. | .aperWrite .. => 5

/-- The direction that half `h` sends on. -/
def dirFrom (m : Mortar) (h : Half) : MortarDir := if h = .A then m.ab else m.ba

/-- The link with the direction that half `h` sends on changed. -/
def modDir (m : Mortar) (h : Half) (f : MortarDir → MortarDir) : Mortar :=
  if h = .A then { m with ab := f m.ab } else { m with ba := f m.ba }

/-- The link carries or will carry messages: it is not DOWN, and has trained since power-on and since a half reset
(R21, R547). -/
def mortarUp (s : State) : Bool := s.mortar.st != .down && s.mortar.st != .reset && s.mortar.st != .training

/-- Queue a message at half `h` for the other half. An IDLE link goes ACTIVE (R22). -/
def mortarQueue (s : State) (h : Half) (m : Msg) : State :=
  { s with mortar :=
      let l := modDir s.mortar h fun d => { d with queue := tmod d.queue (msgClass m) (· ++ [m]) }
      if l.st = .idle then { l with st := .active } else l }

/-- The oldest complete message of class `k` received at half `h`, if it satisfies `p`. -/
def mortarHead (s : State) (h : Half) (k : Nat) : Option Msg := (tget (dirFrom s.mortar (otherHalf h)).rx k).head?

/-- Take the oldest message of class `k` received at half `h`; its last flit's credit returns to the sender (R15, log
entry 63). -/
def mortarTake (s : State) (h : Half) (k : Nat) : State :=
  { s with mortar := modDir s.mortar (otherHalf h) fun d =>
      let freed := min 1 (tget d.rxFlits k)
      { d with rx := tset d.rx k (tget d.rx k).tail
               rxFlits := tset d.rxFlits k (tget d.rxFlits k - freed)
               credits := tset d.credits k (tget d.credits k + freed) } }

/-! First completions and effect reports, from the half that carries the command out (R31, R56, R545). -/

/-- A completion of command `c` carried out in half `h`. -/
def mkCompletion (c : Cmd) (h : Half) (status : BitVec 16) (reason : BitVec 8) (pidx : BitVec 16) (r0 r1 r2 : Word) :
    Completion :=
  { recv := c.recv, sq := c.sq, tag := c.tag, status, exec := halfCode h, res0 := r0, res1 := r1, res2 := r2, pidx,
    reason, notify := c.notify, serial := c.serial }

/-- The completion of a management-port command goes to the port (R69, R70). -/
def portComplete (s : State) (c : Completion) : State :=
  { s with mgmt := { s.mgmt with running := false, completion := some (completionBytes c true 0) } }

/-- Half `h` completes a management-port command: one forwarded to it reports over the Mortar link (R31, R70). -/
def portReport (s : State) (h : Half) (c : Completion) : State :=
  if c.recv = h then portComplete s c
  else if mortarUp s then mortarQueue s h (.completion c.recv c)
  else logCompletion s h c

/-- Send a completion from half `h`: posted in the receiving half, at once or over the Mortar link; with the link unusable,
or after it has been, the executing half records it (R545). After its last report a command leaves flight (R46, R61). -/
def sendReport (s : State) (h : Half) (c : Completion) (last : Bool) : State :=
  let f := flightOf s c.serial
  let s1 :=
    if c.recv = h then deliver s c
    else match f with
      | some f =>
        if f.orphan then logCompletion s h c
        else if f.dropped then s
        else if mortarUp s then mortarQueue s h (.completion c.recv c) else logCompletion s h c
      | none => logCompletion s h c
  if last && (decide (c.recv = h) || !mortarUp s || (f.map (·.dropped)).getD false) then retire s1 c.serial else s1

/-- Report a completion from half `h`; that of a command of an active with a mirror waits for the mirror to acknowledge the
APPLY record, or the STAGE record of a staged change (R456). -/
def reportLast (s : State) (h : Half) (c : Completion) (last : Bool) : State :=
  if mustHold s c.serial then
    let s1 := if c.status = stOkDeferred then tell s (.stage c.recv c.tag) else s
    hold (tell s1 (.apply c)) (.completion h c last)
  else sendReport s h c last

/-- Report a completion that others follow. -/
def report (s : State) (h : Half) (c : Completion) : State := reportLast s h c false

/-- A command makes its only report: completion, then it leaves flight (R46, R61). -/
def complete (s : State) (c : Cmd) (h : Half) (status : BitVec 16) (reason : BitVec 8) (pidx : BitVec 16)
    (r0 r1 r2 : Word) : State :=
  let k := mkCompletion c h status reason pidx r0 r1 r2
  if c.port then portReport s h k else reportLast s h k true

/-- A long command completes OK with results. -/
def completeOk (s : State) (c : Cmd) (h : Half) (r0 r1 r2 : Word) : State := complete s c h stOk 0 0xFFFF r0 r1 r2

/-- The DEV_EFFECT record of an effect, as half `h` raises it. -/
def effectEvent (h : Half) (r : EffectReport) : EventRec :=
  { code := 0x0010, half := halfCode h, severity := 0, objectId := r.tag, objectKind := 0x04, point := r.point,
    data0 := pack [(0, r.opcode.toNat), (16, r.sq.toNat), (21, (halfCode r.recv).toNat)],
    data1 := pack [(0, r.boundary.toNat), (8, r.stream.toNat)],
    data2 := BitVec.setWidth 32 r.status }

/-- Write an effect report in its receiving half: DEV_EFFECT, and the effect completion if NOTIFY was set (R56). A mirror
writes none, and has used the active's effect point (R457, R461). -/
def deliverEffect (s : State) (r : EffectReport) : State :=
  if isSilent s r.serial then
    retire (modPair s fun p => { p with
      effects := p.effects.filter fun e => !decide (e.1 = r.recv ∧ e.2.1 = r.tag)
      tags := p.tags.map fun t => if t.cmd.serial = r.serial then { t with staged := false } else t }) r.serial
  else
    let s1 := raise s r.recv (effectEvent r.recv r)
    let s2 := if r.notify then
        deliver s1
          { recv := r.recv, sq := r.sq, tag := r.tag, status := r.status, exec := r.exec, res0 := r.res0,
            res1 := r.res1, boundary := r.boundary, effect := true, point := r.point, notify := true, serial := r.serial }
      else s1
    retire s2 r.serial

/-- Send an effect report from half `h` (R31, R545). -/
def sendEffect (s : State) (h : Half) (r : EffectReport) : State :=
  if r.recv = h || isSilent s r.serial then deliverEffect s r
  else match flightOf s r.serial with
    | some f =>
      if f.orphan then retire (raise s h (effectEvent h r)) r.serial
      else if f.dropped && !f.firstDone then retire s r.serial
      else if mortarUp s then mortarQueue s h (.effect r.recv r) else raise s h (effectEvent h r)
    | none => raise s h (effectEvent h r)

/-- Report an effect from half `h`: the mirror hears its effect point; the report follows a completion that still waits
(R56, R456). -/
def reportEffect (s : State) (h : Half) (r : EffectReport) : State :=
  let s1 := if isMirrored s r.serial then tell s (.effect r.recv r.tag r.point r.stream.toNat) else s
  if isHeld s1 r.serial then hold s1 (.effect h r) else sendEffect s1 h r

/-- Send a report that waited. -/
def sendHeld (s : State) : HeldReport → State
  | .completion h k last => sendReport s h k last
  | .effect h r => sendEffect s h r

/-- Send, in order, the waiting reports of the commands that `p` names. -/
def releaseHeld (s : State) (p : HeldReport → Bool) : State :=
  (s.pair.held.filter p).foldl sendHeld (modPair s fun q => { q with held := q.held.filter fun r => !p r })

/-! Staged boundary changes (R55 to R57). -/

/-- Stage a boundary change. -/
def stage (s : State) (c : Cmd) (op : Op) (h : Half) (key : BKey) (data : List Byte := []) : State :=
  { s with staged := s.staged ++ [{ cmd := c, op, exec := h, key, data }] }

/-- The effect report of a staged change: BOUNDARY, effect point, and the stream whose frame names it. -/
def mkEffect (x : Staged) (opcode : BitVec 16) (boundary : BitVec 4) (point : Count64) (stream : Nat) : EffectReport :=
  { recv := x.cmd.recv, sq := x.cmd.sq, tag := x.cmd.tag, opcode, boundary, point, stream := BitVec.ofNat 6 stream,
    status := stOk, exec := halfCode x.exec, res0 := BitVec.ofNat 32 stream, notify := x.cmd.notify,
    serial := x.cmd.serial }

/-- On a mirror whose admissions are gated, a change staged for the active takes effect only at the point that the active
has reported for it (R457). -/
def pairDue (s : State) (x : Staged) (point : Count64) : Bool :=
  !(s.pair.gating && isSilent s x.cmd.serial) ||
    s.pair.effects.any fun e => decide (e.1 = x.cmd.recv) && decide (e.2.1 = x.cmd.tag) && decide (e.2.2 = point)

/-- Apply staged changes, oldest first, by `f`, with the report that `rep` makes of each (R56, R57). -/
def applyList (f : Staged → State → State) (rep : Staged → State → EffectReport) : List Staged → State → State
  | [], s => s
  | x :: t, s =>
    let s1 := f x s
    applyList f rep t (reportEffect s1 x.exec (rep x s1))

/-- The boundary `key` is reached: every change staged for it takes effect, in the order in which it started. -/
def applyStaged (s : State) (key : BKey) (f : Staged → State → State) (rep : Staged → State → EffectReport) : State :=
  applyList f rep (s.staged.filter fun x => decide (x.key = key))
    { s with staged := s.staged.filter fun x => !decide (x.key = key) }

/-! DRAM of a half (R358, R384). -/

/-- The region that backs a half address. -/
def regionOf (m : HalfMem) (a : Nat) : Option MemRegion :=
  m.regions.toList.find? fun r => r.enable && decide (r.base * 2 ^ 30 ≤ a ∧ a < (r.base + r.size) * 2 ^ 30)

/-- A half address is backed. -/
def backed (m : HalfMem) (a : Nat) : Bool := (regionOf m a).isSome

/-- A range of half addresses is wholly backed. -/
def backedRange (m : HalfMem) (a len : Nat) : Bool :=
  (List.range ((a + len + 2 ^ 30 - 1) / 2 ^ 30 - a / 2 ^ 30)).all fun i => backed m (max a ((a / 2 ^ 30 + i) * 2 ^ 30))

/-- One byte of a half's DRAM: all ones where unbacked (R358). -/
def dramByte (m : HalfMem) (a : Nat) : Byte := if backed m a then m.mem.read dramDefault a else 0xFF

/-- The burst of a half address reads as poisoned: unbacked, or marked (R358, R384). -/
def poisoned (m : HalfMem) (a : Nat) : Bool := !backed m a || m.poison.contains (a / 64)

/-- Read a half's DRAM: the bytes, and whether any burst read was poisoned. -/
def dramRead (s : State) (h : Half) (a len : Nat) : List Byte × Bool :=
  let m := (half s h).mem
  ((List.range len).map fun i => dramByte m (a + i),
   len != 0 && (List.range ((a + len - 1) / 64 - a / 64 + 1)).any fun i => poisoned m ((a / 64 + i) * 64))

/-- Insert into a rising list. -/
def insertUp (x : Nat) : List Nat → List Nat
  | [] => [x]
  | y :: t => if x < y then x :: y :: t else if x = y then y :: t else y :: insertUp x t

/-- Mark a burst poisoned: its marker is written back (R384). -/
def poisonBurst (m : HalfMem) (burst : Nat) : HalfMem := { m with poison := insertUp burst m.poison }

/-- Write the bytes that lie in backed bursts. -/
def writeBacked (m : HalfMem) : Nat → List Byte → HalfMem
  | _, [] => m
  | a, b :: bs => writeBacked (if backed m a then { m with mem := m.mem.write dramDefault a b } else m) (a + 1) bs

/-- Bursts that a write touches, with whether it covers each wholly. -/
def burstsOf (a len : Nat) : List (Nat × Bool) :=
  if len = 0 then [] else
  (List.range ((a + len - 1) / 64 - a / 64 + 1)).map fun i =>
    let b := a / 64 + i
    (b, decide (a ≤ b * 64 ∧ b * 64 + 64 ≤ a + len))

/-- The lowest-numbered usable channel, which counts what no channel address names (DESIGN CHOICE 46). -/
def firstChan (m : HalfMem) : Nat :=
  ((List.range 8).find? fun c => !(tget m.chans c).excluded && decide (0 < (tget m.chans c).dimms)).getD 0

/-- Write a half's DRAM: bytes in unbacked bursts are discarded and each such burst counts as one UE; a burst written
whole loses its poison marker (R358, R384). -/
def dramWriteMem (m : HalfMem) (a : Nat) (bs : List Byte) : HalfMem :=
  let bursts := burstsOf a bs.length
  let lost := (bursts.filter fun b => !backed m (b.1 * 64)).length
  let m1 := writeBacked m a bs
  let m2 := { m1 with poison := m1.poison.filter fun p => !(bursts.contains (p, true)) }
  if lost = 0 then m2
  else { m2 with chans := tmod m2.chans (firstChan m2) fun c => { c with ue := satAdd c.ue lost } }

/-- Write a half's DRAM. -/
def dramWrite (s : State) (h : Half) (a : Nat) (bs : List Byte) : State := modMem s h fun m => dramWriteMem m a bs

/-! Flash writes (R500, R541). -/

/-- A supply guard is in force in either half (R500). -/
def inGuard (s : State) : Bool := s.a.sys.guard || s.b.sys.guard

/-- The oldest flash write programs its next piece, unless a guard is in force (R500). -/
def flashGo (s : State) : State :=
  match s.sys.jobs with
  | j :: t => if inGuard s || j.pieces.isEmpty then s else modDev s fun d => { d with jobs := { j with busy := true } :: t }
  | [] => s

/-- Checks 9 and 10 for a command that needs half `h`'s DRAM (R491, R356). -/
def dramChecks (s : State) (h : Half) : List (Bool × Reply) :=
  let m := (half s h).mem
  [(!(half s h).ident.memReady, wrongState 0xB2),
   (!(m.chans.toList.any fun c => !c.excluded && decide (0 < c.dimms)), err stNoMemory 0x70)]

/-- Two address ranges overlap. -/
def overlap (a alen b blen : Nat) : Bool := decide (a < b + blen ∧ b < a + alen ∧ 0 < alen ∧ 0 < blen)

/-- Copy bytes to host memory and answer: DATA_CORRUPT with reason 0x71 when the data were poisoned (R384); a PCIe write
that fails completes DATA_CORRUPT with reason 0x04 (DESIGN CHOICE 47). -/
def copyOut (s : State) (addr : Nat) (bs : List Byte) (poison : Bool) (r : Reply) : Reply × State :=
  match hostWrite s addr bs with
  | some s1 => (if poison then err stDataCorrupt 0x71 else r, s1)
  | none => (err stDataCorrupt 0x04, s)

/-- Write a status record to its buffer: in host memory, or in the data buffer of the management port (R69, R72). -/
def writeRecord (s : State) (c : Cmd) (addr : Nat) (bs : List Byte) (r : Reply) : Reply × State :=
  if c.port then (r, { s with mgmt := { s.mgmt with buf := bs ++ s.mgmt.buf.drop bs.length } })
  else copyOut s addr bs false r

end Sys2Proof.Machine
end

