-- ==== Sys2Proof/Machine/Correct.lean ====
section
/-! DEFINITION. Sensor corrections, stages 1 to 7, as functions of a frame's source pixels (R225 to R238). -/

namespace Sys2Proof.Machine

/-! Planes of samples. -/

/-- A rectangle of signed samples at picture coordinates. -/
structure Plane where
  /-- first column -/
  x0 : Int
  /-- first row -/
  y0 : Int
  /-- columns -/
  w : Nat
  /-- rows -/
  h : Nat
  /-- samples, row by row -/
  data : Array Int

/-- Build a plane from a function of its coordinates. -/
def mkPlane (x0 y0 : Int) (w h : Nat) (f : Int → Int → Int) : Plane :=
  { x0, y0, w, h, data := ((List.range (w * h)).map fun (i : Nat) => f (x0 + Int.ofNat (i % w)) (y0 + Int.ofNat (i / w))).toArray }

/-- Sample at picture coordinates; beyond the rectangle, that of its nearest sample. -/
def Plane.at_ (p : Plane) (x y : Int) : Int :=
  let cx := min (p.w - 1) (x - p.x0).toNat
  let cy := min (p.h - 1) (y - p.y0).toNat
  p.data.getD (cy * p.w + cx) 0

/-- A plane of the same rectangle, computed from its coordinates. -/
def Plane.onto (p : Plane) (f : Int → Int → Int) : Plane := mkPlane p.x0 p.y0 p.w p.h f

/-- A column or row mirrored into a window about its edges (R207). -/
def mirror (lo hi : Nat) (x : Int) : Nat :=
  if hi ≤ lo then lo
  else
    let n : Nat := hi - lo
    let t := ((x - Int.ofNat lo) % Int.ofNat (2 * n)).toNat
    lo + (if t ≤ n then t else 2 * n - t)

/-- Clamp to the range of a stored sample (R225). -/
def clampSample (v : Int) : Int := max 0 (min v 0xFFFFFF)

/-- The pedestal (R225). -/
def pedestal : Int := 0x4000

/-- Arithmetic shift right with rounding half up (R225). -/
def roundShift (t : Int) (n : Nat) : Int := (t + 2 ^ (n - 1)) >>> n

/-- CFA channel of a pixel at picture coordinates; channel 0 for MONO (R225). -/
def chanOf (cfa : Nat) (x y : Int) : Nat := if cfa = 4 then 0 else 2 * (y % 2).toNat + (x % 2).toNat

/-- Step to the nearest same-channel neighbour (R225). -/
def stepOf (cfa : Nat) : Int := if cfa = 4 then 1 else 2

/-- Colour of a channel: 0 red, 1 green, 2 blue. -/
def colourOf (cfa c : Nat) : Nat :=
  match cfa with
  | 0 => [0, 1, 1, 2].getD c 1
  | 1 => [1, 0, 2, 1].getD c 1
  | 2 => [1, 2, 0, 1].getD c 1
  | _ => [2, 1, 1, 0].getD c 1

/-! A source as the stages read it. -/

/-- One source of a frame: its place in the picture, its pixels and its settings. -/
structure SrcIn where
  /-- stream number -/
  stream : Nat
  /-- X_OFFSET -/
  x : Nat
  /-- Y_OFFSET -/
  y : Nat
  /-- width -/
  w : Nat
  /-- height -/
  h : Nat
  /-- bits of a code -/
  depth : Nat
  /-- code of pixel (u, v) of the stream -/
  px : Nat → Nat → Nat
  /-- corrections in force -/
  corr : StreamCorr
  /-- the LUT as an array -/
  lut : Array Nat
  /-- dark residual of pixel (u, v) -/
  dark : Nat → Nat → Int
  /-- column offset -/
  col : Nat → Int
  /-- row offset -/
  row : Nat → Int
  /-- pixel (u, v) is listed in the committed map -/
  listed : Nat → Nat → Bool
  /-- black levels in force -/
  black : List Int

/-- The source that covers a picture pixel. -/
def srcAt (ss : List SrcIn) (x y : Nat) : Option SrcIn :=
  ss.find? fun z => decide (z.x ≤ x ∧ x < z.x + z.w ∧ z.y ≤ y ∧ y < z.y + z.h)

/-- LUT entry `i` of a stream. -/
def lutEntry (lut : Array Nat) (i : Nat) : Int := if lut.isEmpty then Int.ofNat (i * 256) else Int.ofNat (lut.getD i 0)

/-- The linear value of a code (R226). -/
def linearise (lut : Array Nat) (depth code : Nat) : Int :=
  if depth ≤ 12 then lutEntry lut (code <<< (12 - depth))
  else
    let n := depth - 12
    let i := code >>> n
    let f := code % 2 ^ n
    lutEntry lut i + (((lutEntry lut (min (i + 1) 4095) - lutEntry lut i) * Int.ofNat f) >>> n)

/-- Stage 1: linearisation and black subtraction of a source pixel (R226, R227). -/
def stage1 (z : SrcIn) (c u v : Nat) : Int :=
  let l := linearise z.lut z.depth (z.px u v)
  clampSample (l - z.black.getD c 0 - z.corr.blackAdj.toArray.getD c 0 + pedestal)

/-- Black level measured on a source's optical-black rows: the mean of L over channel c, rounded half up (R227). -/
def measureBlack (z : SrcIn) (cfa c : Nat) : Int :=
  let vals := (List.range z.corr.obRows).flatMap fun r =>
    let v := z.corr.obFirst + r
    ((List.range z.w).filter fun u => decide (v < z.h) && decide (chanOf cfa (Int.ofNat (z.x + u)) (Int.ofNat (z.y + v)) = c)).map
      fun u => linearise z.lut z.depth (z.px u v)
  if vals.isEmpty then 0 else (2 * vals.sum + Int.ofNat vals.length) / (2 * Int.ofNat vals.length)

/-- The four black levels of a source for a frame: held, measured, or fixed (R227). -/
def blackLevels (z : SrcIn) (cfa : Nat) (prev : Option (List Int)) (short : Bool) : List Int :=
  (List.range 4).map fun c =>
    if z.corr.obRows = 0 then Int.ofNat (z.corr.blackFixed.toArray.getD c 0)
    else match prev with
      | some b =>
        if short then b.getD c 0
        else b.getD c 0 + ((measureBlack z cfa c - b.getD c 0) >>> z.corr.blkShift)
      | none => if short then 0 else measureBlack z cfa c

/-! The stages over a plane of the side and its surroundings. -/

/-- What the stages know at a pixel of the plane: the mirrored picture coordinates and the source there. -/
structure Site where
  /-- mirrored column -/
  x : Nat
  /-- mirrored row -/
  y : Nat
  /-- source -/
  src : Option SrcIn

/-- Geometry of a context as the stages read it. -/
structure Geo where
  /-- CFA -/
  cfa : Nat
  /-- ACTIVE_X -/
  ax : Nat
  /-- ACTIVE_Y -/
  ay : Nat
  /-- ACTIVE_W -/
  aw : Nat
  /-- ACTIVE_H -/
  ah : Nat

/-- The site of a pixel of the plane (R207). -/
def siteAt (g : Geo) (ss : List SrcIn) (x y : Int) : Site :=
  let mx := mirror g.ax (g.ax + g.aw - 1) x
  let my := mirror g.ay (g.ay + g.ah - 1) y
  { x := mx, y := my, src := srcAt ss mx my }

/-- Settings of the stream at a site. -/
def siteCorr (z : Site) : StreamCorr := (z.src.map (·.corr)).getD {}

/-- Stage 1 over a plane. -/
def plane1 (g : Geo) (ss : List SrcIn) (x0 y0 : Int) (w h : Nat) : Plane :=
  mkPlane x0 y0 w h fun x y =>
    let z := siteAt g ss x y
    match z.src with
    | some q => stage1 q (chanOf g.cfa (Int.ofNat z.x) (Int.ofNat z.y)) (z.x - q.x) (z.y - q.y)
    | none => 0

/-- Sum over pairs of offsets. -/
def sumOver (xs ys : List Int) (f : Int → Int → Int) : Int := (ys.map fun b => (xs.map fun a => f a b).sum).sum

/-- Cross-talk of a pixel (R228). -/
def crosstalk (g : Geo) (k : StreamCorr) (y : Int → Int → Int) (px py : Int) : Int :=
  if k.xtOn then
    let c := chanOf g.cfa px py
    let kern := (k.xt.drop (25 * c)).take 25
    roundShift (sumOver [0, 1, 2, 3, 4] [0, 1, 2, 3, 4] fun j i =>
      kern.getD (5 * i.toNat + j.toNat) 0 * y (px + j - 2) (py + i - 2)) 13
  else y px py

/-- Green imbalance of a pixel (R229). -/
def greenImbalance (g : Geo) (k : StreamCorr) (y : Int → Int → Int) (px py : Int) : Int :=
  if k.giOn = false ∨ g.cfa = 4 ∨ colourOf g.cfa (chanOf g.cfa px py) ≠ 1 then y px py
  else
    let o := (sumOver [-1, 1] [-1, 1] fun a b => y (px + a) (py + b)).tdiv 4
    let w := (y (px - 2) py + y (px + 2) py + y px (py - 2) + y px (py + 2)).tdiv 4
    let d := o - w
    if Int.ofNat d.natAbs ≤ (Int.ofNat k.giLimit * max o w) >>> 8 then
      y px py + ((d * Int.ofNat k.giStrength) >>> 9)
    else y px py

/-- Stage 2 (R228, R229). -/
def plane2 (g : Geo) (ss : List SrcIn) (p : Plane) : Plane :=
  let a := p.onto fun x y =>
    crosstalk g (siteCorr (siteAt g ss x y)) (fun x y => p.at_ x y - pedestal) x y
  p.onto fun x y => clampSample (greenImbalance g (siteCorr (siteAt g ss x y)) a.at_ x y + pedestal)

/-- Stage 3 (R230). -/
def plane3 (g : Geo) (ss : List SrcIn) (p : Plane) : Plane :=
  p.onto fun x y =>
    let z := siteAt g ss x y
    match z.src with
    | some q =>
      if q.corr.fpOn then
        let u := z.x - q.x
        let v := z.y - q.y
        clampSample (p.at_ x y - ((q.dark u v * Int.ofNat q.corr.darkScale) >>> 12) - q.col u - q.row v)
      else p.at_ x y
    | none => p.at_ x y

/-- Insert into a rising list of integers. -/
def insertInt (x : Int) : List Int → List Int
  | [] => [x]
  | y :: t => if x ≤ y then x :: y :: t else y :: insertInt x t

/-- A list of integers in rising order. -/
def sortInts (l : List Int) : List Int := l.foldr insertInt []

/-- Median of 3 or 4 values (R233). -/
def medianOf (l : List Int) : Int :=
  let t := sortInts l
  if l.length = 4 then (t.getD 1 0 + t.getD 2 0).tdiv 2 else t.getD 1 0

/-- Mean of values (R233). -/
def meanOf (l : List Int) : Int := l.sum.tdiv (Int.ofNat l.length)

/-- The pixel is detected as a dynamic defect (R234). -/
def dynDefect (k : StreamCorr) (st : Int) (y : Int → Int → Int) (px py : Int) : Bool :=
  let ns := [(-st, 0), (st, 0), (0, -st), (0, st), (-st, -st), (st, -st), (-st, st), (st, st)].map fun d =>
    y (px + d.1) (py + d.2)
  let hi := ns.foldl max (ns.getD 0 0)
  let lo := ns.foldl min (ns.getD 0 0)
  let v := y px py
  (k.dynHot && decide (hi + max (Int.ofNat k.dynAbs) ((hi * Int.ofNat k.dynRel) >>> 8) < v)) ||
    (k.dynCold && decide (v < lo - max (Int.ofNat k.dynAbs) ((lo * Int.ofNat k.dynRel) >>> 8)))

/-- What stage 4 makes of a bad pixel from its good neighbours; none where it is left unchanged (R233). -/
def repairPixel (st : Int) (good : Int → Int → Bool) (y : Int → Int → Int) (px py : Int) : Option Int :=
  let pick := fun (ds : List (Int × Int)) =>
    (ds.filter fun d => good (px + d.1) (py + d.2)).map fun d => y (px + d.1) (py + d.2)
  let ns := pick [(-st, 0), (st, 0), (0, -st), (0, st)]
  if 3 ≤ ns.length then some (medianOf ns)
  else if ns.isEmpty then
    let ds := pick [(-st, -st), (st, -st), (-st, st), (st, st)]
    if ds.isEmpty then none else some (meanOf ds)
  else some (meanOf ns)

/-- Flags of stage 4 over a plane: 0 good, 1 listed, 2 detected (R233, R234). -/
def defectFlags (g : Geo) (ss : List SrcIn) (p : Plane) : Plane :=
  p.onto fun x y =>
    let z := siteAt g ss x y
    match z.src with
    | some q =>
      if !q.corr.defOn then 0
      else if q.listed (z.x - q.x) (z.y - q.y) then 1
      else if dynDefect q.corr (stepOf g.cfa) (fun x y => p.at_ x y - pedestal) x y then 2 else 0
    | none => 0

/-- Stage 4 (R233). -/
def plane4 (g : Geo) (p flags : Plane) : Plane :=
  p.onto fun x y =>
    if flags.at_ x y = 0 then p.at_ x y
    else match repairPixel (stepOf g.cfa) (fun x y => decide (flags.at_ x y = 0)) (fun x y => p.at_ x y - pedestal) x y with
      | some v => clampSample (v + pedestal)
      | none => p.at_ x y

/-- Pixels of a rectangle that satisfy a test. -/
def countIn (x0 y0 w h : Nat) (f : Int → Int → Bool) : Nat :=
  ((List.range (w * h)).filter fun i => f (Int.ofNat (x0 + i % w)) (Int.ofNat (y0 + i / w))).length

/-- Shading gain at a picture pixel (R235). -/
def shadeGain (g : Geo) (grid : Array Nat) (c x y : Nat) : Int :=
  let u := ((x - g.ax) * 64 * 65536) / (g.aw - 1)
  let v := ((y - g.ay) * 32 * 65536) / (g.ah - 1)
  let i := min (u >>> 16) 63
  let j := min (v >>> 16) 31
  let fu := u - i * 65536
  let fv := v - j * 65536
  let node := fun (a b : Nat) => grid.getD (c * 65 * 33 + b * 65 + a) 0
  let t := node i j * (65536 - fu) * (65536 - fv) + node (i + 1) j * fu * (65536 - fv) +
    node i (j + 1) * (65536 - fu) * fv + node (i + 1) (j + 1) * fu * fv
  Int.ofNat ((t + 2 ^ 31) / 2 ^ 32)

/-- Stages 5 and 6 (R235, R236). -/
def plane6 (g : Geo) (k : CtxCorr) (p : Plane) : Plane :=
  let grid := k.shading.toArray
  p.onto fun x y =>
    let mx := mirror g.ax (g.ax + g.aw - 1) x
    let my := mirror g.ay (g.ay + g.ah - 1) y
    let c := chanOf g.cfa (Int.ofNat mx) (Int.ofNat my)
    let s5 := if k.shOn then
        clampSample (roundShift ((p.at_ x y - pedestal) * shadeGain g grid c mx my) 14 + pedestal)
      else p.at_ x y
    clampSample (roundShift ((s5 - pedestal) * Int.ofNat (k.wb.toArray.getD c 0)) 12 + pedestal)

/-- Stage 7 at a pixel (R237). -/
def noiseReduce (k : CtxCorr) (st : Int) (y : Int → Int → Int) (px py : Int) : Int :=
  let y0 := y px py
  let var := max (1 : Int) (Int.ofNat k.nrB + ((Int.ofNat k.nrA * max y0 0) >>> 20))
  let weight := fun (v : Int) => max (0 : Int) (256 - ((v - y0) * (v - y0) * 4096).tdiv (Int.ofNat k.nrK * var))
  let offs : List Int := [-2, -1, 0, 1, 2]
  let sw := sumOver offs offs fun a b => if a = 0 ∧ b = 0 then 256 else weight (y (px + st * a) (py + st * b))
  let sv := sumOver offs offs fun a b =>
    let v := y (px + st * a) (py + st * b)
    (if a = 0 ∧ b = 0 then 256 else weight v) * v
  y0 + (((sv.tdiv sw - y0) * Int.ofNat k.nrStrength) >>> 8)

/-- Stage 7: noise reduction, and the pedestal removed (R225, R237). -/
def plane7 (g : Geo) (k : CtxCorr) (p : Plane) : Plane :=
  let y := fun x y => p.at_ x y - pedestal
  p.onto fun px py => clampSample (if k.nrOn then noiseReduce k (stepOf g.cfa) y px py else y px py)

/-- A side developed through stage 7: the mosaic, DYN_DEFECTS and UNREPAIRED of its columns `l` to `l + w - 1`. -/
def mosaic (g : Geo) (k : CtxCorr) (ss : List SrcIn) (l w : Nat) : Plane × Nat × Nat :=
  let p1 := plane1 g ss (Int.ofNat l - 64) (Int.ofNat g.ay - 64) (w + 128) (g.ah + 128)
  let p3 := plane3 g ss (plane2 g ss p1)
  let fl := defectFlags g ss p3
  let dyn := countIn l g.ay w g.ah fun x y => decide (fl.at_ x y = 2)
  let un := countIn l g.ay w g.ah fun x y => decide (fl.at_ x y ≠ 0) &&
    (repairPixel (stepOf g.cfa) (fun x y => decide (fl.at_ x y = 0)) (fun x y => p3.at_ x y) x y).isNone
  (plane7 g k (plane6 g k (plane4 g p3 fl)), dyn, un)

end Sys2Proof.Machine
end

