-- ==== Sys2Proof/Machine/Fixed.lean ====
section
/-! DEFINITION. Real functions in fixed point with 160 fractional bits, in place of the double precision in which the spec
has Keystone firmware compute its tables (R261, R265; DESIGN CHOICE 51). -/

namespace Sys2Proof.Machine

/-- Fractional bits. -/
def fxBits : Nat := 160

/-- 1.0. -/
def fxOne : Int := 2 ^ fxBits

/-- The rational n / d. -/
def fxRat (n d : Int) : Int := n * fxOne / d

/-- Product. -/
def fxMul (a b : Int) : Int := (a * b) >>> fxBits

/-- Quotient. -/
def fxDiv (a b : Int) : Int := a * fxOne / b

/-- A rational n / d rounded to the nearest integer, halves away from zero. -/
def roundRat (n d : Int) : Int :=
  let q := (2 * Int.ofNat n.natAbs + Int.ofNat d.natAbs) / (2 * Int.ofNat d.natAbs)
  if (n < 0) = (d < 0) then q else -q

/-- A fixed-point value times `k`, rounded to the nearest integer. -/
def fxRound (v : Int) (k : Int) : Int := roundRat (v * k) fxOne

/-- Bits of a square root, highest first. -/
def sqrtBits (n : Nat) : Nat → Nat → Nat
  | 0, r => r
  | k + 1, r => if (r + 2 ^ k) * (r + 2 ^ k) ≤ n then sqrtBits n k (r + 2 ^ k) else sqrtBits n k r

/-- Square root of a fixed-point value below 2^32. -/
def fxSqrt (v : Int) : Int := Int.ofNat (sqrtBits (v.toNat * 2 ^ fxBits) 176 0)

/-- Bits of the binary logarithm of `m` in [1, 2), 96 of them. -/
def logBits : Nat → Int → Int → Int
  | 0, _, acc => acc
  | k + 1, m, acc =>
    let q := fxMul m m
    if 2 * fxOne ≤ q then logBits k (q / 2) (2 * acc + 1) else logBits k q (2 * acc)

/-- Binary logarithm of a positive fixed-point value. -/
def fxLog2 (v : Int) : Int :=
  let e : Int := Int.ofNat (Nat.log2 v.toNat) - Int.ofNat fxBits
  let m := if 0 ≤ e then v / 2 ^ e.toNat else v * 2 ^ (-e).toNat
  e * fxOne + logBits 96 m 0 * 2 ^ (fxBits - 96)

/-- Repeated square roots of a value. -/
def rootList : Nat → Int → List Int
  | 0, _ => []
  | k + 1, v => fxSqrt v :: rootList k (fxSqrt v)

/-- 2^(1/2), 2^(1/4), and so on, 96 of them. -/
def expRoots : List Int := rootList 96 (2 * fxOne)

/-- The product of the roots at the set bits of a fraction, from its highest bit. -/
def expBits (f : Nat) : List Int → Nat → Int → Int
  | [], _, acc => acc
  | r :: t, k, acc => expBits f t (k - 1) (if f.testBit k then fxMul acc r else acc)

/-- 2 to a fixed-point power, from the upper 96 bits of its fraction. -/
def fxExp2 (v : Int) : Int :=
  let n := v >>> fxBits
  let f := (v - n * fxOne).toNat
  let r := expBits f expRoots (fxBits - 1) fxOne
  if 0 ≤ n then r * 2 ^ n.toNat else r / 2 ^ (-n).toNat

/-- A positive fixed-point value to a power. -/
def fxPow (x a : Int) : Int := if x ≤ 0 then 0 else fxExp2 (fxMul a (fxLog2 x))

/-- Terms of the series of arctan (1 / n). -/
def atanTerms (n : Int) : Nat → Int → Int → Int → Int
  | 0, _, _, acc => acc
  | k + 1, p, d, acc => atanTerms n k (-(p / (n * n))) (d + 2) (acc + p / d)

/-- Pi, by Machin's formula. -/
def fxPi : Int := 16 * atanTerms 5 90 (fxOne / 5) 1 0 - 4 * atanTerms 239 30 (fxOne / 239) 1 0

/-- Terms of the series of sin. -/
def sinTerms (x2 : Int) : Nat → Int → Int → Int → Int
  | 0, _, _, acc => acc
  | k + 1, p, d, acc => sinTerms x2 k (-(fxMul p x2) / ((d + 1) * (d + 2))) (d + 2) (acc + p)

/-- sin (pi z). -/
def fxSinPi (z : Int) : Int :=
  let r := (z + fxOne) % (2 * fxOne) - fxOne
  let x := fxMul fxPi r
  sinTerms (fxMul x x) 45 x 1 0

/-- sin (pi z) / (pi z). -/
def fxSinc (z : Int) : Int := if z = 0 then fxOne else fxDiv (fxSinPi z) (fxMul fxPi z)

/-- e, by its series. -/
def fxE : Int := ((List.range 60).foldl (fun (a : Int × Int) k => (a.1 + a.2, a.2 / Int.ofNat (k + 1))) (0, fxOne)).1

/-- Natural logarithm of a positive fixed-point value. -/
def fxLn (v : Int) : Int := fxDiv (fxLog2 v) (fxLog2 fxE)

end Sys2Proof.Machine
end

