-- ==== Sys2Proof/Machine/Colour.lean ====
section
/-! DEFINITION. Stages 8 and 9 as functions of planes: demosaic, input matrix, shaper and 3D LUT (R245 to R253). -/

namespace Sys2Proof.Machine

/-- Three planes of one rectangle: R, G, B. -/
structure Rgb where
  /-- red -/
  r : Plane
  /-- green -/
  g : Plane
  /-- blue -/
  b : Plane

/-- Channel `k` of three planes: 0 red, 1 green, 2 blue. -/
def Rgb.chan (p : Rgb) (k : Nat) : Plane := if k = 0 then p.r else if k = 1 then p.g else p.b

/-! Demosaic (R245 to R247). -/

/-- Magnitude. -/
def mag (v : Int) : Int := Int.ofNat v.natAbs

/-- Colour of the mosaic sample at a pixel. -/
def siteColour (cfa : Nat) (x y : Int) : Nat := colourOf cfa (chanOf cfa x y)

/-- Green at a pixel in directional mode (R245 step 1). -/
def greenDir (cfa : Nat) (c : Int → Int → Int) (x y : Int) : Int :=
  if siteColour cfa x y = 1 then c x y
  else
    let lapH := 2 * c x y - c (x - 2) y - c (x + 2) y
    let lapV := 2 * c x y - c x (y - 2) - c x (y + 2)
    let dh := mag (c (x - 1) y - c (x + 1) y) + mag lapH
    let dv := mag (c x (y - 1) - c x (y + 1)) + mag lapV
    let gh := (2 * (c (x - 1) y + c (x + 1) y) + lapH + 2) >>> 2
    let gv := (2 * (c x (y - 1) + c x (y + 1)) + lapV + 2) >>> 2
    (gh * (dv + 1) + gv * (dh + 1)).tdiv (dh + dv + 2)

/-- Green at a pixel in bilinear mode (R246). -/
def greenLin (cfa : Nat) (c : Int → Int → Int) (x y : Int) : Int :=
  if siteColour cfa x y = 1 then c x y else (c (x - 1) y + c (x + 1) y + c x (y - 1) + c x (y + 1) + 2) >>> 2

/-- Red (0) or blue (2) at a pixel, from differences to green in directional mode, from samples in bilinear mode (R245,
R246). -/
def redBlue (mode cfa : Nat) (c g : Int → Int → Int) (k : Nat) (x y : Int) : Int :=
  let d := fun x y => if mode = 0 then c x y - g x y else c x y
  let base := if mode = 0 then g x y else 0
  let here := siteColour cfa x y
  if here = k then c x y
  else if here = 1 then
    if siteColour cfa (x + 1) y = k then base + ((d (x - 1) y + d (x + 1) y + 1) >>> 1)
    else base + ((d x (y - 1) + d x (y + 1) + 1) >>> 1)
  else base + ((d (x - 1) (y - 1) + d (x + 1) (y - 1) + d (x - 1) (y + 1) + d (x + 1) (y + 1) + 2) >>> 2)

/-- Median of a 3 x 3 neighbourhood. -/
def median9 (f : Int → Int → Int) (x y : Int) : Int :=
  (sortInts ([-1, 0, 1].flatMap fun b => [-1, 0, 1].map fun a => f (x + a) (y + b))).getD 4 0

/-- False-colour suppression of red or blue against green (R247). -/
def suppress (fc : Nat) (p g : Plane) : Plane :=
  let d := p.onto fun x y => p.at_ x y - g.at_ x y
  p.onto fun x y =>
    clampSample (g.at_ x y + d.at_ x y + (((median9 d.at_ x y - d.at_ x y) * Int.ofNat fc) >>> 8))

/-- Stage 8 (R245 to R247). -/
def demosaic (cfa mode fc : Nat) (m : Plane) : Rgb :=
  if cfa = 4 then { r := m, g := m, b := m }
  else
    let g := m.onto fun x y => if mode = 0 then greenDir cfa m.at_ x y else greenLin cfa m.at_ x y
    let r := m.onto fun x y => redBlue mode cfa m.at_ g.at_ 0 x y
    let b := m.onto fun x y => redBlue mode cfa m.at_ g.at_ 2 x y
    { r := suppress fc r g, g := g.onto fun x y => clampSample (g.at_ x y), b := suppress fc b g }

/-! Working colour (R249 to R253). -/

/-- One row of a matrix on RGB (R249). -/
def matRow (m offs : List Int) (k : Nat) (a b c : Int) : Int :=
  clampSample (((m.getD (3 * k) 0 * a + m.getD (3 * k + 1) 0 * b + m.getD (3 * k + 2) 0 * c + 2 ^ 15) >>> 16) + offs.getD k 0)

/-- Pseudo-log index of a U4.20 value: entry, fraction, fraction width (R250). -/
def pseudoLog (x : Nat) : Nat × Nat × Nat :=
  if x < 512 then (x / 2, x % 2, 1)
  else
    let e := Nat.log2 x
    (256 * (e - 8) + (x >>> (e - 8)) % 256, x % 2 ^ (e - 8), e - 8)

/-- Index point of an entry (R250). -/
def indexPoint (i : Nat) : Nat :=
  if i < 256 then 2 * i else 2 ^ (i / 256 + 8) + (i % 256) * 2 ^ (i / 256)

/-- A table evaluated at a U4.20 value (R250). -/
def tableAt (t : Array Nat) (x : Nat) : Int :=
  let (i, f, n) := pseudoLog x
  let a := Int.ofNat (t.getD i 0)
  a + (((Int.ofNat (t.getD (min (i + 1) 4095) 0) - a) * Int.ofNat f) >>> n)

/-- One channel of the tetrahedral interpolation (R253). -/
def tetra (c000 ca cb c111 : Nat) (f1 f2 f3 : Nat) : Int :=
  let z := fun (n : Nat) => Int.ofNat n
  clampSample ((z c000 * 2 ^ 15 + z f1 * (z ca - z c000) + z f2 * (z cb - z ca) + z f3 * (z c111 - z cb) + 2 ^ 11) >>> 12)

/-- Ca and Cb as node offsets, and f1, f2, f3, by the row of Table — Tetrahedra (R253). -/
def tetraRow (fr fg fb : Nat) : (Nat × Nat × Nat) × (Nat × Nat × Nat) × (Nat × Nat × Nat) :=
  if fg ≤ fr ∧ fb ≤ fg then ((1, 0, 0), (1, 1, 0), (fr, fg, fb))
  else if fb ≤ fr ∧ fg < fb then ((1, 0, 0), (1, 0, 1), (fr, fb, fg))
  else if fr < fb ∧ fg ≤ fr then ((0, 0, 1), (1, 0, 1), (fb, fr, fg))
  else if fr < fg ∧ fb ≤ fr then ((0, 1, 0), (1, 1, 0), (fg, fr, fb))
  else if fb ≤ fg ∧ fr < fb then ((0, 1, 0), (0, 1, 1), (fg, fb, fr))
  else ((0, 0, 1), (0, 1, 1), (fb, fg, fr))

/-- The 3D LUT at three coordinates (R252, R253). -/
def lut3d (n : Nat) (nodes : Array (Nat × Nat × Nat)) (tr tg tb : Nat) : Int × Int × Int :=
  let split := fun (t : Nat) =>
    let pos := t * (n - 1)
    let i := min (pos >>> 15) (n - 2)
    (i, pos - i * 2 ^ 15)
  let (ir, fr) := split tr
  let (ig, fg) := split tg
  let (ib, fb) := split tb
  let node := fun (o : Nat × Nat × Nat) => nodes.getD (((ib + o.2.2) * n + ig + o.2.1) * n + ir + o.1) (0, 0, 0)
  let (a, b, f1, f2, f3) := tetraRow fr fg fb
  let z := node (0, 0, 0)
  let na := node a
  let nb := node b
  let o := node (1, 1, 1)
  (tetra z.1 na.1 nb.1 o.1 f1 f2 f3, tetra z.2.1 na.2.1 nb.2.1 o.2.1 f1 f2 f3, tetra z.2.2 na.2.2 nb.2.2 o.2.2 f1 f2 f3)

/-- What stage 9 reads: the colour settings, and the LUT's size and nodes. -/
structure LutIn where
  /-- nodes a side -/
  n : Nat
  /-- nodes in entry order -/
  nodes : Array (Nat × Nat × Nat)

/-- Stage 9 on one pixel (R249, R251 to R253). -/
def working (k : Colour) (shaper : List (Array Nat)) (l : LutIn) (a b c : Int) : Int × Int × Int :=
  let r := matRow k.matrix k.offs 0 a b c
  let g := matRow k.matrix k.offs 1 a b c
  let u := matRow k.matrix k.offs 2 a b c
  if k.lutOn then
    let t := fun (i : Nat) (v : Int) => (max 0 (min (tableAt (shaper.getD i #[]) v.toNat) 0x8000)).toNat
    lut3d l.n l.nodes (t 0 r) (t 1 g) (t 2 u)
  else (r, g, u)

/-- Stage 9 over demosaiced planes: the working RGB. -/
def workingPlanes (k : Colour) (l : LutIn) (p : Rgb) : Rgb :=
  let sh := [(k.shaper.take 4096).toArray, ((k.shaper.drop 4096).take 4096).toArray, ((k.shaper.drop 8192).take 4096).toArray]
  let at_ := fun x y => working k sh l (p.r.at_ x y) (p.g.at_ x y) (p.b.at_ x y)
  { r := p.g.onto fun x y => (at_ x y).1, g := p.g.onto fun x y => (at_ x y).2.1, b := p.g.onto fun x y => (at_ x y).2.2 }

end Sys2Proof.Machine
end

