-- ==== Sys2Proof/Machine/StatPix.lean ====
section
/-! DEFINITION. What the statistics unit measures of a side, and the record it makes of it (R285 to R291). -/

namespace Sys2Proof.Machine

/-- Sums and counts of a side, as half B sends them to the lead (R291). -/
structure StatSums where
  /-- pre-colour histogram: 4 channels of 1,024 bins -/
  pre : Array Nat
  /-- post-colour histogram: 3 channels of 1,024 bins -/
  post : Array Nat
  /-- zone sums: zone-major, 4 channels -/
  zsum : Array Nat
  /-- zone counts -/
  zcnt : Array Nat
  /-- focus sums -/
  focus : Array Nat
  /-- pre-colour clip counts -/
  clipPre : Array Nat
  /-- post-colour clip counts -/
  clipPost : Array Nat
  /-- pixel sites measured -/
  pixels : Nat
  deriving DecidableEq, Repr, Inhabited

/-- `n` zeros. -/
def zeros (n : Nat) : Array Nat := (List.replicate n 0).toArray

/-- Nothing measured. -/
def noSums : StatSums :=
  { pre := zeros 4096, post := zeros 3072, zsum := zeros 12288, zcnt := zeros 12288, focus := zeros 3072, clipPre := zeros 4
    clipPost := zeros 3, pixels := 0 }

/-- An array with an entry higher by `v`. -/
def bump (a : Array Nat) (i v : Nat) : Array Nat := a.modify i (· + v)

/-- Zone columns and rows (R286). -/
def zoneGrid (g : Geo) : Nat × Nat := (min 64 (g.aw / 2), min 48 (g.ah / 2))

/-- Zone number of a picture pixel (R286). -/
def zoneOf (g : Geo) (x y : Nat) : Nat :=
  let (zx, zy) := zoneGrid g
  let i := (((x - g.ax) / 2 + 1) * zx - 1) / (g.aw / 2)
  let j := (((y - g.ay) / 2 + 1) * zy - 1) / (g.ah / 2)
  j * 64 + i

/-- Bin of a U4.20 value (R285). -/
def binOf (v : Int) : Nat := (pseudoLog v.toNat).1 / 4

/-- What the unit reads of a side. -/
structure StatIn where
  /-- geometry -/
  geo : Geo
  /-- stage 7 output -/
  m : Plane
  /-- stage 8 green -/
  g : Plane
  /-- stage 9 output -/
  w : Rgb
  /-- stage 1 input code of a picture pixel -/
  code : Nat → Nat → Nat
  /-- CLIP_CODE in force -/
  clipCode : Nat
  /-- CLIP_POST_LEVEL in force -/
  clipPost : Nat

/-- Add one pixel (R285). -/
def addPixel (i : StatIn) (t : StatSums) (x y : Nat) : StatSums :=
  let zx := Int.ofNat x
  let zy := Int.ofNat y
  let c := chanOf i.geo.cfa zx zy
  let z := zoneOf i.geo x y
  let v := i.m.at_ zx zy
  let g0 := i.g.at_ zx zy
  let right := if x + 1 < i.geo.ax + i.geo.aw then (i.g.at_ (zx + 1) zy - g0).natAbs else 0
  let down := if y + 1 < i.geo.ay + i.geo.ah then (i.g.at_ zx (zy + 1) - g0).natAbs else 0
  let rgb := [i.w.r.at_ zx zy, i.w.g.at_ zx zy, i.w.b.at_ zx zy]
  let post := (List.range 3).foldl (fun a k => bump a (1024 * k + binOf (rgb.getD k 0)) 1) t.post
  let cp := (List.range 3).foldl (fun a k => if Int.ofNat i.clipPost ≤ rgb.getD k 0 then bump a k 1 else a) t.clipPost
  { pre := bump t.pre (1024 * c + binOf v) 1, post, zsum := bump t.zsum (4 * z + c) v.toNat, zcnt := bump t.zcnt (4 * z + c) 1
    focus := bump t.focus z (right + down)
    clipPre := if i.clipCode ≤ i.code x y then bump t.clipPre c 1 else t.clipPre, clipPost := cp, pixels := t.pixels + 1 }

/-- Measure the columns `l` to `l + w - 1` of the active window (R285). -/
def measureSide (i : StatIn) (l w : Nat) : StatSums :=
  (List.range (w * i.geo.ah)).foldl (fun t k => addPixel i t (l + k % w) (i.geo.ay + k / w)) noSums

/-- Entry by entry sum of two arrays. -/
def addArr (a b : Array Nat) : Array Nat := (a.zip b).map fun p => p.1 + p.2

/-- The sums of both halves (R291). -/
def mergeSums (a b : StatSums) : StatSums :=
  { pre := addArr a.pre b.pre, post := addArr a.post b.post, zsum := addArr a.zsum b.zsum, zcnt := addArr a.zcnt b.zcnt
    focus := addArr a.focus b.focus, clipPre := addArr a.clipPre b.clipPre, clipPost := addArr a.clipPost b.clipPost
    pixels := a.pixels + b.pixels }

/-- Sums as the bytes of a STAT message: 64-bit values in order. -/
def sumsBytes (t : StatSums) : List Byte :=
  (t.pre ++ t.post ++ t.zsum ++ t.zcnt ++ t.focus ++ t.clipPre ++ t.clipPost ++ #[t.pixels]).toList.flatMap (leBytes 8)

/-- 64-bit values from bytes. -/
def qwordsOf : Nat → List Byte → List Nat
  | 0, _ => []
  | n + 1, bs => leNat (bs.take 8) :: qwordsOf n (bs.drop 8)

/-- Sums from the bytes of a STAT message. -/
def sumsOf (bs : List Byte) : StatSums :=
  let v := qwordsOf 34824 bs
  let cut := fun (a n : Nat) => ((v.drop a).take n).toArray
  { pre := cut 0 4096, post := cut 4096 3072, zsum := cut 7168 12288, zcnt := cut 19456 12288, focus := cut 31744 3072
    clipPre := cut 34816 4, clipPost := cut 34820 3, pixels := v.getD 34823 0 }

/-- Mean rounded half up; 0 of nothing. -/
def meanUp (sum cnt : Nat) : Nat := if cnt = 0 then 0 else (2 * sum + cnt) / (2 * cnt)

/-- Channels measured before colour (R289). -/
def nchOf (cfa : Nat) : Nat := if cfa = 4 then 1 else 4

/-- Zone means, zone-major, 4 channels (R285). -/
def zoneMeans (t : StatSums) : List Nat := (List.range 12288).map fun i => meanUp (t.zsum.getD i 0) (t.zcnt.getD i 0)

/-- Zone luminances (R287). -/
def zoneLums (nch : Nat) (means : List Nat) : List Nat :=
  let m := means.toArray
  (List.range 3072).map fun z => meanUp (((List.range nch).map fun c => m.getD (4 * z + c) 0).sum) nch

/-- Change of a zone (R287). -/
def zoneChange (floor_ zf zp : Nat) : Int :=
  max (-32767) (min 32767 (((Int.ofNat zf - Int.ofNat zp) * 4096).tdiv (Int.ofNat (max zp floor_))))

/-- Zone changes against the previous frame's luminances; zeros where there is none (R287). -/
def zoneChanges (g : Geo) (floor_ : Nat) (z : List Nat) (prev : Option (List Nat)) : List Int :=
  let (zx, zy) := zoneGrid g
  match prev with
  | none => List.replicate 3072 0
  | some p =>
    let a := z.toArray
    let b := p.toArray
    (List.range 3072).map fun i =>
      if i % 64 < zx ∧ i / 64 < zy then zoneChange floor_ (a.getD i 0) (b.getD i 0) else 0

/-- The body of a record: bytes 0x100 to 0x178FF, and zeros to the slot's end (R289). -/
def statBody (t : StatSums) (means : List Nat) (chg : List Int) : List Byte :=
  t.pre.toList.flatMap (leBytes 4) ++ t.post.toList.flatMap (leBytes 4) ++ means.flatMap (leBytes 4) ++
    t.focus.toList.flatMap (fun f => leBytes 4 (min 0xFFFFFFFF (f / 256))) ++
    chg.flatMap (fun c => leBytes 2 (pattern 16 c)) ++ List.replicate 1792 0

end Sys2Proof.Machine
end

