-- ==== Sys2Proof/Machine/PairCore.lean ====
section
/-! DEFINITION. What every command and every island has to do with the pair: what an ACCEPT record carries, the fence, the
self-reported faults (R456, R458, R463, R464). -/

namespace Sys2Proof.Machine

/-- Host-memory tables that a command reads: address, bytes (R242, R282, R310, R456). -/
def hostTables (s : State) (c : Cmd) (op : Op) : List (Nat × Nat) :=
  let sel := fun (b : Bool) (a len : Nat) => if b then [(a, len)] else []
  match op with
  | .pipeSetStreamCorr => sel (pb c 2 8) (pq c 3) 16384 ++ sel (pb c 2 10) (pq c 12) 200
  | .pipeSetContextCorr => sel (pb c 2 8) (pq c 3) 17160
  | .pipeSetColour => sel (pb c 2 9) (pq c 4) 48 ++ sel (pb c 2 10) (pq c 6) 24576
  | .pipeSetTap =>
    sel (decide (pf c 2 21 19 = 7)) (pq c 7) 48 ++ sel (decide (pf c 2 18 16 = 6)) (pq c 7 + 64) 16384 ++
      sel (decide (pf c 2 23 22 = 2)) (pq c 7 + 16448) 1024
  | .trimLoad =>
    if pb c 2 28 then []
    else
      let count := if pf c 2 4 0 = 2 then leNat (((hostRead s (pq c 3 + 72) 4).getD [])) else 0
      [(pq c 3, if pf c 2 4 0 = 1 then 128 else if pf c 2 4 0 = 2 then 80 + 4 * min count 4194305 else 104)]
  | _ => []

/-- Input regions of the active's DRAM that a command names: half, address, bytes (R255, R319, R415, R458). -/
def inputRegions (s : State) (c : Cmd) (op : Op) : List (Half × Nat × Nat) :=
  match op with
  | .pipeLoadLut =>
    let len := 8 * if pb c 2 4 then 274625 else 35937
    (if pb c 2 5 then [(Half.A, pq c 3, len)] else []) ++ (if pb c 2 6 then [(Half.B, pq c 5, len)] else [])
  | .vfSetSource =>
    if pb c 2 0 then [((halfOfCode (pf c 2 13 12)).getD .A, pq c 3, (dw c 5).toNat * pf c 6 31 16)] else []
  | .vcuSubmitPicture =>
    let k := (sessAt s (pf c 2 3 0)).cfg
    let pitch := (dw c 7).toNat
    let part := fun (h : Half) (d : Nat) =>
      [(h, pq c d, pitch * k.height), (h, pq c (d + 2), pitch * if k.profile = 2 then k.height else k.height / 2)]
    if k.half = 3 then part .A 3 ++ part .B 8 else part ((halfOfCode k.half.toNat).getD .A) 3
  | _ => []

/-- The ACCEPT record of a command (R456). -/
def acceptRec (s : State) (c : Cmd) (op : Op) : AcceptRec :=
  { cmd := c, op
    regions := (inputRegions s c op).map fun r => (r.1, r.2.1, (dramRead s r.1 r.2.1 r.2.2).1)
    tables := (hostTables s c op).map fun t => (t.1, (hostRead s t.1 t.2).getD []) }

/-- The AON island fences the device: no PCIe request, outputs in their mirror state with PAIR_OWN_N high, no active pulses
(R463). -/
def fence (s : State) (cause : Nat) : State :=
  modPair s fun p => { p with fenced := true, own := false, pulses := false, fenceCause := cause }

/-- A self-reported fault: an active with a mirror hands over as for PAIR_SWITCHOVER with DRAIN 0, where FAULT_MASK enables
the cause (R464). -/
def selfFault (s : State) (bit : Nat) : State :=
  if pairUp s ∧ s.pair.faultMask.getLsbD bit ∧ !s.pair.fenced then fence s (3 + bit) else s

end Sys2Proof.Machine
end

