-- ==== Sys2Proof/Machine/Commands.lean ====
section
/-! DEFINITION. What every command shares: the number of its parameters, its latency class, its placement in a half, the
entry checks, and its way from its start to its reports (R32, R33, R45 to R50, R60, R461). -/

namespace Sys2Proof.Machine

/-- The state `t` with the queue of `s`: a row changes everything but the queue. -/
def withQueueOf (s t : State) : State := { t with pending := s.pending }

/-- A row of the table takes effect: the objects it names exist (else the fault), and the device has not tripped, which
leaves every clock stopped (R506). -/
def actIf (ok : Bool) (s t : State) : Host.Outcome State Fault Refusal :=
  if !ok then .fault .noSuchObject
  else if s.sys.tripped then .next s
  else .next (withQueueOf s t)

/-- A row of the table takes effect where it is well formed. -/
def act (i : Instr) (s t : State) : Host.Outcome State Fault Refusal := actIf i.wf s t

/-- Latency classes (R55, R56, R61). -/
inductive Latency where
  | immediate | boundary | long
  deriving DecidableEq, Repr, Inhabited

/-- Code of an opcode (R539). -/
def opCode : Op → Nat
  | .devNop => 0x0001
  | .devAbort => 0x0002
  | .devSetEventMask => 0x0003
  | .devReadEventLog => 0x0004
  | .devFwStage => 0x0020
  | .devFwVerify => 0x0021
  | .devFwActivate => 0x0022
  | .devFwGetStatus => 0x0023
  | .devReset => 0x0030
  | .devGetHealth => 0x0031
  | .devSetThermal => 0x0032
  | .linkSetQuadMode => 0x1001
  | .linkConfigure => 0x1002
  | .linkEnable => 0x1003
  | .linkDisable => 0x1004
  | .linkRetrain => 0x1005
  | .linkGetStatus => 0x1006
  | .linkClearCounters => 0x1007
  | .linkSetPolicy => 0x1008
  | .linkRemapLane => 0x1009
  | .linkSetEq => 0x100A
  | .linkPrbsCheck => 0x100B
  | .qryMapStream => 0x2001
  | .qryConfigureStream => 0x2002
  | .qryConfigureRing => 0x2003
  | .qryStartStream => 0x2004
  | .qryStopStream => 0x2005
  | .qrySetTriggerRule => 0x2006
  | .qryArm => 0x2007
  | .qryTrigger => 0x2008
  | .qryRead => 0x2009
  | .qryGetSegments => 0x200A
  | .qryRelease => 0x200B
  | .qrySetHostMark => 0x200C
  | .qryGetStatus => 0x200D
  | .qrySetReporting => 0x200E
  | .qryLocate => 0x200F
  | .ashEncode => 0x3001
  | .ashDecode => 0x3002
  | .ashContinue => 0x3003
  | .ashDropJob => 0x3004
  | .ashGetStatus => 0x3005
  | .pipeOpenContext => 0x4001
  | .pipeSetSource => 0x4002
  | .pipeStartContext => 0x4003
  | .pipeStopContext => 0x4004
  | .pipeCloseContext => 0x4005
  | .pipeSetSlotMask => 0x4006
  | .pipeSetPriority => 0x4007
  | .pipeSetSlotTime => 0x4008
  | .pipeGetContextStatus => 0x4009
  | .pipeSetStreamCorr => 0x4020
  | .pipeSetContextCorr => 0x4021
  | .pipeSetColour => 0x4030
  | .pipeLoadLut => 0x4031
  | .pipeSetTap => 0x4032
  | .pipeSetTapRing => 0x4033
  | .pipeTapBuffer => 0x4034
  | .pipeGetTapStatus => 0x4035
  | .statConfigure => 0x5001
  | .statSetContentTrigger => 0x5002
  | .statRead => 0x5003
  | .trimSetPolicy => 0x5101
  | .trimMeasure => 0x5102
  | .trimCommit => 0x5103
  | .trimLoad => 0x5104
  | .trimRead => 0x5105
  | .vcuOpenSession => 0x6001
  | .vcuSetOutput => 0x6002
  | .vcuSetRate => 0x6003
  | .vcuStart => 0x6004
  | .vcuStop => 0x6005
  | .vcuRequestIrap => 0x6006
  | .vcuCloseSession => 0x6007
  | .vcuSubmitPicture => 0x6008
  | .vcuDecodeData => 0x6009
  | .vcuFlush => 0x600A
  | .vcuConsumed => 0x600B
  | .vcuPictureBuffer => 0x600C
  | .vcuGetPool => 0x600D
  | .vcuGetStatus => 0x600E
  | .memGetStatus => 0x7001
  | .memSetRegion => 0x7002
  | .memSetPolicy => 0x7003
  | .memTrain => 0x7004
  | .memSetFreq => 0x7005
  | .memReadTiming => 0x7006
  | .memRepair => 0x7007
  | .memSaveTraining => 0x7008
  | .memInjectError => 0x7009
  | .vfSetSource => 0x8001
  | .vfConfigureOutput => 0x8002
  | .vfPanelSequence => 0x8003
  | .vfSetCheck => 0x8004
  | .vfResume => 0x8005
  | .vfGetStatus => 0x8006
  | .audConfigure => 0x9001
  | .audStart => 0x9002
  | .audStop => 0x9003
  | .audAdvance => 0x9004
  | .audSetLatch => 0x9005
  | .audGetStatus => 0x9006
  | .pairConfigure => 0xA001
  | .pairGetStatus => 0xA002
  | .pairSwitchover => 0xA003
  | .pairTakeover => 0xA004
  | .pwrSetWakeBudget => 0xB001
  | .pwrGetState => 0xB002
  | .hostGetLinkStatus => 0xC001

/-- Latency class of an opcode (R539). -/
def opLatency : Op → Latency
  | .devNop => .immediate
  | .devAbort => .immediate
  | .devSetEventMask => .immediate
  | .devReadEventLog => .immediate
  | .devFwStage => .long
  | .devFwVerify => .long
  | .devFwActivate => .long
  | .devFwGetStatus => .immediate
  | .devReset => .immediate
  | .devGetHealth => .immediate
  | .devSetThermal => .immediate
  | .linkSetQuadMode => .immediate
  | .linkConfigure => .immediate
  | .linkEnable => .long
  | .linkDisable => .immediate
  | .linkRetrain => .long
  | .linkGetStatus => .immediate
  | .linkClearCounters => .immediate
  | .linkSetPolicy => .immediate
  | .linkRemapLane => .boundary
  | .linkSetEq => .immediate
  | .linkPrbsCheck => .long
  | .qryMapStream => .immediate
  | .qryConfigureStream => .immediate
  | .qryConfigureRing => .immediate
  | .qryStartStream => .boundary
  | .qryStopStream => .boundary
  | .qrySetTriggerRule => .immediate
  | .qryArm => .immediate
  | .qryTrigger => .immediate
  | .qryRead => .long
  | .qryGetSegments => .immediate
  | .qryRelease => .immediate
  | .qrySetHostMark => .immediate
  | .qryGetStatus => .immediate
  | .qrySetReporting => .immediate
  | .qryLocate => .immediate
  | .ashEncode => .long
  | .ashDecode => .long
  | .ashContinue => .long
  | .ashDropJob => .immediate
  | .ashGetStatus => .immediate
  | .pipeOpenContext => .immediate
  | .pipeSetSource => .immediate
  | .pipeStartContext => .boundary
  | .pipeStopContext => .boundary
  | .pipeCloseContext => .immediate
  | .pipeSetSlotMask => .boundary
  | .pipeSetPriority => .boundary
  | .pipeSetSlotTime => .boundary
  | .pipeGetContextStatus => .immediate
  | .pipeSetStreamCorr => .boundary
  | .pipeSetContextCorr => .boundary
  | .pipeSetColour => .boundary
  | .pipeLoadLut => .long
  | .pipeSetTap => .boundary
  | .pipeSetTapRing => .immediate
  | .pipeTapBuffer => .immediate
  | .pipeGetTapStatus => .immediate
  | .statConfigure => .boundary
  | .statSetContentTrigger => .immediate
  | .statRead => .immediate
  | .trimSetPolicy => .immediate
  | .trimMeasure => .long
  | .trimCommit => .boundary
  | .trimLoad => .boundary
  | .trimRead => .immediate
  | .vcuOpenSession => .immediate
  | .vcuSetOutput => .immediate
  | .vcuSetRate => .boundary
  | .vcuStart => .boundary
  | .vcuStop => .boundary
  | .vcuRequestIrap => .boundary
  | .vcuCloseSession => .immediate
  | .vcuSubmitPicture => .long
  | .vcuDecodeData => .long
  | .vcuFlush => .long
  | .vcuConsumed => .immediate
  | .vcuPictureBuffer => .immediate
  | .vcuGetPool => .immediate
  | .vcuGetStatus => .immediate
  | .memGetStatus => .immediate
  | .memSetRegion => .immediate
  | .memSetPolicy => .immediate
  | .memTrain => .long
  | .memSetFreq => .long
  | .memReadTiming => .immediate
  | .memRepair => .long
  | .memSaveTraining => .long
  | .memInjectError => .immediate
  | .vfSetSource => .boundary
  | .vfConfigureOutput => .long
  | .vfPanelSequence => .long
  | .vfSetCheck => .immediate
  | .vfResume => .immediate
  | .vfGetStatus => .immediate
  | .audConfigure => .immediate
  | .audStart => .immediate
  | .audStop => .immediate
  | .audAdvance => .immediate
  | .audSetLatch => .immediate
  | .audGetStatus => .immediate
  | .pairConfigure => .immediate
  | .pairGetStatus => .immediate
  | .pairSwitchover => .long
  | .pairTakeover => .long
  | .pwrSetWakeBudget => .immediate
  | .pwrGetState => .immediate
  | .hostGetLinkStatus => .immediate

/-- Least and greatest number of parameter dwords of an opcode (R45). -/
def opParams : Op → Nat × Nat
  | .devNop => (0, 0)
  | .devAbort => (1, 1)
  | .devSetEventMask => (2, 2)
  | .devReadEventLog => (4, 4)
  | .devFwStage => (5, 5)
  | .devFwVerify => (0, 0)
  | .devFwActivate => (5, 5)
  | .devFwGetStatus => (3, 3)
  | .devReset => (1, 1)
  | .devGetHealth => (3, 3)
  | .devSetThermal => (1, 1)
  | .linkSetQuadMode => (1, 1)
  | .linkConfigure => (3, 3)
  | .linkEnable => (1, 1)
  | .linkDisable => (1, 1)
  | .linkRetrain => (1, 1)
  | .linkGetStatus => (3, 3)
  | .linkClearCounters => (1, 1)
  | .linkSetPolicy => (2, 2)
  | .linkRemapLane => (1, 1)
  | .linkSetEq => (2, 2)
  | .linkPrbsCheck => (2, 2)
  | .qryMapStream => (1, 1)
  | .qryConfigureStream => (4, 4)
  | .qryConfigureRing => (13, 13)
  | .qryStartStream => (1, 1)
  | .qryStopStream => (1, 1)
  | .qrySetTriggerRule => (5, 5)
  | .qryArm => (1, 1)
  | .qryTrigger => (1, 1)
  | .qryRead => (7, 7)
  | .qryGetSegments => (4, 4)
  | .qryRelease => (2, 2)
  | .qrySetHostMark => (5, 5)
  | .qryGetStatus => (3, 3)
  | .qrySetReporting => (1, 1)
  | .qryLocate => (3, 3)
  | .ashEncode => (10, 10)
  | .ashDecode => (7, 9)
  | .ashContinue => (4, 4)
  | .ashDropJob => (1, 1)
  | .ashGetStatus => (3, 3)
  | .pipeOpenContext => (6, 6)
  | .pipeSetSource => (3, 3)
  | .pipeStartContext => (4, 4)
  | .pipeStopContext => (1, 1)
  | .pipeCloseContext => (1, 1)
  | .pipeSetSlotMask => (3, 3)
  | .pipeSetPriority => (1, 1)
  | .pipeSetSlotTime => (1, 1)
  | .pipeGetContextStatus => (3, 3)
  | .pipeSetStreamCorr => (25, 25)
  | .pipeSetContextCorr => (8, 8)
  | .pipeSetColour => (6, 6)
  | .pipeLoadLut => (5, 5)
  | .pipeSetTap => (5, 7)
  | .pipeSetTapRing => (10, 10)
  | .pipeTapBuffer => (1, 3)
  | .pipeGetTapStatus => (3, 3)
  | .statConfigure => (6, 6)
  | .statSetContentTrigger => (4, 4)
  | .statRead => (5, 5)
  | .trimSetPolicy => (5, 5)
  | .trimMeasure => (1, 13)
  | .trimCommit => (1, 1)
  | .trimLoad => (3, 3)
  | .trimRead => (3, 3)
  | .vcuOpenSession => (13, 13)
  | .vcuSetOutput => (8, 8)
  | .vcuSetRate => (6, 6)
  | .vcuStart => (1, 1)
  | .vcuStop => (1, 1)
  | .vcuRequestIrap => (1, 1)
  | .vcuCloseSession => (1, 1)
  | .vcuSubmitPicture => (14, 14)
  | .vcuDecodeData => (6, 6)
  | .vcuFlush => (1, 1)
  | .vcuConsumed => (4, 4)
  | .vcuPictureBuffer => (1, 1)
  | .vcuGetPool => (3, 3)
  | .vcuGetStatus => (3, 3)
  | .memGetStatus => (3, 3)
  | .memSetRegion => (3, 3)
  | .memSetPolicy => (3, 3)
  | .memTrain => (1, 1)
  | .memSetFreq => (1, 1)
  | .memReadTiming => (3, 3)
  | .memRepair => (2, 2)
  | .memSaveTraining => (1, 1)
  | .memInjectError => (3, 3)
  | .vfSetSource => (9, 9)
  | .vfConfigureOutput => (11, 11)
  | .vfPanelSequence => (3, 3)
  | .vfSetCheck => (4, 4)
  | .vfResume => (1, 1)
  | .vfGetStatus => (3, 3)
  | .audConfigure => (8, 8)
  | .audStart => (1, 1)
  | .audStop => (1, 1)
  | .audAdvance => (3, 3)
  | .audSetLatch => (1, 1)
  | .audGetStatus => (3, 3)
  | .pairConfigure => (1, 1)
  | .pairGetStatus => (3, 3)
  | .pairSwitchover => (1, 1)
  | .pairTakeover => (2, 2)
  | .pwrSetWakeBudget => (2, 2)
  | .pwrGetState => (3, 3)
  | .hostGetLinkStatus => (3, 3)

/-- Every opcode. -/
def allOps : List Op :=
  [.devNop, .devAbort, .devSetEventMask, .devReadEventLog, .devFwStage, .devFwVerify, .devFwActivate,
   .devFwGetStatus, .devReset, .devGetHealth, .devSetThermal, .linkSetQuadMode, .linkConfigure, .linkEnable,
   .linkDisable, .linkRetrain, .linkGetStatus, .linkClearCounters, .linkSetPolicy, .linkRemapLane,
   .linkSetEq, .linkPrbsCheck, .qryMapStream, .qryConfigureStream, .qryConfigureRing, .qryStartStream,
   .qryStopStream, .qrySetTriggerRule, .qryArm, .qryTrigger, .qryRead, .qryGetSegments, .qryRelease,
   .qrySetHostMark, .qryGetStatus, .qrySetReporting, .qryLocate, .ashEncode, .ashDecode, .ashContinue,
   .ashDropJob, .ashGetStatus, .pipeOpenContext, .pipeSetSource, .pipeStartContext, .pipeStopContext,
   .pipeCloseContext, .pipeSetSlotMask, .pipeSetPriority, .pipeSetSlotTime, .pipeGetContextStatus,
   .pipeSetStreamCorr, .pipeSetContextCorr, .pipeSetColour, .pipeLoadLut, .pipeSetTap, .pipeSetTapRing,
   .pipeTapBuffer, .pipeGetTapStatus, .statConfigure, .statSetContentTrigger, .statRead, .trimSetPolicy,
   .trimMeasure, .trimCommit, .trimLoad, .trimRead, .vcuOpenSession, .vcuSetOutput, .vcuSetRate, .vcuStart,
   .vcuStop, .vcuRequestIrap, .vcuCloseSession, .vcuSubmitPicture, .vcuDecodeData, .vcuFlush, .vcuConsumed,
   .vcuPictureBuffer, .vcuGetPool, .vcuGetStatus, .memGetStatus, .memSetRegion, .memSetPolicy, .memTrain,
   .memSetFreq, .memReadTiming, .memRepair, .memSaveTraining, .memInjectError, .vfSetSource,
   .vfConfigureOutput, .vfPanelSequence, .vfSetCheck, .vfResume, .vfGetStatus, .audConfigure, .audStart,
   .audStop, .audAdvance, .audSetLatch, .audGetStatus, .pairConfigure, .pairGetStatus, .pairSwitchover,
   .pairTakeover, .pwrSetWakeBudget, .pwrGetState, .hostGetLinkStatus]

/-- The opcode of a code (check 3). -/
def opOfCode (n : Nat) : Option Op := allOps.find? fun o => decide (opCode o = n)

/-- PIPE_TAP_BUFFER takes one or three parameter dwords, every other opcode any number in its range (R45). -/
def paramCountOk (op : Op) (n : Nat) : Bool :=
  decide ((opParams op).1 ≤ n ∧ n ≤ (opParams op).2) && !(decide (op = .pipeTapBuffer) && decide (n = 2))

/-- Class of an opcode: its code's upper nibble (R539). -/
def opClass (op : Op) : Nat := opCode op / 0x1000

/-- STORE_RAW is valid on the two opcodes that store blocks (R193). -/
def storeRawOk : Op → Bool
  | .ashEncode => true
  | .ashContinue => true
  | _ => false

/-! Placement (R32, R33). -/

/-- What decides a command's half. -/
inductive Owner where
  /-- it names an object that this half owns (rules 1 and 2) -/
  | half (h : Half)
  /-- it is device-wide (rule 3) -/
  | device
  /-- no rule decides (rule 4) -/
  | none
  /-- it must carry TARGET 1 or 2 (R193, R390, R450) -/
  | target
  /-- it must carry TARGET 1 or 2 and names an object of this half (R390) -/
  | targetOf (h : Half)
  deriving DecidableEq, Repr, Inhabited

/-- Half of a stream: that of its link; none while unbound (R24). -/
def streamHalf (s : State) (n : Nat) : Option Half := (streamAt s n).bind.map fun b => halfOf b.link 16

/-- Owner of a stream. -/
def streamOwner (s : State) (n : Nat) : Owner :=
  match streamHalf s n with
  | some h => .half h
  | none => .none

/-- Owner of a context: its half, or the lead for a span context (rule 2). -/
def ctxOwner (s : State) (n : Nat) : Owner :=
  let x := ctxAt s n
  if x.st = .closed then .none else if x.span then .half (leadHalf s) else .half x.half

/-- Owner by a two-bit half code; no owner for a code that names no half. -/
def codeOwner (n : Nat) : Owner :=
  match halfOfCode n with
  | some h => .half h
  | none => .none

/-- Owner of a VCU session by its HALF: the lead for a split session (R316). -/
def sessOwner (s : State) (half : BitVec 2) : Owner := if half = 3 then .half (leadHalf s) else codeOwner half.toNat

/-- Owner of a trim instance (R297). -/
def trimOwner (s : State) (c : Cmd) : Owner :=
  let inst := pf c 2 27 16
  match pf c 2 4 0 with
  | 1 => streamOwner s inst
  | 2 => streamOwner s inst
  | 3 => streamOwner s inst
  | 4 => if inst < 32 then .half (halfOf inst 16) else .none
  | 8 => if inst < 16 then .half (halfOf inst 8) else .none
  | 16 => if inst < 2 then .half (halfOfIdx inst) else .none
  | _ => .none

/-- What a command names (R32). -/
def ownerOf (op : Op) (c : Cmd) (s : State) : Owner :=
  match op with
  | .linkSetQuadMode => .half (halfOf (pf c 2 4 0) 12)
  | .linkSetEq => .half (halfOf (pf c 2 6 0) 48)
  | .linkConfigure | .linkEnable | .linkDisable | .linkRetrain | .linkGetStatus | .linkClearCounters | .linkSetPolicy
  | .linkRemapLane | .linkPrbsCheck => .half (halfOf (pf c 2 4 0) 16)
  | .qryMapStream => .half (halfOf (pf c 2 12 8) 16)
  | .qryConfigureStream | .qryConfigureRing | .qryStartStream | .qryStopStream | .qryArm | .qryRead | .qryGetSegments
  | .qryRelease | .qrySetHostMark | .qryGetStatus | .qrySetReporting | .qryLocate | .pipeSetStreamCorr =>
    streamOwner s (pf c 2 5 0)
  | .qrySetTriggerRule | .qryTrigger => .none
  | .ashEncode | .ashContinue | .ashDropJob | .ashGetStatus => .target
  | .ashDecode => if pb c 2 0 then streamOwner s (pf c 3 5 0) else .target
  | .pipeOpenContext => if pb c 2 5 then .half (leadHalf s) else codeOwner (pf c 2 7 6)
  | .pipeSetSource | .pipeStartContext | .pipeStopContext | .pipeCloseContext | .pipeSetSlotMask | .pipeSetPriority
  | .pipeGetContextStatus | .pipeSetContextCorr | .pipeSetColour | .pipeSetTap | .pipeSetTapRing | .pipeTapBuffer
  | .pipeGetTapStatus | .statConfigure | .statRead => ctxOwner s (pf c 2 4 0)
  | .statSetContentTrigger => ctxOwner s (pf c 2 12 8)
  | .pipeSetSlotTime => codeOwner (pf c 2 1 0)
  | .pipeLoadLut => .device
  | .trimSetPolicy | .trimMeasure | .trimCommit | .trimLoad | .trimRead => trimOwner s c
  | .vcuOpenSession => sessOwner s (BitVec.ofNat 2 (pf c 2 7 6))
  | .vcuSetOutput | .vcuSetRate | .vcuStart | .vcuStop | .vcuRequestIrap | .vcuCloseSession
  | .vcuSubmitPicture | .vcuDecodeData | .vcuFlush | .vcuConsumed | .vcuPictureBuffer | .vcuGetPool | .vcuGetStatus =>
    if (sessAt s (pf c 2 3 0)).st = .closed then .none else sessOwner s (sessAt s (pf c 2 3 0)).cfg.half
  | .memGetStatus | .memSetPolicy | .memTrain | .memReadTiming | .memRepair => .targetOf (halfOf (pf c 2 3 0) 8)
  | .memSetRegion | .memSetFreq | .memSaveTraining | .memInjectError => .target
  | .vfSetSource => .half (leadHalf s)
  | .vfConfigureOutput | .vfPanelSequence | .vfSetCheck | .vfResume | .vfGetStatus => .half (halfOf (pf c 2 1 0) 2)
  | .audConfigure | .audAdvance | .audSetLatch | .audGetStatus => .half (halfOf (pf c 2 2 0) 4)
  | .audStart | .audStop => .target
  | .hostGetLinkStatus => .none
  | .pairConfigure | .pairGetStatus | .pairSwitchover | .pairTakeover | .pwrSetWakeBudget | .pwrGetState | .devNop
  | .devAbort | .devSetEventMask | .devReadEventLog | .devFwStage | .devFwVerify | .devFwActivate | .devFwGetStatus
  | .devReset | .devGetHealth | .devSetThermal => .device

/-- Commands in flight placed in a half (rule 4). -/
def loadOf (s : State) (h : Half) : Nat :=
  (s.flights.filter fun f => decide (f.exec = h) && decide (f.st ≠ .readingBlock) && !f.dropped).length

/-- The half in which a command is placed; none = BAD_TARGET. -/
def placeOf (op : Op) (c : Cmd) (s : State) : Option Half :=
  let o := ownerOf op c s
  if c.target = 0 then
    match o with
    | .half h => some h
    | .device => some (leadHalf s)
    | .none =>
      if loadOf s .A < loadOf s .B then some .A else if loadOf s .B < loadOf s .A then some .B else some (leadHalf s)
    | .target => none
    | .targetOf _ => none
  else
    match halfOfCode c.target.toNat, o with
    | some h, .half k => if h = k then some h else none
    | some h, .targetOf k => if h = k then some h else none
    | some h, _ => some h
    | none, _ => none

/-! Pair treatment (R461). -/

/-- The command is device-local: each device of a pair carries out what is submitted to it (R461). -/
def deviceLocal (op : Op) (c : Cmd) : Bool :=
  match op with
  | .linkSetEq | .linkGetStatus | .pwrGetState => true
  | .trimSetPolicy | .trimMeasure | .trimCommit | .trimLoad | .trimRead => decide (4 ≤ pf c 2 4 0)
  | _ => decide (opClass op = 0) || decide (opClass op = 7) || decide (opClass op = 0xC) || decide (opClass op = 0xA)

/-- The command is carried out by the active alone and only recorded by the mirror (R461). -/
def activeOnly (op : Op) (c : Cmd) : Bool :=
  match op with
  | .qryRead | .qryGetSegments | .qryGetStatus | .qryLocate | .statRead | .ashEncode | .ashDecode | .ashContinue
  | .ashDropJob | .ashGetStatus | .vfPanelSequence | .pipeGetContextStatus | .pipeGetTapStatus | .vcuGetPool
  | .vcuGetStatus | .vfGetStatus | .audGetStatus => true
  | .trimMeasure | .trimRead => decide (pf c 2 4 0 < 4)
  | _ => false

/-- This device is a mirror, which completes other commands with WRONG_STATE and reason 0xA1 (R461). -/
def mirrorRefuses (s : State) (op : Op) (c : Cmd) : Bool :=
  decide (s.pair.role = 2) && !c.port && !deviceLocal op c

/-! Entry checks (R47 to R49). -/

/-- Commands in flight, those dropped by a reset of their rings apart (R46, R68). -/
def inFlight (s : State) : Nat := (s.flights.filter fun f => !f.dropped).length

/-- Checks 1 and 2: a free tag in the pool, and no command in flight through the half with the same TAG. -/
def tagChecks (s : State) (c : Cmd) : List (Bool × Reply) :=
  [(decide (65536 ≤ inFlight s), err stNoTags 0), ((liveFlight s c.recv c.tag).isSome, errAt stBadParam 0x01 1)]

/-- Checks 4 and 5 for a command whose flags and parameters are read. -/
def shapeChecks (op : Op) (c : Cmd) : List (Bool × Reply) :=
  [(c.storeRaw && !storeRawOk op, errAt stBadParam 0x02 0), (!paramCountOk op c.params.length, errAt stBadLength 0 1)]

/-! From start to report (R60). -/

/-- The effect of a change that came about as its command started is reported after its OK_DEFERRED (R56, R60). -/
def applyNow (s : State) (c : Cmd) (boundary : BitVec 4) : State :=
  match s.staged.find? fun x => decide (x.cmd.serial = c.serial) with
  | some x =>
    match x.key with
    | .now p k =>
      applyStaged s (.now p k) (fun _ s => s) fun x _ => mkEffect x (BitVec.ofNat 16 (opCode x.op)) boundary p k
    | _ => s
  | none => s

/-- Post what a command answers as it starts in half `h`. -/
def finish (s : State) (c : Cmd) (h : Half) (r : Reply) : State :=
  match r with
  | .done st rs pi r0 r1 r2 => complete s c h st rs pi r0 r1 r2
  | .deferred b =>
    applyNow (modFlight (report s h { mkCompletion c h stOkDeferred 0 0xFFFF 0 0 0 with boundary := b }) c.serial fun f =>
      { f with st := .deferred }) c b
  | .running => s

/-- Complete an entry rejected before placement: EXEC_HALF 0b00 (R50). -/
def reject (s : State) (c : Cmd) (r : Reply) : State :=
  match r with
  | .done st rs pi r0 r1 r2 =>
    retire (deliver s { mkCompletion c .A st rs pi r0 r1 r2 with exec := 0 }) c.serial
  | _ => s

/-- A command's meaning as it starts: parameters and state checks, effect, and answer. -/
abbrev Meaning := Cmd → Half → State → Reply × State

/-- The island that a command of a unit reaches; status commands are answered by firmware (R27). -/
def opIsland (op : Op) (c : Cmd) (s : State) : Option IslandId :=
  match op with
  | .linkGetStatus | .ashGetStatus | .pipeGetContextStatus | .pipeGetTapStatus | .vcuGetStatus | .memGetStatus
  | .vfGetStatus | .audGetStatus => none
  | .linkSetQuadMode => some (.ingest (pf c 2 4 0 % 12))
  | .linkSetEq => some (.ingest (pf c 2 6 0 / 4 % 12))
  | _ =>
    match opClass op with
    | 1 => some (.ingest ((linkAt s (pf c 2 4 0)).cfg.firstLane.toNat / 4 % 12))
    | 3 => some .ashlar
    | 4 => some .pipeline
    | 6 => some .vcu
    | 7 => some .dram
    | 8 => some .viewfinder
    | 9 => some .audio
    | _ => none

/-- The island is off, shed for temperature (R505). -/
def shedIsland (s : State) (h : Half) (i : IslandId) : Bool :=
  match i with
  | .vcu => isShed s h 0
  | .viewfinder => isShed s h 1
  | .pipeline => isShed s h 2
  | .ashlar => isShed s h 3
  | _ => false

/-- The command's island is in an automatic reset: the request is not delivered (R27). -/
def islandResets (op : Op) (c : Cmd) (h : Half) (s : State) : Bool :=
  match opIsland op c s with
  | some i => (islandAt s h i).resetting
  | none => false

/-- A command wakes the island that it reaches, unless that is shed for temperature (R26, R505). -/
def wakeFor (op : Op) (c : Cmd) (h : Half) (s : State) : State :=
  match opIsland op c s with
  | some (.ingest _) => s
  | some i =>
    let x := islandAt s h i
    if x.pstate = .on ∨ x.resetting ∨ shedIsland s h i then s else islandOn s h i
  | none => s

/-- A command runs in half `h`, and its island is awake. -/
def begun (op : Op) (c : Cmd) (h : Half) (s : State) : State :=
  wakeFor op c h (modFlight s c.serial fun x => { x with st := .running })

/-- Start a command in half `h`: it runs, and its answer is posted. -/
def start (op : Op) (f : Meaning) (c : Cmd) (h : Half) (s : State) : State :=
  let s1 := begun op c h s
  let r := if islandResets op c h s1 then (err stIslandReset 0, s1) else f c h s1
  finish r.2 c h r.1

/-- Enter a command into flight under a number of its own. -/
def enterFlight (s : State) (c : Cmd) (op : Op) (h : Half) (slots cq : Nat) : State :=
  { s with flights := s.flights ++ [{ cmd := c, op, exec := h, slots, cq }] }

/-- A placed command: an active sends its mirror the ACCEPT record of one that is not device-local (R456, R461). -/
def acceptFlight (s : State) (c : Cmd) (op : Op) : State :=
  if pairUp s && !deviceLocal op c then
    tell (modFlight s c.serial fun f => { f with mirrored := true }) (.accept (acceptRec s c op))
  else s

/-- A command with the number of its submission. -/
def numbered (s : State) (c : Cmd) : Cmd := { c with serial := s.nextSerial }

/-- The state after that number is given. -/
def numberTaken (s : State) : State := { s with nextSerial := s.nextSerial + 1 }

/-- A submitted command as it enters the half. -/
def submitted (s : State) (c : Cmd) : Cmd := numbered s { c with port := false }

/-- The state as a submitted command has been placed in half `h`: it is in flight, and a mirror has heard of it. -/
def entered (op : Op) (c : Cmd) (h : Half) (s : State) : State :=
  acceptFlight (enterFlight s c op h 0 (sqAt s c.recv c.sq.toNat).cqId.toNat) c op

/-- Carry a submitted command through the entry checks, its placement and its start (R49, R60). -/
def carryOut (op : Op) (f : Meaning) (c0 : Cmd) (s0 : State) : State :=
  let c := submitted s0 c0
  let s := numberTaken s0
  let cq := (sqAt s c.recv c.sq.toNat).cqId.toNat
  match firstErr (tagChecks s c ++ shapeChecks op c) with
  | some r => reject (enterFlight s c op c.recv 0 cq) c r
  | none =>
    match placeOf op c s with
    | none => reject (enterFlight s c op c.recv 0 cq) c badTarget
    | some h =>
      let s1 := entered op c h s
      if mirrorRefuses s op c then finish s1 c h (wrongState 0xA1)
      else if h ≠ c.recv ∧ s.mortar.st = .down then
        let k := mkCompletion c h stLinkDown 0 0xFFFF 0 0 0
        retire (deliver s1 k) c.serial
      else if h ≠ c.recv ∧ (half s c.recv).ident.cmdReady ∧ !(half s h).ident.cmdReady then
        modFlight s1 c.serial fun x => { x with st := .held }
      else start op f c h s1

/-- The row of an opcode. -/
def submit (i : Instr) (op : Op) (f : Meaning) (c : Cmd) (s : State) : Host.Outcome State Fault Refusal :=
  act i s (carryOut op f c s)

end Sys2Proof.Machine
end

