-- ==== Sys2Proof/Machine/Quarry.lean ====
section
/-! DEFINITION. The Quarry capture rings: the data space, frame headers, segments, the ring-full rule, triggers, host marks
and reporting (chapter 04). What ingest hands over and what the encoders finish come in through these operations. -/

namespace Sys2Proof.Machine

/-! The ring and its regions (R134, R135). -/

/-- The ring of a stream; an empty one where none is configured. -/
def ringOf (s : State) (n : Nat) : Ring := (streamAt s n).ring.getD {}

/-- The state with the ring of a stream changed. -/
def modRing (s : State) (n : Nat) (f : Ring → Ring) : State := modStream s n fun x => { x with ring := x.ring.map f }

/-- The state with one segment of a ring changed. -/
def modSeg (s : State) (n : Nat) (number : Word) (f : Segment → Segment) : State :=
  modRing s n fun r => { r with segs := r.segs.map fun g => if g.number = number then f g else g }

/-- The state with one frame being written changed. -/
def modW (s : State) (n : Nat) (number : Count64) (f : WFrame → WFrame) : State :=
  modStream s n fun x => { x with writing := x.writing.map fun w => if w.number = number then f w else w }

/-- Bytes of the data space: the sum of the buffers (R135). -/
def dataSize (r : Ring) : Nat := (r.bufs.map (·.2)).sum

/-- Header and index slots of a ring. -/
def slotCount (r : Ring) : Nat := 2 ^ r.slotsLog2

/-- Address of a position in a list of buffers, and the bytes left in its buffer. -/
def locate : List (Nat × Nat) → Nat → Nat × Nat
  | [], _ => (0, 0)
  | (a, z) :: t, p => if p < z then (a + p, z - p) else locate t (p - z)

/-- Address of a logical data position of a ring, and the bytes left in its buffer. -/
def locateIn (r : Ring) (pos : Nat) : Nat × Nat := locate r.bufs (pos % dataSize r)

/-- Where a block of `len` bytes goes from position `cur` on, and its SKIP flag (R184). -/
def placeAt (r : Ring) (cur len : Nat) : Nat × Bool :=
  let left := (locateIn r cur).2
  if len ≤ left then (cur, false) else (cur + left, true)

/-- The frames that a ring holds complete, oldest first. -/
def storedFrames (r : Ring) : List Stored := (r.segs.map (·.frames)).flatten

/-- A stored frame by its number. -/
def storedFrame (r : Ring) (f : Count64) : Option Stored := (storedFrames r).find? fun x => decide (x.number = f)

/-- Newest frame held; all ones when none. -/
def newestOf (r : Ring) : Count64 := ((storedFrames r).getLast?.map (·.number)).getD noPoint

/-- Frozen segments held. -/
def frozenSegs (r : Ring) : List Segment := r.segs.filter fun g => decide (g.st = .frozen)

/-- The open segment: the newest, while frames still go into it. -/
def openSegOf (r : Ring) : Option Segment :=
  match r.segs.getLast? with
  | some g => if g.st = .segOpen ∧ g.closing = false then some g else none
  | none => none

/-- DRAM address of a header slot. -/
def hdrAddr (r : Ring) (slot : Nat) : Nat := r.hdrBase + 256 * slot

/-- DRAM address of an index slot. -/
def idxAddr (r : Ring) (slot : Nat) : Nat := r.idxBase + 8 * r.stride * slot

/-! Records in DRAM (R136, R138, R145, R549). -/

/-- SSTATE code of a segment entry. -/
def segCode : SegState → Nat
  | .free => 0
  | .segOpen => 1
  | .frozen => 2
  | .released => 3

/-- The 32 bytes of a segment entry (R145). -/
def segBytes (r : Ring) (g : Segment) : List Byte :=
  let first := (g.frames.head?.map (·.number)).getD noPoint
  dwordBytes [g.number,
    pack [(0, segCode g.st), (2, b2n g.truncated), (3, b2n g.shortPre), (4, b2n g.recovered), (16, g.triggers.toNat)],
    lo32 first.toNat, hi32 first.toNat, BitVec.ofNat 32 g.frames.length,
    BitVec.ofNat 32 ((g.frames.head?.map (·.slot)).getD 0)] ++
  leBytes 8 (g.dataStart % dataSize r % 2 ^ 40 + 2 ^ 40 * g.trigOffset.toNat)

/-- Write a segment's entry to the segment table. -/
def writeSeg (s : State) (n : Nat) (number : Word) : State :=
  let r := ringOf s n
  match r.segs.find? fun g => decide (g.number = number) with
  | some g => dramWrite s r.half (r.ctrlBase + 0x1000 + 32 * g.slot) (segBytes r g)
  | none => s

/-- The ring descriptor of stream `n` (R549). -/
def descBytes (r : Ring) (n : Nat) : List Byte :=
  let hd := dwordBytes ([pack [(0, 0x5A1C), (16, 1), (24, n), (30, (halfCode r.half).toNat)],
    pack [(0, r.mode.toNat), (2, b2n r.fullAction), (3, b2n r.pin), (4, r.channelMask.toNat), (12, r.slotsLog2)],
    lo32 r.hdrBase, hi32 r.hdrBase, lo32 r.idxBase, hi32 r.idxBase, lo32 r.listBase, hi32 r.listBase,
    BitVec.ofNat 32 r.bufs.length, BitVec.ofNat 32 r.stride, lo32 (dataSize r), hi32 (dataSize r), r.listCrc,
    r.nextSegment, BitVec.ofNat 32 r.pre, BitVec.ofNat 32 r.post] ++ List.replicate 1007 0)
  hd ++ leBytes 4 (crc32c hd).toNat

/-- Rewrite the ring descriptor. -/
def writeDesc (s : State) (n : Nat) : State :=
  let r := ringOf s n
  dramWrite s r.half r.ctrlBase (descBytes r n)

/-- A header with its CRC in the last dword (R138). -/
def sealHeader (hd : List Byte) : List Byte := hd ++ leBytes 4 (crc32c hd).toNat

/-- The 256-byte header of a frame being written, complete (R138). -/
def headerBytes (r : Ring) (n : Nat) (w : WFrame) (flags : Word) : List Byte :=
  let k := w.counts
  let m := w.mark.getD 0
  let idx := idxAddr r w.slot
  sealHeader (dwordBytes ([pack [(0, 0xF4A0), (16, 1), (24, n), (30, (halfCode r.half).toNat)], w.segment,
    lo32 w.number.toNat, hi32 w.number.toNat, lo32 m.toNat, hi32 m.toNat, w.carried, w.delta,
    pack [(0, w.cfg.width), (16, w.cfg.height)],
    pack [(0, w.cfg.depth.toNat), (2, w.cfg.ashMode.toNat), (16, w.cfg.pad.toNat)], flags,
    pack [(0, min k.linesPlaced 0xFFFF), (16, k.linesSent)], pack [(0, min k.padLines 0xFFFF), (16, min k.crcLines 0xFFFF)],
    pack [(0, min k.shortLines 0xFFFF), (16, min k.longLines 0xFFFF)],
    pack [(0, min k.extraLines 0xFFFF), (16, min k.orderLines 0xFFFF)], BitVec.ofNat 32 k.padPixels,
    BitVec.ofNat 32 k.cutPixels, BitVec.ofNat 32 (min k.formatLines 0xFFFF), lo32 idx, hi32 idx,
    BitVec.ofNat 32 (blockCount w.cfg.width w.cfg.height), BitVec.ofNat 32 k.rawBlocks, lo32 w.bytes, hi32 w.bytes, 0, 0,
    pack [(0, w.trigKind.toNat), (8, w.trigRule)], BitVec.ofNat 32 w.ordinal,
    pack [(0, w.link), (5, w.streamId.toNat)], BitVec.ofNat 32 k.hdrErr] ++ List.replicate 33 0))

/-- Bytes with a field replaced. -/
def putAt (bs : List Byte) (off : Nat) (xs : List Byte) : List Byte := bs.take off ++ xs ++ bs.drop (off + xs.length)

/-- Rewrite a stored header with a change of its first 252 bytes, its CRC with them (R139). -/
def patchHeader (s : State) (n slot : Nat) (f : List Byte → List Byte) : State :=
  let r := ringOf s n
  let old := (dramRead s r.half (hdrAddr r slot) 252).1
  dramWrite s r.half (hdrAddr r slot) (sealHeader (f old))

/-- OR bits into a dword of a header. -/
def orDword (off : Nat) (w : Word) (bs : List Byte) : List Byte :=
  putAt bs off (leBytes 4 ((BitVec.ofNat 32 (leNat ((bs.drop off).take 4)) ||| w).toNat))

/-- Write 0x0000 to the MAGIC of a header slot: its frame is released, or being written (R136). -/
def clearMagic (s : State) (n slot : Nat) : State :=
  let r := ringOf s n
  dramWrite s r.half (hdrAddr r slot) [0, 0]

/-- An event of a stream. -/
def streamEvent (s : State) (n : Nat) (code : BitVec 16) (sev : BitVec 2) (point : Count64) (d0 d1 d2 : Nat) : State :=
  let h := if (streamAt s n).ring.isSome then (ringOf s n).half else (streamHalf s n).getD (leadHalf s)
  event s h code sev 0x20 n point d0 d1 d2

/-! Releasing frames and segments (R136, R137, R142). -/

/-- Release the oldest frame of a segment that may be overwritten. A segment no longer written that holds no frame frees
its entry. -/
def killOldest (s : State) (n : Nat) (g : Segment) (f : Stored) : State :=
  let s1 := clearMagic s n f.slot
  let s2 := modSeg s1 n g.number fun g => { g with frames := g.frames.tail }
  let current := ((openSegOf (ringOf s n)).map (·.number)) = some g.number
  if g.frames.tail.isEmpty ∧ ¬current then
    modRing (writeSeg (modSeg s2 n g.number fun g => { g with st := .released }) n g.number) n fun r =>
      { r with segs := r.segs.filter fun x => decide (x.number ≠ g.number) }
  else writeSeg s2 n g.number

/-- Release a frozen segment whole: its entry becomes free (R142, R160). -/
def releaseSeg (s : State) (n : Nat) (g : Segment) (cause : Nat) : State :=
  let s0 := tell s (.segment (.release n g.number))
  let s1 := g.frames.foldl (fun s f => clearMagic s n f.slot) s0
  let s2 := writeSeg (modSeg s1 n g.number fun g => { g with st := .released }) n g.number
  let s3 := modRing s2 n fun r => { r with segs := r.segs.filter fun x => decide (x.number ≠ g.number) }
  streamEvent s3 n 0x2006 1 (BitVec.setWidth 64 g.number) cause 0 0

/-- The oldest data position still held: of a stored frame, or of a frame being written. -/
def oldestStart (s : State) (n : Nat) : Option Nat :=
  match storedFrames (ringOf s n) with
  | f :: _ => some f.start
  | [] => ((streamAt s n).writing.find? fun w => w.placed).map (·.start)

/-- The data space up to `newEnd` and the next header slot (where one is needed) are free. -/
def hasRoom (s : State) (n newEnd : Nat) (slot : Bool) : Bool :=
  let r := ringOf s n
  (match oldestStart s n with
   | some p => decide (newEnd ≤ p + dataSize r)
   | none => true) &&
  !(slot && ((storedFrames r).any (fun f => decide (f.slot = r.nextSlot)) ||
    (streamAt s n).writing.any fun w => decide (w.slot = r.nextSlot)))

/-- Make room: frames of open segments go oldest first; where only frozen frames could give the space, FULL_ACTION 1
releases the oldest frozen segment (R137, R142). -/
def makeRoom (s : State) (n newEnd : Nat) (slot : Bool) : Nat → Bool × State
  | 0 => (hasRoom s n newEnd slot, s)
  | k + 1 =>
    if hasRoom s n newEnd slot then (true, s)
    else
      let r := ringOf s n
      match r.segs.find? fun g => !g.frames.isEmpty with
      | none => (false, s)
      | some g =>
        if g.st = .segOpen ∧ g.closing = false then
          match g.frames with
          | f :: _ => makeRoom (killOldest s n g f) n newEnd slot k
          | [] => (false, s)
        else if r.fullAction then
          match (frozenSegs r).head? with
          | some z => makeRoom (releaseSeg s n z 1) n newEnd slot k
          | none => (false, s)
        else (false, s)

/-- Steps that making room can take: one for each frame and segment held. -/
def roomFuel (r : Ring) : Nat := (storedFrames r).length + r.segs.length + 1

/-! Segments (R142 to R145). -/

/-- The number after a segment number: 0xFFFF_FFFF is skipped (R143). -/
def nextSegNumber (w : Word) : Word := if w = 0xFFFFFFFE then 0 else w + 1

/-- A free entry of the segment table. -/
def freeEntry (r : Ring) : Option Nat := (List.range 4096).find? fun k => r.segs.all fun g => decide (g.slot ≠ k)

/-- Open the next segment; none where no entry is free and none can be freed (R142). -/
def openSeg (s : State) (n : Nat) : Option State :=
  let s1 := match freeEntry (ringOf s n) with
    | some _ => s
    | none =>
      match (ringOf s n).fullAction, (frozenSegs (ringOf s n)).head? with
      | true, some g => releaseSeg s n g 1
      | _, _ => s
  let r := ringOf s1 n
  match freeEntry r with
  | none => none
  | some slot =>
    let g : Segment :=
      { number := r.nextSegment, st := .segOpen, slot, dataStart := r.writePos
        shortPre := decide (r.mode = 1) && r.window.isSome && decide (0 < r.pre)
        triggers := BitVec.ofNat 16 ((r.window.map (·.count)).getD 0) }
    let s2 := modRing s1 n fun r => { r with segs := r.segs ++ [g], nextSegment := nextSegNumber r.nextSegment }
    some (writeDesc (writeSeg s2 n g.number) n)

/-- Freeze a segment at its last complete frame; one that holds none is not kept (R140, R142, R148, R153). -/
def freezeSeg (s : State) (n : Nat) (number : Word) (truncated : Bool) : State :=
  let r := ringOf s n
  match r.segs.find? fun g => decide (g.number = number) with
  | none => s
  | some g =>
    match g.frames.getLast? with
    | none =>
      let s1 := dramWrite s r.half (r.ctrlBase + 0x1000 + 32 * g.slot) (List.replicate 32 0)
      modRing s1 n fun r => { r with segs := r.segs.filter fun x => decide (x.number ≠ number) }
    | some last =>
      let s0 := tell s (.segment (.freeze n last.number))
      let s1 := modSeg s0 n number fun g => { g with st := .frozen, closing := false, truncated := g.truncated || truncated }
      let s2 := writeSeg (patchHeader s1 n last.slot (orDword 0x28 0x20000)) n number
      let s3 := if (streamAt s n).reporting.report = 0 then s2
        else streamEvent s2 n 0x2002 0 (BitVec.setWidth 64 number) g.frames.length
          (b2n (g.truncated || truncated) + 2 * b2n g.shortPre + 4 * b2n g.recovered) g.slot
      modStream s3 n fun x => { x with armed := x.armed && !x.oneshot }

/-- A segment has frames that are still being written. -/
def beingWritten (s : State) (n : Nat) (number : Word) : Bool :=
  (streamAt s n).writing.any fun w => decide (w.segment = number)

/-- The window of a trigger is over: its segment takes no further frame and freezes once its last one is stored (R140). -/
def endWindow (s : State) (n : Nat) : State :=
  let s1 := modRing s n fun r => { r with window := none, future := none }
  match openSegOf (ringOf s n) with
  | none => s1
  | some g =>
    if beingWritten s n g.number then modSeg s1 n g.number fun g => { g with closing := true }
    else freezeSeg s1 n g.number false

/-- The stop of a stream takes effect: IDLE, and a segment in its window or burst is frozen TRUNCATED (R132, R144). -/
def stopped (s : State) (n : Nat) : State :=
  let s1 := modStream s n fun x => { x with st := .idle, stopAt := none }
  let r := ringOf s n
  let s2 := match r.window with
    | none => s1
    | some _ =>
      let s1' := modRing s1 n fun r => { r with window := none, future := none }
      match openSegOf r with
      | some g => freezeSeg s1' n g.number true
      | none => s1'
  let p := ((streamAt s n).lastStored).getD noPoint
  applyStaged s2 (.streamEnd n) (fun _ s => s) fun x _ => mkEffect x 0x2005 1 p n

/-! Storing a frame (R136 step 3). -/

/-- Flags 0 to 12, which make a frame flagged (R161). -/
def flaggedMask : Word := 0x1FFF

/-- The flags of a frame's header (R138, R139). -/
def finalFlags (w : WFrame) : Word :=
  w.counts.flags ||| w.wflags ||| (if w.mark.isSome then 0x4000 else 0) ||| (if w.ordinal = 0 then 0x10000 else 0)

/-- Reports of a stored frame: QRY_FRAME, the progress counts, QRY_GEOMETRY (R153). -/
def reportFrame (s : State) (n : Nat) (w : WFrame) (flags : Word) : State :=
  let p := (streamAt s n).reporting
  if p.report = 0 then s
  else
    let flagged := flags &&& flaggedMask ≠ 0
    let s1 := if p.perFrame then streamEvent s n 0x2001 0 w.number flags.toNat w.slot w.segment.toNat else s
    let s2 := modStream s1 n fun x => { x with reporting := { x.reporting with
      sinceReport := if p.perFrame then x.reporting.sinceReport else x.reporting.sinceReport + 1
      flaggedSince := if p.perFrame then x.reporting.flaggedSince else x.reporting.flaggedSince + b2n (decide flagged)
      geomCount := x.reporting.geomCount + b2n (decide flagged)
      geomFlags := if flagged then x.reporting.geomFlags ||| flags else x.reporting.geomFlags
      geomGap := x.reporting.geomGap.map (· + 1) } }
    let q := (streamAt s2 n).reporting
    let due := match q.geomGap with
      | none => true
      | some k => decide (2 ^ q.progressLog2 ≤ k)
    if flagged ∧ due = true then
      modStream (streamEvent s2 n 0x2007 1 w.number q.geomFlags.toNat q.geomCount 0) n fun x =>
        { x with reporting := { x.reporting with geomCount := 0, geomFlags := 0, geomGap := some 0 } }
    else s2

/-- A frame with OVERLOAD_RAW is counted, and the first of a run is reported (R133, R161, R162). -/
def overloadFrame (s : State) (n : Nat) (w : WFrame) (flags : Word) : State :=
  if flags.getLsbD 12 then
    let s1 := modStream s n fun x => { x with
      counts := { x.counts with overloadFrames := satInc x.counts.overloadFrames }
      overload := some (((x.overload.map (·.1)).getD w.number), w.counts.rawBlocks) }
    if (streamAt s n).overload.isSome then s1 else streamEvent s1 n 0x2008 1 w.number w.counts.rawBlocks 0 0
  else modStream s n fun x => { x with overload := none }

/-- Segments whose window is over and whose last frame is stored are frozen. -/
def freezeClosing (s : State) (n : Nat) : State :=
  ((ringOf s n).segs.filter fun g => g.closing && !beingWritten s n g.number).foldl
    (fun s g => freezeSeg s n g.number false) s

/-- The frame's number and mark are known: a mirror's writer waits for the FRAME record or its time-out (R460). -/
def numberKnown (s : State) (w : WFrame) : Bool := decide (s.pair.role ≠ 2) || w.given.isSome

/-- A frame's blocks are all placed and ingest has closed it. -/
def frameReady (w : WFrame) : Bool := w.closed && decide (blockCount w.cfg.width w.cfg.height ≤ w.nextBlock)

/-- Store the oldest frame being written: its header last, with MAGIC, and its segment's entry (R136, R138). -/
def storeFrame (s : State) (n : Nat) (w0 : WFrame) : State :=
  let r := ringOf s n
  let w := match w0.given with
    | some g => { w0 with number := g.1, mark := g.2 }
    | none => w0
  let flags := finalFlags w
  let s0 := modStream s n fun x => { x with
    writing := x.writing.tail, lastStored := some w.number
    counts := { x.counts with flagged :=
      if flags &&& flaggedMask ≠ 0 ∧ w.counts.flags &&& flaggedMask = 0 then satInc x.counts.flagged else x.counts.flagged } }
  let s1 := if w.drop then s0 else
    writeSeg (modSeg (dramWrite s0 r.half (hdrAddr r w.slot) (headerBytes r n w flags)) n w.segment fun g => { g with
      frames := g.frames ++ [{ number := w.number, slot := w.slot, start := w.start, bytes := w.bytes, ordinal := w.ordinal }] })
      n w.segment
  freezeClosing (if w.drop then s1 else reportFrame (overloadFrame s1 n w flags) n w flags) n

/-- Store every oldest frame that is ready. -/
def storeReady (s : State) (n : Nat) : Nat → State
  | 0 => s
  | k + 1 =>
    match (streamAt s n).writing.head? with
    | some w => if frameReady w then storeReady (storeFrame s n w) n k else s
    | none => s

/-- The ring is full: complete frames are stored, the rest is dropped, the segment in progress is frozen TRUNCATED, and
the stream goes to HALTED, or to IDLE where it was STOPPING (R132, R142). -/
def goFull (s : State) (n : Nat) : State :=
  let s1 := storeReady s n (streamAt s n).writing.length
  let x := streamAt s1 n
  let s2 := match x.writing with
    | [] => s1
    | w :: _ =>
      modRing (modStream s1 n fun x => { x with writing := [] }) n fun r =>
        { r with nextSlot := w.slot, writePos := if w.placed then w.start else r.writePos }
  let s3 := ((ringOf s2 n).segs.filter fun g => g.closing || decide (((openSegOf (ringOf s2 n)).map (·.number)) = some g.number)).foldl
    (fun s g => freezeSeg s n g.number true) s2
  let s4 := modRing s3 n fun r => { r with window := none, future := none, full := true }
  let s5 := if x.st = .stopping then stopped s4 n else modStream s4 n fun x => { x with st := .halted }
  let r := ringOf s5 n
  streamEvent s5 n 0x2005 2 (newestOf r) (frozenSegs r).length 0 0

/-- A segment would exceed 2^40 - 1 bytes: it is closed at its last complete frame, and the frames being written continue
in the next one (R135, R143). -/
def splitSeg (s : State) (n : Nat) (old : Word) : Option State :=
  let s0 := modSeg s n old fun g => { g with closing := (ringOf s n).window.isSome }
  match openSeg s0 n with
  | none => none
  | some s1 =>
    let r := ringOf s1 n
    match openSegOf r with
    | none => none
    | some g =>
      let ws := (streamAt s1 n).writing
      let moved := ws.filter fun w => decide (w.segment = old) && !frameReady w
      let base := ((moved.head?).map fun w => if w.placed then w.start else r.writePos).getD r.writePos
      let oldStart := ((r.segs.find? fun g => decide (g.number = old)).map (·.dataStart)).getD 0
      let s2 := modSeg s1 n g.number fun g => { g with dataStart := base, nextOrdinal := moved.length }
      let renumber := fun (w : WFrame) =>
        match moved.findIdx? fun v => decide (v.number = w.number) with
        | some i => { w with
          segment := g.number, ordinal := i, index := w.index.map fun e => { e with
            offset := (e.offset + oldStart + dataSize r * (base / dataSize r + 1) - base) % dataSize r } }
        | none => w
      let s3 := modStream s2 n fun x => { x with writing := x.writing.map renumber }
      let s4 := moved.foldl (fun s w =>
        dramWrite s r.half (idxAddr r w.slot) (((renumber w).index.map idxBytes).flatten)) s3
      some (freezeClosing (writeSeg s4 n g.number) n)

/-! Placing blocks (R135, R165, R184). -/

/-- The frame whose block is placed next. -/
def placingFrame (s : State) (n : Nat) : Option WFrame :=
  (streamAt s n).writing.find? fun w => decide (w.nextBlock < blockCount w.cfg.width w.cfg.height)

/-- The frame's first byte is fixed as its first block is placed; the first frame of a segment fixes DATA_START. -/
def beginData (s : State) (n : Nat) (w : WFrame) : State :=
  if w.placed then s
  else
    let cur := (ringOf s n).writePos
    let s1 := modW s n w.number fun w => { w with placed := true, start := cur }
    if w.ordinal = 0 then writeSeg (modSeg s1 n w.segment fun g => { g with dataStart := cur }) n w.segment else s1

/-- The flags of the entry of a block (R182). -/
def kindEntry : BlockKind → IndexEntry
  | .coded => { coded := true }
  | .lost => { error := true }
  | _ => { raw := true }

/-- The flags that a block gives its frame: ISLAND_RESET, OVERLOAD_RAW, RAW_BLOCKS (R131, R133, R180). -/
def kindFlags : BlockKind → Word
  | .lost => 0x800
  | .overload => 0x1000
  | .noGain => 0x2000
  | _ => 0

/-- The block counts in RAW_BLOCKS: stored raw for no gain or overload (R138). -/
def kindRaw : BlockKind → Bool
  | .overload => true
  | .noGain => true
  | _ => false

/-- Record an index entry of a frame being written, in state and in its index slot. -/
def writeIndex (s : State) (n : Nat) (w : WFrame) (e : IndexEntry) (k : BlockKind) : State :=
  let r := ringOf s n
  let s1 := dramWrite s r.half (idxAddr r w.slot + 8 * w.nextBlock) (idxBytes e)
  modW s1 n w.number fun w => { w with
    index := w.index ++ [e], nextBlock := w.nextBlock + 1, wflags := w.wflags ||| kindFlags k
    counts := { w.counts with rawBlocks := w.counts.rawBlocks + b2n (kindRaw k) } }

/-- Place one block of a frame: none where the ring is full. -/
def putBlock (s0 : State) (n : Nat) (w0 : WFrame) (bs : List Byte) (k : BlockKind) : Option State :=
  let s1 := beginData s0 n w0
  let w := ((streamAt s1 n).writing.find? fun v => decide (v.number = w0.number)).getD w0
  let r := ringOf s1 n
  let segStart := fun (s : State) (w : WFrame) =>
    (((ringOf s n).segs.find? fun g => decide (g.number = w.segment)).map (·.dataStart)).getD 0
  let e := kindEntry k
  if bs.isEmpty then some (writeIndex s1 n w { e with offset := (r.writePos - segStart s1 w) % dataSize r } k)
  else
    let (p, skip) := placeAt r r.writePos bs.length
    let newEnd := p + bs.length
    match (if newEnd - segStart s1 w < 2 ^ 40 then some s1 else splitSeg s1 n w.segment) with
    | none => none
    | some s2 =>
      let (okRoom, s3) := makeRoom s2 n newEnd false (roomFuel (ringOf s2 n))
      if !okRoom then none
      else
        let w3 := ((streamAt s3 n).writing.find? fun v => decide (v.number = w0.number)).getD w
        let s4 := dramWrite s3 r.half (locateIn r p).1 bs
        let s5 := modW (modRing s4 n fun r => { r with writePos := newEnd }) n w.number fun w =>
          { w with bytes := w.bytes + (newEnd - r.writePos) }
        some (writeIndex s5 n w3 { e with offset := (p - segStart s3 w3) % dataSize r, length := bs.length, skip } k)

/-- Place every staged block whose turn has come (R165). -/
def placeBlocks (s : State) (n : Nat) : Nat → State
  | 0 => s
  | k + 1 =>
    match placingFrame s n with
    | none => s
    | some w =>
      match w.staged.find? fun b => decide (b.1 = w.nextBlock) with
      | none => s
      | some b =>
        let s1 := modW s n w.number fun w => { w with staged := w.staged.filter fun x => decide (x.1 ≠ b.1) }
        match putBlock s1 n w b.2.1 b.2.2 with
        | some s2 => placeBlocks s2 n k
        | none => goFull s1 n

/-- A finished block is released for placement (R165, R183). -/
def stageBlock (s : State) (n : Nat) (f : Count64) (block : Nat) (bs : List Byte) (k : BlockKind) : State :=
  let s1 := modW s n f fun w => { w with staged := w.staged ++ [(block, bs, k)] }
  placeBlocks s1 n (((streamAt s1 n).writing.map fun w => w.staged.length).sum + 1)

/-! A frame opens and closes (R132, R136, R149). -/

/-- The mark that a frame opens with: a pending mark, else the sticky mark (R149). -/
def markFor (x : Stream) (f : Count64) : Option Count64 :=
  match x.marks.find? fun m => decide (m.1 = f) with
  | some m => some m.2
  | none => x.sticky

/-- Frames of a segment, stored or being written, from T - PRE up to T. -/
def framesBefore (s : State) (n : Nat) (g : Segment) (t : Count64) (pre : Nat) : Nat :=
  let inPre := fun (f : Count64) => decide (t.toNat ≤ f.toNat + pre) && decide (f.toNat < t.toNat)
  (g.frames.filter fun f => inPre f.number).length +
    ((streamAt s n).writing.filter fun w => decide (w.segment = g.number) && !w.drop && inPre w.number).length

/-- The writer takes the frame just opened: the next header slot, and a place in the open segment (R136 step 1). -/
def takeFrame (s : State) (n : Nat) (o : OpenFrame) (link : Nat) (sid : BitVec 4) : State :=
  let r0 := ringOf s n
  match (if (openSegOf r0).isSome then some s else openSeg s n) with
  | none => goFull s n
  | some s1 =>
    let r := ringOf s1 n
    match openSegOf r with
    | none => s1
    | some g =>
      let trig := decide (r.future.map (·.1) = some o.number)
      let kind : BitVec 3 := match r.window with
        | some w => if w.t.toNat < o.number.toNat then 4 else if o.number.toNat < w.t.toNat then 2 else 0
        | none => 0
      let w : WFrame :=
        { number := o.number, slot := r.nextSlot, segment := g.number, ordinal := g.nextOrdinal, cfg := o.cfg
          carried := o.carried, delta := o.delta, mark := o.mark, link, streamId := sid
          trigKind := if trig then kind ||| 1 else kind
          trigRule := if trig then (r.future.map (·.2)).getD 0 else 0 }
      let s2 := modSeg s1 n g.number fun g => { g with
        nextOrdinal := g.nextOrdinal + 1
        trigOffset := if trig ∧ g.trigOffset = 0xFFFFFF then BitVec.ofNat 24 g.nextOrdinal else g.trigOffset
        shortPre := if trig ∧ r.mode = 1 then decide (framesBefore s1 n g o.number r.pre < r.pre) else g.shortPre }
      let s3 := modRing s2 n fun r => { r with
        nextSlot := (r.nextSlot + 1) % slotCount r, future := if trig then none else r.future }
      let s4 := modStream s3 n fun x => { x with
        writing := x.writing ++ [w], openFrame := x.openFrame.map fun o => { o with captured := true } }
      let s5 := clearMagic s4 n w.slot
      if trig then writeSeg s5 n g.number else s5

/-- A frame has opened in ingest: what the capture state makes of it (R132, R140, R149). -/
def qryFrameStart (s0 : State) (n : Nat) : State :=
  let x0 := streamAt s0 n
  match x0.openFrame, x0.bind with
  | some o0, some b =>
    let s1 := modStream s0 n fun x => { x with
      marks := x.marks.filter fun m => decide (m.1 ≠ o0.number)
      openFrame := x.openFrame.map fun o => { o with mark := markFor x0 o0.number } }
    let s2 := match x0.st with
      | .starting =>
        applyStaged (modStream s1 n fun x => { x with st := .capturing, lastStored := none }) (.streamStart n)
          (fun _ s => s) fun y _ => mkEffect y 0x2004 1 o0.number n
      | .halted => if (ringOf s1 n).full then s1 else modStream s1 n fun x => { x with st := .capturing }
      | _ => s1
    let x := streamAt s2 n
    match x.openFrame, x.ring with
    | some o, some r =>
      let waits := match r.window with
        | some w => decide (r.mode = 2) && decide (o.number.toNat ≤ w.t.toNat)
        | none => decide (r.mode = 2)
      if (x.st ≠ .capturing ∧ x.st ≠ .stopping) ∨ x.writing.any (fun w => w.stop || w.full) = true ∨ waits = true then s2
      else
        let (okRoom, s3) := makeRoom s2 n 0 true (roomFuel r)
        if okRoom then takeFrame s3 n o b.link b.streamId
        else match (streamAt s3 n).writing.getLast? with
          | some w => modW s3 n w.number fun w => { w with full := true }
          | none => goFull s3 n
    | _, _ => s2
  | _, _ => s0

/-- Mean frame period in ingest cycles; 0 until two frames have closed (R153, R161). -/
def framePeriod (p : Reporting) : Nat := if p.periods.isEmpty then 0 else p.periods.sum / p.periods.length

/-- Per-frame reporting comes into force or leaves it (R153). -/
def reportingMode (s : State) (n : Nat) : State :=
  let x := streamAt s n
  let p := x.reporting
  let want := decide (p.report = 1) && decide (250000 ≤ framePeriod p)
  if want = p.perFrame then s
  else
    streamEvent (modStream s n fun x => { x with reporting := { x.reporting with perFrame := want } }) n 0x2009 0
      (x.frame.getD noPoint) (if want then 1 else 2) 0 0

/-- A frame of stream `n` closes while the DRAM controller island resets: it is not stored, and its number is noted (R389). -/
def noteLost (s : State) (h : Half) (n : Nat) (f : Count64) : State :=
  modMem (modW s n f fun w => { w with drop := true }) h fun m => { m with
    lostFrames :=
      if m.lostFrames.any fun e => decide (e.1 = n) then
        m.lostFrames.map fun e => if e.1 = n then (n, e.2.1, f) else e
      else m.lostFrames ++ [(n, f, f)] }

/-- Ingest has closed a frame: the writer's frame is final, a stop or a window may end (R132, R140, R153, R161). -/
def qryFrameClose (s : State) (n : Nat) (o : OpenFrame) (period : Nat) : State :=
  let s1 := modStream s n fun x => { x with
    counts := { x.counts with flagged :=
      if o.counts.flags &&& flaggedMask ≠ 0 then satInc x.counts.flagged else x.counts.flagged }
    reporting := { x.reporting with
      closedFrames := x.reporting.closedFrames + 1
      periods := if x.reporting.closedFrames = 0 then [] else (period :: x.reporting.periods).take 16 } }
  let s2 := reportingMode s1 n
  let s3 := modW s2 n o.number fun w =>
    { w with closed := true, counts := { o.counts with rawBlocks := w.counts.rawBlocks } }
  let rh := (ringOf s n).half
  let s3 :=
    if (islandAt s3 rh .dram).resetting ∧ ((streamAt s3 n).writing.any fun w => decide (w.number = o.number)) = true then
      noteLost s3 rh n o.number
    else s3
  let x := streamAt s3 n
  let due := match x.stopAt with
    | some f => decide (f.toNat ≤ o.number.toNat)
    | none => true
  let s4 :=
    if x.st = .stopping ∧ due = true then
      match x.writing.getLast? with
      | some w => modW s3 n w.number fun w => { w with stop := true }
      | none => stopped s3 n
    else s3
  match (ringOf s4 n).window with
  | some w => if w.last.toNat ≤ o.number.toNat then endWindow s4 n else s4
  | none => s4

/-- FRAME_CLOSE_WRITE: the oldest frame's header is written, and a stop or a full ring that waited for it takes effect
(R132, R136, R142). -/
def frameCloseWrite (s : State) (n : Nat) : State :=
  match (streamAt s n).writing.head? with
  | some w =>
    if frameReady w ∧ numberKnown s w ∧ (islandAt s (ringOf s n).half .dram).resetting = false then
      let s1 := storeFrame s n w
      if w.full then goFull s1 n else if w.stop then stopped s1 n else s1
    else s
  | none => s

end Sys2Proof.Machine
end

