-- ==== Sys2Proof/Machine/Ashlar.lean ====
section
/-! DEFINITION. The Ashlar engines and the host jobs that use them (chapter 05). -/

namespace Sys2Proof.Machine

/-! Capture blocks (R133, R188). -/

/-- The overload rule as a block of half `h` arrives: entered above 1,024 waiting blocks (R133). -/
def enterOverload (s : State) (h : Half) : State :=
  modAsh s h fun a =>
    if a.overload = false ∧ 1024 < a.waiting.length then
      { a with overload := true, overloadEntries := satInc a.overloadEntries }
    else a

/-- A capture block is handed to the half's encoders, or stored raw: in ASH_MODE 0, under the overload rule, and while the
Ashlar island resets or is shed (R131, R133, R505). -/
def submitBlock (s0 : State) (h : Half) (n : Nat) (mode : BitVec 3) (b : BlockJob) : State :=
  if mode = 0 then stageBlock s0 n b.frame b.block (packPixels (depthBits b.depth) b.px) .plain
  else
    let s := enterOverload s0 h
    if (half s h).ash.overload || (islandAt s h .ashlar).resetting || isShed s h 3 then
      stageBlock s n b.frame b.block (packPixels (depthBits b.depth) b.px) .overload
    else
      modAsh s h fun a =>
        let w := a.waiting ++ [b]
        { a with waiting := w, queuePeak := BitVec.ofNat 16 (max a.queuePeak.toNat (min w.length 0xFFFF)) }

/-- The pixels of block `bx` of a row of blocks, from its lines. -/
def cutBlock (rows : List (List Nat)) (w bx : Nat) : List Nat :=
  (rows.map fun r => (r.drop (128 * bx)).take (blockW w bx)).flatten

/-- Hand one row of blocks of a captured frame to the encoders (R133, R163). -/
def submitRow (s : State) (h : Half) (n : Nat) (o : OpenFrame) (by_ : Nat) : State :=
  let rows := (o.rows.drop (8 * by_)).take 8
  (List.range (blockCols o.cfg.width)).foldl (fun s bx =>
    submitBlock s h n o.cfg.ashMode
      { stream := some n, frame := o.number, block := by_ * blockCols o.cfg.width + bx, w := blockW o.cfg.width bx
        h := rows.length, depth := o.cfg.depth, err := o.cfg.ashMode - 1, px := cutBlock rows o.cfg.width bx }) s

/-- Hand over every row of blocks that the lines placed so far complete (R133). -/
def submitRows (s : State) (h : Half) (n : Nat) : Nat → State
  | 0 => s
  | k + 1 =>
    match (streamAt s n).openFrame with
    | none => s
    | some o =>
      let b := o.blockRowsOut
      if o.captured ∧ b < blockRows o.cfg.height ∧ 8 * b + blockH o.cfg.height b ≤ o.rows.length then
        let s1 := submitRow s h n o b
        submitRows (modStream s1 n fun x => { x with
          openFrame := x.openFrame.map fun o => { o with blockRowsOut := b + 1 } }) h n k
      else s

/-! Encode engines (R188, R179). -/

/-- A running host encode job with a block left to take. -/
def encReady (j : EncJob) : Bool := j.cmd.isSome && decide (j.taken < blockCount j.width j.height)

/-- The host encode job served next: by PRIORITY, then in the order in which the jobs started (R188). -/
def encPick (a : Ashlar) : Option Nat :=
  let ready := (List.range 64).filter fun k => ((tget a.jobs k).map encReady).getD false
  let prio := fun k => (((tget a.jobs k).bind fun j => j.cmd).map fun c => c.priority.toNat).getD 0
  let order := fun k => ((tget a.jobs k).map fun j => j.order).getD 0
  match ready with
  | [] => none
  | k :: t => some (t.foldl (fun b k =>
      if prio b < prio k ∨ (prio b = prio k ∧ order k < order b) then k else b) k)

/-- Bytes of a packed row of `n` pixels. -/
def rowBytes (d n : Nat) : Nat := (n * d + 7) / 8

/-- The pixels of a block of a host job's source (R194). -/
def srcBlock (s : State) (h : Half) (j : EncJob) (n : Nat) : List Nat :=
  let cols := blockCols j.width
  let bx := n % cols
  let by_ := n / cols
  let w := blockW j.width bx
  let d := depthBits j.depth
  ((List.range (blockH j.height by_)).map fun r =>
    let row := j.src + (8 * by_ + r) * j.pitch
    if j.srcFmt then unpackContainers d w (dramRead s h (row + 256 * bx) (2 * w)).1
    else unpackPixels d w (dramRead s h (row + 16 * d * bx) (rowBytes d w)).1).flatten

/-- The first idle engine. -/
def idleEnc (a : Ashlar) : Option Nat := (List.range 12).find? fun k => (tget a.enc k).isNone

/-- An idle encode engine takes the oldest waiting capture block, else a block of a host job (R188); coding resumes below
256 waiting blocks (R133). -/
def encoderTake (s : State) (h : Half) : State :=
  let a := (half s h).ash
  match idleEnc a with
  | none => s
  | some e =>
    match a.waiting with
    | b :: t =>
      modAsh s h fun a => { a with
        enc := tset a.enc e (some b), waiting := t, overload := a.overload && decide (256 ≤ t.length) }
    | [] =>
      match encPick a with
      | none => modAsh s h fun a => { a with overload := false }
      | some k =>
        let j := (tget a.jobs k).getD {}
        let cols := blockCols j.width
        let b : BlockJob :=
          { job := k, order := j.order, block := j.taken, w := blockW j.width (j.taken % cols)
            h := blockH j.height (j.taken / cols), depth := j.depth, err := j.mode - 1, px := srcBlock s h j j.taken }
        modAsh s h fun a => { a with
          enc := tset a.enc e (some b), jobs := tset a.jobs k (some { j with taken := j.taken + 1 }) }

/-- ENCODER_TAKE_BLOCK (R188). -/
def execEncoderTakeBlock (h : Half) (s : State) : Host.Outcome State Fault Refusal :=
  act (.encoderTakeBlock h) s (if islandRuns s h .ashlar then encoderTake s h else s)

/-- Total bytes of a chain. -/
def chainSize (c : List (Nat × Nat)) : Nat := (c.map (·.2)).sum

/-- Where a block of a host job goes: position and SKIP; none where the chain cannot hold it (R184, R186). -/
def placeInChain (c : List (Nat × Nat)) (used len : Nat) : Option (Nat × Bool) :=
  if chainSize c ≤ used then none
  else
    let left := (locate c used).2
    if len ≤ left then some (used, false)
    else if used + left < chainSize c then some (used + left, true)
    else none

/-- The state with host encode job `k` of a half changed. -/
def modJob (s : State) (h : Half) (k : Nat) (f : EncJob → EncJob) : State :=
  modAsh s h fun a => { a with jobs := tset a.jobs k ((tget a.jobs k).map f) }

/-- The completion of a host encode job (R194, R195). -/
def encDone (s : State) (h : Half) (j : EncJob) (status : BitVec 16) : State :=
  match j.cmd with
  | some c =>
    complete s c h status 0 0xFFFF (BitVec.ofNat 32 j.next) (BitVec.ofNat 32 j.noGain) (BitVec.ofNat 32 j.used)
  | none => s

/-- Place a host job's finished blocks in order; the job ends, or is suspended where its chain is used up (R165, R180,
R186). -/
def placeJob (s : State) (h : Half) (k : Nat) : Nat → State
  | 0 => s
  | n + 1 =>
    match tget (half s h).ash.jobs k with
    | none => s
    | some j =>
      match j.staged.find? fun b => decide (b.1 = j.next) with
      | none => s
      | some b =>
        let cols := blockCols j.width
        let raw := packPixels (depthBits j.depth) (srcBlock s h j j.next)
        let kind : Option (List Byte × BlockKind) := match b.2 with
          | some bs => some (bs, .coded)
          | none => if j.storeRaw then some (raw, .noGain) else none
        let noGain := j.noGain + b2n b.2.isNone
        let idx := j.index + 8 * j.next
        let spot := match kind with
          | some x => (placeInChain j.chain j.used x.1.length).map fun p => (p, x)
          | none => none
        match kind, spot with
        | some _, none =>
          let j1 := { j with staged := [], taken := j.next }
          encDone (modJob s h k fun _ => { j1 with cmd := none }) h j1 stOutputExhausted
        | some _, some (p, x) =>
          let s1 := dramWrite s h (locate j.chain p.1).1 x.1
          let s2 := dramWrite s1 h idx (idxBytes { kindEntry x.2 with offset := p.1, length := x.1.length, skip := p.2 })
          stepOn s2 h k { j with next := j.next + 1, used := p.1 + x.1.length, noGain } b.1 cols n
        | none, _ =>
          let s1 := dramWrite s h idx (idxBytes { offset := j.used })
          stepOn s1 h k { j with next := j.next + 1, noGain } b.1 cols n
where
  /-- The job after one block: on to the next, or complete. -/
  stepOn (s : State) (h : Half) (k : Nat) (j : EncJob) (blk _cols n : Nat) : State :=
    let j1 := { j with staged := j.staged.filter fun b => decide (b.1 ≠ blk) }
    if blockCount j.width j.height ≤ j1.next then
      let s1 := modAsh s h fun a => { a with jobs := tset a.jobs k none }
      encDone s1 h j1 (if j1.storeRaw = false ∧ 0 < j1.noGain then stNoGain else stOk)
    else placeJob (modJob s h k fun _ => j1) h k n

/-- An encode engine finishes its block, or reports no gain (R179, R180). -/
def blockEncoded (s : State) (h : Half) (e : Nat) : State :=
  match tget (half s h).ash.enc e with
  | none => s
  | some b =>
    let out := encodeBlock b.depth b.err b.w b.h b.px
    let s1 := modAsh s h fun a => { a with
      enc := tset a.enc e none, encBlocks := a.encBlocks + 1
      noGainBlocks := if out.isNone then a.noGainBlocks + 1 else a.noGainBlocks }
    match b.stream with
    | some n =>
      match out with
      | some bs => stageBlock s1 n b.frame b.block bs .coded
      | none => stageBlock s1 n b.frame b.block (packPixels (depthBits b.depth) b.px) .noGain
    | none =>
      match tget (half s1 h).ash.jobs b.job with
      | some j =>
        if j.cmd.isSome ∧ j.order = b.order ∧ j.next ≤ b.block then
          placeJob (modJob s1 h b.job fun j => { j with staged := j.staged ++ [(b.block, out)] }) h b.job
            (j.staged.length + 2)
        else s1
      | none => s1

/-- BLOCK_ENCODED (R179). -/
def execBlockEncoded (h : Half) (engine : Nat) (s : State) : Host.Outcome State Fault Refusal :=
  act (.blockEncoded h engine) s (if islandRuns s h .ashlar then blockEncoded s h engine else s)

/-! Decoding (R189 to R192, R197 to R199). -/

/-- What a decode engine makes of a block. -/
inductive DecRes where
  /-- pixels -/
  | ok (px : List Nat)
  /-- no data: written with PAD_VALUE -/
  | pad
  /-- corrupt: written with PAD_VALUE and counted -/
  | corrupt
  deriving DecidableEq, Repr, Inhabited

/-- A result from a decoded block. -/
def decRes : Option (List Nat) → DecRes
  | some px => .ok px
  | none => .corrupt

/-- Geometry of a stored frame from its header: WIDTH, HEIGHT, DEPTH, PAD_VALUE (R198). -/
def frameGeom (s : State) (r : Ring) (f : Stored) : Nat × Nat × BitVec 2 × Nat :=
  let hd := bytesDwords 64 (dramRead s r.half (hdrAddr r f.slot) 256).1
  let d8 := hd.getD 8 0
  let d9 := hd.getD 9 0
  (fld d8 15 0, fld d8 31 16, BitVec.ofNat 2 (fld d9 1 0), fld d9 31 16)

/-- DATA_START of the segment that holds a stored frame. -/
def segStartOf (r : Ring) (f : Stored) : Nat :=
  ((r.segs.find? fun g => g.frames.any fun x => decide (x.number = f.number)).map (·.dataStart)).getD 0

/-- Index entry `blk` of a stored frame. -/
def indexOf (s : State) (r : Ring) (f : Stored) (blk : Nat) : IndexEntry :=
  idxOf (dramRead s r.half (idxAddr r f.slot + 8 * blk) 8).1

/-- A block of a stored frame decoded (R191, R198); a poisoned burst makes it corrupt (R384). -/
def decodeStored (s : State) (r : Ring) (f : Stored) (blk : Nat) : DecRes :=
  let (w, h, depth, _) := frameGeom s r f
  let e := indexOf s r f blk
  let cols := blockCols w
  if !idxValid e then .corrupt
  else if idxEmpty e then .pad
  else
    let (bs, poison) := dramRead s r.half (locateIn r (segStartOf r f + e.offset)).1 e.length
    if poison then .corrupt
    else if e.raw then decRes (decodeRaw depth (blockW w (blk % cols)) (blockH h (blk / cols)) bs)
    else decRes (decodeCoded depth (blockW w (blk % cols)) (blockH h (blk / cols)) bs)

/-- SOURCE of an ASH_DECODE. -/
def fromQuarry (c : Cmd) : Bool := pb c 2 0

/-- Destination address and pitch of an ASH_DECODE (R197, R198). -/
def decDst (c : Cmd) : Nat × Nat := if fromQuarry c then (pq c 8, (dw c 10).toNat) else (pq c 6, (dw c 8).toNat)

/-- A block-list entry: address, length, RAW, FILL, depth, width, height, destination column and row (R197). -/
structure ListEntry where
  /-- SRC_ADDR -/
  src : Nat := 0
  /-- LENGTH -/
  length : Nat := 0
  /-- RAW -/
  raw : Bool := false
  /-- FILL -/
  fill : Bool := false
  /-- DEPTH -/
  depth : BitVec 2 := 0
  /-- block width -/
  w : Nat := 1
  /-- block height -/
  h : Nat := 1
  /-- DST_BX -/
  bx : Nat := 0
  /-- DST_BY -/
  by_ : Nat := 0
  deriving DecidableEq, Repr, Inhabited

/-- Entry `i` of a block list. -/
def listEntry (s : State) (h : Half) (base i : Nat) : ListEntry :=
  let bs := (dramRead s h (base + 16 * i) 16).1
  let d2 := BitVec.ofNat 32 (leNat ((bs.drop 8).take 4))
  let d3 := BitVec.ofNat 32 (leNat ((bs.drop 12).take 4))
  { src := leNat (bs.take 8), length := fld d2 15 0, raw := bitOf d2 16, fill := bitOf d2 17
    depth := BitVec.ofNat 2 (fld d2 19 18), w := fld d2 26 20 + 1, h := fld d2 29 27 + 1, bx := fld d3 7 0
    by_ := fld d3 19 8 }

/-- Write a block's pixels to a destination whose block (0, 0) lies at `dst` (R197). -/
def writeBlock (s : State) (h : Half) (dst pitch : Nat) (containers : Bool) (d bx by_ w rows : Nat) (px : List Nat) : State :=
  (List.range rows).foldl (fun s r =>
    let line := (px.drop (r * w)).take w
    let at_ := dst + (8 * by_ + r) * pitch
    if containers then dramWrite s h (at_ + 256 * bx) (packContainers line)
    else dramWrite s h (at_ + 16 * d * bx) (packPixels d line)) s

/-- The rectangle of an ASH_DECODE with SOURCE 1: first column and row, columns and rows of blocks. -/
def decRect (c : Cmd) : Nat × Nat × Nat × Nat := (pf c 6 7 0, pf c 6 27 16, pf c 6 15 8 + 1, pf c 7 11 0 + 1)

/-- The host decode job served next (R189). -/
def decPick (a : Ashlar) : Option DecJob :=
  match a.decJobs.filter fun j => decide (j.next < j.total) with
  | [] => none
  | j :: t => some (t.foldl (fun b j =>
      if b.cmd.priority.toNat < j.cmd.priority.toNat ∨ (b.cmd.priority = j.cmd.priority ∧ j.order < b.order) then j else b) j)

/-- The state with a host decode job changed. -/
def modDec (s : State) (h : Half) (recv : Half) (tag : BitVec 16) (f : DecJob → DecJob) : State :=
  modAsh s h fun a => { a with
    decJobs := a.decJobs.map fun j => if j.cmd.recv = recv ∧ j.cmd.tag = tag then f j else j }

/-- The first idle decode engine. -/
def idleDec (a : Ashlar) : Option Nat := (List.range 4).find? fun k => (tget a.dec k).isNone

/-- An idle decode engine takes a block for a pipeline context first, else a block of a host job (R189). -/
def decoderTake (s : State) (h : Half) : State :=
  let a := (half s h).ash
  match idleDec a with
  | none => s
  | some e =>
    match a.pipeWaiting with
    | t :: rest => modAsh s h fun a => { a with dec := tset a.dec e (some t), pipeWaiting := rest }
    | [] =>
      match decPick a with
      | none => s
      | some j =>
        modDec (modAsh s h fun a => { a with dec := tset a.dec e (some (.job j.cmd.recv j.cmd.tag j.next)) }) h
          j.cmd.recv j.cmd.tag fun j => { j with next := j.next + 1 }

/-- DECODER_TAKE_BLOCK (R189). -/
def execDecoderTakeBlock (h : Half) (s : State) : Host.Outcome State Fault Refusal :=
  act (.decoderTakeBlock h) s (if islandRuns s h .ashlar then decoderTake s h else s)

/-- Counts of the status record for a block decoded (R200). -/
def countDecoded (s : State) (h : Half) (r : DecRes) : State :=
  modAsh s h fun a => { a with
    decBlocks := match r with
      | .ok _ => a.decBlocks + 1
      | _ => a.decBlocks
    decCorrupt := match r with
      | .corrupt => satInc a.decCorrupt
      | _ => a.decCorrupt }

/-- Decode and write block `i` of a host job. -/
def jobBlock (s : State) (h : Half) (c : Cmd) (i : Nat) : DecRes × State :=
  let (dst, pitch) := decDst c
  let pad := pf c 2 31 16
  if fromQuarry c then
    let r := ringOf s (pf c 3 5 0)
    match storedFrame r (BitVec.ofNat 64 (pq c 4)) with
    | none => (.corrupt, s)
    | some f =>
      let (w, hh, depth, _) := frameGeom s r f
      let (bx0, by0, nx, _) := decRect c
      let bx := bx0 + i % nx
      let by_ := by0 + i / nx
      let res := decodeStored s r f (by_ * blockCols w + bx)
      let bw := blockW w bx
      let bh := blockH hh by_
      let px := match res with
        | .ok px => px
        | _ => List.replicate (bw * bh) pad
      (res, writeBlock s h dst pitch (pb c 2 1) (depthBits depth) (i % nx) (i / nx) bw bh px)
  else
    let e := listEntry s h (pq c 3) i
    let (bs, poison) := dramRead s h e.src e.length
    let res := if e.fill then .pad
      else if poison then .corrupt
      else decRes (if e.raw then decodeRaw e.depth e.w e.h bs else decodeCoded e.depth e.w e.h bs)
    let px := match res with
      | .ok px => px
      | _ => List.replicate (e.w * e.h) pad
    (res, writeBlock s h dst pitch (pb c 2 1) (depthBits e.depth) e.bx e.by_ e.w e.h px)

/-- A host decode job with nothing left completes (R198, R199). -/
def decFinish (s : State) (h : Half) (j : DecJob) : State :=
  if j.decoded + j.padded + j.corrupt < j.total then s
  else
    let s1 := modAsh s h fun a => { a with decJobs := a.decJobs.filter fun x => decide (x.cmd.serial ≠ j.cmd.serial ∨
      x.cmd.recv ≠ j.cmd.recv ∨ x.cmd.tag ≠ j.cmd.tag) }
    let gone := fromQuarry j.cmd && (storedFrame (ringOf s (pf j.cmd 3 5 0)) (BitVec.ofNat 64 (pq j.cmd 4))).isNone
    let (st, rs) := if gone then (stDataCorrupt, (0x43 : BitVec 8))
      else if 0 < j.corrupt then (stDataCorrupt, 0x45) else (stOk, 0)
    complete s1 j.cmd h st rs 0xFFFF (BitVec.ofNat 32 j.decoded) (BitVec.ofNat 32 j.padded) (BitVec.ofNat 32 j.corrupt)

/-- A decode engine finishes a block of a host job. -/
def jobDecoded (s : State) (h : Half) (recv : Half) (tag : BitVec 16) (i : Nat) : State :=
  match (half s h).ash.decJobs.find? fun j => decide (j.cmd.recv = recv ∧ j.cmd.tag = tag) with
  | none => s
  | some j =>
    let (res, s1) := jobBlock s h j.cmd i
    let j1 := match res with
      | .ok _ => { j with decoded := j.decoded + 1 }
      | .pad => { j with padded := j.padded + 1 }
      | .corrupt => { j with corrupt := j.corrupt + 1 }
    decFinish (modDec (countDecoded s1 h res) h recv tag fun _ => j1) h j1

/-! Commands (R193 to R200). -/

/-- A buffer-list entry: address and size; none where it breaks its format (R134). -/
def listBuf (bs : List Byte) : Option (Nat × Nat) :=
  let v := leNat (bs.take 8)
  let z := v % 32
  if 16 ≤ z ∧ z ≤ 24 ∧ (v / 32) % 2 ^ 11 = 0 then some (v / 2 ^ 16 * 2 ^ 16, 2 ^ z) else none

/-- The buffers of a list in DRAM; none where an entry breaks its format. -/
def readList (s : State) (h : Half) (base count : Nat) : Option (List (Nat × Nat)) :=
  (List.range count).mapM fun i => listBuf (dramRead s h (base + 8 * i) 8).1

/-- Every buffer lies in the half's DRAM. -/
def bufsBacked (s : State) (h : Half) (bs : List (Nat × Nat)) : Bool := bs.all fun b => backedRange (half s h).mem b.1 b.2

/-- A list of further buffers is well placed and formed (R134, R190). -/
def chainOk (s : State) (h : Half) (base count : Nat) : Bool :=
  decide (base % 4096 = 0) && backedRange (half s h).mem base (8 * count) &&
    ((readList s h base count).map (bufsBacked s h)).getD false

/-- ASH_ENCODE (R190, R194). -/
def opAshEncode (c : Cmd) (h : Half) (s : State) : Reply × State :=
  let k := pf c 2 5 0
  let m := (half s h).mem
  let depth := BitVec.ofNat 2 (pf c 2 9 8)
  let d := depthBits depth
  let w := pf c 3 15 0
  let hh := pf c 3 31 16
  let row := if pb c 2 13 then 2 * w else rowBytes d w
  let pitch := (dw c 6).toNat
  let cnt := pf c 9 23 0
  match firstErr (rsv c [(2, 0xFFFFC0C0), (9, 0xFF000000)] ++
      [(decide (pf c 2 12 10 = 0) || decide (5 < pf c 2 12 10), badParam 0x42 2)] ++
      bad [(3, decide (w = 0) || decide (32768 < w) || decide (hh = 0) || decide (32768 < hh))] ++
      [(decide (pq c 4 % 8 ≠ 0) || !backedRange m (pq c 4) ((hh - 1) * pitch + row), badParam 0x46 4)] ++
      bad [(6, decide (pitch % 8 ≠ 0) || decide (pitch < row)), (9, decide (cnt = 0))] ++
      [(!chainOk s h (pq c 7) cnt, badParam 0x46 7),
       (decide (pq c 10 % 8 ≠ 0) || !backedRange m (pq c 10) (8 * blockCount w hh), badParam 0x46 10)] ++
      dramChecks s h ++ [((tget (half s h).ash.jobs k).isSome, wrongState 0x40)]) with
  | some r => (r, s)
  | none =>
    let a := (half s h).ash
    let j : EncJob :=
      { cmd := some c, storeRaw := c.storeRaw, depth, mode := BitVec.ofNat 3 (pf c 2 12 10), srcFmt := pb c 2 13
        width := w, height := hh, src := pq c 4, pitch, chain := (readList s h (pq c 7) cnt).getD [], index := pq c 10
        order := a.nextOrder }
    (.running, modAsh s h fun a => { a with jobs := tset a.jobs k (some j), nextOrder := a.nextOrder + 1 })

/-- A job is suspended: held, and no command runs it. -/
def suspended (a : Ashlar) (k : Nat) : Bool := ((tget a.jobs k).map fun j => j.cmd.isNone).getD false

/-- ASH_CONTINUE (R186, R195). -/
def opAshContinue (c : Cmd) (h : Half) (s : State) : Reply × State :=
  let k := pf c 2 5 0
  let cnt := pf c 5 23 0
  let a := (half s h).ash
  let j := (tget a.jobs k).getD {}
  match firstErr (rsv c [(2, 0xFFFFFFC0), (5, 0xFF000000)] ++ bad [(5, decide (cnt = 0))] ++
      [(!chainOk s h (pq c 3) cnt, badParam 0x46 3),
       (suspended a k && decide (c.storeRaw ≠ j.storeRaw), badParam 0x44 0)] ++
      dramChecks s h ++ [(!suspended a k, wrongState 0x41)]) with
  | some r => (r, s)
  | none =>
    let more := (readList s h (pq c 3) cnt).getD []
    (.running, modAsh s h fun a => { a with
      jobs := tset a.jobs k (some { j with cmd := some c, chain := j.chain ++ more, order := a.nextOrder })
      nextOrder := a.nextOrder + 1 })

/-- ASH_DROP_JOB (R195). -/
def opAshDropJob (c : Cmd) (h : Half) (s : State) : Reply × State :=
  let k := pf c 2 5 0
  match firstErr (rsv c [(2, 0xFFFFFFC0)] ++ [(!suspended (half s h).ash k, wrongState 0x41)]) with
  | some r => (r, s)
  | none => (ok, modAsh s h fun a => { a with jobs := tset a.jobs k none })

/-- A block-list entry's source and destination lie in the half's DRAM, and PAD_VALUE fits its depth (R190, R197). -/
def entryPlaced (m : HalfMem) (c : Cmd) (e : ListEntry) : Bool :=
  let (dst, pitch) := decDst c
  let d := depthBits e.depth
  let col := if pb c 2 1 then 256 * e.bx else 16 * d * e.bx
  let len := if pb c 2 1 then 2 * e.w else rowBytes d e.w
  (e.fill || backedRange m e.src e.length) &&
    (List.range e.h).all fun r => backedRange m (dst + (8 * e.by_ + r) * pitch + col) len

/-- Checks of ASH_DECODE on a block list (SOURCE 0). -/
def listChecks (c : Cmd) (h : Half) (s : State) : List (Bool × Reply) :=
  let m := (half s h).mem
  let n := pf c 5 20 0
  let es := (List.range n).map (listEntry s h (pq c 3))
  rsv c [(5, 0xFFE00000)] ++ bad [(5, decide (n = 0) || decide (2 ^ 20 < n)), (8, decide (pf c 8 2 0 ≠ 0))] ++
    [(decide (pq c 3 % 16 ≠ 0) || !backedRange m (pq c 3) (16 * n), badParam 0x46 3),
     (decide (pq c 6 % 8 ≠ 0) || !es.all (entryPlaced m c), badParam 0x46 6)] ++
    bad [(2, es.any fun e => decide (2 ^ depthBits e.depth ≤ pf c 2 31 16))] ++ dramChecks s h

/-- Checks of ASH_DECODE on a Quarry frame (SOURCE 1). -/
def frameChecks (c : Cmd) (h : Half) (s : State) : List (Bool × Reply) :=
  let m := (half s h).mem
  let n := pf c 3 5 0
  let r := ringOf s n
  let f := storedFrame r (BitVec.ofNat 64 (pq c 4))
  let (w, hh, depth, _) := frameGeom s r (f.getD {})
  let (bx, by_, nx, ny) := decRect c
  let d := depthBits depth
  let cols := min (128 * nx) (w - 128 * bx)
  let rows := min (8 * ny) (hh - 8 * by_)
  let row := if pb c 2 1 then 2 * cols else rowBytes d cols
  rsv c [(3, 0xFFFFFFC0), (6, 0xF0000000), (7, 0xFFFFF000)] ++
    bad [(6, f.isSome && (decide (blockCols w < bx + nx) || decide (blockRows hh < by_ + ny))),
      (2, f.isSome && decide (2 ^ d ≤ pf c 2 31 16)), (10, decide (pf c 10 2 0 ≠ 0))] ++
    [(decide (pq c 8 % 8 ≠ 0) || (f.isSome && !backedRange m (pq c 8) ((rows - 1) * (dw c 10).toNat + row)), badParam 0x46 8)] ++
    dramChecks s h ++ [(f.isNone, wrongState 0x31)]

/-- ASH_DECODE (R197, R198). -/
def opAshDecode (c : Cmd) (h : Half) (s : State) : Reply × State :=
  let q := fromQuarry c
  match firstErr ([(decide (c.params.length ≠ if q then 9 else 7), errAt stBadLength 0 1)] ++ rsv c [(2, 0x0000FFFC)] ++
      if q then frameChecks c h s else listChecks c h s) with
  | some r => (r, s)
  | none =>
    let (_, _, nx, ny) := decRect c
    (.running, modAsh s h fun a => { a with
      decJobs := a.decJobs ++ [{ cmd := c, total := if q then nx * ny else pf c 5 20 0, order := a.nextOrder }]
      nextOrder := a.nextOrder + 1 })

/-- Bits of the suspended jobs (R200). -/
def suspendedMask (a : Ashlar) : Nat := ((List.range 64).map fun k => if suspended a k then 2 ^ k else 0).sum

/-- The Ashlar status record; ENC_LOAD and DEC_LOAD depend on time, which the model does not hold: free values (R200). -/
def ashRecord (a : Ashlar) (k : Nat) : List Word :=
  let m := suspendedMask a
  [pack [(0, min a.waiting.length 0xFFFF), (16, a.queuePeak.toNat)], a.overloadEntries, lo32 m, hi32 m,
   lo32 a.encBlocks.toNat, hi32 a.encBlocks.toNat, lo32 a.noGainBlocks.toNat, hi32 a.noGainBlocks.toNat,
   lo32 a.decBlocks.toNat, hi32 a.decBlocks.toNat, a.decCorrupt, Config.freeWord k, 0, 0, 0, 0]

/-- ASH_GET_STATUS (R200). -/
def opAshGetStatus (c : Cmd) (h : Half) (s : State) : Reply × State :=
  match firstErr (rsv c [(2, 0xFFFFFFFE)] ++ bad [(3, decide (pq c 3 % 32 ≠ 0))]) with
  | some r => (r, s)
  | none =>
    let (k, s1) := fresh s
    let s2 := if pb c 2 0 then modAsh s1 h fun a => { a with queuePeak := BitVec.ofNat 16 (min a.waiting.length 0xFFFF) }
      else s1
    writeRecord s2 c (pq c 3) (dwordBytes (ashRecord (half s h).ash k)) ok

/-- A running ASH_ command is aborted: the job stops and its number is free (R196). -/
def abortAsh (c : Cmd) (h : Half) (s : State) : State :=
  modAsh s h fun a => { a with
    jobs := a.jobs.map fun j => if (j.bind fun j => j.cmd).map (·.serial) = some c.serial then none else j
    decJobs := a.decJobs.filter fun j => decide (j.cmd.serial ≠ c.serial) }

/-- Suspended jobs of a half are dropped, each reported with its cause: 0 reset, 1 island reset (R201). -/
def dropJobs (s : State) (h : Half) (cause : Nat) : State :=
  (List.range 64).foldl (fun s k =>
    match tget (half s h).ash.jobs k with
    | some j =>
      if j.cmd.isNone then
        event (modAsh s h fun a => { a with jobs := tset a.jobs k none }) h 0x3002 1 0x30 k noPoint j.next cause 0
      else s
    | none => s) s


/-! Rows of the commands. -/

/-- ASH_ENCODE (R194). -/
def execAshEncode (c : Cmd) (s : State) : Host.Outcome State Fault Refusal := submit (.ashEncode c) .ashEncode opAshEncode c s

/-- ASH_DECODE (R198). -/
def execAshDecode (c : Cmd) (s : State) : Host.Outcome State Fault Refusal := submit (.ashDecode c) .ashDecode opAshDecode c s

/-- ASH_CONTINUE (R195). -/
def execAshContinue (c : Cmd) (s : State) : Host.Outcome State Fault Refusal := submit (.ashContinue c) .ashContinue opAshContinue c s

/-- ASH_DROP_JOB (R195). -/
def execAshDropJob (c : Cmd) (s : State) : Host.Outcome State Fault Refusal := submit (.ashDropJob c) .ashDropJob opAshDropJob c s

/-- ASH_GET_STATUS (R200). -/
def execAshGetStatus (c : Cmd) (s : State) : Host.Outcome State Fault Refusal := submit (.ashGetStatus c) .ashGetStatus opAshGetStatus c s

end Sys2Proof.Machine
end

