-- ==== Sys2Proof/Machine/Mortar.lean ====
section
/-! DEFINITION. The Mortar link: flits, credits, replay and retrains (R15 to R23, R543, R547), and the DRAM aperture
(R18). What its loss does to commands, contexts and sessions is in Machine/Loss.lean. -/

namespace Sys2Proof.Machine

/-- Payload bytes of a message: a forwarded entry or report fills a flit, a seam row two bytes a pixel, data one byte
each (R15, R223). -/
def msgBytes : Msg → Nat
  | .seamRow _ _ _ px => 2 * px.length
  | .statPartial _ _ rec => rec.length
  | .vfFrame _ data => data.length
  | .substream _ _ part => part.data.length
  | .refBand _ _ bytes => bytes
  | .aperWrite _ data => data.length
  | _ => 64

/-- Flits of a message: 64 bytes each, at least one. -/
def msgFlits (m : Msg) : Nat := max 1 ((msgBytes m + 63) / 64)

/-- Weights of SEAM, STAT, VF, VCU and APER in a round of weighted round robin: their shares over 5 % (R15, R16). -/
def wrrWeights : Vector Nat 6 := #v[0, 8, 1, 4, 2, 5]

/-- A class has a flit to send and a credit for it. -/
def canSend (d : MortarDir) (k : Nat) : Bool := !(tget d.queue k).isEmpty && decide (0 < tget d.credits k)

/-- The first class after CTRL that may send and has weight left in this round. -/
def wrrPick (d : MortarDir) : Option Nat :=
  ([1, 2, 3, 4, 5] : List Nat).find? fun k => canSend d k && decide (0 < tget d.wrrLeft k)

/-- The class that sends next: CTRL first, at most one flit in twelve while another class waits (its cap of 2 of
24 GB/s), then weighted round robin (R16). -/
def pickClass (d : MortarDir) : Option (Nat × MortarDir) :=
  let others := ([1, 2, 3, 4, 5] : List Nat).any fun k => canSend d k
  if canSend d 0 && (!others || !(d.ctrlWindow.any id)) then some (0, d)
  else match wrrPick d with
    | some k => some (k, d)
    | none =>
      let d2 := { d with wrrLeft := wrrWeights }
      (wrrPick d2).map fun k => (k, d2)

/-- Send a new flit of class `k`: the last flit of a message carries it to the receiver. -/
def sendNew (d : MortarDir) (k : Nat) : MortarDir :=
  match tget d.queue k with
  | [] => d
  | m :: rest =>
    let last := decide (msgFlits m ≤ tget d.partSent k + 1)
    let f : Flit := { cls := k, seq := d.nextSeq, msg := if last then some m else none }
    { d with
      queue := if last then tset d.queue k rest else d.queue
      partSent := tset d.partSent k (if last then 0 else tget d.partSent k + 1)
      credits := tset d.credits k (tget d.credits k - 1)
      nextSeq := d.nextSeq + 1
      replayBuf := d.replayBuf ++ [f]
      wire := d.wire ++ [f]
      wrrLeft := tset d.wrrLeft k (tget d.wrrLeft k - 1)
      ctrlWindow := (decide (k = 0) :: d.ctrlWindow).take 11 }

/-- Send one flit: a replayed one first, then a new one while the 512-flit replay buffer has room (R16, R19). -/
def sendFlit (d : MortarDir) : MortarDir :=
  if 0 < d.replayLeft then
    match d.replayBuf[d.replayBuf.length - d.replayLeft]? with
    | some f => { d with wire := d.wire ++ [f], replayLeft := d.replayLeft - 1 }
    | none => { d with replayLeft := 0 }
  else if 512 ≤ d.replayBuf.length then d
  else match pickClass d with
    | some (k, d2) => sendNew d2 k
    | none => d

/-- Flits travel: the link is ACTIVE or in REPLAY (R20, R22). -/
def mortarCarries (s : State) : Bool := decide (s.mortar.st = .active) || decide (s.mortar.st = .replay)

/-- The state with the direction that half `h` sends on changed. -/
def modMortarDir (s : State) (h : Half) (f : MortarDir → MortarDir) : State := { s with mortar := modDir s.mortar h f }

/-- MORTAR_FLIT_SEND (R16). -/
def execMortarFlitSend (from_ : Half) (s : State) : Host.Outcome State Fault Refusal :=
  act (.mortarFlitSend from_) s (if mortarCarries s then modMortarDir s from_ sendFlit else s)

/-- Both halves raise a Mortar event (R543). -/
def mortarEvent (s : State) (code : BitVec 16) (sev : BitVec 2) (data0 : State → Half → Nat) : State :=
  let s1 := event s .A code sev 0x71 0 noPoint (data0 s .A) 0 0
  event s1 .B code sev 0x71 1 noPoint (data0 s .B) 0 0

/-- A direction as a retrain or training begins: what is on the wire is lost, the replay buffer stays. -/
def dirPaused (d : MortarDir) : MortarDir := { d with wire := [], replayLeft := 0 }

/-- A retrain starts: counted and reported once (R20). -/
def startRetrain (s : State) (cause : Nat) : State :=
  let s1 := { s with mortar := { s.mortar with
    st := .retrain, attempts := 0, cause, ab := dirPaused s.mortar.ab, ba := dirPaused s.mortar.ba } }
  let bump := fun (c : HalfCmd) => { c with mortarRetrains := satInc c.mortarRetrains }
  let s2 := modCmd (modCmd s1 .A bump) .B bump
  mortarEvent s2 0x0011 1 fun s h => (half s h).cmd.mortarRetrains.toNat

/-- The receiver takes the flit it expects. A flit before the last of its message leaves the receive buffer as it arrives, so
that a message longer than the buffer passes; the last one stays there until the message is taken (R15, log entry 63). -/
def takeFlit (d : MortarDir) (f : Flit) : MortarDir :=
  let d1 := { d with expSeq := d.expSeq + 1, fails := 0, discarding := false }
  match f.msg with
  | some m => { d1 with
    rxFlits := tset d.rxFlits f.cls (tget d.rxFlits f.cls + 1), rx := tset d.rx f.cls (tget d.rx f.cls ++ [m]) }
  | none => { d1 with credits := tset d.credits f.cls (tget d.credits f.cls + 1) }

/-- The next flit on the wire to half `at_` arrives (R19, R20). -/
def receiveFlit (s : State) (at_ : Half) (crcOk : Bool) : State :=
  let from_ := otherHalf at_
  let d := dirFrom s.mortar from_
  match d.wire with
  | [] => s
  | f :: rest =>
    let d1 := { d with wire := rest }
    if f.seq ≠ d.expSeq then modMortarDir s from_ fun _ => d1
    else if crcOk then modMortarDir s from_ fun _ => takeFlit d1 f
    else
      let d2 := { d1 with fails := d1.fails + 1, discarding := true }
      let s1 := modMortarDir { s with mortar := { s.mortar with st := .replay } } from_ fun _ => d2
      if 4 ≤ d2.fails then startRetrain s1 0 else s1

/-- MORTAR_FLIT_RECEIVED (R19, R20). -/
def execMortarFlitReceived (at_ : Half) (crcOk : Bool) (s : State) : Host.Outcome State Fault Refusal :=
  act (.mortarFlitReceived at_ crcOk) s (if mortarCarries s then receiveFlit s at_ crcOk else s)

/-- Flits of the replay buffer from a sequence number on. -/
def fromSeq (b : List Flit) (seq : BitVec 12) : Nat := (b.dropWhile fun f => decide (f.seq ≠ seq)).length

/-- MORTAR_REPLAY_REQUEST: the sender at `at_` restarts from the flit named (R19). -/
def execMortarReplayRequest (at_ : Half) (seq : BitVec 12) (s : State) : Host.Outcome State Fault Refusal :=
  act (.mortarReplayRequest at_ seq) s
    (if mortarCarries s then
      modMortarDir { s with mortar := { s.mortar with st := .replay } } at_ fun d =>
        { d with replayLeft := fromSeq d.replayBuf seq }
    else s)

/-- The replay buffer after an acknowledgement through `seq`; unchanged where it holds no such flit. -/
def ackBuf (b : List Flit) (seq : BitVec 12) : List Flit :=
  if b.any fun f => decide (f.seq = seq) then b.drop (b.length - fromSeq b seq + 1) else b

/-- A direction has nothing left to replay. -/
def dirSettled (d : MortarDir) : Bool := decide (d.replayLeft = 0) && !d.discarding

/-- MORTAR_FLIT_ACK: the sender at `at_` frees acknowledged flits; when the replayed flits are acknowledged the link is
ACTIVE again (R19, R22). -/
def execMortarFlitAck (at_ : Half) (seq : BitVec 12) (s : State) : Host.Outcome State Fault Refusal :=
  act (.mortarFlitAck at_ seq) s
    (if mortarCarries s then
      let s1 := modMortarDir s at_ fun d => { d with replayBuf := ackBuf d.replayBuf seq }
      if dirSettled s1.mortar.ab && dirSettled s1.mortar.ba then
        { s1 with mortar := { s1.mortar with st := .active } }
      else s1
    else s)

/-- MORTAR_UNACK_TIMEOUT: the sender at `at_` has held an unacknowledged flit for 16,384 Mortar cycles (R20). -/
def execMortarUnackTimeout (at_ : Half) (s : State) : Host.Outcome State Fault Refusal :=
  act (.mortarUnackTimeout at_) s
    (if mortarCarries s && !(dirFrom s.mortar at_).replayBuf.isEmpty then startRetrain s 1 else s)

/-- MORTAR_BACKOFF_EXPIRY: a background training attempt starts (R21). -/
def execMortarBackoffExpiry (s : State) : Host.Outcome State Fault Refusal :=
  act .mortarBackoffExpiry s
    (if s.mortar.st = .down then { s with mortar := { s.mortar with attempting := true } } else s)

/-- A direction with nothing to carry. -/
def dirIdle (d : MortarDir) : Bool := d.queue.toList.all (·.isEmpty) && d.wire.isEmpty && d.replayBuf.isEmpty

/-- The next backoff after one of `b` AON cycles: doubled to 512 ms, then 1 s (R21). -/
def nextBackoff (b : Nat) : Nat := if b < 12800000 then 2 * b else 25000000

/-- A direction as the link comes back: what the receiver has not taken is sent again. -/
def dirResumed (d : MortarDir) : MortarDir :=
  let b := d.replayBuf.drop (d.replayBuf.length - fromSeq d.replayBuf d.expSeq)
  { d with wire := [], replayBuf := b, replayLeft := b.length, discarding := false }

/-! The DRAM aperture (R18). -/

/-- Aperture accesses fail: the link is DOWN, or trains after a half reset (R21, R547). -/
def aperFails (s : State) : Bool :=
  match s.mortar.st with
  | .down => true
  | .reset => true
  | .training => true
  | _ => false

/-- A BAR2 read completes with these bytes and EP bit (R399, R401). -/
def bar2Answer (s : State) (h : Half) (bs : List Byte) (ep : Bool) : State :=
  modEp s h fun p => { p with
    bar2Out := some (bs, ep), aperRead := none, poisonReads := if ep then satInc p.poisonReads else p.poisonReads }

/-- APER_REQUEST_RECEIVED: half `at_` serves the oldest request of the other half on its own DRAM (R18). -/
def aperServe (s : State) (at_ : Half) : State :=
  match mortarHead s at_ 5 with
  | some (.aperRead a n) =>
    let r := dramRead s at_ a n
    bar2Answer (mortarTake s at_ 5) (otherHalf at_) r.1 r.2
  | some (.aperWrite a bs) => dramWrite (mortarTake s at_ 5) at_ a bs
  | _ => s

/-- APER_REQUEST_RECEIVED (R18). -/
def execAperRequestReceived (at_ : Half) (s : State) : Host.Outcome State Fault Refusal :=
  act (.aperRequestReceived at_) s (aperServe s at_)

end Sys2Proof.Machine
end

