-- ==== Sys2Proof/Machine/Flags.lean ====
section
/-! DEFINITION. The registers of BAR0 as the host reads them, with every status flag in its place (R14, R36, R397, R398,
R401, R402), and the pins whose levels follow from the state. -/

namespace Sys2Proof.Machine

/-- MORTAR_STATE code (R22). -/
def mortarCode : MState → Nat
  | .reset => 0
  | .training => 1
  | .active => 2
  | .replay => 3
  | .retrain => 4
  | .idle => 5
  | .down => 6

/-- Dword `k` of a submission ring record (R36). -/
def sqWord (r : SqRec) (k : Nat) : Word :=
  match k with
  | 0 => lo32 r.base.toNat
  | 1 => hi32 r.base.toNat
  | 2 => pack [(0, r.sizeLog2.toNat), (8, r.cqId.toNat), (16, b2n r.enable), (17, b2n r.quiesced), (18, b2n r.error),
      (19, b2n r.cqStalled), (20, r.errCode.toNat)]
  | 3 => BitVec.setWidth 32 r.head
  | 4 => lo32 r.hwb.toNat
  | 5 => hi32 r.hwb.toNat
  | 6 => BitVec.setWidth 32 r.lastTail
  | _ => 0

/-- Dword `k` of a completion ring record (R36). -/
def cqWord (r : CqRec) (k : Nat) : Word :=
  match k with
  | 0 => lo32 r.base.toNat
  | 1 => hi32 r.base.toNat
  | 2 => pack [(0, r.sizeLog2.toNat), (8, r.vector.toNat), (15, b2n r.intEnable), (16, b2n r.enable), (17, b2n r.error),
      (20, r.errCode.toNat)]
  | 3 => pack [(0, r.tail.toNat), (16, b2n r.phase)]
  | 4 => pack [(0, r.coalCount.toNat), (8, r.coalDelay.toNat)]
  | 5 => BitVec.setWidth 32 r.head
  | _ => 0

/-- LAST_SEQ: all ones while the log is empty (R66). -/
def lastSeq (c : HalfCmd) : Word := if c.log.isEmpty then 0xFFFFFFFF else c.nextSeq - 1

/-- Dword `k` of the event ring record (R36); HEAD_DB is write-only. -/
def evWord (c : HalfCmd) (k : Nat) : Word :=
  let r := c.ev
  match k with
  | 0 => lo32 r.base.toNat
  | 1 => hi32 r.base.toNat
  | 2 => pack [(0, r.sizeLog2.toNat), (8, r.vector.toNat), (15, b2n r.intEnable), (16, b2n r.enable), (17, b2n r.error),
      (18, b2n r.overflowed), (20, r.errCode.toNat)]
  | 3 => pack [(0, r.tail.toNat), (16, b2n r.phase)]
  | 5 => r.lost
  | 6 => lastSeq c
  | _ => 0

/-- Mortar link state as half `h` reads it (R22). -/
def mortarState (s : State) : Nat := mortarCode s.mortar.st

/-- HALF_ROLE (R14). -/
def halfRole (s : State) (h : Half) : Word :=
  let o := half s (otherHalf h)
  pack [(0, halfIdx h), (1, b2n (decide (leadHalf s = h))), (2, b2n s.sys.halfId), (3, b2n o.ident.cmdReady),
    (4, b2n (decide (o.ep.gen ≠ 0))), (5, mortarState s), (8, (half s h).cmd.mortarRetrains.toNat)]

/-- THROTTLED: a clock is stepped down for temperature (R398, R503). -/
def throttled (x : HalfState) : Bool := decide (x.sys.step ≠ 0)

/-- Status dword of the identity block (R398). -/
def identStatus (s : State) (h : Half) : Word :=
  let x := half s h
  pack [(0, b2n x.ident.cmdReady), (1, b2n x.ident.memReady), (2, b2n (unattached s (otherHalf h) && !unattached s h)),
    (3, b2n x.sys.guard), (4, b2n (throttled x)), (5, b2n (decide (x.sys.shed ≠ 0))), (6, b2n x.ident.fault),
    (8, x.ident.bootStage.toNat), (12, s.pair.role.toNat)]

/-- Dword `k` of the identity block (R398). -/
def identWord (s : State) (h : Half) (k : Nat) : Word :=
  let i := (half s h).ident
  match k with
  | 0 => if h = .A then 0x96329632 else 0x96329633
  | 1 => BitVec.setWidth 32 i.stepping
  | 2 => halfRole s h
  | 3 => pack [(0, i.fwPatch.toNat), (8, i.fwMinor.toNat), (16, i.fwMajor.toNat), (24, b2n i.fwBank)]
  | 4 => identStatus s h
  | _ => 0

/-- Dword `k` of the BAR2 window control block (R401). -/
def winWord (s : State) (h : Half) (k : Nat) : Word :=
  let p := (half s h).ep
  match k with
  | 0 => lo32 (p.winBase.toNat * 2 ^ 28)
  | 1 => hi32 (p.winBase.toNat * 2 ^ 28)
  | 2 => pack [(0, b2n p.peer), (1, p.sizeLog2.toNat), (7, b2n (p.peer && decide (s.mortar.st = .down)))]
  | 3 => p.poisonReads
  | _ => 0

/-- Dword `k` of an MSI-X table entry (R402). -/
def msixWord (v : MsixVec) (k : Nat) : Word :=
  match k with
  | 0 => lo32 v.addr.toNat
  | 1 => hi32 v.addr.toNat
  | 2 => v.data
  | _ => BitVec.ofNat 32 (b2n v.mask)

/-- Dword `k` of the pending-bit array (R402). -/
def pbaWord (p : Endpoint) (k : Nat) : Word :=
  pack ((List.range 32).map fun i => (i, b2n (tget p.msix (32 * k + i)).pendingBit))

/-- A 32-bit read of BAR0 at an aligned offset; a reserved offset and a doorbell read 0 (R397). -/
def bar0Read (s : State) (h : Half) (off : Nat) : Word :=
  let x := half s h
  let k := off / 4
  if off < 0x20 then identWord s h k
  else if 0x1000 ≤ off ∧ off < 0x1400 then sqWord (sqAt s h ((off - 0x1000) / 32)) (k % 8)
  else if 0x1400 ≤ off ∧ off < 0x1800 then cqWord (cqAt s h ((off - 0x1400) / 32)) (k % 8)
  else if 0x20000 ≤ off ∧ off < 0x20800 then msixWord (tget x.ep.msix ((off - 0x20000) / 16)) (k % 4)
  else if 0x20800 ≤ off ∧ off < 0x20810 then pbaWord x.ep ((off - 0x20800) / 4)
  else if 0x30000 ≤ off ∧ off < 0x30010 then winWord s h ((off - 0x30000) / 4)
  else if 0x40000 ≤ off ∧ off < 0x40020 then evWord x.cmd ((off - 0x40000) / 4)
  else 0

/-! Pins. -/

/-- MGMT_ALERT_N is low while a completion is ready or an event is pending on the port (R71). -/
def mgmtAlertLow (s : State) : Bool := s.mgmt.completion.isSome || !s.mgmt.events.isEmpty

/-- PAIR_OWN_N is low: the device is active in a pair (R453). -/
def pairOwnLow (s : State) : Bool := s.pair.own

/-- The outputs that a pair shares are driven: by a device that is not fenced and has not tripped, and that is in no pair or
drives PAIR_OWN_N low as the active (R453, R463, R506). -/
def outputsDriven (s : State) : Bool := !s.pair.fenced && !s.sys.tripped && (decide (s.pair.role = 0) || s.pair.own)

/-- Level of the TRIG_OUT balls, pulsed by a rule (R147); none = high impedance (R453). -/
def trigOutLevel (s : State) : Option (BitVec 4) := if outputsDriven s then some s.sys.trigOut else none

/-- THERMTRIP_N is low (R506). -/
def thermtripLow (s : State) : Bool := s.sys.tripped

/-- This device pulls the PAIR_ARB wire low with its claim (R466). -/
def pairArbDriven (s : State) : Bool := s.pair.arbDriven

end Sys2Proof.Machine
end

