-- ==== Sys2Proof/Machine/Rings.lean ====
section
/-! DEFINITION. The rings and their registers, the doorbells, MSI-X masks, fetching, and the management port's data
operations (chapter 02, R397, R401, R402). -/

namespace Sys2Proof.Machine

/-! Host memory as the host leaves it before a doorbell (R39). -/

/-- Bytes the host writes to its own memory. -/
def hostStores (m : Memory) : List (Nat × List Byte) → Memory
  | [] => m
  | (a, bs) :: t => hostStores (m.writeBytes hostDefault a bs) t

/-- What the host has made visible takes its place. -/
def hostUpdate (s : State) (u : HostUpdate) : State :=
  { s with hostMem := hostStores s.hostMem u.writes, hostBad := u.bad.getD s.hostBad }

/-! Stalls (R62). -/

/-- A ring that stops fetching gives up its place among the stalled rings and what was reserved for it (R62). -/
def unstall (s : State) (h : Half) (n : Nat) : State :=
  let r := sqAt s h n
  let q := r.cqId.toNat
  let s1 := modSq s h n fun r => { r with cqStalled := false, preReserved := 0 }
  let s2 := modCq s1 h q fun k =>
    let first := decide ((k.stalled.head?.map (·.1)) = some n)
    { k with stalled := k.stalled.filter fun x => decide (x.1 ≠ n), held := if first then 0 else k.held }
  releaseSlots s2 h q r.preReserved

/-- A submission ring stops with a ring error (R67). -/
def sqStop (s : State) (h : Half) (n : Nat) (code : BitVec 4) (data1 : Nat) : State :=
  sqError (unstall s h n) h n code data1

/-! Refusals (R67): the whole write is ignored, ERR_CODE records the cause. -/

/-- A submission ring refuses an ENABLE write. -/
def sqRefuse (s : State) (h : Half) (n : Nat) (code : BitVec 4) : State :=
  event (modSq s h n fun r => { r with errCode := code }) h 0x0002 2 0x02 n noPoint code.toNat 0 0

/-- A completion ring refuses an ENABLE write. -/
def cqRefuse (s : State) (h : Half) (n : Nat) (code : BitVec 4) : State :=
  event (modCq s h n fun r => { r with errCode := code }) h 0x0002 2 0x03 n noPoint code.toNat 0 0

/-- The event ring refuses an ENABLE write. -/
def evRefuse (s : State) (h : Half) (code : BitVec 4) : State :=
  event (modCmd s h fun c => { c with ev := { c.ev with errCode := code } }) h 0x0002 2 0x01 0 noPoint code.toNat 0 0

/-! Control dwords (R36, R40, R67). -/

/-- A valid ring size: 4 to 16 (R35). -/
def sizeOk (v : Word) : Bool := decide (4 ≤ fld v 4 0 ∧ fld v 4 0 ≤ 16)

/-- Write of dword +0x08 of submission ring record `n`. -/
def writeSqCtl (s : State) (h : Half) (n : Nat) (v : Word) : State :=
  let r := sqAt s h n
  if r.enable then
    if bitOf v 16 then modSq s h n fun r => { r with errCode := if r.error then r.errCode else 0 }
    else modSq (unstall s h n) h n fun r => { r with
      enable := false, quiesced := r.fetching.isEmpty, errCode := if r.error then r.errCode else 0 }
  else
    let size := BitVec.ofNat 5 (fld v 4 0)
    let cq := BitVec.ofNat 5 (fld v 12 8)
    if bitOf v 16 then
      if !sizeOk v then sqRefuse s h n 6
      else if !(cqAt s h cq.toNat).enable then sqRefuse s h n 4
      else modSq s h n fun r => { r with
        sizeLog2 := size, cqId := cq, enable := true, quiesced := false, error := false, errCode := 0,
        cqStalled := false, head := 0, lastTail := 0, preReserved := 0, sinceHwb := 0,
        fetchCount := r.fetchCount + 1, lastOutcome := some true }
    else modSq s h n fun r => { r with sizeLog2 := size, cqId := cq, errCode := if r.error then r.errCode else 0 }

/-- An enabled submission ring of the half names completion ring `n`. -/
def cqNamed (s : State) (h : Half) (n : Nat) : Bool :=
  (half s h).cmd.sq.toList.any fun r => r.enable && decide (r.cqId.toNat = n)

/-- Write of dword +0x08 of completion ring record `n`. -/
def writeCqCtl (s : State) (h : Half) (n : Nat) (v : Word) : State :=
  let r := cqAt s h n
  let vec := BitVec.ofNat 7 (fld v 14 8)
  if r.enable then
    if bitOf v 16 then
      modCq s h n fun r => { r with vector := vec, intEnable := bitOf v 15, errCode := if r.error then r.errCode else 0 }
    else if cqNamed s h n then cqRefuse s h n 7
    else modCq s h n fun r => { r with
      vector := vec, intEnable := bitOf v 15, enable := false, errCode := if r.error then r.errCode else 0 }
  else if bitOf v 16 then
    if !sizeOk v then cqRefuse s h n 6
    else modCq s h n fun r => { r with
      sizeLog2 := BitVec.ofNat 5 (fld v 4 0), vector := vec, intEnable := bitOf v 15, enable := true, error := false,
      errCode := 0, tail := 0, phase := true, head := 0, unsignalled := 0, held := 0, stalled := [] }
  else modCq s h n fun r => { r with
    sizeLog2 := BitVec.ofNat 5 (fld v 4 0), vector := vec, intEnable := bitOf v 15,
    errCode := if r.error then r.errCode else 0 }

/-- The event ring of a half changed. -/
def modEv (s : State) (h : Half) (f : EvRec → EvRec) : State := modCmd s h fun c => { c with ev := f c.ev }

/-- Write of dword +0x08 of the event ring record. -/
def writeEvCtl (s : State) (h : Half) (v : Word) : State :=
  let r := (half s h).cmd.ev
  let vec := BitVec.ofNat 7 (fld v 14 8)
  if r.enable then
    modEv s h fun r => { r with
      vector := vec, intEnable := bitOf v 15, enable := bitOf v 16, errCode := if r.error then r.errCode else 0 }
  else if bitOf v 16 then
    if !sizeOk v then evRefuse s h 6
    else pushOverflow (modEv s h fun r => { r with
      sizeLog2 := BitVec.ofNat 5 (fld v 4 0), vector := vec, intEnable := bitOf v 15, enable := true, error := false,
      errCode := 0, tail := 0, phase := true, head := 0 }) h
  else modEv s h fun r => { r with
    sizeLog2 := BitVec.ofNat 5 (fld v 4 0), vector := vec, intEnable := bitOf v 15,
    errCode := if r.error then r.errCode else 0 }

/-! Doorbells (R37, R38, R42). -/

/-- Tail doorbell of submission ring `n`. -/
def sqDoorbell (s : State) (h : Half) (n : Nat) (v : Word) : State :=
  let r := sqAt s h n
  let t := fld v 15 0
  if !r.enable || r.error then s
  else if 2 ^ r.sizeLog2.toNat ≤ t then sqStop s h n 1 t
  else modSq s h n fun r => { r with lastTail := BitVec.ofNat 16 t }

/-- Head doorbell of completion ring `n`. -/
def cqDoorbell (s : State) (h : Half) (n : Nat) (v : Word) : State :=
  let r := cqAt s h n
  let t := fld v 15 0
  let adv := ringDist r.sizeLog2 r.head (BitVec.ofNat 16 t)
  if !r.enable || r.error then s
  else if 2 ^ r.sizeLog2.toNat ≤ t ∨ cqUsed r < adv then cqError s h n 5 t
  else offerSlots (modCq s h n fun r => { r with head := BitVec.ofNat 16 t }) h n adv

/-- Head doorbell of the event ring. -/
def evDoorbell (s : State) (h : Half) (v : Word) : State :=
  let r := (half s h).cmd.ev
  let t := fld v 15 0
  if !r.enable || r.error then s
  else if 2 ^ r.sizeLog2.toNat ≤ t ∨ ringDist r.sizeLog2 r.head r.tail < ringDist r.sizeLog2 r.head (BitVec.ofNat 16 t) then
    evError s h 5 t
  else pushOverflow (modEv s h fun r => { r with head := BitVec.ofNat 16 t }) h

/-! MSI-X (R402). -/

/-- Send the pending messages that are no longer masked. -/
def flushMsix (s : State) (h : Half) : State :=
  let p := (half s h).ep
  if !p.msixEnable || p.msixMask || p.d3hot then s
  else (List.range 128).foldl (fun s v =>
    let e := tget (half s h).ep.msix v
    if e.pendingBit && !e.mask then sendMsix s h v else s) s

/-- Write dword `k` of MSI-X table entry `n`. -/
def writeMsix (s : State) (h : Half) (n k : Nat) (v : Word) : State :=
  let f := fun (e : MsixVec) =>
    match k with
    | 0 => { e with addr := BitVec.ofNat 64 ((v.toNat / 4) * 4 + (e.addr.toNat / 2 ^ 32) * 2 ^ 32) }
    | 1 => { e with addr := BitVec.ofNat 64 (e.addr.toNat % 2 ^ 32 + v.toNat * 2 ^ 32) }
    | 2 => { e with data := v }
    | _ => { e with mask := bitOf v 0 }
  flushMsix (modEp s h fun p => { p with msix := tmod p.msix n f }) h

/-! Register writes (R4, R36, R397). -/

/-- The low or high dword of a 64-bit register replaced. -/
def setLo (b : BitVec 64) (v : Nat) : BitVec 64 := BitVec.ofNat 64 (v + (b.toNat / 2 ^ 32) * 2 ^ 32)
/-- The high dword replaced. -/
def setHi (b : BitVec 64) (v : Nat) : BitVec 64 := BitVec.ofNat 64 (b.toNat % 2 ^ 32 + v * 2 ^ 32)

/-- Write dword `k` of submission ring record `n`. -/
def writeSqWord (s : State) (h : Half) (n k : Nat) (v : Word) : State :=
  match k with
  | 0 => modSq s h n fun r => if r.enable then r else { r with base := setLo r.base (fld v 31 12 * 2 ^ 12) }
  | 1 => modSq s h n fun r => if r.enable then r else { r with base := setHi r.base v.toNat }
  | 2 => writeSqCtl s h n v
  | 4 => modSq s h n fun r => { r with hwb := setLo r.hwb (fld v 31 3 * 8) }
  | 5 => modSq s h n fun r => { r with hwb := setHi r.hwb v.toNat }
  | _ => s

/-- Write dword `k` of completion ring record `n`. -/
def writeCqWord (s : State) (h : Half) (n k : Nat) (v : Word) : State :=
  match k with
  | 0 => modCq s h n fun r => if r.enable then r else { r with base := setLo r.base (fld v 31 12 * 2 ^ 12) }
  | 1 => modCq s h n fun r => if r.enable then r else { r with base := setHi r.base v.toNat }
  | 2 => writeCqCtl s h n v
  | 4 => modCq s h n fun r => { r with coalCount := BitVec.ofNat 8 (fld v 7 0), coalDelay := BitVec.ofNat 16 (fld v 23 8) }
  | _ => s

/-- Write dword `k` of the event ring record. -/
def writeEvWord (s : State) (h : Half) (k : Nat) (v : Word) : State :=
  match k with
  | 0 => modEv s h fun r => if r.enable then r else { r with base := setLo r.base (fld v 31 12 * 2 ^ 12) }
  | 1 => modEv s h fun r => if r.enable then r else { r with base := setHi r.base v.toNat }
  | 2 => writeEvCtl s h v
  | 4 => evDoorbell s h v
  | _ => s

/-- The window base with the bits below the window size cleared (R399). -/
def alignWin (b : BitVec 36) (sizeLog2 : Nat) : BitVec 36 :=
  BitVec.ofNat 36 (b.toNat / 2 ^ (sizeLog2 - 28) * 2 ^ (sizeLog2 - 28))

/-- Write dword `k` of the window control block (R400, R401). -/
def writeWinWord (s : State) (h : Half) (k : Nat) (v : Word) : State :=
  modEp s h fun p =>
    match k with
    | 0 => { p with winBase := alignWin (BitVec.ofNat 36 (p.winBase.toNat / 16 * 16 + fld v 31 28)) p.sizeLog2.toNat }
    | 1 => { p with winBase := alignWin (BitVec.ofNat 36 (p.winBase.toNat % 16 + v.toNat * 16)) p.sizeLog2.toNat }
    | 2 => { p with peer := bitOf v 0 }
    | _ => p

/-- An aligned 32-bit write to BAR0: registers and doorbells by the map of R397; any other offset is ignored. -/
def bar0Write (s : State) (h : Half) (off : Nat) (v : Word) : State :=
  let k := off / 4
  if 0x1000 ≤ off ∧ off < 0x1400 then writeSqWord s h ((off - 0x1000) / 32) (k % 8) v
  else if 0x1400 ≤ off ∧ off < 0x1800 then writeCqWord s h ((off - 0x1400) / 32) (k % 8) v
  else if 0x10000 ≤ off ∧ off < 0x10100 then
    if off % 8 = 0 then sqDoorbell s h ((off - 0x10000) / 8) v else s
  else if 0x10800 ≤ off ∧ off < 0x10900 then
    if off % 8 = 0 then cqDoorbell s h ((off - 0x10800) / 8) v else s
  else if 0x20000 ≤ off ∧ off < 0x20800 then writeMsix s h ((off - 0x20000) / 16) (k % 4) v
  else if 0x30000 ≤ off ∧ off < 0x30010 then writeWinWord s h ((off - 0x30000) / 4) v
  else if 0x40000 ≤ off ∧ off < 0x40020 then writeEvWord s h ((off - 0x40000) / 4) v
  else s

/-- A register write: BAR0 takes aligned 32-bit and 64-bit writes and discards others (R397); the capabilities of the
configuration space (R399, R405). -/
def regWrite (s : State) (h : Half) : RegWrite → State
  | .bar0 off size v =>
    if size = 4 ∧ off % 4 = 0 then bar0Write s h off (BitVec.setWidth 32 v)
    else if size = 8 ∧ off % 8 = 0 then bar0Write (bar0Write s h off (lo32 v.toNat)) h (off + 4) (hi32 v.toNat)
    else s
  | .linkPower l1 l11 l12 l0p => modEp s h fun p => { p with aspmL1 := l1, l11, l12, l0p }
  | .barSize n =>
    if 28 ≤ n ∧ n ≤ 36 then
      modEp s h fun p => { p with sizeLog2 := BitVec.ofNat 6 n, winBase := alignWin p.winBase n }
    else s

/-- REGISTER_WRITE (R4, R397). -/
def execRegisterWrite (h : Half) (w : RegWrite) (s : State) : Host.Outcome State Fault Refusal :=
  act (.registerWrite h w) s (regWrite (linkWake s h) h w)

/-- SQ_TAIL_DOORBELL (R38, R39). -/
def execSqTailDoorbell (h : Half) (n : Nat) (value : Word) (env : HostUpdate) (s : State) :
    Host.Outcome State Fault Refusal :=
  act (.sqTailDoorbell h n value env) s (sqDoorbell (linkWake (hostUpdate s env) h) h n value)

/-- CQ_HEAD_DOORBELL (R42, R62). -/
def execCqHeadDoorbell (h : Half) (n : Nat) (value : Word) (s : State) : Host.Outcome State Fault Refusal :=
  act (.cqHeadDoorbell h n value) s (cqDoorbell (linkWake s h) h n value)

/-- HEAD_DB (R42, R64). -/
def execHeadDb (h : Half) (value : Word) (s : State) : Host.Outcome State Fault Refusal :=
  act (.headDb h value) s (evDoorbell (linkWake s h) h value)

/-- A control dword with ENABLE set. -/
def withEnable (v : Word) : Word := v ||| 0x10000

/-- A control dword with ENABLE clear. -/
def withoutEnable (v : Word) : Word := v &&& 0xFFFEFFFF

/-- SQ_ENABLE: a write of the control dword with ENABLE = 1 (R36). -/
def execSqEnable (h : Half) (n : Nat) (value : Word) (s : State) : Host.Outcome State Fault Refusal :=
  act (.sqEnable h n value) s (writeSqCtl (linkWake s h) h n (withEnable value))

/-- SQ_DISABLE: a write of the control dword with ENABLE = 0 (R36). -/
def execSqDisable (h : Half) (n : Nat) (value : Word) (s : State) : Host.Outcome State Fault Refusal :=
  act (.sqDisable h n value) s (writeSqCtl (linkWake s h) h n (withoutEnable value))

/-- CQ_ENABLE (R40). -/
def execCqEnable (h : Half) (n : Nat) (value : Word) (s : State) : Host.Outcome State Fault Refusal :=
  act (.cqEnable h n value) s (writeCqCtl (linkWake s h) h n (withEnable value))

/-- CQ_DISABLE (R67). -/
def execCqDisable (h : Half) (n : Nat) (value : Word) (s : State) : Host.Outcome State Fault Refusal :=
  act (.cqDisable h n value) s (writeCqCtl (linkWake s h) h n (withoutEnable value))

/-- EVENT_RING_ENABLE (R40). -/
def execEventRingEnable (h : Half) (value : Word) (s : State) : Host.Outcome State Fault Refusal :=
  act (.eventRingEnable h value) s (writeEvCtl (linkWake s h) h (withEnable value))

/-- EVENT_RING_DISABLE (R36). -/
def execEventRingDisable (h : Half) (value : Word) (s : State) : Host.Outcome State Fault Refusal :=
  act (.eventRingDisable h value) s (writeEvCtl (linkWake s h) h (withoutEnable value))

/-- MSIX_MASK_WRITE: a mask or enable is written, and what it lets through is sent (R402). -/
def execMsixMaskWrite (h : Half) (w : MsixWrite) (s : State) : Host.Outcome State Fault Refusal :=
  act (.msixMaskWrite h w) s
    (match w with
     | .vector n mask => writeMsix s h n 3 (BitVec.ofNat 32 (b2n mask))
     | .control en fm => flushMsix (modEp s h fun p => { p with msixEnable := en, msixMask := fm }) h)

/-- QUIESCED: every fetch in progress of a disabled or stopped ring has ended (R36). -/
def execQuiesced (h : Half) (n : Nat) (s : State) : Host.Outcome State Fault Refusal :=
  act (.quiesced h n) s
    (modSq s h n fun r =>
      if (!r.enable || r.error) && r.fetching.isEmpty then { r with quiesced := true } else r)

/-- COAL_DELAY_EXPIRY: the oldest unsignalled completion has waited COAL_DELAY (R36). -/
def execCoalDelayExpiry (h : Half) (n : Nat) (s : State) : Host.Outcome State Fault Refusal :=
  let r := cqAt s h n
  act (.coalDelayExpiry h n) s
    (if r.enable && !r.error && r.intEnable && decide (0 < r.unsignalled) && decide (r.coalDelay ≠ 0) then
      signal (modCq s h n fun r => { r with unsignalled := 0 }) h r.vector.toNat
    else s)

/-! Fetching (R42, R62). -/

/-- Completion slots that an entry can need: two for a boundary opcode with NOTIFY, else one (R62). -/
def slotsNeeded (w0 : Word) : Nat :=
  match opOfCode (fld w0 15 0) with
  | some op => if decide (opLatency op = .boundary) && bitOf w0 18 then 2 else 1
  | none => 1

/-- A write through the aperture that the half's endpoint received is still on its way (R400). -/
def aperWaits (s : State) (h : Half) : Bool :=
  let d := dirFrom s.mortar h
  let isWrite := fun (m : Msg) => match m with
    | .aperWrite .. => true
    | _ => false
  (tget d.queue 5).any isWrite || (tget d.rx 5).any isWrite ||
    (d.replayBuf ++ d.wire).any fun f => (f.msg.map isWrite).getD false

/-- The half fetches entries of a ring: firmware accepts commands and the link may be used (R36, R62, R398, R406, R463,
R471, R473). -/
def fetches (s : State) (h : Half) (n : Nat) : Bool :=
  let r := sqAt s h n
  r.enable && !r.error && !r.cqStalled && decide (r.head ≠ r.lastTail) && (half s h).ident.cmdReady &&
    !(half s h).ep.d3hot && !s.pair.fenced && !s.pair.draining && !inSwap s && !aperWaits s h

/-- Write HEAD to the write-back address, if write-back is enabled (R42). -/
def headWriteBack (s : State) (h : Half) (n : Nat) : State :=
  let r := sqAt s h n
  if r.hwb = 0 then s
  else match hostWrite s r.hwb.toNat (leBytes 4 r.head.toNat) with
    | some s1 => s1
    | none => sqStop s h n 8 r.head.toNat

/-- The entry of a ring is fetched: HEAD moves on and is written back, at least once in 16 entries and after the last of
a doorbell (R42). -/
def takeEntry (s : State) (h : Half) (n need : Nat) (ws : List Word) : State :=
  let s1 := modSq s h n fun r => { r with
    head := ringNext r.sizeLog2 r.head, fetching := r.fetching ++ [(need, ws)], sinceHwb := r.sinceHwb + 1,
    quiesced := false }
  let r := sqAt s1 h n
  if 16 ≤ r.sinceHwb ∨ r.head = r.lastTail then
    headWriteBack (modSq s1 h n fun r => { r with sinceHwb := 0 }) h n
  else s1

/-- Reserve completion slots for the ring's next entry and start its fetch; where they cannot be reserved the ring stalls
(R62). -/
def fetchEntry (s : State) (h : Half) (n : Nat) : State :=
  let r := sqAt s h n
  if !fetches s h n then s
  else match hostRead (linkWake s h) (r.base.toNat + 64 * r.head.toNat) 64 with
    | none => sqStop s h n 2 r.head.toNat
    | some bs =>
      let ws := bytesDwords 16 bs
      let need := slotsNeeded (ws.headD 0)
      let q := r.cqId.toNat
      let k := cqAt s h q
      if need ≤ r.preReserved then
        takeEntry (releaseSlots (modSq s h n fun r => { r with preReserved := 0 }) h q (r.preReserved - need)) h n need ws
      else if need + k.held ≤ cqFree k + r.preReserved then
        takeEntry (modCq (modSq s h n fun r => { r with preReserved := 0 }) h q fun k =>
          { k with reserved := k.reserved + (need - r.preReserved) }) h n need ws
      else
        modCq (modSq s h n fun r => { r with cqStalled := true, preReserved := 0 }) h q fun k =>
          { k with stalled := k.stalled ++ [(n, need)], reserved := k.reserved - r.preReserved }

/-- ENTRY_FETCH (R42, R62). -/
def execEntryFetch (h : Half) (n : Nat) (s : State) : Host.Outcome State Fault Refusal :=
  act (.entryFetch h n) s (fetchEntry s h n)

/-! Data operations of the management port (R69 to R71). -/

/-- The management port runs: the lead's boot ROM or firmware serves it. -/
def portServed (s : State) : Bool := !(half s (leadHalf s)).sys.inReset

/-- READ_COMPLETION: the unread completion entry, or zeros (R69). -/
def execReadCompletion (s : State) : Host.Outcome State Fault Refusal :=
  act .readCompletion s
    (if portServed s then
      { s with mgmt := { s.mgmt with
          out := dwordBytes (s.mgmt.completion.getD (List.replicate 8 0)), completion := none } }
    else s)

/-- READ_EVENT: the oldest unread event record, or zeros (R69); its PHASE is a free value. -/
def execReadEvent (s : State) : Host.Outcome State Fault Refusal :=
  let f := fresh s
  act .readEvent s
    (if portServed s then
      match s.mgmt.events with
      | [] => { s with mgmt := { s.mgmt with out := List.replicate 32 0 } }
      | e :: t =>
        { f.2 with mgmt := { s.mgmt with out := eventBytes e (Config.freeBool f.1), events := t } }
    else s)

/-- WRITE_DATA: bytes into the port's data buffer (R69). -/
def execWriteData (bytes : List Byte) (s : State) : Host.Outcome State Fault Refusal :=
  act (.writeData bytes) s
    (if portServed s then { s with mgmt := { s.mgmt with buf := bytes ++ s.mgmt.buf.drop bytes.length } } else s)

/-- READ_DATA: bytes from the data buffer (R69); a byte never written reads 0 (DESIGN CHOICE 20). -/
def execReadData (n : Nat) (s : State) : Host.Outcome State Fault Refusal :=
  act (.readData n) s
    (if portServed s then
      { s with mgmt := { s.mgmt with out := (List.range n).map fun i => s.mgmt.buf.getD i 0 } }
    else s)

/-- The port is busy: a command is running or its completion is unread (R69, R70). -/
def portBusy (s : State) : Bool := s.mgmt.running || s.mgmt.completion.isSome

/-- The status byte of the port (R69). -/
def portStatus (s : State) : Nat :=
  b2n s.mgmt.completion.isSome + 2 * b2n (!s.mgmt.events.isEmpty) + 4 * b2n (portBusy s) +
    8 * b2n (!(half s (leadHalf s)).sys.bootRom)

/-- READ_STATUS (R69). -/
def execReadStatus (s : State) : Host.Outcome State Fault Refusal :=
  act .readStatus s
    (if portServed s then { s with mgmt := { s.mgmt with out := leBytes 1 (portStatus s) } } else s)

end Sys2Proof.Machine
end

