-- ==== Sys2Proof/Machine/HostPort.lean ====
section
/-! DEFINITION. The PCIe endpoint's power states and BAR2 window, the choice of power states from wake budgets, and the
PWR_ and HOST_ commands (chapter 11). -/

namespace Sys2Proof.Machine

/-! BAR2 (R399, R400). -/

/-- Half address of a BAR2 offset. -/
def bar2Addr (p : Endpoint) (off : Nat) : Nat := p.winBase.toNat * 2 ^ 28 + off

/-- The access lies in the window. -/
def inWindow (p : Endpoint) (off len : Nat) : Bool := decide (off + len ≤ 2 ^ p.sizeLog2.toNat)

/-- BAR2_READ: from this half's DRAM, or through the aperture (R399, R21). -/
def bar2Read (s : State) (h : Half) (off len : Nat) : State :=
  let p := (half s h).ep
  if !inWindow p off len then s
  else if !p.peer then
    let r := dramRead s h (bar2Addr p off) len
    bar2Answer s h r.1 r.2
  else if aperFails s then bar2Answer s h (List.replicate len 0xFF) true
  else mortarQueue (modEp s h fun p => { p with bar2Out := none, aperRead := some (bar2Addr p off, len) }) h
    (.aperRead (bar2Addr p off) len)

/-- BAR2_READ (R399). -/
def execBar2Read (h : Half) (offset len : Nat) (s : State) : Host.Outcome State Fault Refusal :=
  act (.bar2Read h offset len) s (bar2Read (linkWake s h) h offset len)

/-- BAR2_WRITE: to this half's DRAM, or through the aperture; lost while the aperture fails (R400, R21). -/
def bar2Write (s : State) (h : Half) (off : Nat) (bytes : List Byte) : State :=
  let p := (half s h).ep
  if !inWindow p off bytes.length then s
  else if !p.peer then dramWrite s h (bar2Addr p off) bytes
  else if aperFails s then s
  else mortarQueue s h (.aperWrite (bar2Addr p off) bytes)

/-- BAR2_WRITE (R400). -/
def execBar2Write (h : Half) (offset : Nat) (bytes : List Byte) (s : State) : Host.Outcome State Fault Refusal :=
  act (.bar2Write h offset bytes) s (bar2Write (linkWake s h) h offset bytes)

/-! Power states of the function and its link (R405, R406, R412). -/

/-- Write the completions held in D3hot in the order in which they were produced (R406). -/
def writeHeld (h : Half) : List (Nat × Completion) → State → State
  | [], s => s
  | (n, c) :: t, s => writeHeld h t (postTo s n c)

/-- D_STATE_WRITE: the function enters or leaves D3hot (R406). -/
def setDState (s : State) (h : Half) (d3 pmeEn : Bool) : State :=
  let old := (half s h).ep
  let s1 := modEp s h fun p => { p with d3hot := d3, pmeEn }
  if d3 = old.d3hot then s1
  else if d3 then event s1 h 0xC002 0 0x71 (halfIdx h) noPoint 3 0 0
  else
    let s2 := writeHeld h old.heldCompletions (modEp s1 h fun p => { p with heldCompletions := [], pmeSent := false })
    event (pushOverflow (flushMsix s2 h) h) h 0xC002 0 0x71 (halfIdx h) noPoint 0 0 0

/-- D_STATE_WRITE (R406). -/
def execDStateWrite (h : Half) (d3 pmeEn : Bool) (s : State) : Host.Outcome State Fault Refusal :=
  act (.dStateWrite h d3 pmeEn) s (setDState (linkWake s h) h d3 pmeEn)

/-- HOST_LINK_CHANGE: the link trains, or changes speed or width (R393, R412). -/
def linkChange (s : State) (h : Half) (gen : BitVec 3) (width : BitVec 4) (flit : Bool) : State :=
  let p := (half s h).ep
  if !p.perstHigh || gen = 0 then s
  else
    let slower := match p.lastTrained with
      | some (g, w) => decide (gen < g) || decide (width < w)
      | none => decide (width ≠ 8)
    let s1 := modEp s h fun p => { p with
      gen, width, l0pWidth := width, flit, lstate := 0, lastTrained := some (gen, width)
      recoveries := if p.gen = 0 then p.recoveries else satInc p.recoveries }
    event s1 h 0xC001 1 0x71 (halfIdx h) noPoint (gen.toNat + 8 * width.toNat) (b2n slower) 0

/-- HOST_LINK_CHANGE (R412). -/
def execHostLinkChange (h : Half) (gen : BitVec 3) (width : BitVec 4) (flit : Bool) (s : State) :
    Host.Outcome State Fault Refusal :=
  act (.hostLinkChange h gen width flit) s (linkChange s h gen width flit)

/-- Budget of a wake domain of a half, in microseconds (R407). -/
def budgetOf (s : State) (h : Half) (d : Nat) : Nat := (tget (half s h).power.budget d).toNat

/-- A budget admits a state of this exit latency: all ones allow every state (R407). -/
def fits (budget latency : Nat) : Bool := decide (budget = 0xFFFFFFFF) || decide (latency ≤ budget)

/-- The deepest of states listed deepest first, each with its latency, that fits a budget; 0 where none does. -/
def deepest (states : List (Nat × Nat)) (budget : Nat) : Nat :=
  ((states.find? fun x => fits budget x.2).map (·.1)).getD 0

/-- Exit latency of a state code in microseconds (table of state exit latencies). -/
def exitLatency : Nat → Nat
  | 1 => 1
  | 2 => 50
  | 3 => 2000
  | 4 => 1
  | 5 => 2
  | 6 => 60
  | 9 => 4
  | 10 => 16
  | 11 => 70
  | 12 => 1
  | _ => 0

/-- The PCIe link state that the COMMAND budget and the host's enables allow (R405, R407). -/
def linkChoice (s : State) (h : Half) : Nat :=
  let p := (half s h).ep
  if !p.aspmL1 then 0
  else deepest ((if p.l12 then [(11, 70)] else []) ++ (if p.l11 then [(10, 16)] else []) ++ [(9, 4)]) (budgetOf s h 0)

/-- What is left of a budget after a cost; all ones stay. -/
def leftOf (budget cost : Nat) : Nat := if budget = 0xFFFFFFFF then budget else budget - cost

/-! Holds (R408). -/

/-- Streams of a half. -/
def streamsOf (s : State) (h : Half) : List Stream :=
  s.streams.toList.filter fun x => decide (x.bind.map (fun b => halfOf b.link 16) = some h)

/-- The part of a context in a half. -/
def ctxPart (x : Context) (h : Half) : CtxHalf := if h = .A then x.ha else x.hb

/-- The context occupies the half. -/
def ctxIn (x : Context) (h : Half) : Bool := x.st != .closed && (x.span || decide (x.half = h))

/-- A stream of the half is capturing. -/
def capturesIn (s : State) (h : Half) : Bool := (streamsOf s h).any fun x => decide (x.st = .capturing)

/-- A stream of the half is capturing and its blocks are encoded. -/
def encodesIn (s : State) (h : Half) : Bool :=
  (streamsOf s h).any fun x => decide (x.st = .capturing) && ((x.cfg.map fun c => decide (c.ashMode ≠ 0)).getD false)

/-- A live context of the half is in one of these states. -/
def liveIn (s : State) (h : Half) (sts : List CtxState) : Bool :=
  s.ctxs.toList.any fun x => ctxIn x h && !x.quarry && sts.contains x.st

/-- An audio port of the half runs. -/
def audioIn (s : State) (h : Half) : Bool :=
  (List.range 4).any fun i => decide ((portAt s (4 * halfIdx h + i)).st = .running)

/-- A VCU session occupies the half. -/
def sessionIn (s : State) (h : Half) : Bool :=
  s.sessions.toList.any fun x => x.st != .closed && (x.cfg.half.getLsbD (halfIdx h))

/-- A viewfinder output of the half is enabled. -/
def outputIn (s : State) (h : Half) : Bool := (List.range 2).any fun i => decide ((outAt s (2 * halfIdx h + i)).cfg.run ≠ 0)

/-- A span context or split session runs. -/
def spanRuns (s : State) : Bool :=
  (s.ctxs.toList.any fun x => x.span && decide (x.st = .running)) ||
    s.sessions.toList.any fun x => decide (x.cfg.half = 3) && decide (x.st = .running)

/-- The deepest state code that the holds leave a domain (R408). -/
def holdOf (s : State) (h : Half) (d : Nat) : Nat :=
  match d with
  | 2 => if encodesIn s h then 0 else if (half s h).ash.jobs.toList.any fun j => (j.map fun x => x.cmd.isNone).getD false then 2 else 3
  | 3 => if liveIn s h [.starting, .running, .stopping] then 0 else 3
  | 4 => if sessionIn s h then 2 else 3
  | 5 => if outputIn s h then 2 else 3
  | 6 => if audioIn s h then 0 else 3
  | 7 => if capturesIn s h || liveIn s h [.running] || audioIn s h then 4 else 6
  | 8 => if spanRuns s then 0 else 12
  | _ => 12

/-- The least budget of the domains that count DRAM, and DRAM's own. -/
def dramBudget (s : State) (h : Half) : Nat := ([2, 3, 4, 5, 6, 7] : List Nat).foldl (fun m d => min m (budgetOf s h d)) 0xFFFFFFFF

/-- The DRAM state chosen first (R407 step 1). -/
def dramChoice (s : State) (h : Half) : Nat :=
  deepest ((([(6, 60), (5, 2), (4, 1)] : List (Nat × Nat))).filter fun x => decide (x.1 ≤ holdOf s h 7)) (dramBudget s h)

/-- The state chosen for a domain's own islands (R407 step 2). -/
def domainChoice (s : State) (h : Half) (d : Nat) : Nat :=
  match d with
  | 0 => deepest [(2, 50), (1, 1)] (leftOf (budgetOf s h 0) (exitLatency (linkChoice s h)))
  | 7 => dramChoice s h
  | 8 => if holdOf s h 8 = 0 then 0 else deepest [(12, 1)] (budgetOf s h 8)
  | 1 => deepest [(7, 1)] (budgetOf s h 1)
  | _ => deepest ((([(3, 2000), (2, 50), (1, 1)] : List (Nat × Nat))).filter fun x => decide (x.1 ≤ holdOf s h d))
      (leftOf (budgetOf s h d) (exitLatency (dramChoice s h)))

/-- Power state of a code. -/
def pstateOf (n : Nat) : PState := if n = 0 then .on else if n = 1 then .gated else if n = 2 then .retention else .off

/-- Wake domain of an island; none where no budget chooses its state (R407). -/
def islandDomain : IslandId → Option Nat
  | .keystone => some 0
  | .fabric => some 0
  | .ashlar => some 2
  | .pipeline => some 3
  | .vcu => some 4
  | .viewfinder => some 5
  | .audio => some 6
  | _ => none

/-- Bring an island that is deeper than its budget now allows to a state that fits (R409). -/
def raiseIsland (s : State) (h : Half) (i : IslandId) : State :=
  match islandDomain i with
  | some d =>
    let c := pstateCode (islandAt s h i).pstate
    let w := domainChoice s h d
    if w < c then countWake (modIsland s h i fun x => { x with pstate := pstateOf w }) h c else s
  | none => s

/-- Bring every island of a half, its DRAM and its link to states that fit the budgets (R409). A frequency change that
runs makes the DRAM choice wait (R409). -/
def fitStates (s : State) (h : Half) : State :=
  let s1 := ([.keystone, .fabric, .ashlar, .pipeline, .vcu, .viewfinder, .audio] : List IslandId).foldl
    (fun s i => raiseIsland s h i) s
  let m := (half s1 h).mem
  let s2 := if dramChoice s1 h < m.pstate.toNat ∧ m.freq.isNone then
      countWake (modMem s1 h fun m => { m with pstate := BitVec.ofNat 4 (dramChoice s1 h) }) h m.pstate.toNat
    else s1
  let s3 := if linkChoice s2 h < (half s2 h).ep.lstate.toNat then linkWake s2 h else s2
  if s3.mortar.st = .idle ∧ domainChoice s3 h 8 = 0 then { s3 with mortar := { s3.mortar with st := .active } } else s3

/-- ASPM_L1_ENTRY: the link has been idle for 4 us, and the host's enables and the budget allow L1 or a substate (R405). -/
def execAspmL1Entry (h : Half) (s : State) : Host.Outcome State Fault Refusal :=
  let p := (half s h).ep
  let c := linkChoice s h
  act (.aspmL1Entry h) s
    (if p.gen ≠ 0 ∧ 9 ≤ c ∧ p.lstate.toNat < 9 then
      modEp s h fun p => { p with lstate := BitVec.ofNat 4 c, l1Entries := satInc p.l1Entries }
    else s)

/-- The narrowest width that carries `need` lanes' worth of traffic, at most the negotiated width (R405). -/
def l0pChoice (width : BitVec 4) (need : Nat) : BitVec 4 :=
  BitVec.ofNat 4 (min width.toNat (if need ≤ 1 then 1 else if need ≤ 2 then 2 else if need ≤ 4 then 4 else 8))

/-- L0P_EVAL: the width follows the traffic of the last 1,024 us with 25 % margin, given in lanes (R405). -/
def execL0pEval (h : Half) (need : Nat) (s : State) : Host.Outcome State Fault Refusal :=
  let p := (half s h).ep
  act (.l0pEval h need) s
    (if p.gen ≠ 0 ∧ p.l0p = true ∧ p.flit = true ∧ p.lstate.toNat < 9 then
      modEp s h fun p =>
        let w := l0pChoice p.width need
        { p with l0pWidth := w, lstate := if w.toNat < p.width.toNat then 8 else 0 }
    else s)

/-- MORTAR_IDLE_ENTRY: both ends are idle and the budgets of both halves allow it (R22, R407, R408). -/
def execMortarIdleEntry (s : State) : Host.Outcome State Fault Refusal :=
  act .mortarIdleEntry s
    (if s.mortar.st = .active ∧ dirIdle s.mortar.ab = true ∧ dirIdle s.mortar.ba = true ∧ domainChoice s .A 8 = 12 ∧
        domainChoice s .B 8 = 12 then
      { s with mortar := { s.mortar with st := .idle } }
    else s)

/-! Commands (R409 to R412). -/

/-- The largest LTR latency in microseconds: 1,023 x 2^25 ns. -/
def maxLtr : Nat := 34326183

/-- The device lets the sensor enter electrical idle: the SENSOR budget covers the link's exit latency, under 1 us for
generation 2 with FAST_EXIT and 50 us for generation 1, and the policy allows it (R99, R102). -/
def idleAllowed (s : State) (n : Nat) : Bool :=
  let l := linkAt s n
  let b := budgetOf s (halfOf n 16) 1
  !l.policy.noIdle &&
    match (tget s.quads (l.cfg.firstLane.toNat / 4)).toNat with
    | 1 => decide (1 ≤ b) && ((l.cap.map (·.fastExit)).getD false)
    | 2 => decide (50 ≤ b)
    | _ => false

/-- IDLE_ALLOW of a link that is up is written as the budget and the policy allow (R99). -/
def setIdleAllow (s : State) (n : Nat) : State :=
  modLink s n fun l =>
    if l.st = .active ∨ l.st = .idle then { l with sensor := { l.sensor with idleAllow := idleAllowed s n } } else l

/-- IDLE_ALLOW of every link of a half. -/
def setIdleAllows (s : State) (h : Half) : State :=
  (List.range 16).foldl (fun s i => setIdleAllow s (16 * halfIdx h + i)) s

/-- Set the budgets of the domains of a mask in one half; a new COMMAND budget is sent as an LTR message (R405). -/
def setBudgets (s : State) (h : Half) (mask us : Nat) : State :=
  let s1 := modHalf s h fun x => { x with power := { x.power with
    budget := (List.range 9).foldl (fun b d => if mask.testBit d then tset b d (BitVec.ofNat 32 us) else b) x.power.budget } }
  let s2 := if mask.testBit 0 && decide (budgetOf s h 0 ≠ us) then
      modEp s1 h fun p => { p with ltr := some (BitVec.ofNat 32 (min us maxLtr)) }
    else s1
  fitStates (setIdleAllows s2 h) h

/-- PWR_SET_WAKE_BUDGET (R407, R409). -/
def opPwrSetWakeBudget (c : Cmd) (h : Half) (s : State) : Reply × State :=
  let halves := pf c 2 10 9
  let mask := pf c 2 8 0
  let us := (dw c 3).toNat
  match firstErr (rsv c [(2, 0xFFFFF800)] ++ bad [(2, decide (halves = 0))] ++
      [(halves.testBit (halfIdx (otherHalf h)) && !mortarUp s, err stLinkDown 0)]) with
  | some r => (r, s)
  | none =>
    let s1 := if halves.testBit 0 then setBudgets s .A mask us else s
    (ok, if halves.testBit 1 then setBudgets s1 .B mask us else s1)

/-- A domain whose state a hold keeps shallower than its budget would (R411). -/
def heldDomain (s : State) (h : Half) (d : Nat) : Bool :=
  match d with
  | 7 => decide (dramChoice s h < deepest [(6, 60), (5, 2), (4, 1)] (dramBudget s h))
  | 8 => decide (domainChoice s h 8 < deepest [(12, 1)] (budgetOf s h 8))
  | 0 => false
  | 1 => false
  | _ => decide (domainChoice s h d <
      deepest [(3, 2000), (2, 50), (1, 1)] (leftOf (budgetOf s h d) (exitLatency (dramChoice s h))))

/-- The power state record (R411). -/
def powerRecord (s : State) (h : Half) : List Word :=
  let x := half s h
  let code := fun i => pstateCode (islandAt s h i).pstate
  let idle := (List.range 48).any fun i => decide ((laneAt s (48 * halfIdx h + i)).lstate = .idle)
  [pack [(0, x.ep.lstate.toNat), (4, code .keystone), (8, if idle then 7 else 0), (12, code .ashlar),
     (16, code .pipeline), (20, code .vcu), (24, code .viewfinder), (28, code .audio)],
   pack ([(0, x.mem.pstate.toNat), (4, if s.mortar.st = .idle then 12 else 0)] ++
     (List.range 9).map fun d => (8 + d, b2n (heldDomain s h d)))] ++
  x.power.budget.toList ++ [x.power.wakes, 0, 0, 0, 0]

/-- A record of one half is asked for: HALF names a half, BUF is 32-byte aligned, and the half can be reached (R21). -/
def halfRecordChecks (c : Cmd) (h : Half) (s : State) : List (Bool × Reply) :=
  rsv c [(2, 0xFFFFFFFC)] ++
  bad [(2, (halfOfCode (pf c 2 1 0)).isNone), (3, decide (pq c 3 % 32 ≠ 0)), (3, c.port && decide (pq c 3 ≠ 0))] ++
  [(decide (halfOfCode (pf c 2 1 0) = some (otherHalf h)) && !mortarUp s, err stLinkDown 0)]

/-- PWR_GET_STATE (R411). -/
def opPwrGetState (c : Cmd) (h : Half) (s : State) : Reply × State :=
  match firstErr (halfRecordChecks c h s), halfOfCode (pf c 2 1 0) with
  | some r, _ => (r, s)
  | none, some k => writeRecord s c (pq c 3) (dwordBytes (powerRecord s k)) ok
  | none, none => (badValue 2, s)

/-- The link status record (R412). -/
def linkRecord (s : State) (h : Half) : List Word :=
  let p := (half s h).ep
  if unattached s h then [pack [(17, 1)], 0, 0, 0, 0, 0, 0, 0]
  else [pack [(0, p.gen.toNat), (3, p.width.toNat), (7, p.l0pWidth.toNat), (11, b2n p.flit), (12, p.lstate.toNat),
      (16, b2n p.d3hot)], p.recoveries, p.corrected, p.l1Entries, 0, 0, 0, 0]

/-- HOST_GET_LINK_STATUS (R412). -/
def opHostGetLinkStatus (c : Cmd) (h : Half) (s : State) : Reply × State :=
  match firstErr (halfRecordChecks c h s), halfOfCode (pf c 2 1 0) with
  | some r, _ => (r, s)
  | none, some k => writeRecord s c (pq c 3) (dwordBytes (linkRecord s k)) ok
  | none, none => (badValue 2, s)

/-- PWR_SET_WAKE_BUDGET (R409). -/
def execPwrSetWakeBudget (c : Cmd) (s : State) : Host.Outcome State Fault Refusal :=
  submit (.pwrSetWakeBudget c) .pwrSetWakeBudget opPwrSetWakeBudget c s

/-- PWR_GET_STATE (R411). -/
def execPwrGetState (c : Cmd) (s : State) : Host.Outcome State Fault Refusal :=
  submit (.pwrGetState c) .pwrGetState opPwrGetState c s

/-- HOST_GET_LINK_STATUS (R412). -/
def execHostGetLinkStatus (c : Cmd) (s : State) : Host.Outcome State Fault Refusal :=
  submit (.hostGetLinkStatus c) .hostGetLinkStatus opHostGetLinkStatus c s

end Sys2Proof.Machine
end

