-- ==== Sys2Proof/Machine/TrimCore.lean ====
section
/-! DEFINITION. Trim instances, and the commit, the discarding and the abort of their values (R297 to R308). -/

namespace Sys2Proof.Machine

/-- Instance `i` of domain `d` (R297). -/
def trimAt (s : State) (d i : Nat) : TrimInst :=
  match d with
  | 1 => tget s.trim.d1 i
  | 2 => tget s.trim.d2 i
  | 3 => tget s.trim.d3 i
  | 4 => tget s.trim.d4 i
  | _ => tget s.trim.d5 i

/-- The state with the trim service changed. -/
def modTrimS (s : State) (f : Trim → Trim) : State := { s with trim := f s.trim }

/-- The state with a trim instance changed. -/
def modTrim (s : State) (d i : Nat) (f : TrimInst → TrimInst) : State :=
  modTrimS s fun t =>
    match d with
    | 1 => { t with d1 := tmod t.d1 i f }
    | 2 => { t with d2 := tmod t.d2 i f }
    | 3 => { t with d3 := tmod t.d3 i f }
    | 4 => { t with d4 := tmod t.d4 i f }
    | _ => { t with d5 := tmod t.d5 i f }

/-- Half that owns an instance (R297). -/
def trimHalf (s : State) (d i : Nat) : Half :=
  match d with
  | 1 => (streamHalf s i).getD (leadHalf s)
  | 2 => (streamHalf s i).getD (leadHalf s)
  | 3 => halfOf i 16
  | 4 => halfOf i 8
  | _ => halfOfIdx i

/-- A trim event. -/
def trimEvent (s : State) (d i : Nat) (code : BitVec 16) (sev : BitVec 2) (point : Count64) (d0 d1 d2 : Nat) : State :=
  event s (trimHalf s d i) code sev 0x51 (d * 4096 + i) point d0 d1 d2

/-- A staged entry commits trim values: a TRIM_COMMIT, a TRIM_LOAD, or a measurement with AUTO_COMMIT (R298). -/
def isTrimEntry (x : Staged) : Bool :=
  decide (x.op = .trimCommit) || decide (x.op = .trimLoad) || decide (x.op = .trimMeasure)

/-- Domains that a staged trim entry commits. -/
def trimDoms (x : Staged) : List Nat := x.data.map (·.toNat)

/-- Instance that a trim command names. -/
def trimInst (c : Cmd) : Nat := pf c 2 27 16

/-- Effect report of a staged change that an abort or a closed object withdraws (R58). -/
def withdrawn (x : Staged) : EffectReport :=
  { mkEffect x (BitVec.ofNat 16 (opCode x.op)) 0 noPoint 0 with status := stAborted, res0 := 0 }

/-- Report the withdrawal of staged changes; a measurement has completed before (R58). -/
def withdrawAll : List Staged → State → State
  | [], s => s
  | x :: t, s => withdrawAll t (if x.op = .trimMeasure then s else reportEffect s x.exec (withdrawn x))

/-- Take staged changes that satisfy `p` away, and report them as withdrawn. -/
def withdraw (s : State) (p : Staged → Bool) : State :=
  withdrawAll (s.staged.filter p) { s with staged := s.staged.filter fun x => !p x }

/-- A staged entry without one domain of an instance. -/
def dropDom (d i : Nat) (x : Staged) : Staged :=
  if isTrimEntry x ∧ trimInst x.cmd = i then { x with data := x.data.filter fun b => decide (b.toNat ≠ d) } else x

/-- Take one domain of an instance out of the staged commits; an entry left with none is withdrawn. -/
def unstageTrim (s : State) (d i : Nat) : State :=
  withdraw { s with staged := s.staged.map (dropDom d i) } fun x => isTrimEntry x && x.data.isEmpty

/-- Discard the staged values of an instance (R307). -/
def discardTrim (s : State) (d i cause : Nat) : State :=
  let t := trimAt s d i
  if t.st = .staged ∨ t.st = .commitPending then
    trimEvent (unstageTrim (modTrim s d i fun t => { t with st := .idle, staged := none }) d i) d i 0x5104 0 noPoint cause 0 0
  else s

/-- The accumulator run of a stream. -/
def accumOf (s : State) (n : Nat) : Option Accum := (s.trim.accums.find? fun a => decide (a.1 = n)).map (·.2)

/-- End the accumulator run of a stream. -/
def dropAccum (s : State) (n : Nat) : State :=
  modTrimS s fun t => { t with accums := t.accums.filter fun a => decide (a.1 ≠ n) }

/-- Return a measuring instance to IDLE. -/
def idleTrim (t : TrimInst) : TrimInst :=
  if t.st = .measuring ∨ t.st = .checking then { t with st := .idle, cmd := none } else t

/-- A measurement of domain 1 or 2 of a stream is aborted by a stream change (R305). -/
def abortTrim (s : State) (n : Nat) : State :=
  match accumOf s n with
  | none => s
  | some a =>
    let s1 := modTrim (modTrim (dropAccum s n) 1 n idleTrim) 2 n idleTrim
    complete s1 a.cmd (trimHalf s 1 n) stAborted 0x5C 0xFFFF 0 0 0

/-- Put committed values of a stream in force (R302, R303). -/
def enforceTrim (k : StreamCorr) : TrimVals → StreamCorr
  | .black fixed adj dark pitch col row =>
    { k with
      blackFixed := #v[fixed.getD 0 0, fixed.getD 1 0, fixed.getD 2 0, fixed.getD 3 0]
      blackAdj := #v[adj.getD 0 0, adj.getD 1 0, adj.getD 2 0, adj.getD 3 0]
      fpOn := true, darkAddr := dark, darkPitch := pitch, colAddr := col, rowAddr := row }
  | .defect base count second => { k with defectBase := base, mapCount := some count, mapSecond := second }
  | _ => k

/-- Geometry of a stream as retained with its values (R308). -/
def geomOf (s : State) (n : Nat) : Option (Nat × Nat × Nat) :=
  (streamAt s n).cfg.map fun g => (g.width, g.height, g.depth.toNat)

/-- Array and map contents of values of domain 1 or 2: address, bytes (R456). -/
def trimArrays (s : State) (h : Half) (g : StreamCfg) : TrimVals → List (Nat × List Byte)
  | .black _ _ dark pitch col row =>
    (if dark = 0 then [] else [(dark, (dramRead s h dark ((g.height - 1) * pitch + 2 * g.width)).1)]) ++
      (if col = 0 then [] else [(col, (dramRead s h col (2 * g.width)).1)]) ++
      (if row = 0 then [] else [(row, (dramRead s h row (2 * g.height)).1)])
  | .defect base count second =>
    let a := base + if second then 2 ^ 24 else 0
    [(a, (dramRead s h a (4 * count)).1)]
  | _ => []

/-- The active sends its mirror the values of domains 1 and 2 as they commit (R456). -/
def tellTrim (s : State) (d i : Nat) (v : TrimVals) (point : Count64) : State :=
  if d ≤ 2 ∧ pairUp s then
    tell s (.trim { dom := d, stream := i, vals := v, f := point
                    data := trimArrays s (trimHalf s d i) ((streamAt s i).cfg.getD {}) v })
  else s

/-- Commit the staged values of an instance at a boundary (R298, R302, R310). -/
def commitTrim (s : State) (d i : Nat) (point : Count64) : State :=
  let t := trimAt s d i
  match t.staged with
  | none => s
  | some v =>
    let old := tget s.corrs i
    let s0 := tellTrim s d i v point
    let s1 := if d ≤ 2 then { s0 with corrs := tmod s0.corrs i fun k => enforceTrim k v } else s0
    let s2 := modTrim s1 d i fun t => { t with
      st := .idle, staged := none, committed := some v, commitPoint := point, commits := satInc t.commits
      retainedOnly := false, geom := if d ≤ 2 then geomOf s i else t.geom }
    let a := if d = 1 then (old.darkAddr, old.colAddr, old.rowAddr) else (0, 0, 0)
    trimEvent s2 d i 0x5102 0 point a.1 a.2.1 a.2.2

/-- Commit every domain that a staged entry names. -/
def commitDoms (i : Nat) (point : Count64) : List Nat → State → State
  | [], s => s
  | d :: t, s => commitDoms i point t (commitTrim s d i point)

end Sys2Proof.Machine
end

