-- ==== Sys2Proof/Machine/Settings.lean ====
section
/-! DEFINITION. What the staged settings of a context and of its sources' streams become as they take effect at a frame
(R210, R226 to R238, R249, R258, R288), and the slot settings of an epoch (R214). -/

namespace Sys2Proof.Machine

/-! Reading tables (R242, R282). -/

/-- `n` little-endian numbers of `k` bytes. -/
def numsOf (k : Nat) : Nat → List Byte → List Nat
  | 0, _ => []
  | n + 1, bs => leNat (bs.take k) :: numsOf k n (bs.drop k)

/-- `n` signed numbers of `k` bytes. -/
def intsOf (k n : Nat) (bs : List Byte) : List Int := (numsOf k n bs).map (signed (8 * k))

/-! Streams (R226 to R234). -/

/-- A stream's corrections after a PIPE_SET_STREAM_CORR; `data` holds its LUT, then its kernels, where selected. -/
def streamCorrOf (c : Cmd) (data : List Byte) (kept : Option (Nat × Bool)) (k : StreamCorr) : StreamCorr :=
  let sel := fun (i : Nat) => pb c 2 (8 + i)
  let en := fun (i : Nat) => pb c 2 (16 + i)
  let k0 := if sel 0 then { k with lut := some (numsOf 4 4096 data) } else k
  let k1 := if sel 1 then
      { k0 with
        obFirst := pf c 5 15 0, obRows := pf c 5 22 16, blkShift := pf c 5 26 23
        blackFixed := #v[pf c 6 23 0, pf c 7 23 0, pf c 8 23 0, pf c 9 23 0]
        blackAdj := #v[signed 16 (pf c 10 15 0), signed 16 (pf c 10 31 16), signed 16 (pf c 11 15 0),
          signed 16 (pf c 11 31 16)] }
    else k0
  let k2 := if sel 2 then
      { k1 with xtOn := en 2, xt := intsOf 2 100 (if sel 0 then data.drop 16384 else data) } else k1
  let k3 := if sel 3 then { k2 with giOn := en 3, giStrength := pf c 14 8 0, giLimit := pf c 14 23 16 } else k2
  let k4 := if sel 4 then
      { k3 with
        fpOn := en 4, darkAddr := pq c 15, darkPitch := (dw c 17).toNat, darkScale := pf c 18 15 0, colAddr := pq c 19
        rowAddr := pq c 21 }
    else k3
  if sel 5 then
    { k4 with
      defOn := en 5, defectBase := pq c 23, mapCount := kept.map (·.1), mapSecond := (kept.map (·.2)).getD false
      dynAbs := pf c 25 23 0, dynRel := pf c 26 7 0, dynHot := pb c 26 8, dynCold := pb c 26 9 }
  else k4

/-- The committed map of a region named again (R232, R240). -/
def keptMap (s : State) (n base : Nat) : Option (Nat × Bool) :=
  match (trimAt s 2 n).committed with
  | some (.defect b count second) => if b = base then some (count, second) else none
  | _ => none

/-- Domain 1 values as a stream's corrections hold them (R307). -/
def blackVals (k : StreamCorr) : TrimVals :=
  .black k.blackFixed.toList k.blackAdj.toList k.darkAddr k.darkPitch k.colAddr k.rowAddr

/-- PIPE_SET_STREAM_CORR takes effect (R242, R305, R307). -/
def applyStreamCorr (x : Staged) (s : State) : State :=
  let c := x.cmd
  let n := pf c 2 5 0
  let old := tget s.corrs n
  let k := streamCorrOf c x.data (keptMap s n (pq c 23)) old
  let s1 := { s with corrs := tset s.corrs n k }
  let s2 := if pb c 2 9 ∨ pb c 2 12 then
      modTrim s1 1 n fun t => { t with committed := some (blackVals k), retainedOnly := false, geom := geomOf s n }
    else s1
  if pb c 2 13 then
    let s3 := modTrim s2 2 n fun t => { t with
      committed := k.mapCount.map fun m => .defect k.defectBase m k.mapSecond, retainedOnly := false, geom := geomOf s n }
    if k.defectBase = old.defectBase then s3 else abortTrim s3 n
  else s2

/-! Contexts (R235 to R237). -/

/-- Stages 5 to 7 after a PIPE_SET_CONTEXT_CORR. -/
def ctxCorrOf (c : Cmd) (data : List Byte) (k : CtxCorr) : CtxCorr :=
  let k0 := if pb c 2 8 then { k with shOn := pb c 2 16, shading := numsOf 2 8580 data } else k
  let k1 := if pb c 2 9 then
      { k0 with wb := if pb c 2 17 then #v[pf c 5 15 0, pf c 5 31 16, pf c 6 15 0, pf c 6 31 16]
          else #v[0x1000, 0x1000, 0x1000, 0x1000] }
    else k0
  if pb c 2 10 then
    { k1 with nrOn := pb c 2 18, nrA := (dw c 7).toNat, nrB := (dw c 8).toNat, nrK := pf c 9 7 0, nrStrength := pf c 9 16 8 }
  else k1

/-- Colour after a PIPE_SET_COLOUR (R245 to R256); `data` holds the matrix, then the shaper, where selected. -/
def colourOfCmd (c : Cmd) (data : List Byte) (k : Colour) : Colour :=
  let k0 := if pb c 2 8 then { k with dmMode := BitVec.ofNat 2 (pf c 2 13 12), dmFc := pf c 3 8 0 } else k
  let k1 := if pb c 2 9 then { k0 with matrix := intsOf 4 9 data, offs := intsOf 4 3 (data.drop 36) } else k0
  let k2 := if pb c 2 10 then
      { k1 with lutOn := pb c 2 14, lutId := pf c 2 19 16, shaper := numsOf 2 12288 (if pb c 2 9 then data.drop 48 else data) }
    else k1
  if pb c 2 11 then { k2 with workGamut := pf c 2 22 20 } else k2

/-- Tap settings of a PIPE_SET_TAP; `data` is its custom block (R258 to R269). -/
def tapCfgOf (c : Cmd) (data : List Byte) : TapCfg :=
  { enable := pb c 2 9, format := pf c 2 13 10, full := pb c 2 14, ycc := pb c 2 15, tf := pf c 2 18 16
    gamut := pf c 2 21 19, filter := pf c 2 23 22, hostHold := pb c 2 24, report := pf c 2 26 25, reportLog2 := pf c 2 31 27
    cx := pf c 3 15 0, cy := pf c 3 31 16, cw := pf c 4 15 0, ch := pf c 4 31 16, ow := pf c 5 15 0, oh := pf c 5 31 16
    tfParam := pf c 6 15 0
    customMatrix := if pf c 2 21 19 = 7 then intsOf 4 12 data else []
    customTf := if pf c 2 18 16 = 6 then numsOf 4 4096 (data.drop 64) else []
    customCoef := if pf c 2 23 22 = 2 then intsOf 2 512 (data.drop 16448) else [] }

/-- The state with a tap of a context changed. -/
def modTap (s : State) (n t : Nat) (f : Tap → Tap) : State := modCtx s n fun x => { x with taps := tmod x.taps t f }

/-- STAT_CONFIGURE takes effect; disabling statistics disables the context's content triggers (R288, R296). -/
def applyStat (c : Cmd) (n : Nat) (s : State) : State :=
  let s1 := modCtx s n fun x => { x with stat := { enable := pb c 2 5, params := c.params } }
  if pb c 2 5 then s1
  else { s1 with contentTrigs := s1.contentTrigs.map fun t => if t.ctx = n then { t with enable := false } else t }

/-- A change staged for a context's next admitted frame takes effect (R210). -/
def applyAtFrame (point : Count64) (x : Staged) (s : State) : State :=
  let c := x.cmd
  let n := pf c 2 4 0
  match x.op with
  | .pipeSetStreamCorr => applyStreamCorr x s
  | .pipeSetContextCorr => modCtx s n fun z => { z with corr := ctxCorrOf c x.data z.corr }
  | .pipeSetColour => modCtx s n fun z => { z with colour := colourOfCmd c x.data z.colour }
  | .pipeSetTap => modTap s n (pf c 2 8 5) fun t => { t with cfg := tapCfgOf c x.data }
  | .statConfigure => applyStat c n s
  | .trimCommit => commitDoms (trimInst c) point (trimDoms x) s
  | .trimLoad => commitDoms (trimInst c) point (trimDoms x) s
  | .trimMeasure => commitDoms (trimInst c) point (trimDoms x) s
  | _ => s

/-- Every change staged for a frame takes effect, in the order in which the changes started, each with its report but for
the commit of a measurement, which has completed before (R57, R299). -/
def applyFrame (point : Count64) (stream : Nat) : List Staged → State → State
  | [], s => s
  | x :: t, s =>
    let s1 := applyAtFrame point x s
    applyFrame point stream t
      (if x.op = .trimMeasure then s1
      else reportEffect s1 x.exec (mkEffect x (BitVec.ofNat 16 (opCode x.op)) 1 point stream))

/-! Slot settings (R214, R216). -/

/-- The state with a context's part in a half changed. -/
def modPart (s : State) (n : Nat) (h : Half) (f : CtxHalf → CtxHalf) : State :=
  modCtx s n fun x => if h = .A then { x with ha := f x.ha } else { x with hb := f x.hb }

/-- A slot setting latches in a half. -/
def applyEpoch (h : Half) (ready : CtxHalf → CtxHalf) (x : Staged) (s : State) : State :=
  let c := x.cmd
  match x.op with
  | .pipeSetSlotMask => modPart s (pf c 2 4 0) h fun p => ready { p with mask := BitVec.ofNat 64 (pq c 3), starvedRaised := false }
  | .pipeSetPriority => modPart s (pf c 2 4 0) h fun p => { p with prio := BitVec.ofNat 3 (pf c 2 10 8) }
  | .pipeSetSlotTime => modPipe s h fun p => { p with slotCycles := pf c 2 31 8 }
  | _ => s

end Sys2Proof.Machine
end

