-- ==== Sys2Proof/Machine/Pipeline.lean ====
section
/-! DEFINITION. Contexts in the pipeline: sides and units, the line store, seam bands, readiness, the slot table and the
admission of units (R202 to R224, R240, R550). -/

namespace Sys2Proof.Machine

/-! Contexts, sides and units (R205, R207, R208). -/

/-- Halves that a context occupies (R202). -/
def halvesOf (x : Context) : List Half := if x.span then [.A, .B] else [x.half]

/-- The half of the reference source (R205). -/
def refHalf (s : State) (x : Context) : Half := if x.span then leadHalf s else x.half

/-- The reference source (R205). -/
def refSource (s : State) (x : Context) : Option Source := tget (ctxPart x (refHalf s x)).sources 0

/-- The reference stream (R205). -/
def refStream (s : State) (x : Context) : Nat := ((refSource s x).map (·.stream)).getD 0

/-- Sources of a context in a half, by index. -/
def sourcesOf (x : Context) (h : Half) : List Source := (ctxPart x h).sources.toList.filterMap id

/-- Every source of a context: half A, then half B. -/
def allSources (x : Context) : List Source := (halvesOf x).flatMap (sourcesOf x)

/-- An event of a context. -/
def ctxEvent (s : State) (h : Half) (n : Nat) (code : BitVec 16) (sev : BitVec 2) (point : Count64) (d0 d1 d2 : Nat) :
    State := event s h code sev 0x40 n point d0 d1 d2

/-- Half code as a number, in the DATA of an event. -/
def halfNum (h : Half) : Nat := (halfCode h).toNat

/-- First column and width of a half's side of the active window (R207). -/
def sideCols (x : Context) (h : Half) : Nat × Nat :=
  if !x.span then (x.ax, x.aw)
  else if h = .A then (x.ax, x.seamX - x.ax) else (x.seamX, x.ax + x.aw - x.seamX)

/-- Units of a frame in a half (R207). -/
def unitCount (x : Context) (h : Half) : Nat := ((sideCols x h).2 + 4095) / 4096

/-- First output column and width of unit `k` (R207). -/
def unitCols (x : Context) (h : Half) (k : Nat) : Nat × Nat :=
  let (l, w) := sideCols x h
  (l + 4096 * k, min 4096 (w - 4096 * k))

/-- Own columns that unit `k` reads: the first, and the one after the last (R207). -/
def readCols (x : Context) (h : Half) (k : Nat) : Nat × Nat :=
  let (l, w) := sideCols x h
  let (a, n) := unitCols x h k
  (max l (a - 64), min (l + w) (a + n + 64))

/-- Unit `k` lies next to the seam (R207, R212). -/
def isSeamUnit (x : Context) (h : Half) (k : Nat) : Bool :=
  x.span && decide (k = if h = .A then unitCount x .A - 1 else 0)

/-- Pipeline cycles of a unit without a switch (R208). -/
def unitCycles (x : Context) (h : Half) (k : Nat) : Nat := 256 + x.ah * (((unitCols x h k).2 + 128 + 15) / 16)

/-- The context frame that a stream's frame belongs to (R205). -/
def ctxFrameOf (z : Source) (number : Count64) : Count64 := number - BitVec.ofInt 64 z.fnOffset

/-- The stream frame that a context frame is made of (R205). -/
def streamFrameOf (z : Source) (f : Count64) : Count64 := f + BitVec.ofInt 64 z.fnOffset

/-- Geometry of a source's stream: width, height, bits a pixel. -/
def srcGeom (s : State) (z : Source) : Nat × Nat × Nat :=
  let g := (streamAt s z.stream).cfg.getD {}
  (g.width, g.height, depthBits g.depth)

/-- The context is not CLOSED and not OPEN. -/
def ctxActive (x : Context) : Bool := decide (x.st = .starting) || decide (x.st = .running) || decide (x.st = .stopping)

/-- The context takes new frames (R206, R217). -/
def takesFrames (x : Context) : Bool := decide (x.st = .starting) || decide (x.st = .running)

/-! Frames of a context. -/

/-- The record of frame F in a half. -/
def frameOf (x : Context) (h : Half) (f : Count64) : Option CtxFrame :=
  (ctxPart x h).frames.find? fun r => decide (r.f = f)

/-- The state with a frame's record changed. -/
def modFrame (s : State) (n : Nat) (h : Half) (f : Count64) (g : CtxFrame → CtxFrame) : State :=
  modPart s n h fun p => { p with frames := p.frames.map fun r => if r.f = f then g r else r }

/-- Insert a frame's record by its number; one already there stays. -/
def insertFrame (r : CtxFrame) : List CtxFrame → List CtxFrame
  | [] => [r]
  | q :: t => if r.f.toNat < q.f.toNat then r :: q :: t else if r.f = q.f then q :: t else q :: insertFrame r t

/-- Take a frame's record away. -/
def eraseFrame (s : State) (n : Nat) (h : Half) (f : Count64) : State :=
  modPart s n h fun p => { p with
    frames := p.frames.filter fun r => decide (r.f ≠ f), peerSides := p.peerSides.filter fun g => decide (g ≠ f) }

/-- Count in a context's part. -/
def modCounts (s : State) (n : Nat) (h : Half) (g : CtxCounts → CtxCounts) : State :=
  modPart s n h fun p => { p with counts := g p.counts }

/-- Settings latched for a frame (R210). -/
def latchedOf (x : Context) (f : Count64) : Option Latched := (x.latched.find? fun l => decide (l.1 = f)).map (·.2)

/-- Tell the other half, while the Mortar link carries messages. -/
def tellPeer (s : State) (h : Half) (m : Msg) : State := if mortarUp s then mortarQueue s h m else s

/-! Rows and segments (R207, R217, R227). -/

/-- A picture row lies in the active window. -/
def activeRow (x : Context) (v : Nat) : Bool := decide (x.ay ≤ v ∧ v < x.ay + x.ah)

/-- Row `r` of a source is optical black (R227). -/
def blackRow (s : State) (z : Source) (r : Nat) : Bool :=
  let k := tget s.corrs z.stream
  decide (k.obFirst ≤ r ∧ r < k.obFirst + k.obRows)

/-- A unit reads row `r` of a source. -/
def rowNeeded (s : State) (x : Context) (z : Source) (r : Nat) : Bool := activeRow x (z.y + r) || blackRow s z r

/-- Columns of a source that unit `k` reads. -/
def overlapCols (s : State) (x : Context) (h : Half) (z : Source) (k : Nat) : Nat :=
  let (lo, hi) := readCols x h k
  min hi (z.x + (srcGeom s z).1) - max lo z.x

/-- Bytes of a line's segment for unit `k` (R217). -/
def segBytesOf (s : State) (x : Context) (h : Half) (z : Source) (k : Nat) : Nat :=
  (overlapCols s x h z k * (srcGeom s z).2.2 + 7) / 8

/-- Bits of a pixel of the context's sources, as the band is packed in the share (R223). -/
def bandDepth (s : State) (x : Context) : Nat := (((allSources x).head?).map fun z => (srcGeom s z).2.2).getD 16

/-- The segment of unit `k` at picture row `v` still lies in the share: freed once its unit has processed 64 rows past it
(R217). -/
def segHeld (x : Context) (r : CtxFrame) (k v : Nat) : Bool :=
  decide (r.unitsDone < k) || (decide (k = r.unitsDone) && decide (x.ay + r.rowsDone < v + 64))

/-- Bytes that a frame's stored lines and band rows take in the share. -/
def frameUse (s : State) (x : Context) (h : Half) (r : CtxFrame) : Nat :=
  let units := List.range (unitCount x h)
  let lineUse := fun (ln : Nat × Nat × List Nat) =>
    match (sourcesOf x h).find? fun z => decide (z.stream = ln.1) with
    | some z => ((units.filter fun k => segHeld x r k (z.y + ln.2.1)).map fun k => segBytesOf s x h z k).sum
    | none => 0
  let bandUse := fun (b : Nat × List (BitVec 16)) =>
    ((units.filter fun k => isSeamUnit x h k && segHeld x r k b.1).map fun _ => 8 * bandDepth s x).sum
  (r.lines.map lineUse).sum + (r.band.map bandUse).sum

/-- Bytes in use of a context's share (R217). -/
def shareUse (s : State) (x : Context) (h : Half) : Nat :=
  (((ctxPart x h).frames.filter fun r => !r.quarry).map (frameUse s x h)).sum

/-- Bytes that a whole frame takes in the share (R218). -/
def frameNeed (s : State) (x : Context) (h : Half) : Nat :=
  let units := List.range (unitCount x h)
  let own := (sourcesOf x h).map fun z =>
    ((List.range (srcGeom s z).2.1).filter fun r => rowNeeded s x z r).length * (units.map fun k => segBytesOf s x h z k).sum
  own.sum + if x.span then x.ah * (8 * bandDepth s x) else 0

/-- The greatest use of the share, in 64 KiB units (R243). -/
def notePeak (s : State) (n : Nat) (h : Half) : State :=
  let u := (shareUse s (ctxAt s n) h + 65535) / 65536
  modCounts s n h fun c => { c with lsPeak := BitVec.ofNat 16 (max c.lsPeak.toNat u) }

/-! Source pixels of a frame. -/

/-- Pixel (u, v) of a source in a frame's stored lines or decoded blocks; none where it is not there yet. -/
def framePx (s : State) (r : CtxFrame) (z : Source) (u v : Nat) : Option Nat :=
  if r.quarry then
    let w := (srcGeom s z).1
    let b := v / 8 * blockCols w + u / 128
    (r.decoded.find? fun d => decide (d.1 = z.stream) && decide (d.2.1 = b)).map fun d =>
      d.2.2.getD (v % 8 * blockW w (u / 128) + u % 128) 0
  else
    (r.lines.find? fun l => decide (l.1 = z.stream) && decide (l.2.1 = v)).map fun l => l.2.2.getD u 0

/-- The source of a half that covers a picture pixel. -/
def coverSource (s : State) (x : Context) (h : Half) (c v : Nat) : Option Source :=
  (sourcesOf x h).find? fun z =>
    let (w, hh, _) := srcGeom s z
    decide (z.x ≤ c ∧ c < z.x + w ∧ z.y ≤ v ∧ v < z.y + hh)

/-- First of the 64 columns of a half's side nearest the seam (R223). -/
def bandStart (x : Context) (h : Half) : Nat := if h = .A then x.seamX - 64 else x.seamX

/-- The band pixels of a picture row, once the half has them all (R223). -/
def bandRow (s : State) (x : Context) (h : Half) (r : CtxFrame) (v : Nat) : Option (List (BitVec 16)) :=
  (List.range 64).mapM fun i =>
    let c := bandStart x h + i
    match coverSource s x h c v with
    | some z => (framePx s r z (c - z.x) (v - z.y)).map fun p => BitVec.ofNat 16 p
    | none => none

/-- A source covers columns of the band that its half sends. -/
def inBand (s : State) (x : Context) (h : Half) (z : Source) : Bool :=
  let b := bandStart x h
  decide (z.x < b + 64 ∧ b < z.x + (srcGeom s z).1)

/-- Send the band rows among `vs` that are complete (R223). -/
def sendBand (s : State) (n : Nat) (h : Half) (f : Count64) (vs : List Nat) : State :=
  let x := ctxAt s n
  match frameOf x h f with
  | some r => vs.foldl (fun s v =>
      match bandRow s x h r v with
      | some px => tellPeer s h (.seamRow n f v px)
      | none => s) s
  | none => s

/-! Quarry sources (R212, R219 to R221). -/

/-- The source frame of F is in its ring with MAGIC 0xF4A0. -/
def srcStored (s : State) (z : Source) (f : Count64) : Bool := (storedFrame (ringOf s z.stream) (streamFrameOf z f)).isSome

/-- Every source of the half's side of F is stored. -/
def sideStored (s : State) (x : Context) (h : Half) (f : Count64) : Bool := (sourcesOf x h).all fun z => srcStored s z f

/-- Tell the other half of a span frame whose side is closed in the Quarry, once (R212). -/
def reportSide (s : State) (n : Nat) (h : Half) (f : Count64) : State :=
  let x := ctxAt s n
  match frameOf x h f with
  | some r =>
    if x.span && r.quarry && !r.sideSent && sideStored s x h f then
      tellPeer (modFrame s n h f fun r => { r with sideSent := true }) h (.sideClosed n f)
    else s
  | none => s

/-- A frame's record switches to the Quarry: its segments are freed (R219). -/
def toQuarry (flags : Word) (r : CtxFrame) : CtxFrame :=
  { r with quarry := true, pflags := r.pflags ||| flags, lines := [], band := [], rowsDone := 0 }

/-- Frame F of a live context switches to the Quarry in a half, for cause 0 line store or 1 island reset (R219, R240). -/
def switchQuarry (s : State) (n : Nat) (h : Half) (f : Count64) (cause : Nat) : State :=
  let flags : Word := if cause = 1 then 0x42 else 0x02
  let s1 := modCounts (modFrame s n h f (toQuarry flags)) n h fun c => { c with fallbacks := satInc c.fallbacks }
  let s2 := ctxEvent s1 h n 0x4001 1 f (halfNum h) cause 0
  let s3 := if (ctxAt s n).span then tellPeer s2 h (.fallback n f) else s2
  reportSide s3 n h f

/-! Starvation (R215). -/

/-- Every row of the band that the unit next to the seam needs has arrived. -/
def bandComplete (x : Context) (r : CtxFrame) : Bool :=
  (List.range x.ah).all fun i => r.band.any fun b => decide (b.1 = x.ay + i)

/-- Every line that unit `k` reads is in the line store (R212). -/
def linesPresent (s : State) (x : Context) (h : Half) (r : CtxFrame) (k : Nat) : Bool :=
  (sourcesOf x h).all fun z =>
    let touches := decide (0 < overlapCols s x h z k)
    (List.range (srcGeom s z).2.1).all fun v =>
      !((touches && activeRow x (z.y + v)) || blackRow s z v) ||
        r.lines.any fun l => decide (l.1 = z.stream) && decide (l.2.1 = v)

/-- The source data of unit `k` of a frame are present (R212). -/
def unitReady (s : State) (x : Context) (h : Half) (r : CtxFrame) (k : Nat) : Bool :=
  if r.quarry then
    sideStored s x h r.f && (!isSeamUnit x h k || (ctxPart x h).peerSides.contains r.f)
  else linesPresent s x h r k && (!isSeamUnit x h k || bandComplete x r)

/-- A frame waits, ready: its next unit has its data, and none of its units has been admitted in this half. -/
def frameWaits (s : State) (x : Context) (h : Half) (r : CtxFrame) : Bool :=
  decide (r.nextUnit = 0) && unitReady s x h r 0

/-- Count the frames that have become ready while the mask is 0 (R215). -/
def starve (s : State) (n : Nat) (h : Half) : State :=
  let x := ctxAt s n
  let p := ctxPart x h
  if ctxActive x && ctxIn x h && decide (p.mask = 0) then
    let fresh_ := p.frames.filter fun r => !r.starvedCounted && frameWaits s x h r
    if fresh_.isEmpty then s
    else
      let s1 := modPart s n h fun p => { p with
        frames := p.frames.map fun r => if fresh_.any fun q => decide (q.f = r.f) then { r with starvedCounted := true } else r
        counts := { p.counts with starvedFrames := satAdd p.counts.starvedFrames fresh_.length }
        starvedRaised := true }
      if p.starvedRaised then s1
      else
        let oldest := ((p.frames.find? fun r => frameWaits s x h r).map (·.f)).getD noPoint
        ctxEvent s1 h n 0x4004 1 oldest (halfNum h) 0 0
  else s

/-- Frames that were ready before the mask became 0 are not counted as starved (R215). -/
def markReady (s : State) (x : Context) (h : Half) (p : CtxHalf) : CtxHalf :=
  if p.mask = 0 then
    { p with frames := p.frames.map fun r => if frameWaits s x h r then { r with starvedCounted := true } else r }
  else p

/-! Lines from ingest (R217, R219, R223). -/

/-- Contexts whose sources in half `h` include stream `n`, with the source. -/
def readersOf (s : State) (n : Nat) (h : Half) : List (Nat × Source) :=
  (List.range 32).flatMap fun c =>
    let x := ctxAt s c
    if ctxIn x h then ((sourcesOf x h).filter fun z => decide (z.stream = n)).map fun z => (c, z) else []

/-- The context develops frame F (R205, R217). -/
def develops (x : Context) (f : Count64) : Bool :=
  decide (f.toNat % x.divisor = 0) && ((x.from_.map fun g => decide (g.toNat ≤ f.toNat)).getD true)

/-- A frame of stream `n` opens in ingest: live contexts that develop it take it (R217). -/
def pipeFrameStart (s : State) (n : Nat) (number : Count64) : State :=
  match streamHalf s n with
  | none => s
  | some h =>
    let mark := (streamAt s n).openFrame.bind (·.mark)
    (readersOf s n h).foldl (fun s cz =>
      let x := ctxAt s cz.1
      let f := ctxFrameOf cz.2 number
      if takesFrames x && !x.quarry && develops x f then
        let s1 := modPart s cz.1 h fun p => { p with frames := insertFrame { f } p.frames }
        if n = refStream s x then modFrame s1 cz.1 h f fun r => { r with mark } else s1
      else s) s

/-- Store a placed line for one live context (R217, R219, R223). -/
def storeLine (s : State) (c : Nat) (h : Half) (z : Source) (f : Count64) (row : Nat) (px : List Nat) : State :=
  let x := ctxAt s c
  match frameOf x h f with
  | none => s
  | some r =>
    if r.quarry || !rowNeeded s x z row then s
    else
      let add := ((List.range (unitCount x h)).map fun k => segBytesOf s x h z k).sum
      if (ctxPart x h).share * 2 ^ 20 < shareUse s x h + add then switchQuarry s c h f 0
      else
        let s1 := notePeak (modFrame s c h f fun r => { r with lines := (z.stream, row, px) :: r.lines }) c h
        let s2 := if x.span && activeRow x (z.y + row) && inBand s x h z then sendBand s1 c h f [z.y + row] else s1
        starve s2 c h

/-- A line of stream `n` is placed: it goes into the share of each live context that reads it (R217). -/
def pipeLine (s : State) (n row : Nat) (px : List Nat) : State :=
  match streamHalf s n, (streamAt s n).openFrame with
  | some h, some o =>
    (readersOf s n h).foldl (fun s cz => storeLine s cz.1 h cz.2 (ctxFrameOf cz.2 o.number) row px) s
  | _, _ => s

/-- A frame of stream `n` has closed in ingest: contexts that follow the Quarry take it, and each context keeps its FLAGS
and whether it was captured (R220, R221, R239). -/
def pipeFrameClosed (s : State) (n : Nat) (o : OpenFrame) : State :=
  match streamHalf s n with
  | none => s
  | some h =>
    (readersOf s n h).foldl (fun s cz =>
      let x := ctxAt s cz.1
      let f := ctxFrameOf cz.2 o.number
      let s1 := if takesFrames x && x.quarry && x.play.isNone && develops x f then
          modPart s cz.1 h fun p => { p with frames := insertFrame { f, quarry := true } p.frames } else s
      modFrame s1 cz.1 h f fun r => { r with
        srcFlags := (n, o.counts.flags) :: r.srcFlags
        missed := if o.captured then r.missed else n :: r.missed }) s

/-- A frame of stream `n` is stored in its ring: Quarry frames that need it may become ready (R212, R223). -/
def pipeFrameStored (s : State) (n : Nat) (number : Count64) : State :=
  match streamHalf s n with
  | none => s
  | some h =>
    (readersOf s n h).foldl (fun s cz => starve (reportSide s cz.1 h (ctxFrameOf cz.2 number)) cz.1 h) s

/-! Messages of the other half (R212, R219, R223). -/

/-- A seam band row arrives: it takes room in a live context's share (R219, R223). -/
def bandArrives (s : State) (h : Half) (n : Nat) (f : Count64) (row : Nat) (px : List (BitVec 16)) : State :=
  let x := ctxAt s n
  if !(x.span && ctxActive x) then s
  else
    let s1 := if (frameOf x h f).isNone ∧ x.quarry = false ∧ takesFrames x ∧ develops x f = true then
        modPart s n h fun p => { p with frames := insertFrame { f } p.frames } else s
    match frameOf (ctxAt s1 n) h f with
    | none => s1
    | some r =>
      if r.quarry = false ∧ (ctxPart x h).share * 2 ^ 20 < shareUse s1 x h + 8 * bandDepth s x then switchQuarry s1 n h f 0
      else
        let s2 := modFrame s1 n h f fun r => { r with band := (row, px) :: r.band.filter fun b => decide (b.1 ≠ row) }
        if r.quarry then s2 else starve (notePeak s2 n h) n h

/-- The oldest message of class `k` at half `h`, taken, and what it does. -/
def takeMsg (s : State) (h : Half) (k : Nat) (f : Msg → Option (State → State)) : State :=
  match mortarHead s h k with
  | some m =>
    match f m with
    | some g => g (mortarTake s h k)
    | none => s
  | none => s

/-- SEAM_BAND_ROW_RECEIVED (R223). -/
def execSeamBandRowReceived (at_ : Half) (s : State) : Host.Outcome State Fault Refusal :=
  act (.seamBandRowReceived at_) s (takeMsg s at_ 1 fun m =>
    match m with
    | .seamRow n f row px => some fun s => bandArrives s at_ n f row px
    | _ => none)

/-- SPAN_SIDE_CLOSED_RECEIVED (R212). -/
def execSpanSideClosedReceived (at_ : Half) (s : State) : Host.Outcome State Fault Refusal :=
  act (.spanSideClosedReceived at_) s (takeMsg s at_ 0 fun m =>
    match m with
    | .sideClosed n f => some fun s =>
      starve (modPart s n at_ fun p => { p with peerSides := p.peerSides ++ [f] }) n at_
    | _ => none)

/-- The other half has switched a span frame to the Quarry: this half takes it from there too (R219). -/
def fallbackNotice (s : State) (h : Half) (n : Nat) (f : Count64) : State :=
  let x := ctxAt s n
  if !(x.span && ctxActive x) then s
  else
    let s1 := if takesFrames x && develops x f then
        modPart s n h fun p => { p with frames := insertFrame { f } p.frames } else s
    match frameOf (ctxAt s1 n) h f with
    | some r =>
      if r.quarry then s1
      else
        let s2 := modCounts (modFrame s1 n h f (toQuarry 0x02)) n h fun c => { c with fallbacks := satInc c.fallbacks }
        reportSide s2 n h f
    | none => s1

/-- SPAN_FALLBACK_NOTICE (R219). -/
def execSpanFallbackNotice (at_ : Half) (s : State) : Host.Outcome State Fault Refusal :=
  act (.spanFallbackNotice at_) s (takeMsg s at_ 0 fun m =>
    match m with
    | .fallback n f => some fun s => fallbackNotice s at_ n f
    | _ => none)

/-! Leaving a frame (R206, R220 to R222). -/

/-- Free the buffers that frame F was being written into, and forget the records of F that await the other half's (R274,
R279). -/
def freeBufs (s : State) (n : Nat) (f : Count64) (bufs : List (Option Nat)) : State :=
  let free := fun (b : Option Nat) (r : TapRing) =>
    match b with
    | some k => { r with bufs := r.bufs.modify k fun z => if z.st = .writing then { z with st := .free } else z }
    | none => r
  modCtx s n fun x => { x with taps := Vector.ofFn fun (i : Fin 12) =>
    let t := tget x.taps i.val
    let b := bufs.getD i.val none
    { t with
      ringA := t.ringA.map (free b), ringB := t.ringB.map (free b)
      ownWritten := t.ownWritten.filter fun w => decide (w.f ≠ f), peerWritten := t.peerWritten.filter fun w => decide (w.1 ≠ f) } }

/-- The context takes no frame below `f` any more. -/
def advanceFrom (s : State) (n : Nat) (f : Count64) : State :=
  modCtx s n fun x => { x with from_ := match x.from_ with
    | some g => if g.toNat < f.toNat then some f else some g
    | none => some f }

/-- Drop frame F in every half without output. -/
def dropFrame (s : State) (n : Nat) (f : Count64) : State :=
  let x := ctxAt s n
  let s1 := match latchedOf x f with
    | some l => freeBufs s n f l.bufs
    | none => s
  let s2 := (halvesOf x).foldl (fun s h => eraseFrame s n h f) s1
  modCtx s2 n fun x => { x with
    latched := x.latched.filter fun l => decide (l.1 ≠ f)
    statOwn := x.statOwn.filter fun o => decide (o.f ≠ f), statPeer := x.statPeer.filter fun o => decide (o.1 ≠ f) }

/-- Staged changes of a context's state: its start or its stop. -/
def isStopStart (n : Nat) (op : Op) (x : Staged) : Bool := decide (x.op = op) && decide (pf x.cmd 2 4 0 = n)

/-- Report a staged start or stop of a context at a point (R205). -/
def reportRun (s : State) (n : Nat) (op : Op) (point : Count64) : State :=
  let mine := s.staged.filter (isStopStart n op)
  let stream := refStream s (ctxAt s n)
  applyList (fun _ s => s) (fun x _ => mkEffect x (BitVec.ofNat 16 (opCode x.op)) 1 point stream) mine
    { s with staged := s.staged.filter fun x => !isStopStart n op x }

/-- The context goes back to OPEN: it holds no frame, and its start and stop are reported (R206). A start whose context
never admitted a frame reports the point all ones (DESIGN CHOICE 53). -/
def backToOpen (s : State) (n : Nat) : State :=
  let x := ctxAt s n
  let fs := (halvesOf x).flatMap fun h => (ctxPart x h).frames.map (·.f)
  let s1 := fs.foldl (fun s f => dropFrame s n f) s
  let s2 := modCtx s1 n fun x => { x with
    st := .open_, play := none, playLeft := none, from_ := none, latched := [], statOwn := [], statPeer := []
    ha := { x.ha with frames := [], peerSides := [] }, hb := { x.hb with frames := [], peerSides := [] } }
  let last := (ctxPart x (refHalf s x)).counts.lastFrame
  reportRun (reportRun s2 n .pipeStartContext noPoint) n .pipeStopContext last

/-- A frame of a play has been developed or skipped: the next one takes its turn, or the play is over (R206, R221). -/
def playTurn (s : State) (n : Nat) : State :=
  let x := ctxAt s n
  match x.play with
  | none => s
  | some f =>
    if !takesFrames x then s
    else
      let left := x.playLeft.map (· - 1)
      if left = some 0 then
        let last := if x.played = 0 then noPoint else (ctxPart x (refHalf s x)).counts.lastFrame
        backToOpen (ctxEvent s (refHalf s x) n 0x4005 0 last x.played x.skipped 0) n
      else
        let g := f + BitVec.ofNat 64 x.divisor
        let s1 := modCtx s n fun x => { x with play := some g, playLeft := left }
        (halvesOf x).foldl (fun s h =>
          reportSide (modPart s n h fun p => { p with frames := insertFrame { f := g, quarry := true } p.frames }) n h g) s1

/-- Why a Quarry frame is lost: the first source whose frame will not come, with the cause (R220). -/
def lostSource (s : State) (x : Context) (h : Half) (r : CtxFrame) : Option (Nat × Nat) :=
  (sourcesOf x h).findSome? fun z =>
    let st := streamAt s z.stream
    let num := streamFrameOf z r.f
    if srcStored s z r.f || (st.writing.any fun w => decide (w.number = num)) || decide (st.openFrame.map (·.number) = some num)
    then none
    else match st.frame with
      | none => none
      | some c => if c.toNat < num.toNat then none else some (z.stream, if r.missed.contains z.stream then 1 else 0)

/-- Skip frame F, a source of which is lost (R220). -/
def skipFrame (s : State) (n : Nat) (h : Half) (f : Count64) (stream cause : Nat) : State :=
  let x := ctxAt s n
  let s1 := (halvesOf x).foldl (fun s h => modCounts s n h fun c => { c with sourceLost := satInc c.sourceLost }) s
  let s2 := ctxEvent s1 h n 0x4002 2 f stream cause 0
  let s3 := advanceFrom (dropFrame s2 n f) n (f + 1)
  if x.play.isSome then playTurn (modCtx s3 n fun x => { x with skipped := x.skipped + 1 }) n else s3

/-- Skip the oldest waiting frames of a context that have lost a source (R220, R221). -/
def skipLost (s : State) (n : Nat) (h : Half) : Nat → State
  | 0 => s
  | k + 1 =>
    let x := ctxAt s n
    match (ctxPart x h).frames.head? with
    | none => s
    | some r =>
      if r.quarry ∧ (latchedOf x r.f).isNone then
        match lostSource s x h r with
        | some (stream, cause) => skipLost (skipFrame s n h r.f stream cause) n h k
        | none => s
      else s

/-! Admission (R210 to R216, R222). -/

/-- A mirror admits the first unit of frame F only after the active's ADMIT record (R457). -/
def gateOpen (s : State) (n : Nat) (h : Half) (f : Count64) : Bool := !s.pair.gating || s.pair.admits.contains (n, h, f)

/-- Frames of a context that the active has passed over are dropped by its mirror too: those waiting before the first frame
with an ADMIT record (R457). -/
def passOver (s : State) (n : Nat) (h : Half) : State :=
  match s.pair.admits.find? fun a => decide (a.1 = n) && decide (a.2.1 = h) with
  | none => s
  | some (_, _, f) =>
    let x := ctxAt s n
    let old := ((ctxPart x h).frames.filter fun r => decide (r.f.toNat < f.toNat) && (latchedOf x r.f).isNone).map (·.f)
    if old.isEmpty then s else advanceFrom (old.foldl (fun s f => dropFrame s n f) s) n f

/-- The oldest frame of a context that may be admitted next in a half. -/
def admissible (s : State) (n : Nat) (h : Half) : Option CtxFrame :=
  let x := ctxAt s n
  let p := ctxPart x h
  if !(ctxIn x h && ctxActive x) || decide (p.mask = 0) then none
  else match p.frames.head? with
    | none => none
    | some r =>
      let begun := (latchedOf x r.f).isSome
      let resets := (islandAt s h .ashlar).resetting
      if r.nextUnit < unitCount x h ∧ (begun ∨ (x.st ≠ .stopping ∧ !(x.span && (p.held || !mortarUp s || isShed s (otherHalf h) 2)))) ∧
          !(r.quarry && !r.fed && resets) ∧ unitReady s x h r r.nextUnit ∧ (r.nextUnit = 0 → gateOpen s n h r.f) then some r
      else none

/-- The ready unit that R213 chooses among contexts: greatest PRIORITY, then lowest F, then lowest name. -/
def bestUnit (s : State) (h : Half) (cs : List (Nat × CtxFrame)) : Option (Nat × CtxFrame) :=
  let prio := fun (c : Nat × CtxFrame) => (ctxPart (ctxAt s c.1) h).prio.toNat
  match cs with
  | [] => none
  | c :: t => some (t.foldl (fun b c =>
      if prio b < prio c ∨ (prio b = prio c ∧ c.2.f.toNat < b.2.f.toNat) then c else b) c)

/-- A context owns the slot under the pointer (R211). -/
def ownsSlot (s : State) (h : Half) (n : Nat) : Bool := (ctxPart (ctxAt s n) h).mask.getLsbD (half s h).pipe.slot

/-- The unit admitted next, and whether it borrows the slot (R213). -/
def chooseUnit (s : State) (h : Half) : Option (Nat × CtxFrame × Bool) :=
  let cs := (List.range 32).filterMap fun n => (admissible s n h).map fun r => (n, r)
  match bestUnit s h (cs.filter fun c => ownsSlot s h c.1) with
  | some c => some (c.1, c.2, false)
  | none => (bestUnit s h cs).map fun c => (c.1, c.2, true)

/-- Drop the waiting frames behind the newest ready one where it is more than MAX_LAG frames ahead: the frame to develop,
and how many were dropped (R222). -/
def lagDrop (s : State) (n : Nat) (h : Half) (f : Count64) : Count64 × Nat × State :=
  let x := ctxAt s n
  let waiting := (ctxPart x h).frames.filter fun r => decide ((latchedOf x r.f).isNone)
  let newest := ((waiting.filter fun r => frameWaits s x h r).map (·.f)).getLast?.getD f
  if x.maxLag = 0 ∨ s.pair.gating ∨ (latchedOf x f).isSome ∨ (newest.toNat - f.toNat) / x.divisor ≤ x.maxLag then (f, 0, s)
  else
    let old := (waiting.filter fun r => decide (r.f.toNat < newest.toNat)).map (·.f)
    let s1 := advanceFrom (old.foldl (fun s f => dropFrame s n f) s) n newest
    let s2 := (halvesOf x).foldl (fun s h => modCounts s n h fun c => { c with lagSkipped := satAdd c.lagSkipped old.length }) s1
    (newest, old.length, ctxEvent s2 h n 0x4003 1 newest old.length 0 0)

/-- The buffers of one index in the rings of a tap. -/
def bufAt (t : Tap) (hs : List Half) (k : Nat) : List TapBuf :=
  hs.filterMap fun h => (if h = .A then t.ringA else t.ringB).bind fun r => r.bufs[k]?

/-- Buffers of a tap's ring. -/
def ringCount (t : Tap) (hs : List Half) : Nat :=
  ((hs.head?.bind fun h => if h = .A then t.ringA else t.ringB).map (·.count)).getD 0

/-- The buffer that a tap takes for a frame: a FREE one, else the READY one of lowest SEQ (R275). -/
def pickBuf (t : Tap) (hs : List Half) : Option Nat :=
  let ks := List.range (ringCount t hs)
  match ks.find? fun k => (bufAt t hs k).all fun b => decide (b.st = .free) with
  | some k => some k
  | none =>
    let seq := fun k => ((bufAt t hs k).map fun b => b.seq.toNat).foldl max 0
    match ks.filter fun k => (bufAt t hs k).all fun b => decide (b.st = .free) || decide (b.st = .ready) with
    | [] => none
    | k :: rest => some (rest.foldl (fun b k => if seq k < seq b then k else b) k)

/-- The state with a tap's ring and counts in a half changed. -/
def modTapHalf (s : State) (n t : Nat) (h : Half) (fr : TapRing → TapRing) (fc : TapCounts → TapCounts) : State :=
  modTap s n t fun z => if h = .A then { z with ringA := z.ringA.map fr, cntA := fc z.cntA }
    else { z with ringB := z.ringB.map fr, cntB := fc z.cntB }

/-- One buffer of a ring changed. -/
def modBuf (k : Nat) (f : TapBuf → TapBuf) (r : TapRing) : TapRing := { r with bufs := r.bufs.modify k f }

/-- An enabled tap takes its buffer for frame F, or skips the frame (R275). -/
def takeBuf (s : State) (n t : Nat) (f : Count64) : Option Nat × State :=
  let x := ctxAt s n
  let tap := tget x.taps t
  let hs := halvesOf x
  if !tap.cfg.enable then (none, s)
  else match pickBuf tap hs with
    | some k =>
      let was := fun (h : Half) => (bufAt tap [h] k).any fun b => decide (b.st = .ready)
      (some k, hs.foldl (fun s h => modTapHalf s n t h (modBuf k fun b => { b with st := .writing, frame := f })
        fun c => { c with skipping := false, reclaimed := if was h then satInc c.reclaimed else c.reclaimed }) s)
    | none =>
      let r := refHalf s x
      let first := !(if r = .A then tap.cntA else tap.cntB).skipping
      let s1 := hs.foldl (fun s h => modTapHalf s n t h id fun c => { c with skipping := true, skipped := satInc c.skipped }) s
      (none, if first then ctxEvent s1 r n 0x4011 1 f t (halfNum r) 0 else s1)

/-- Buffers for every tap of a frame. -/
def takeBufs (s : State) (n : Nat) (f : Count64) : List (Option Nat) × State :=
  (List.range 12).foldl (fun a t =>
    let (b, s1) := takeBuf a.2 n t f
    (a.1 ++ [b], s1)) ([], s)

/-- A staged change takes effect at the first admission of a frame of context `n`: one staged for the context, or for a
stream it reads; no trim commit in the supply guard or in the clearing of a live
swap (R210, R224, R299, R473). -/
def dueAtFrame (s : State) (n : Nat) (f : Count64) (x : Staged) : Bool :=
  let c := ctxAt s n
  let mine := match x.key with
    | .contextFrame h k => decide (k = n) && decide (h = refHalf s c) && decide (x.op ≠ .pipeStopContext)
    | .streamAdmit k => (allSources c).any fun z => decide (z.stream = k)
    | _ => false
  mine && pairDue s x f && !(isTrimEntry x && ((half s x.exec).sys.guard || inSwap s))

/-- A mirror commits the trim values of the active's TRIM records at the same frame (R456). -/
def commitTrims (s : State) (n : Nat) (f : Count64) : State :=
  let mine := s.pair.trims.filter fun t => decide (t.f = f) && (allSources (ctxAt s n)).any fun z => decide (z.stream = t.stream)
  mine.foldl (fun s t => commitTrim (modTrim s t.dom t.stream fun v => { v with staged := some t.vals }) t.dom t.stream f)
    (modPair s fun p => { p with trims := p.trims.filter fun t => !mine.contains t })

/-- The first unit of frame F is admitted in either half: staged changes take effect, and the settings and the tap buffers
of the frame are latched (R206, R210, R224, R239, R275). -/
def latchFrame (s : State) (n : Nat) (f : Count64) (lag : Bool) : State :=
  let due := s.staged.filter (dueAtFrame s n f)
  let changed := due.any fun x => decide (x.op ≠ .pipeStartContext)
  let s0 := commitTrims { s with staged := s.staged.filter fun x => !dueAtFrame s n f x } n f
  let s1 := applyFrame f (refStream s (ctxAt s n)) due s0
  let s2 := modCtx s1 n fun x => { x with st := if x.st = .starting then .running else x.st }
  let (bufs, s3) := takeBufs s2 n f
  let x := ctxAt s3 n
  let l : Latched :=
    { corr := x.corr, colour := x.colour, taps := x.taps.toList.map (·.cfg)
      streams := (allSources x).map fun z => (z.stream, tget s3.corrs z.stream), bufs, stat := x.stat
      pflags := (if changed then 0x100 else 0) ||| (if lag then 0x80 else 0) }
  modCtx s3 n fun x => { x with latched := x.latched ++ [(f, l)] }

/-- Blocks of a source that a side's units read: those of the columns and rows needed (R207, R221). -/
def neededBlocks (s : State) (x : Context) (h : Half) (z : Source) : List Nat :=
  let (w, hh, _) := srcGeom s z
  let (l, n) := sideCols x h
  (List.range (blockCount w hh)).filter fun b =>
    let bx := b % blockCols w
    let by_ := b / blockCols w
    (decide (z.x + 128 * bx < l + n + 64) && decide (l < z.x + 128 * bx + blockW w bx + 64) || decide (0 < (tget s.corrs z.stream).obRows)) &&
      (List.range (blockH hh by_)).any fun i => rowNeeded s x z (8 * by_ + i)

/-- Hand the blocks of a Quarry frame to the decoders (R189, R221). -/
def feedFrame (s : State) (n : Nat) (h : Half) (f : Count64) : State :=
  let x := ctxAt s n
  match frameOf x h f with
  | some r =>
    if r.quarry ∧ r.fed = false then
      let tasks := (sourcesOf x h).flatMap fun z => (neededBlocks s x h z).map fun b => DecTask.pipe n f z.stream b
      modFrame (modAsh s h fun a => { a with pipeWaiting := a.pipeWaiting ++ tasks }) n h f fun r => { r with fed := true }
    else s
  | none => s

/-- Slot settings latch in a half at its epoch, each reported with frame F of the context `n`; a span context's setting is
reported once both halves have latched (R214, R216). -/
def latchSlots (h : Half) (n : Nat) (f : Count64) : List Staged → State → State
  | [], s => s
  | x :: t, s =>
    let s1 := applyEpoch h (fun p => markReady s (ctxAt s (pf x.cmd 2 4 0)) h p) x s
    let waits := s1.staged.any fun y => decide (y.cmd.serial = x.cmd.serial)
    let span := decide (x.op ≠ .pipeSetSlotTime) && (ctxAt s1 (pf x.cmd 2 4 0)).span
    let stream := refStream s1 (ctxAt s1 n)
    let r := { mkEffect x (BitVec.ofNat 16 (opCode x.op)) 2 f stream with
      res0 := pack [(0, stream), (6, if span then halfNum h else 0)] }
    latchSlots h n f t (if waits then s1 else reportEffect s1 x.exec r)

/-- The slot-table epoch of a half (R214). -/
def epoch (s : State) (h : Half) (n : Nat) (f : Count64) : State :=
  let due := fun (x : Staged) => decide (x.key = .epoch h) && pairDue s x f
  latchSlots h n f (s.staged.filter due) { s with staged := s.staged.filter fun x => !due x }

/-- Admit the next unit of frame F of context `n` in a half (R207, R208, R213, R214). -/
def admitUnit (s : State) (h : Half) (n : Nat) (f0 : Count64) (borrow : Bool) : State :=
  let (f, dropped, s0) := lagDrop s n h f0
  let s1 := if (latchedOf (ctxAt s0 n) f).isSome then s0 else latchFrame s0 n f (decide (0 < dropped))
  let x := ctxAt s1 n
  match frameOf x h f with
  | none => s1
  | some r =>
    let k := r.nextUnit
    let switch := decide ((half s1 h).pipe.lastCtx ≠ some n)
    let cycles := unitCycles x h k + if switch then 1800 else 0
    let s2 := modPipe s1 h fun p => { p with running := some { ctx := n, f, k, cycles }, lastCtx := some n }
    let s3 := modFrame s2 n h f fun r => { r with nextUnit := k + 1, rowsDone := 0 }
    let s4 := modCounts s3 n h fun c => { c with
      switches := if switch then satInc c.switches else c.switches
      borrowed := if borrow then satInc c.borrowed else c.borrowed }
    let s5 := feedFrame s4 n h f
    if k = 0 then
      let s6 := modPair s5 fun p => { p with admits := p.admits.filter fun a => !decide (a = (n, h, f)) }
      tell (epoch s6 h n f) (.admitted n h f)
    else s5

/-- UNIT_ADMIT: the pipeline is free and the half admits one ready unit (R213). -/
def unitAdmit (s : State) (h : Half) : State :=
  if (half s h).pipe.running.isSome || !islandRuns s h .pipeline then s
  else
    let s1 := (List.range 32).foldl (fun s n => if ctxIn (ctxAt s n) h && takesFrames (ctxAt s n) then skipLost s n h 65536 else s) s
    let s1 := if s1.pair.gating then (List.range 32).foldl (fun s n => passOver s n h) s1 else s1
    let s2 := (List.range 32).foldl (fun s n => starve s n h) s1
    match chooseUnit s2 h with
    | some (n, r, borrow) => admitUnit s2 h n r.f borrow
    | none => s2

/-- UNIT_ADMIT (R213). -/
def execUnitAdmit (h : Half) (s : State) : Host.Outcome State Fault Refusal :=
  act (.unitAdmit h) s (unitAdmit s h)

/-- SLOT_POINTER_ADVANCE (R211). -/
def execSlotPointerAdvance (h : Half) (s : State) : Host.Outcome State Fault Refusal :=
  act (.slotPointerAdvance h) s
    (if islandRuns s h .pipeline then modPipe s h fun p => { p with slot := (p.slot + 1) % 64 } else s)

/-- UNIT_ROW_PROCESSED: the running unit has processed one more row, which may free segments (R217). -/
def execUnitRowProcessed (h : Half) (s : State) : Host.Outcome State Fault Refusal :=
  actIf true s
    (match (half s h).pipe.running with
    | some u => modFrame s u.ctx h u.f fun r => { r with rowsDone := min (ctxAt s u.ctx).ah (r.rowsDone + 1) }
    | none => s)

/-! Decoded blocks (R192, R221, R223). -/

/-- A block of a Quarry frame has been decoded: its pixels, or PAD_VALUE; corrupt blocks are counted, and reported once per
frame (R192). -/
def pipeDecoded (s : State) (h : Half) (n : Nat) (f : Count64) (stream block : Nat) : State :=
  let x := ctxAt s n
  match frameOf x h f, (sourcesOf x h).find? fun z => decide (z.stream = stream) with
  | some r, some z =>
    if !r.fed then s
    else
      let ring := ringOf s stream
      let (w, hh, _) := srcGeom s z
      let cfg := (streamAt s stream).cfg.getD {}
      let st := storedFrame ring (streamFrameOf z f)
      let res := match st with
        | some q => decodeStored s ring q block
        | none => .corrupt
      let pad := match st with
        | some q => (frameGeom s ring q).2.2.2
        | none => cfg.pad.toNat
      let n8 := blockW w (block % blockCols w) * blockH hh (block / blockCols w)
      let px := match res with
        | .ok px => px
        | _ => List.replicate n8 pad
      let bad := match res with
        | .corrupt => true
        | _ => false
      let s1 := countDecoded s h res
      let s2 := modFrame s1 n h f fun r => { r with
        decoded := (stream, block, px) :: r.decoded
        corrupt := if bad then r.corrupt ++ [(stream, block)] else r.corrupt }
      if x.span && inBand s x h z then
        let rows := (List.range (blockH hh (block / blockCols w))).map fun i => z.y + 8 * (block / blockCols w) + i
        sendBand s2 n h f (rows.filter (activeRow x))
      else s2
  | _, _ => s

/-- A decode engine finishes its block (R189, R191). -/
def blockDecoded (s : State) (h : Half) (e : Nat) : State :=
  match tget (half s h).ash.dec e with
  | none => s
  | some t =>
    let s1 := modAsh s h fun a => { a with dec := tset a.dec e none }
    match t with
    | .pipe n f stream block => pipeDecoded s1 h n f stream block
    | .job recv tag i => jobDecoded s1 h recv tag i

/-- BLOCK_DECODED (R191). -/
def execBlockDecoded (h : Half) (engine : Nat) (s : State) : Host.Outcome State Fault Refusal :=
  act (.blockDecoded h engine) s (if islandRuns s h .ashlar then blockDecoded s h engine else s)

/-! Island resets (R240, R550). -/

/-- A frame begins again from its first unit. -/
def restartFrame (flags : Word) (r : CtxFrame) : CtxFrame :=
  { f := r.f, quarry := true, pflags := r.pflags ||| flags, srcFlags := r.srcFlags, missed := r.missed, mark := r.mark
    sideSent := r.sideSent, starvedCounted := r.starvedCounted }

/-- What was latched for a frame is given up, and its buffers in WRITING return to FREE (R274). -/
def unlatch (s : State) (n : Nat) (f : Count64) : State :=
  match latchedOf (ctxAt s n) f with
  | some l => modCtx (freeBufs s n f l.bufs) n fun x => { x with
      latched := x.latched.filter fun l => decide (l.1 ≠ f)
      statOwn := x.statOwn.filter fun o => decide (o.f ≠ f), statPeer := x.statPeer.filter fun o => decide (o.1 ≠ f) }
  | none => s

/-- A decode task serves this frame. -/
def servesFrame (n : Nat) (f : Count64) : DecTask → Bool
  | .pipe c g _ _ => decide (c = n) && decide (g = f)
  | .job .. => false

/-- The pipeline and the decoders of a half give up a frame. -/
def giveUp (s : State) (h : Half) (n : Nat) (f : Count64) : State :=
  let s1 := modPipe s h fun p => { p with running := p.running.filter fun u => !(decide (u.ctx = n) && decide (u.f = f)) }
  modAsh s1 h fun a => { a with
    pipeWaiting := a.pipeWaiting.filter fun t => !servesFrame n f t, dec := a.dec.map fun t => t.filter fun t => !servesFrame n f t }

/-- A frame that was admitted begins again from its first unit, in each half of its context (R240, R550). -/
def redoFrame (s : State) (n : Nat) (f : Count64) (flags : Word) : State :=
  (halvesOf (ctxAt s n)).foldl (fun s h =>
    modPart (giveUp s h n f) n h fun p => { p with
      frames := (insertFrame { f } p.frames).map fun r => if r.f = f then restartFrame flags r else r }) (unlatch s n f)

/-- The pipeline island of a half resets: every frame admitted and unfinished, or waiting in the line store, is taken again
from the Quarry (R240). -/
def pipelineLost (s : State) (h : Half) : State :=
  let s0 := modPipe s h fun p => { p with running := none, lastCtx := none }
  (List.range 32).foldl (fun s n =>
    let x := ctxAt s n
    if !(ctxIn x h && ctxActive x) then s
    else (ctxPart x h).frames.foldl (fun s r =>
      let begun := (latchedOf x r.f).isSome
      let s1 := if begun then redoFrame s n r.f 0x42 else s
      if r.quarry then s1
      else if begun then
        let s2 := modCounts s1 n h fun c => { c with fallbacks := satInc c.fallbacks }
        let s3 := ctxEvent s2 h n 0x4001 1 r.f (halfNum h) 1 0
        (halvesOf x).foldl (fun s k => reportSide s n k r.f) s3
      else switchQuarry s1 n h r.f 1) s) s0

/-- The Ashlar island of a half resets: each Quarry frame admitted in the half is abandoned and developed again; in a span
context in both halves (R550). -/
def decodersLost (s : State) (h : Half) : State :=
  (List.range 32).foldl (fun s n =>
    let x := ctxAt s n
    if !(ctxIn x h && ctxActive x) then s
    else ((ctxPart x h).frames.filter fun r => r.quarry && r.fed).foldl (fun s r => redoFrame s n r.f 0x40) s) s

end Sys2Proof.Machine
end

