-- ==== Sys2Proof/Machine/Trigger.lean ====
section
/-! DEFINITION. The trigger rules: sources, firing, T, HOLDOFF and TRIG_OUT (R29, R140, R141, R146 to R148). -/

namespace Sys2Proof.Machine

/-- What a trigger did in one stream. -/
inductive TrigEffect where
  /-- applied -/
  | applied
  /-- ignored because the ring is not armed -/
  | ignored
  /-- extended a post window -/
  | extended
  /-- ignored during a burst -/
  | busy
  deriving DecidableEq, Repr, Inhabited

/-- The window may already be over when T arrives. -/
def checkWindow (s : State) (n : Nat) : State :=
  match (ringOf s n).window, (streamAt s n).frame with
  | some w, some cur =>
    if w.last.toNat < cur.toNat ∨ (w.last = cur ∧ (streamAt s n).openFrame = none) then endWindow s n else s
  | _, _ => s

/-- Set the trigger bits of a stored frame's header (R138). -/
def markHeader (s : State) (n : Nat) (f : Stored) (kind : BitVec 3) (rule : Nat) : State :=
  patchHeader s n f.slot (orDword 0x68 (pack [(0, kind.toNat), (8, if kind.getLsbD 0 then rule else 0)]))

/-- TRIG_KIND of a frame of a triggered segment (R138). -/
def kindOf (f t : Count64) : BitVec 3 := if f = t then 1 else if f.toNat < t.toNat then 2 else 4

/-- A trigger marks its frame in the open segment; in pre/post mode the segment starts at T - PRE (R140). -/
def markTrigger (s : State) (n : Nat) (g : Segment) (t : Count64) (rule : Nat) : State :=
  let r := ringOf s n
  let old := fun (f : Count64) => decide (r.mode = 1) && decide (f.toNat + r.pre < t.toNat)
  let s1 := (g.frames.filter fun f => old f.number).foldl (fun s f => clearMagic s n f.slot) s
  let keep := g.frames.filter fun f => !old f.number
  let markW := fun (w : WFrame) =>
    if w.segment ≠ g.number then w
    else if old w.number = true then { w with drop := true }
    else if r.mode = 1 ∨ w.number = t then
      { w with trigKind := w.trigKind ||| kindOf w.number t, trigRule := if w.number = t then rule else w.trigRule }
    else w
  let s2 := modStream s1 n fun x => { x with writing := x.writing.map markW }
  let ord := match keep.find? fun f => decide (f.number = t) with
    | some f => some f.ordinal
    | none => ((streamAt s2 n).writing.find? fun w => decide (w.segment = g.number) && decide (w.number = t)).map (·.ordinal)
  let s3 := modSeg s2 n g.number fun g => { g with
    frames := keep, triggers := satInc g.triggers
    trigOffset := match ord with
      | some k => if g.trigOffset = 0xFFFFFF then BitVec.ofNat 24 k else g.trigOffset
      | none => g.trigOffset }
  let g3 := ((ringOf s3 n).segs.find? fun x => decide (x.number = g.number)).getD g
  let s4 := modSeg s3 n g.number fun g => { g with
    shortPre := if r.mode = 1 then decide (framesBefore s3 n g3 t r.pre < r.pre) else g.shortPre }
  let marked := keep.filter fun f => decide (r.mode = 1) || decide (f.number = t)
  writeSeg (marked.foldl (fun s f => markHeader s n f (kindOf f.number t) rule) s4) n g.number

/-- Apply a trigger of rule `rule` at frame T to the ring of stream `n` (R140, R141, R146). -/
def applyTrigger (s : State) (n : Nat) (t : Count64) (rule : Nat) : TrigEffect × State :=
  let x := streamAt s n
  match x.ring with
  | none => (.ignored, modStream s n fun x => { x with
      counts := { x.counts with unarmedTriggers := satInc x.counts.unarmedTriggers } })
  | some r =>
    if !x.armed then
      (.ignored, modStream s n fun x => { x with
        counts := { x.counts with unarmedTriggers := satInc x.counts.unarmedTriggers } })
    else
      let later := (x.frame.map fun c => decide (c.toNat < t.toNat)).getD true
      match r.mode, r.window with
      | 2, some _ =>
        (.busy, modStream s n fun x => { x with counts := { x.counts with busyTriggers := satInc x.counts.busyTriggers } })
      | 2, none =>
        (.applied, checkWindow (modRing s n fun r => { r with
          window := some { t, last := t + BitVec.ofNat 64 r.post, rule } }) n)
      | 1, some w =>
        let s1 := modRing s n fun r => { r with
          window := some { w with last := t + BitVec.ofNat 64 r.post, count := min 0xFFFF (w.count + 1) } }
        let s2 := match openSegOf r with
          | some g => writeSeg (modSeg s1 n g.number fun g => { g with triggers := satInc g.triggers }) n g.number
          | none => s1
        (.extended, checkWindow s2 n)
      | m, _ =>
        let s1 := modRing s n fun r => { r with
          window := if m = 1 then some { t, last := t + BitVec.ofNat 64 r.post, rule } else none
          future := if later then some (t, rule) else r.future }
        let s2 := match openSegOf r with
          | some g => markTrigger s1 n g t rule
          | none => s1
        (.applied, if m = 1 then checkWindow s2 n else s2)

/-- The selected streams of a rule that lie in a half and have a frame number, with that number (R29, R146). -/
def latchOf (s : State) (r : TrigRule) (h : Half) : List (Nat × Count64) :=
  (List.range 64).filterMap fun n =>
    if r.streams.getLsbD n = true ∧ streamHalf s n = some h then (streamAt s n).frame.map fun f => (n, f) else none

/-- Apply T to latched streams, each with its QRY_TRIGGER event (R146, R162). -/
def applyLatch (s : State) (k : Nat) (t : Count64) : List (Nat × Count64) → State
  | [] => s
  | (n, f) :: rest =>
    let (e, s1) := applyTrigger s n t k
    let d0 := k + 16 * b2n (decide (e = .ignored)) + 32 * b2n (decide (e = .extended))
    applyLatch (streamEvent s1 n 0x2003 0 f d0 (lo32 t.toNat).toNat (hi32 t.toNat).toNat) k t rest

/-- A rule starts its HOLDOFF and pulses its TRIG_OUT balls (R147). -/
def holdOffRule (s : State) (k : Nat) : State :=
  let r := ruleAt s k
  modDev (modRule s k fun r => { r with holdLeft := if r.holdoff = 0 then 0 else r.holdoff + 1 }) fun d =>
    { d with trigOut := d.trigOut ||| r.trigOut }

/-- A rule fires on a mirror whose admissions are gated: T comes with the TRIGGER record, and the firing is kept until one
matches it (R456, R469). -/
def mirrorFires (s : State) (k : Nat) (t : Count64) : State :=
  modPair (modRule s k fun r => { r with latch := [], await := false }) fun p =>
    if p.fired.any fun e => decide (e.1 = k) then
      { p with fired := p.fired.eraseIdx (p.fired.findIdx fun e => decide (e.1 = k)) }
    else { p with firings := p.firings ++ [(k, 0, t)] }

/-- T of a firing is applied to the rings that a rule selects in both halves. -/
def applyFiring (s : State) (k : Nat) (t : Count64) : State :=
  let r := ruleAt s k
  applyLatch s k t (latchOf s r .A ++ latchOf s r .B)

/-- The half of LEAD fires the rule: LEAD's number is T, applied there and sent to the other half (R146). -/
def fireLead (s : State) (k : Nat) (l : Half) : State :=
  let r := ruleAt s k
  let s1 := holdOffRule s k
  match (streamAt s r.lead).frame with
  | none => s1
  | some t =>
    if s.pair.gating then mirrorFires s1 k t else
    let s2 := applyLatch (tell s1 (.segment (.trigger k t))) k t (latchOf s r l)
    if (latchOf s r (otherHalf l)).isEmpty && r.latch.isEmpty then s2
    else if mortarUp s2 then
      mortarQueue (modRule s2 k fun r => { r with await := r.latch.isEmpty }) l (.trigger { rule := k, t })
    else modRule s2 k fun r => { r with latch := [], await := false }

/-- Both halves see the firing at once: a content trigger or QRY_TRIGGER (R146). -/
def fireRule (s : State) (k : Nat) : State :=
  let r := ruleAt s k
  match streamHalf s r.lead with
  | none => holdOffRule s k
  | some l => fireLead (modRule s k fun x => { x with latch := latchOf s r (otherHalf l) }) k l

/-- A source of a rule is met: the rule fires, or suppresses an edge during HOLDOFF (R147). -/
def ruleSource (s : State) (k : Nat) (edge : Bool) : State :=
  let r := ruleAt s k
  if r.holdLeft = 0 then fireRule s k
  else if edge then modRule s k fun r => { r with suppressed := min 0xFFFFFFFF (r.suppressed + 1) } else s

/-- Content trigger `i` fires the rules that enable it (R146, R295). -/
def contentFires (s : State) (i : Nat) : State :=
  (List.range 16).foldl (fun s k =>
    if (ruleAt s k).enable = true ∧ (ruleAt s k).content.getLsbD i = true then ruleSource s k true else s) s

/-- A TRIG_IN edge reaches rule `k` in half `h` through that half's synchroniser (R29). -/
def edgeAt (s : State) (k : Nat) (h : Half) : State :=
  let r := ruleAt s k
  let l := (streamHalf s r.lead).getD (leadHalf s)
  if h = l then
    if r.holdLeft = 0 then fireLead s k h
    else modRule s k fun r => { r with suppressed := min 0xFFFFFFFF (r.suppressed + 1) }
  else if r.await || (decide (r.holdLeft = 0) && r.latch.isEmpty) then
    modRule s k fun x => { x with latch := latchOf s r h, await := false }
  else s

/-- TRIG_IN_EDGE (R29, R146). -/
def execTrigInEdge (h : Half) (ball : Nat) (rising : Bool) (s : State) : Host.Outcome State Fault Refusal :=
  let s0 := modDev s fun d => { d with trigIn :=
    if rising then d.trigIn ||| BitVec.ofNat 4 (2 ^ ball) else d.trigIn &&& ~~~(BitVec.ofNat 4 (2 ^ ball)) }
  act (.trigInEdge h ball rising) s
    ((List.range 16).foldl (fun s k =>
      let r := ruleAt s k
      if r.enable && (if rising then r.rise else r.fall).getLsbD ball then edgeAt s k h else s) s0)

/-- T arrives from the half of LEAD: the numbers latched by the firing, or the current ones, take it (R146). -/
def triggerArrives (s : State) (at_ : Half) : State :=
  match mortarHead s at_ 0 with
  | some (.trigger t) =>
    let r := ruleAt s t.rule
    let latched := if r.latch.isEmpty then latchOf s r at_ else r.latch
    applyLatch (modRule (mortarTake s at_ 0) t.rule fun r => { r with latch := [], await := false }) t.rule t.t latched
  | _ => s

/-- TRIGGER_T_RECEIVED (R146). -/
def execTriggerTReceived (at_ : Half) (s : State) : Host.Outcome State Fault Refusal :=
  act (.triggerTReceived at_) s (triggerArrives s at_)

/-- The LEAD stream of rules closes a frame (R147). -/
def countHoldoff (s : State) (n : Nat) : State :=
  (List.range 16).foldl (fun s k =>
    if (ruleAt s k).lead = n ∧ 2 ≤ (ruleAt s k).holdLeft then
      modRule s k fun r => { r with holdLeft := r.holdLeft - 1 }
    else s) s

/-- TRIGGER_HOLDOFF_END: the rule listens again; the edges suppressed are reported (R147, R162). -/
def execTriggerHoldoffEnd (rule : Nat) (s : State) : Host.Outcome State Fault Refusal :=
  let r := ruleAt s rule
  act (.triggerHoldoffEnd rule) s
    (if r.holdLeft = 1 then
      let s1 := modRule s rule fun r => { r with holdLeft := 0, suppressed := 0 }
      if r.suppressed = 0 then s1
      else event s1 (leadHalf s) 0x200A 0 0x21 rule noPoint r.suppressed 0 0
    else s)

/-- TRIG_OUT_PULSE_END (R147). -/
def execTrigOutPulseEnd (ball : Nat) (s : State) : Host.Outcome State Fault Refusal :=
  act (.trigOutPulseEnd ball) s (modDev s fun d => { d with trigOut := d.trigOut &&& ~~~(BitVec.ofNat 4 (2 ^ ball)) })

/-- QRY_SET_TRIGGER_RULE (R146). -/
def opQrySetTriggerRule (c : Cmd) (_h : Half) (s : State) : Reply × State :=
  let k := pf c 2 3 0
  let streams := BitVec.ofNat 64 (pq c 4)
  match firstErr (rsv c [(2, 0xFFF0C0E0), (3, 0xFE000000)] ++ bad [(4, !streams.getLsbD (pf c 2 13 8))]) with
  | some r => (r, s)
  | none => (ok, modRule s k fun _ =>
      { defined := true, enable := pb c 2 4, lead := pf c 2 13 8, trigOut := BitVec.ofNat 4 (pf c 2 19 16)
        rise := BitVec.ofNat 4 (pf c 3 3 0), fall := BitVec.ofNat 4 (pf c 3 7 4), content := BitVec.ofNat 16 (pf c 3 23 8)
        command := pb c 3 24, streams, holdoff := (dw c 6).toNat })

/-- A ring that a rule selects is armed (R148). -/
def anyArmed (s : State) (r : TrigRule) : Bool :=
  (List.range 64).any fun n => r.streams.getLsbD n && (streamAt s n).armed && (streamAt s n).ring.isSome

/-- QRY_TRIGGER (R146, R148). -/
def opQryTrigger (c : Cmd) (_h : Half) (s : State) : Reply × State :=
  let k := pf c 2 3 0
  let r := ruleAt s k
  match firstErr (rsv c [(2, 0xFFFFFFF0)] ++ [(!anyArmed s r, err stNotArmed 0)]) with
  | some e => (e, s)
  | none => (ok, if r.enable && r.command then ruleSource s k false else s)

end Sys2Proof.Machine
end

