-- ==== Sys2Proof/Machine/QuarryCmd.lean ====
section
/-! DEFINITION. The QRY_ commands but QRY_MAP_STREAM: configuration, re-attaching a ring, start and stop, reading back,
segments, marks and reporting (R134, R148 to R162). -/

namespace Sys2Proof.Machine

/-! Configuration (R157 to R159). -/

/-- The geometry that QRY_CONFIGURE_STREAM names. -/
def cfgOf (c : Cmd) : StreamCfg :=
  { width := pf c 2 23 8, height := pf c 3 15 0, depth := BitVec.ofNat 2 (pf c 3 17 16), pad := BitVec.ofNat 16 (pf c 4 15 0)
    ashMode := BitVec.ofNat 3 (pf c 4 18 16), watchdog := dw c 5 }

/-- Index entries of a frame of a geometry. -/
def entriesOf (g : StreamCfg) : Nat := blockCount g.width g.height

/-- The position after `k` more raw blocks of a frame, from block `b` on (R184). -/
def placeRaw (r : Ring) (g : StreamCfg) (cur b : Nat) : Nat → Nat
  | 0 => cur
  | k + 1 =>
    let cols := blockCols g.width
    let len := rawLen (blockW g.width (b % cols)) (blockH g.height (b / cols)) (depthBits g.depth)
    placeRaw r g ((placeAt r cur len).1 + len) (b + 1) k

/-- The data space holds two frames of raw blocks, skip tails included, placed from its first byte (R159). -/
def holdsTwo (r : Ring) (g : StreamCfg) : Bool :=
  let p := placeRaw r g (placeRaw r g 0 0 (entriesOf g)) 0 (entriesOf g)
  decide (p ≤ dataSize r)

/-- The stream takes no configuration: it is neither UNCONFIGURED nor IDLE. -/
def streamBusy (x : Stream) : Bool := !(decide (x.st = .unconfigured) || decide (x.st = .idle))

/-- QRY_CONFIGURE_STREAM (R157, R158). -/
def opQryConfigureStream (c : Cmd) (_h : Half) (s : State) : Reply × State :=
  let n := pf c 2 5 0
  let g := cfgOf c
  let x := streamAt s n
  let misfit := match x.ring with
    | some r => decide (r.stride < entriesOf g) || !holdsTwo r g
    | none => false
  match firstErr (rsv c [(2, 0xFF0000C0), (3, 0xFFFC0000), (4, 0xFFF80000)] ++
      bad [(2, decide (g.width = 0 ∨ 32768 < g.width)), (3, decide (g.height = 0 ∨ 32768 < g.height)),
        (4, decide (2 ^ depthBits g.depth ≤ g.pad.toNat) || decide (5 < g.ashMode.toNat)),
        (5, decide (g.watchdog.toNat < 1024))] ++
      [(misfit, badParam 0x37 2), (streamBusy x, wrongState 0)]) with
  | some e => (e, s)
  | none => (ok, modStream s n fun x => { x with
      cfg := some g, st := if x.ring.isSome then .idle else .unconfigured
      reporting := { x.reporting with periods := [], closedFrames := 0 } })

/-- The regions of a ring as (address, length): control area, headers, indexes, list and buffers (R134). -/
def ringRegions (r : Ring) : List (Nat × Nat) :=
  [(r.ctrlBase, 0x40000), (r.hdrBase, 256 * slotCount r), (r.idxBase, 8 * r.stride * slotCount r),
   (r.listBase, 8 * r.bufs.length)] ++ r.bufs

/-- No region of the first list overlaps one of the second. -/
def apart (a b : List (Nat × Nat)) : Bool := a.all fun x => b.all fun y => !overlap x.1 x.2 y.1 y.2

/-- No two regions of a list overlap. -/
def disjoint : List (Nat × Nat) → Bool
  | [] => true
  | x :: t => apart [x] t && disjoint t

/-- The regions of every other ring in the same half. -/
def otherRegions (s : State) (h : Half) (n : Nat) : List (Nat × Nat) :=
  ((List.range 64).filterMap fun k =>
    if k = n then none else (streamAt s k).ring.bind fun r => if r.half = h then some (ringRegions r) else none).flatten

/-- The regions of a ring lie aligned in the half's DRAM, apart from one another and from every other ring's (R134). -/
def regionsOk (s : State) (n : Nat) (r : Ring) : Bool :=
  [r.ctrlBase, r.hdrBase, r.idxBase, r.listBase].all (fun a => decide (a % 4096 = 0)) &&
    (ringRegions r).all (fun x => backedRange (half s r.half).mem x.1 x.2) && disjoint (ringRegions r) &&
    apart (ringRegions r) (otherRegions s r.half n)

/-- Every buffer lies in regions whose CHANNEL_MASK is the ring's (R362). -/
def pinOk (s : State) (r : Ring) : Bool :=
  let m := (half s r.half).mem
  r.bufs.all fun b => (List.range ((b.1 + b.2 + 2 ^ 30 - 1) / 2 ^ 30 - b.1 / 2 ^ 30)).all fun i =>
    ((regionOf m (max b.1 ((b.1 / 2 ^ 30 + i) * 2 ^ 30))).map fun z => decide (z.mask = r.channelMask)).getD false

/-- The ring that QRY_CONFIGURE_RING names, with the stride and the segment number it starts from. -/
def ringNamed (s : State) (c : Cmd) (h : Half) (stride : Nat) (next : Word) : Ring :=
  let cnt := pf c 11 23 0
  { half := h, mode := BitVec.ofNat 2 (pf c 2 7 6), fullAction := pb c 2 9, pin := pb c 2 10
    channelMask := BitVec.ofNat 8 (pf c 2 23 16), ctrlBase := pq c 3, hdrBase := pq c 5, idxBase := pq c 7
    listBase := pq c 9, bufs := (readList s h (pq c 9) cnt).getD []
    listCrc := crc32c (dramRead s h (pq c 9) (8 * cnt)).1, slotsLog2 := pf c 12 4 0, stride
    pre := (dw c 13).toNat, post := (dw c 14).toNat, nextSegment := next }

/-! Re-attaching a ring (R155). -/

/-- Dwords of a record in DRAM. -/
def dramDwords (s : State) (h : Half) (a n : Nat) : List Word := bytesDwords n (dramRead s h a (4 * n)).1

/-- The 64-bit field in dwords `k` and `k + 1`. -/
def qword (ds : List Word) (k : Nat) : Nat := (ds.getD k 0).toNat + 2 ^ 32 * (ds.getD (k + 1) 0).toNat

/-- The control area that the command names can be attached (R155). -/
def attachOk (s : State) (c : Cmd) (h : Half) (n : Nat) : Bool :=
  let bs := (dramRead s h (pq c 3) 4096).1
  let ds := bytesDwords 1024 bs
  let cnt := pf c 11 23 0
  decide (fld (ds.getD 0 0) 15 0 = 0x5A1C) && decide (ds.getD 1023 0 = crc32c (bs.take 4092)) &&
    decide (fld (ds.getD 0 0) 29 24 = n) && decide (qword ds 2 = pq c 5) && decide (qword ds 4 = pq c 7) &&
    decide (qword ds 6 = pq c 9) && decide (fld (ds.getD 8 0) 23 0 = cnt) &&
    decide (fld (ds.getD 1 0) 16 12 = pf c 12 4 0) &&
    decide (ds.getD 12 0 = crc32c (dramRead s h (pq c 9) (8 * cnt)).1)

/-- The least position from `lo` on that is `v` in the data space. -/
def liftPos (size lo v : Nat) : Nat := lo + (v % size + size - lo % size) % size

/-- The frame in a header slot of a segment, with its logical start in the data space, if its MAGIC is valid. -/
def readFrame (s : State) (r : Ring) (number : Word) (dataStart slot : Nat) : Option Stored :=
  let hd := dramDwords s r.half (hdrAddr r slot) 64
  if fld (hd.getD 0 0) 15 0 = 0xF4A0 ∧ hd.getD 1 0 = number then
    let bytes := qword hd 22
    let cnt := (hd.getD 20 0).toNat
    let last := idxOf (dramRead s r.half (idxAddr r slot + 8 * (cnt - 1)) 8).1
    let end_ := dataStart + last.offset + last.length
    some { number := BitVec.ofNat 64 (qword hd 2), slot, start := (end_ + dataSize r * (bytes / dataSize r + 1) - bytes) % dataSize r
           bytes, ordinal := (hd.getD 27 0).toNat }
  else none

/-- Consecutive valid frames of a segment from a slot on. -/
def readFrames (s : State) (r : Ring) (number : Word) (dataStart slot : Nat) : Nat → List Stored
  | 0 => []
  | k + 1 =>
    match readFrame s r number dataStart slot with
    | some f => f :: readFrames s r number dataStart ((slot + 1) % slotCount r) k
    | none => []

/-- Segment table entry `k`, where it is open or frozen: an open one is frozen RECOVERED and ends at its last valid header. -/
def readSegment (s : State) (r : Ring) (k : Nat) : Option Segment :=
  let ds := dramDwords s r.half (r.ctrlBase + 0x1000 + 32 * k) 8
  let d1 := ds.getD 1 0
  let v := qword ds 6
  let open_ := decide (fld d1 1 0 = 1)
  if fld d1 1 0 = 1 ∨ fld d1 1 0 = 2 then
    let frames := readFrames s r (ds.getD 0 0) (v % 2 ^ 40) (ds.getD 5 0).toNat
      (if open_ then slotCount r else (ds.getD 4 0).toNat)
    some { number := ds.getD 0 0, st := .frozen, truncated := bitOf d1 2, shortPre := bitOf d1 3
           recovered := open_ || bitOf d1 4, triggers := BitVec.ofNat 16 (fld d1 31 16), frames, dataStart := v % 2 ^ 40
           trigOffset := BitVec.ofNat 24 (v / 2 ^ 40), slot := k, nextOrdinal := frames.length }
  else none

/-- Age of a segment among those of a ring: the smaller, the older (R143). -/
def segAge (next number : Word) : Nat := (number.toNat + (2 ^ 32 - 1) - next.toNat) % (2 ^ 32 - 1)

/-- Insert a segment by its age. -/
def insertSeg (next : Word) (g : Segment) : List Segment → List Segment
  | [] => [g]
  | x :: t => if segAge next g.number < segAge next x.number then g :: x :: t else x :: insertSeg next g t

/-- Frames with rising logical positions from `lo` on, and the end of the last. -/
def riseFrames (size : Nat) : Nat → List Stored → List Stored × Nat
  | lo, [] => ([], lo)
  | lo, f :: t =>
    let p := liftPos size lo f.start
    let (t', e) := riseFrames size (p + f.bytes) t
    ({ f with start := p } :: t', e)

/-- Segments with rising logical positions from `lo` on, and the end of the last. -/
def riseSegs (size : Nat) : Nat → List Segment → List Segment × Nat
  | lo, [] => ([], lo)
  | lo, g :: t =>
    let p := liftPos size lo g.dataStart
    let (fs, e) := riseFrames size p g.frames
    let (t', e') := riseSegs size e t
    ({ g with dataStart := p, frames := fs } :: t', e')

/-- Freeze what was open when the ring was lost: header flags, entry and event (R155); a segment without a complete frame
is not kept (R142). -/
def recoverSeg (s : State) (n : Nat) (g : Segment) : State :=
  let r := ringOf s n
  match g.frames.getLast? with
  | none =>
    let s1 := dramWrite s r.half (r.ctrlBase + 0x1000 + 32 * g.slot) (List.replicate 32 0)
    modRing s1 n fun r => { r with segs := r.segs.filter fun x => decide (x.number ≠ g.number) }
  | some last =>
    let s1 := g.frames.foldl (fun s f => patchHeader s n f.slot (orDword 0x28 0x40000)) s
    let s2 := writeSeg (patchHeader s1 n last.slot (orDword 0x28 0x20000)) n g.number
    if (streamAt s n).reporting.report = 0 then s2
    else streamEvent s2 n 0x2002 0 (BitVec.setWidth 64 g.number) g.frames.length
      (b2n g.truncated + 2 * b2n g.shortPre + 4) g.slot

/-- Read the segments of an accepted control area into the ring (R155). -/
def attachRing (s : State) (n : Nat) (r : Ring) : State :=
  let found := (List.range 4096).filterMap (readSegment s r)
  let opened := found.filter fun g => decide (fld (dramDwords s r.half (r.ctrlBase + 0x1000 + 32 * g.slot) 8).tail.head! 1 0 = 1)
  let (segs, e) := riseSegs (dataSize r) 0 (found.foldl (fun l g => insertSeg r.nextSegment g l) [])
  let last := ((segs.map (·.frames)).flatten).getLast?
  let r1 := { r with segs, writePos := e, nextSlot := ((last.map fun f => f.slot + 1).getD 0) % slotCount r }
  opened.foldl (fun s g => recoverSeg s n g) (modStream s n fun x => { x with ring := some r1 })

/-- QRY_CONFIGURE_RING (R134, R155, R158, R159, R362). -/
def opQryConfigureRing (c : Cmd) (h : Half) (s : State) : Reply × State :=
  let n := pf c 2 5 0
  let x := streamAt s n
  let cnt := pf c 11 23 0
  let mode := pf c 2 7 6
  let attach := pb c 2 8
  let good := attach && attachOk s c h n
  let ds := dramDwords s h (pq c 3) 14
  let g := x.cfg.getD {}
  let r := ringNamed s c h (if good then (ds.getD 9 0).toNat else entriesOf g) (if good then ds.getD 13 0 else 0)
  let slots := slotCount r
  let known := x.cfg.isSome && x.bind.isSome && (!attach || good)
  match firstErr (rsv c [(2, if pb c 2 10 then 0xFF00F800 else 0xFFFFF800), (11, 0xFF000000), (12, 0xFFFFFFE0)] ++
      bad [(2, decide (mode = 3)), (11, decide (cnt < 2)), (12, decide (r.slotsLog2 < 4 ∨ 24 < r.slotsLog2)),
        (14, decide (mode = 2) && decide (r.post = 0))] ++
      [((readList s h (pq c 9) cnt).isNone || (known && !regionsOk s n r), badParam 0x32 3),
       (r.pin && !pinOk s r, badParam 0x70 2),
       (known && (decide (r.stride < entriesOf g) || !holdsTwo r g), badParam 0x37 11),
       (decide (mode = 1) && decide (slots < r.pre + r.post + 2), badParam 0x37 13),
       (decide (mode = 2) && decide (slots < r.post + 1), badParam 0x37 14),
       (x.cfg.isNone || x.bind.isNone, wrongState 0x30), (streamBusy x, wrongState 0),
       (((x.ring.map frozenSegs).getD []).isEmpty = false, wrongState 0x34), (attach && !good, wrongState 0x35)] ++
      dramChecks s h) with
  | some e => (e, s)
  | none =>
    let s1 := modStream s n fun x => { x with ring := some r, st := .idle, armed := false, oneshot := false, writing := [] }
    (ok, if attach then writeDesc (attachRing s1 n r) n
      else writeDesc (dramWrite s1 h (r.ctrlBase + 0x1000) (List.replicate (32 * 4096) 0)) n)

/-! Start, stop, arm (R132, R148). -/

/-- The stream has a ring. -/
def noRing (s : State) (n : Nat) : Bool := (streamAt s n).ring.isNone

/-- QRY_START_STREAM (R132). -/
def opQryStartStream (c : Cmd) (h : Half) (s : State) : Reply × State :=
  let n := pf c 2 5 0
  let x := streamAt s n
  match firstErr (rsv c [(2, 0xFFFFFFC0)] ++ dramChecks s h ++
      [(decide (x.st = .unconfigured) || x.bind.isNone, wrongState 0x30), (decide (x.st ≠ .idle), wrongState 0)]) with
  | some e => (e, s)
  | none => (.deferred 1, stage (modStream s n fun x => { x with st := .starting }) c .qryStartStream h (.streamStart n))

/-- QRY_STOP_STREAM (R132, R142, R144). -/
def opQryStopStream (c : Cmd) (h : Half) (s : State) : Reply × State :=
  let n := pf c 2 5 0
  let x := streamAt s n
  match firstErr (rsv c [(2, 0xFFFFFFC0)] ++
      [(decide (x.st = .unconfigured), wrongState 0x30),
       (!(decide (x.st = .capturing) || decide (x.st = .halted)), wrongState 0)]) with
  | some e => (e, s)
  | none =>
    if x.st = .halted then
      (.deferred 1, stage (stopped s n) c .qryStopStream h (.now (x.lastStored.getD noPoint) n))
    else
      (.deferred 1, stage (modStream s n fun x => { x with st := .stopping, stopAt := x.openFrame.map (·.number) }) c
        .qryStopStream h (.streamEnd n))

/-- QRY_ARM (R148). -/
def opQryArm (c : Cmd) (_h : Half) (s : State) : Reply × State :=
  let n := pf c 2 5 0
  match firstErr (rsv c [(2, 0xFFFFFCC0)] ++ [(noRing s n, wrongState 0x30)]) with
  | some e => (e, s)
  | none => (ok, modStream s n fun x => { x with armed := pb c 2 8, oneshot := pb c 2 9 })

/-! Reading frames back (R150 to R152). -/

/-- The record of a frame that is not in the ring (R150). -/
def absentRecord (f : Count64) : List Byte :=
  dwordBytes ([0, 0, lo32 f.toNat, hi32 f.toNat] ++ List.replicate 60 0)

/-- The blocks of a record packed without tails: entries with their positions in the record's data, and the data. -/
def packBlocks (s : State) (r : Ring) (segStart : Nat) : List IndexEntry → Nat → List IndexEntry × List Byte × Bool
  | [], _ => ([], [], false)
  | e :: t, pos =>
    let (bs, p) := if e.length = 0 then ([], false) else dramRead s r.half (locateIn r (segStart + e.offset)).1 e.length
    let (es, ds, q) := packBlocks s r segStart t (pos + e.length)
    ({ e with offset := pos, skip := false } :: es, bs ++ ds, p || q)

/-- The record of a stored frame: header, index, blocks; and whether poisoned data were read (R150). -/
def frameRecord (s : State) (r : Ring) (f : Stored) : List Byte × Bool :=
  let (hd, p) := dramRead s r.half (hdrAddr r f.slot) 256
  let cnt := leNat ((hd.drop 0x50).take 4)
  let (ix, q) := dramRead s r.half (idxAddr r f.slot) (8 * cnt)
  let es := (List.range cnt).map fun i => idxOf ((ix.drop (8 * i)).take 8)
  let (es', data, w) := packBlocks s r (segStartOf r f) es 0
  let hd' := putAt (putAt hd 0x48 (leBytes 8 256)) 0x58 (leBytes 8 data.length)
  (sealHeader (hd'.take 252) ++ (es'.map idxBytes).flatten ++ data, p || q || w)

/-- The record that a QRY_READ copies next, and whether its frame is present. -/
def readNext (s : State) (rd : QryRead) : QryRead :=
  let r := ringOf s (pf rd.cmd 2 5 0)
  match storedFrame r rd.next with
  | some f =>
    let (bs, p) := frameRecord s r f
    { rd with record := (bs, true), poison := rd.poison || p }
  | none => { rd with record := (absentRecord rd.next, false) }

/-- The buffer holds the record about to be copied. -/
def readFits (rd : QryRead) : Bool := decide (rd.at_ + rd.record.1.length ≤ 4096 * (dw rd.cmd 8).toNat)

/-- The answer of a QRY_READ with a status (R150). -/
def readReply (rd : QryRead) (st : BitVec 16) (reason : BitVec 8) : Reply :=
  .done st reason 0xFFFF (BitVec.ofNat 32 rd.copied) (BitVec.ofNat 32 rd.absent) (BitVec.ofNat 32 rd.written)

/-- QRY_READ (R150). -/
def opQryRead (c : Cmd) (h : Half) (s : State) : Reply × State :=
  match firstErr (rsv c [(2, 0xFFFFFFC0)] ++ bad [(5, decide ((dw c 5).toNat = 0)), (6, decide (pq c 6 % 8 ≠ 0))] ++
      dramChecks s h ++ [(noRing s (pf c 2 5 0), wrongState 0x30)]) with
  | some e => (e, s)
  | none =>
    let rd := readNext s { cmd := c, half := h, next := BitVec.ofNat 64 (pq c 3), left := (dw c 5).toNat }
    if readFits rd then (.running, { s with reads := s.reads ++ [rd] }) else (readReply rd stOutputExhausted 0, s)

/-- A QRY_READ ends with an answer. -/
def readEnds (s : State) (rd : QryRead) (r : Reply) : State :=
  finish { s with reads := s.reads.filter fun x => decide (x.cmd.serial ≠ rd.cmd.serial) } rd.cmd rd.half r

/-- QRY_READ_RECORD_COPIED: the record is written, the frame's header read again, and the next record begun (R150, R151). -/
def recordCopied (s : State) (rd : QryRead) : State :=
  let r := ringOf s (pf rd.cmd 2 5 0)
  let here := rd.record.2 && (storedFrame r rd.next).isSome
  let bs := if here then rd.record.1 else absentRecord rd.next
  match hostWrite s (pq rd.cmd 6 + rd.at_) bs with
  | none => readEnds s rd (readReply rd stDataCorrupt 0x04)
  | some s1 =>
    let rd1 := { rd with
      copied := rd.copied + b2n here, absent := rd.absent + b2n (!here), at_ := rd.at_ + (bs.length + 7) / 8 * 8
      written := rd.written + bs.length, next := rd.next + 1, left := rd.left - 1 }
    if rd1.left = 0 then
      readEnds s1 rd1 (if rd1.poison then readReply rd1 stDataCorrupt 0x71 else readReply rd1 stOk 0)
    else
      let rd2 := readNext s1 rd1
      if readFits rd2 then
        { s1 with reads := s1.reads.map fun x => if x.cmd.serial = rd.cmd.serial then rd2 else x }
      else readEnds s1 rd2 (readReply rd2 stOutputExhausted 0)

/-- QRY_READ_RECORD_COPIED (R150). -/
def execQryReadRecordCopied (recv : Half) (tag : BitVec 16) (s : State) : Host.Outcome State Fault Refusal :=
  actIf true s (match s.reads.find? fun x => decide (x.cmd.recv = recv ∧ x.cmd.tag = tag) with
    | some rd => recordCopied s rd
    | none => s)

/-- QRY_GET_SEGMENTS (R145). -/
def opQryGetSegments (c : Cmd) (h : Half) (s : State) : Reply × State :=
  let n := pf c 2 5 0
  let first := pf c 3 11 0
  let cnt := pf c 3 24 12
  match firstErr (rsv c [(2, 0xFFFFFFC0), (3, 0xFE000000)] ++
      bad [(3, decide (cnt = 0 ∨ 4096 < first + cnt)), (4, decide (pq c 4 % 32 ≠ 0))] ++ dramChecks s h ++
      [(noRing s n, wrongState 0x30)]) with
  | some e => (e, s)
  | none =>
    let r := ringOf s n
    let (bs, p) := dramRead s r.half (r.ctrlBase + 0x1000 + 32 * first) (32 * cnt)
    copyOut s (pq c 4) bs p ok

/-- Release segments, and let a HALTED ring go on (R132, R160). -/
def releaseAll (s : State) (n : Nat) (gs : List Segment) : State :=
  if gs.isEmpty then s
  else modRing (gs.foldl (fun s g => releaseSeg s n g 0) s) n fun r => { r with full := false }

/-- QRY_RELEASE (R160). -/
def opQryRelease (c : Cmd) (h : Half) (s : State) : Reply × State :=
  let n := pf c 2 5 0
  let k := dw c 3
  let all := decide (k = 0xFFFFFFFF)
  let gs := (frozenSegs (ringOf s n)).filter fun g => all || decide (g.number = k)
  match firstErr (rsv c [(2, 0xFFFFFFC0)] ++ dramChecks s h ++
      [(noRing s n && !all, wrongState 0x30), (gs.isEmpty && !all, wrongState 0)]) with
  | some e => (e, s)
  | none => (ok, releaseAll s n gs)

/-- QRY_LOCATE (R152). -/
def opQryLocate (c : Cmd) (h : Half) (s : State) : Reply × State :=
  let r := ringOf s (pf c 2 5 0)
  match firstErr (rsv c [(2, 0xFFFFFFC0)] ++ dramChecks s h) with
  | some e => (e, s)
  | none =>
    match storedFrame r (BitVec.ofNat 64 (pq c 3)) with
    | none => (wrongState 0x31, s)
    | some f => (okWith (lo32 (hdrAddr r f.slot)) (hi32 (hdrAddr r f.slot)) (BitVec.ofNat 32 f.slot), s)

/-! Host marks, status, reporting (R149, R153, R161). -/

/-- Write a mark into a stored header. -/
def markStored (s : State) (n : Nat) (f : Stored) (mark : Count64) : State :=
  patchHeader s n f.slot fun bs => orDword 0x28 0x4000 (putAt bs 0x10 (leBytes 8 mark.toNat))

/-- QRY_SET_HOST_MARK in MODE 0: the mark of frame F (R149). -/
def markFrame (s : State) (n : Nat) (f mark : Count64) : Reply × State :=
  let x := streamAt s n
  let s1 := modStream s n fun x => { x with
    openFrame := x.openFrame.map fun o => if o.number = f then { o with mark := some mark } else o
    writing := x.writing.map fun w => if w.number = f then { w with mark := some mark } else w }
  let opened := match x.frame with
    | some k => decide (f.toNat ≤ k.toNat)
    | none => false
  match storedFrame (ringOf s n) f with
  | some z => (ok, markStored s n z mark)
  | none =>
    if (x.openFrame.map (·.number)) = some f ∨ x.writing.any (fun w => decide (w.number = f)) = true then (ok, s1)
    else if opened then (wrongState 0x31, s)
    else
      let rest := x.marks.filter fun m => decide (m.1 ≠ f)
      if 256 ≤ rest.length then (err stNoMemory 0, s)
      else (ok, modStream s n fun x => { x with marks := rest ++ [(f, mark)] })

/-- QRY_SET_HOST_MARK (R149). -/
def opQrySetHostMark (c : Cmd) (h : Half) (s : State) : Reply × State :=
  let n := pf c 2 5 0
  let mode := pf c 2 9 8
  let mark := BitVec.ofNat 64 (pq c 3)
  match firstErr (rsv c [(2, 0xFFFFFCC0)] ++ bad [(2, decide (mode = 3))] ++ dramChecks s h) with
  | some e => (e, s)
  | none =>
    if mode = 0 then markFrame s n (BitVec.ofNat 64 (pq c 5)) mark
    else (ok, modStream s n fun x => { x with sticky := if mode = 1 then some mark else none })

/-- SSTATE code (R161). -/
def streamCode : StreamState → Nat
  | .unconfigured => 0
  | .idle => 1
  | .starting => 2
  | .capturing => 3
  | .stopping => 4
  | .halted => 5

/-- The ring status record (R161). -/
def ringRecord (s : State) (n : Nat) : List Word :=
  let x := streamAt s n
  let r := ringOf s n
  let k := x.counts
  let frozen := frozenSegs r
  let held := ((frozen.map (·.frames)).flatten.map (·.bytes)).sum
  let openNo := ((r.segs.filter fun g => decide (g.st = .segOpen)).getLast?.map (·.number)).getD 0xFFFFFFFF
  let oldest := ((storedFrames r).head?.map (·.number)).getD noPoint
  let unmapped := ((x.bind.map fun b => (tget s.rx b.link).unmapped)).getD 0
  [pack [(0, streamCode x.st), (3, b2n x.armed), (4, b2n (decide (x.reporting.report ≠ 0) && !x.reporting.perFrame)),
     (16, frozen.length)], openNo, lo32 oldest.toNat, hi32 oldest.toNat, lo32 (newestOf r).toNat, hi32 (newestOf r).toNat,
   lo32 (dataSize r - held), hi32 (dataSize r - held), k.flagged, k.orphanLines, unmapped,
   pack [(0, k.busyTriggers.toNat), (16, k.unarmedTriggers.toNat)], k.overloadFrames,
   BitVec.ofNat 32 (framePeriod x.reporting), 0, 0]

/-- QRY_GET_STATUS (R161). -/
def opQryGetStatus (c : Cmd) (_h : Half) (s : State) : Reply × State :=
  match firstErr (rsv c [(2, 0xFFFFFFC0)] ++ bad [(3, decide (pq c 3 % 32 ≠ 0))]) with
  | some e => (e, s)
  | none => writeRecord s c (pq c 3) (dwordBytes (ringRecord s (pf c 2 5 0))) ok

/-- QRY_SET_REPORTING (R153). -/
def opQrySetReporting (c : Cmd) (_h : Half) (s : State) : Reply × State :=
  let n := pf c 2 5 0
  let l := pf c 2 16 12
  match firstErr (rsv c [(2, 0xFFFE03C0)] ++ bad [(2, decide (pf c 2 11 10 = 3) || decide (l < 10 ∨ 24 < l))]) with
  | some e => (e, s)
  | none => (ok, reportingMode (modStream s n fun x => { x with
      reporting := { x.reporting with report := BitVec.ofNat 2 (pf c 2 11 10), progressLog2 := l } }) n)

/-- QRY_PROGRESS: 2^PROGRESS_LOG2 frames captured since the last report (R153). -/
def execQryProgress (stream : Nat) (s : State) : Host.Outcome State Fault Refusal :=
  let p := (streamAt s stream).reporting
  act (.qryProgress stream) s
    (if p.report ≠ 0 ∧ p.perFrame = false ∧ 2 ^ p.progressLog2 ≤ p.sinceReport then
      streamEvent (modStream s stream fun x => { x with reporting := { x.reporting with sinceReport := 0, flaggedSince := 0 } })
        stream 0x2004 0 (newestOf (ringOf s stream)) p.sinceReport p.flaggedSince 0
    else s)

/-! Rows of the commands. -/

/-- QRY_CONFIGURE_STREAM (R157). -/
def execQryConfigureStream (c : Cmd) (s : State) : Host.Outcome State Fault Refusal := submit (.qryConfigureStream c) .qryConfigureStream opQryConfigureStream c s

/-- QRY_CONFIGURE_RING (R159). -/
def execQryConfigureRing (c : Cmd) (s : State) : Host.Outcome State Fault Refusal := submit (.qryConfigureRing c) .qryConfigureRing opQryConfigureRing c s

/-- QRY_START_STREAM (R132). -/
def execQryStartStream (c : Cmd) (s : State) : Host.Outcome State Fault Refusal := submit (.qryStartStream c) .qryStartStream opQryStartStream c s

/-- QRY_STOP_STREAM (R132). -/
def execQryStopStream (c : Cmd) (s : State) : Host.Outcome State Fault Refusal := submit (.qryStopStream c) .qryStopStream opQryStopStream c s

/-- QRY_SET_TRIGGER_RULE (R146). -/
def execQrySetTriggerRule (c : Cmd) (s : State) : Host.Outcome State Fault Refusal := submit (.qrySetTriggerRule c) .qrySetTriggerRule opQrySetTriggerRule c s

/-- QRY_ARM (R148). -/
def execQryArm (c : Cmd) (s : State) : Host.Outcome State Fault Refusal := submit (.qryArm c) .qryArm opQryArm c s

/-- QRY_TRIGGER (R148). -/
def execQryTrigger (c : Cmd) (s : State) : Host.Outcome State Fault Refusal := submit (.qryTrigger c) .qryTrigger opQryTrigger c s

/-- QRY_READ (R150). -/
def execQryRead (c : Cmd) (s : State) : Host.Outcome State Fault Refusal := submit (.qryRead c) .qryRead opQryRead c s

/-- QRY_GET_SEGMENTS (R145). -/
def execQryGetSegments (c : Cmd) (s : State) : Host.Outcome State Fault Refusal := submit (.qryGetSegments c) .qryGetSegments opQryGetSegments c s

/-- QRY_RELEASE (R160). -/
def execQryRelease (c : Cmd) (s : State) : Host.Outcome State Fault Refusal := submit (.qryRelease c) .qryRelease opQryRelease c s

/-- QRY_SET_HOST_MARK (R149). -/
def execQrySetHostMark (c : Cmd) (s : State) : Host.Outcome State Fault Refusal := submit (.qrySetHostMark c) .qrySetHostMark opQrySetHostMark c s

/-- QRY_GET_STATUS (R161). -/
def execQryGetStatus (c : Cmd) (s : State) : Host.Outcome State Fault Refusal := submit (.qryGetStatus c) .qryGetStatus opQryGetStatus c s

/-- QRY_SET_REPORTING (R153). -/
def execQrySetReporting (c : Cmd) (s : State) : Host.Outcome State Fault Refusal := submit (.qrySetReporting c) .qrySetReporting opQrySetReporting c s

/-- QRY_LOCATE (R152). -/
def execQryLocate (c : Cmd) (s : State) : Host.Outcome State Fault Refusal := submit (.qryLocate c) .qryLocate opQryLocate c s

end Sys2Proof.Machine
end

