-- ==== Sys2Proof/Machine/PipeCmd.lean ====
section
/-! DEFINITION. The PIPE_ commands of contexts, the slot table and the sensor corrections (R202 to R243). -/

namespace Sys2Proof.Machine

/-- A context that is CLOSED, or a stream that is not OPEN where it must be: reason 0x48 (R203, R206). -/
def notState (s : State) (n : Nat) (sts : List CtxState) : Bool × Reply := (!sts.contains (ctxAt s n).st, wrongState 0x48)

/-- Every state but CLOSED. -/
def anyOpen : List CtxState := [.open_, .starting, .running, .stopping]

/-! PIPE_OPEN_CONTEXT (R203, R217, R223, R241). -/

/-- The context that PIPE_OPEN_CONTEXT names. -/
def ctxNamed (c : Cmd) : Context :=
  let prio := BitVec.ofNat 3 (pf c 2 10 8)
  { st := .open_, span := pb c 2 5, half := (halfOfCode (pf c 2 7 6)).getD .A, quarry := pb c 2 11, cfa := pf c 2 14 12
    seamX := pf c 2 31 16, width := pf c 3 15 0, height := pf c 3 31 16, ax := pf c 4 15 0, ay := pf c 4 31 16
    aw := pf c 5 15 0, ah := pf c 5 31 16, divisor := pf c 6 31 16, maxLag := (dw c 7).toNat
    ha := { prio, share := pf c 6 6 0 }, hb := { prio, share := pf c 6 14 8 } }

/-- The active window is valid (R241). -/
def activeOk (x : Context) : Bool :=
  x.ax % 2 = 0 && x.ay % 2 = 0 && x.aw % 2 = 0 && x.ah % 2 = 0 && decide (16 ≤ x.aw) && decide (16 ≤ x.ah) &&
    decide (x.ax + x.aw ≤ x.width) && decide (x.ay + x.ah ≤ x.height)

/-- The seam position is valid (R223). -/
def seamOk (x : Context) : Bool := x.seamX % 2 = 0 && decide (x.ax + 64 ≤ x.seamX) && decide (x.seamX + 64 ≤ x.ax + x.aw)

/-- The share of a half is as the context's class and source need it (R217, R241). -/
def shareOk (x : Context) (h : Half) : Bool :=
  let v := (ctxPart x h).share
  if x.quarry || !ctxIn x h then decide (v = 0) else decide (1 ≤ v ∧ v ≤ 64)

/-- Open contexts in a half. -/
def openIn (s : State) (h : Half) : List Context := s.ctxs.toList.filter fun x => ctxIn x h

/-- PIPE_OPEN_CONTEXT. -/
def opPipeOpenContext (c : Cmd) (_h : Half) (s : State) : Reply × State :=
  let n := pf c 2 4 0
  let x := ctxNamed c
  let code := pf c 2 7 6
  let hs := halvesOf x
  match firstErr (rsv c [(2, 0x8000), (6, 0x8080)] ++
      bad [(2, decide (4 < x.cfa) || (if x.span then decide (code ≠ 0) else decide (code ≠ 1 ∧ code ≠ 2) || decide (x.seamX ≠ 0))),
        (3, decide (x.width < 2 ∨ 32768 < x.width ∨ x.width % 2 ≠ 0 ∨ x.height < 2 ∨ 32768 < x.height ∨ x.height % 2 ≠ 0))] ++
      [(!activeOk x, badParam 0x4E 4), (x.span && !seamOk x, badParam 0x4B 2),
       (!shareOk x .A || !shareOk x .B, badParam 0x4D 6)] ++ bad [(6, decide (x.divisor = 0))] ++
      [(decide ((ctxAt s n).st ≠ .closed), wrongState 0x48),
       (hs.any fun h => decide (16 ≤ (openIn s h).length), err stNoMemory 0),
       (hs.any fun h => decide (64 < (ctxPart x h).share + ((openIn s h).map fun y => (ctxPart y h).share).sum),
        err stNoMemory 0x4D)]) with
  | some e => (e, s)
  | none => (ok, modCtx s n fun _ => x)

/-! PIPE_SET_SOURCE (R204, R205). -/

/-- Picture rectangle of a source: column, row, width, height. -/
def srcRect (s : State) (z : Source) : Nat × Nat × Nat × Nat := (z.x, z.y, (srcGeom s z).1, (srcGeom s z).2.1)

/-- Two rectangles share a pixel. -/
def rectsMeet (a b : Nat × Nat × Nat × Nat) : Bool :=
  decide (a.1 < b.1 + b.2.2.1 ∧ b.1 < a.1 + a.2.2.1 ∧ a.2.1 < b.2.1 + b.2.2.2 ∧ b.2.1 < a.2.1 + a.2.2.2)

/-- The placement of a source breaks none of the rules of R204. -/
def placedOk (s : State) (x : Context) (h : Half) (index : Nat) (z : Source) : Bool :=
  let (px, py, w, hh) := srcRect s z
  let others := (halvesOf x).flatMap fun k =>
    (List.range 8).filterMap fun i => if k = h ∧ i = index then none else tget (ctxPart x k).sources i
  px % 2 = 0 && py % 2 = 0 && decide (px + w ≤ x.width) && decide (py + hh ≤ x.height) &&
    (others.all fun o => !rectsMeet (srcRect s z) (srcRect s o)) &&
    (!x.span || if h = .A then decide (px + w ≤ x.seamX) else decide (x.seamX ≤ px))

/-- PIPE_SET_SOURCE. -/
def opPipeSetSource (c : Cmd) (_h : Half) (s : State) : Reply × State :=
  let n := pf c 2 4 0
  let i := pf c 2 7 5
  let k := pf c 2 13 8
  let x := ctxAt s n
  let z : Source := { stream := k, x := pf c 3 15 0, y := pf c 3 31 16, fnOffset := signed 32 (dw c 4).toNat }
  let remove := pb c 2 14
  let own := (streamHalf s k).getD .A
  match firstErr ([((streamHalf s k).isSome && decide (x.st ≠ .closed) && !(halvesOf x).contains own, badTarget)] ++
      rsv c [(2, 0xFFFF8000)] ++
      bad [(4, !remove && decide (i = 0) && decide (own = refHalf s x) && decide (z.fnOffset ≠ 0))] ++
      [(!remove && decide (x.st ≠ .closed) && (streamAt s k).cfg.isSome && !placedOk s x own i z, badParam 0x49 3),
       notState s n [.open_],
       ((streamHalf s k).isNone || (!remove && decide ((streamAt s k).st = .unconfigured)), wrongState 0x30)]) with
  | some e => (e, s)
  | none => (ok, modPart s n own fun p => { p with sources := tset p.sources i (if remove then none else some z) })

/-! PIPE_START_CONTEXT, PIPE_STOP_CONTEXT, PIPE_CLOSE_CONTEXT (R204 to R206, R218, R221). -/

/-- The sources cover the picture and agree in DEPTH, and the reference source is there (R204, R205). -/
def sourcesOk (s : State) (x : Context) : Bool :=
  let zs := allSources x
  let rs := zs.map (srcRect s)
  let area := (rs.map fun r => r.2.2.1 * r.2.2.2).sum
  (refSource s x).isSome && ((refSource s x).map fun z => decide (z.fnOffset = 0)).getD false &&
    (zs.all fun z => (streamAt s z.stream).cfg.isSome && decide ((srcGeom s z).2.2 = bandDepth s x)) &&
    (rs.all fun r => decide (r.1 + r.2.2.1 ≤ x.width ∧ r.2.1 + r.2.2.2 ≤ x.height)) &&
    ((List.range rs.length).all fun i => (List.range i).all fun j => !rectsMeet (rs.getD i (0, 0, 0, 0)) (rs.getD j (0, 0, 0, 0))) &&
    decide (area = x.width * x.height)

/-- The first frame that a context takes: the first of which every source frame opens, or for a Quarry context closes,
after it leaves OPEN (R217, R221). -/
def firstFrame (s : State) (x : Context) : Count64 :=
  let first := fun (z : Source) =>
    let st := streamAt s z.stream
    match st.frame with
    | none => (0 : Count64)
    | some c => ctxFrameOf z (if x.quarry ∧ st.openFrame.isSome then c else c + 1)
  BitVec.ofNat 64 (((allSources x).map fun z => (first z).toNat).foldl max 0)

/-- START_FRAME of the command. -/
def startFrame (c : Cmd) : Count64 := BitVec.ofNat 64 (pq c 3)

/-- PIPE_START_CONTEXT. -/
def opPipeStartContext (c : Cmd) (h : Half) (s : State) : Reply × State :=
  let n := pf c 2 4 0
  let x := ctxAt s n
  let f := startFrame c
  let play := decide (f ≠ noPoint)
  let count := (dw c 5).toNat
  match firstErr (rsv c [(2, 0xFFFFFFE0)] ++ bad [(3, play && decide (x.st ≠ .closed) && !x.quarry)] ++
      [notState s n [.open_], (!sourcesOk s x, wrongState 0x4A),
       (!x.quarry && (halvesOf x).any fun k => decide ((ctxPart x k).share * 2 ^ 20 < frameNeed s x k), err stNoMemory 0x4D)]) with
  | some e => (e, s)
  | none =>
    let s1 := modCtx s n fun x => { x with
      st := .starting, from_ := if play then none else some (firstFrame s x), play := if play then some f else none
      playLeft := if play ∧ count ≠ 0 then some count else none, played := 0, skipped := 0
      ha := { x.ha with held := false }, hb := { x.hb with held := false } }
    let s2 := if play then (halvesOf x).foldl (fun s k =>
        reportSide (modPart s n k fun p => { p with frames := insertFrame { f, quarry := true } p.frames }) n k f) s1
      else s1
    (.deferred 1, stage s2 c .pipeStartContext h (.contextFrame (refHalf s x) n))

/-- PIPE_STOP_CONTEXT. -/
def opPipeStopContext (c : Cmd) (h : Half) (s : State) : Reply × State :=
  let n := pf c 2 4 0
  let x := ctxAt s n
  match firstErr (rsv c [(2, 0xFFFFFFE0)] ++ [notState s n [.running]]) with
  | some e => (e, s)
  | none =>
    if x.latched.isEmpty then
      let last := (ctxPart x (refHalf s x)).counts.lastFrame
      (.deferred 1, stage (backToOpen s n) c .pipeStopContext h (.now last (refStream s x)))
    else
      (.deferred 1, stage (modCtx s n fun x => { x with st := .stopping }) c .pipeStopContext h
        (.contextFrame (refHalf s x) n))

/-- A staged change names context `n`. -/
def ofCtx (n : Nat) (x : Staged) : Bool :=
  match x.key with
  | .contextFrame _ k => decide (k = n)
  | .epoch _ => decide (x.op ≠ .pipeSetSlotTime) && decide (pf x.cmd 2 4 0 = n)
  | _ => false

/-- One staged entry for each submission: the first. -/
def oncePer : List Staged → List Staged
  | [] => []
  | x :: t => x :: (oncePer t).filter fun y => decide (y.cmd.serial ≠ x.cmd.serial)

/-- A context closes: it holds nothing, and the changes staged for it are withdrawn (R206; DESIGN CHOICE 54). -/
def closeCtx (s : State) (n : Nat) : State :=
  let mine := oncePer (s.staged.filter (ofCtx n))
  let s1 := withdrawAll mine { s with staged := s.staged.filter fun x => !ofCtx n x }
  let s2 := modCtx s1 n fun _ => {}
  { s2 with
    statLast := tset s2.statLast n none
    contentTrigs := s2.contentTrigs.map fun t => if t.ctx = n then { t with enable := false } else t }

/-- PIPE_CLOSE_CONTEXT. -/
def opPipeCloseContext (c : Cmd) (_h : Half) (s : State) : Reply × State :=
  let n := pf c 2 4 0
  match firstErr (rsv c [(2, 0xFFFFFFE0)] ++ [notState s n [.open_]]) with
  | some e => (e, s)
  | none => (ok, closeCtx s n)

/-! The slot table (R211, R214, R216). -/

/-- Stage a slot setting in each half of a context. -/
def stageEpochs (s : State) (c : Cmd) (op : Op) (h : Half) (n : Nat) : State :=
  (halvesOf (ctxAt s n)).foldl (fun s k => stage s c op h (.epoch k)) s

/-- PIPE_SET_SLOT_MASK. -/
def opPipeSetSlotMask (c : Cmd) (h : Half) (s : State) : Reply × State :=
  let n := pf c 2 4 0
  match firstErr (rsv c [(2, 0xFFFFFFE0)] ++ [notState s n anyOpen]) with
  | some e => (e, s)
  | none => (.deferred 2, stageEpochs s c .pipeSetSlotMask h n)

/-- PIPE_SET_PRIORITY. -/
def opPipeSetPriority (c : Cmd) (h : Half) (s : State) : Reply × State :=
  let n := pf c 2 4 0
  match firstErr (rsv c [(2, 0xFFFFF8E0)] ++ [notState s n anyOpen]) with
  | some e => (e, s)
  | none => (.deferred 2, stageEpochs s c .pipeSetPriority h n)

/-- PIPE_SET_SLOT_TIME. -/
def opPipeSetSlotTime (c : Cmd) (h : Half) (s : State) : Reply × State :=
  match firstErr (rsv c [(2, 0xFC)] ++
      bad [(2, decide (halfOfCode (pf c 2 1 0) ≠ some h) || decide (pf c 2 31 8 < 1200))]) with
  | some e => (e, s)
  | none => (.deferred 2, stage s c .pipeSetSlotTime h (.epoch h))

/-! PIPE_GET_CONTEXT_STATUS (R243). -/

/-- CSTATE code. -/
def ctxCode : CtxState → Nat
  | .closed => 0
  | .open_ => 1
  | .starting => 2
  | .running => 3
  | .stopping => 4

/-- The context status record of a half; LOAD depends on time, which the model does not hold: a free value (R243). -/
def ctxRecord (s : State) (n : Nat) (h : Half) (k : Nat) : List Word :=
  let x := ctxAt s n
  let p := ctxPart x h
  let q := p.counts
  let waiting := (p.frames.filter fun r => frameWaits s x h r).length
  [pack [(0, n), (5, b2n x.span), (6, halfNum h), (8, ctxCode x.st), (11, b2n (decide (p.mask = 0) && decide (0 < waiting))),
     (12, p.prio.toNat)],
   q.dynDefects, lo32 p.mask.toNat, hi32 p.mask.toNat, lo32 q.lastFrame.toNat, hi32 q.lastFrame.toNat, q.framesDone,
   q.fallbacks, q.lagSkipped, q.sourceLost, q.starvedFrames, q.switches, q.borrowed,
   pack [(0, min waiting 0xFFFF), (16, q.lsPeak.toNat)], q.unrepaired, BitVec.ofNat 32 (Config.freeNat k % 65536)]

/-- The records of each half occupied, half A first, with a free value for each. -/
def ctxRecords (s : State) (n : Nat) : List Half → List Word × State
  | [] => ([], s)
  | h :: t =>
    let (k, s1) := fresh s
    let (ws, s2) := ctxRecords s1 n t
    (ctxRecord s n h k ++ ws, s2)

/-- PIPE_GET_CONTEXT_STATUS. -/
def opPipeGetContextStatus (c : Cmd) (_h : Half) (s : State) : Reply × State :=
  let n := pf c 2 4 0
  match firstErr (rsv c [(2, 0xFFFFFFE0)] ++ bad [(3, decide (pq c 3 % 32 ≠ 0))] ++ [notState s n anyOpen]) with
  | some e => (e, s)
  | none =>
    let (ws, s1) := ctxRecords s n (halvesOf (ctxAt s n))
    writeRecord s1 c (pq c 3) (dwordBytes ws) ok

/-! PIPE_SET_STREAM_CORR and PIPE_SET_CONTEXT_CORR (R242). -/

/-- Read a table in host memory where it is needed; none where the read fails (R242). -/
def readTable (s : State) (need : Bool) (addr len : Nat) : Option (List Byte) :=
  if need then hostRead s addr len else some []

/-- An address in a half's DRAM is misplaced; 0 disables what it names where `off` allows that. -/
def misplaced (m : HalfMem) (off : Bool) (addr align len : Nat) : Bool :=
  !(off && decide (addr = 0)) && (decide (addr % align ≠ 0) || !backedRange m addr len)

/-- PIPE_SET_STREAM_CORR. -/
def opPipeSetStreamCorr (c : Cmd) (h : Half) (s : State) : Reply × State :=
  let n := pf c 2 5 0
  let sel := fun (i : Nat) => pb c 2 (8 + i)
  let m := (half s h).mem
  let g := (streamAt s n).cfg.getD {}
  let lut := readTable s (sel 0) (pq c 3) 16384
  let xt := readTable s (sel 2) (pq c 12) 200
  let rs := fun (i : Nat) (ms : List (Nat × Word)) => if sel i then rsv c ms else []
  match firstErr (rsv c [(2, 0xFFC0C0C0)] ++ rs 1 [(5, 0xF8000000), (6, 0xFF000000), (7, 0xFF000000), (8, 0xFF000000), (9, 0xFF000000)] ++
      rs 3 [(14, 0xFF00FE00)] ++ rs 4 [(18, 0xFFFF0000)] ++ rs 5 [(25, 0xFF000000), (26, 0xFFFFFC00)] ++
      bad [(5, sel 1 && (decide (64 < pf c 5 22 16) || decide (8 < pf c 5 26 23))), (14, sel 3 && decide (256 < pf c 14 8 0)),
        (17, sel 4 && decide ((dw c 17).toNat % 64 ≠ 0))] ++
      [(sel 0 && decide (pq c 3 % 4096 ≠ 0), badParam 0x4C 3), (sel 2 && decide (pq c 12 % 8 ≠ 0), badParam 0x4C 12),
       (lut.isNone || xt.isNone, err stDataCorrupt 0x04),
       (((numsOf 4 4096 (lut.getD [])).any fun v => decide (2 ^ 24 ≤ v)) && sel 0, badParam 0x03 3),
       (sel 4 && misplaced m true (pq c 15) 64 ((g.height - 1) * (dw c 17).toNat + 2 * g.width), badParam 0x4C 15),
       (sel 4 && misplaced m true (pq c 19) 64 (2 * g.width), badParam 0x4C 19),
       (sel 4 && misplaced m true (pq c 21) 64 (2 * g.height), badParam 0x4C 21),
       (sel 5 && misplaced m false (pq c 23) 4096 (2 ^ 25), badParam 0x4C 23)] ++
      (if sel 4 || sel 5 then dramChecks s h else []) ++
      [((streamAt s n).bind.isNone || (streamAt s n).cfg.isNone, wrongState 0x30)]) with
  | some e => (e, s)
  | none =>
    let s1 := if sel 1 || sel 4 then discardTrim s 1 n 0 else s
    let s2 := if sel 5 then discardTrim s1 2 n 0 else s1
    (.deferred 1, stage s2 c .pipeSetStreamCorr h (.streamAdmit n) (lut.getD [] ++ xt.getD []))

/-- PIPE_SET_CONTEXT_CORR. -/
def opPipeSetContextCorr (c : Cmd) (h : Half) (s : State) : Reply × State :=
  let n := pf c 2 4 0
  let sel := fun (i : Nat) => pb c 2 (8 + i)
  let sh := readTable s (sel 0) (pq c 3) 17160
  match firstErr (rsv c [(2, 0xFFF8F8E0)] ++ (if sel 2 then rsv c [(9, 0xFFFE0000)] else []) ++
      bad [(9, sel 2 && (decide (pf c 9 7 0 = 0) || decide (256 < pf c 9 16 8)))] ++
      [(sel 0 && decide (pq c 3 % 8 ≠ 0), badParam 0x4C 3), (sh.isNone, err stDataCorrupt 0x04), notState s n anyOpen]) with
  | some e => (e, s)
  | none =>
    (.deferred 1, stage s c .pipeSetContextCorr h (.contextFrame (refHalf s (ctxAt s n)) n) (sh.getD []))

/-! Rows of the commands. -/

/-- PIPE_OPEN_CONTEXT (R241). -/
def execPipeOpenContext (c : Cmd) (s : State) : Host.Outcome State Fault Refusal := submit (.pipeOpenContext c) .pipeOpenContext opPipeOpenContext c s

/-- PIPE_SET_SOURCE (R204). -/
def execPipeSetSource (c : Cmd) (s : State) : Host.Outcome State Fault Refusal := submit (.pipeSetSource c) .pipeSetSource opPipeSetSource c s

/-- PIPE_START_CONTEXT (R221). -/
def execPipeStartContext (c : Cmd) (s : State) : Host.Outcome State Fault Refusal := submit (.pipeStartContext c) .pipeStartContext opPipeStartContext c s

/-- PIPE_STOP_CONTEXT (R206). -/
def execPipeStopContext (c : Cmd) (s : State) : Host.Outcome State Fault Refusal := submit (.pipeStopContext c) .pipeStopContext opPipeStopContext c s

/-- PIPE_CLOSE_CONTEXT (R206). -/
def execPipeCloseContext (c : Cmd) (s : State) : Host.Outcome State Fault Refusal := submit (.pipeCloseContext c) .pipeCloseContext opPipeCloseContext c s

/-- PIPE_SET_SLOT_MASK (R215). -/
def execPipeSetSlotMask (c : Cmd) (s : State) : Host.Outcome State Fault Refusal := submit (.pipeSetSlotMask c) .pipeSetSlotMask opPipeSetSlotMask c s

/-- PIPE_SET_PRIORITY (R214). -/
def execPipeSetPriority (c : Cmd) (s : State) : Host.Outcome State Fault Refusal := submit (.pipeSetPriority c) .pipeSetPriority opPipeSetPriority c s

/-- PIPE_SET_SLOT_TIME (R214). -/
def execPipeSetSlotTime (c : Cmd) (s : State) : Host.Outcome State Fault Refusal := submit (.pipeSetSlotTime c) .pipeSetSlotTime opPipeSetSlotTime c s

/-- PIPE_GET_CONTEXT_STATUS (R243). -/
def execPipeGetContextStatus (c : Cmd) (s : State) : Host.Outcome State Fault Refusal := submit (.pipeGetContextStatus c) .pipeGetContextStatus opPipeGetContextStatus c s

/-- PIPE_SET_STREAM_CORR (R242). -/
def execPipeSetStreamCorr (c : Cmd) (s : State) : Host.Outcome State Fault Refusal := submit (.pipeSetStreamCorr c) .pipeSetStreamCorr opPipeSetStreamCorr c s

/-- PIPE_SET_CONTEXT_CORR (R242). -/
def execPipeSetContextCorr (c : Cmd) (s : State) : Host.Outcome State Fault Refusal := submit (.pipeSetContextCorr c) .pipeSetContextCorr opPipeSetContextCorr c s

end Sys2Proof.Machine
end

