-- ==== Sys2Proof/Machine/TapPix.lean ====
section
/-! DEFINITION. Stage 10 as functions of planes: crop, scaling, output matrix, transfer function, encoding and packing
(R258 to R271). -/

namespace Sys2Proof.Machine

/-! Scaling (R259 to R261). -/

/-- Binning factor of an axis: the largest of 1, 2, 4, 8 not above its ratio (R259). -/
def binFactor (crop out : Nat) : Nat :=
  if 8 * out ≤ crop then 8 else if 4 * out ≤ crop then 4 else if 2 * out ≤ crop then 2 else 1

/-- STEP of an axis (R260). -/
def scaleStep (crop out : Nat) : Nat := crop * 2 ^ 16 / (out * binFactor crop out)

/-- First bin and phase of an output sample (R260). -/
def scalePos (crop out j : Nat) : Int × Nat :=
  let u : Int := Int.ofNat ((2 * j + 1) * scaleStep crop out) - 2 ^ 16
  (u >>> 17, ((u >>> 11) % 64).toNat)

/-- The kernel of a filter at distance `d` with stretch `s`, both fixed point (R261). -/
def kernelAt (filter : Nat) (s d : Int) : Int :=
  let u := fxDiv (if d < 0 then -d else d) s
  if 2 * fxOne ≤ u then 0
  else if filter = 0 then fxMul (fxSinc u) (fxSinc (u / 2))
  else
    let u2 := fxMul u u
    let u3 := fxMul u2 u
    if u < fxOne then (3 * u3 - 5 * u2) / 2 + fxOne else (5 * u2 - u3) / 2 - 4 * u + 2 * fxOne

/-- The eight coefficients of a phase as firmware computes them (R261). -/
def phaseCoefs (filter crop out ph : Nat) : List Int :=
  let s := max fxOne (fxRat (Int.ofNat crop) (Int.ofNat (out * binFactor crop out)))
  let ks := (List.range 8).map fun t => kernelAt filter s (fxRat ((Int.ofNat t - 3) * 64 - Int.ofNat ph) 64)
  let cs := ks.map fun k => roundRat (1024 * k) ks.sum
  let rem := 1024 - cs.sum
  let i := if ph < 32 then 3 else 4
  cs.set i (cs.getD i 0 + rem)

/-- Coefficients of an axis, phase-major (R261). -/
def axisCoefs (k : TapCfg) (crop out : Nat) : Array Int :=
  if k.filter = 2 then k.customCoef.toArray
  else ((List.range 64).flatMap fun ph => phaseCoefs k.filter crop out ph).toArray

/-- Mean of `p` consecutive samples from `a` on (R259). -/
def binMean (p : Nat) (f : Int → Int) (a : Int) : Int :=
  (((List.range p).map fun i => f (a + Int.ofNat i)).sum + Int.ofNat (p / 2)) >>> Nat.log2 p

/-- One axis scaled at output sample `j` (R259, R260). -/
def scaleAt (coef : Array Int) (start crop out : Nat) (f : Int → Int) (j : Nat) : Int :=
  let p := binFactor crop out
  let (i, ph) := scalePos crop out j
  (((List.range 8).map fun t =>
    coef.getD (8 * ph + t) 0 * binMean p f (Int.ofNat start + Int.ofNat p * (i - 3 + Int.ofNat t))).sum + 512) >>> 10

/-- A plane cropped and scaled: columns `j0` to `j0 + n - 1` of the output (R258 to R260). -/
def scalePlane (k : TapCfg) (ch cv : Array Int) (p : Plane) (j0 n : Nat) : Plane :=
  let hz := mkPlane (Int.ofNat j0) p.y0 n p.h fun j y => scaleAt ch k.cx k.cw k.ow (fun x => p.at_ x y) j.toNat
  mkPlane (Int.ofNat j0) 0 n k.oh fun j i => clampSample (scaleAt cv k.cy k.ch k.oh (fun y => hz.at_ j y) i.toNat)

/-! Output matrix (R256, R264). -/

/-- Chromaticities of a gamut in units of 1/100,000: red, green, blue, white (R256). -/
def gamutXy : Nat → List (Int × Int)
  | 0 => [(64000, 33000), (30000, 60000), (15000, 6000), (31270, 32900)]
  | 1 => [(70800, 29200), (17000, 79700), (13100, 4600), (31270, 32900)]
  | 2 => [(68000, 32000), (26500, 69000), (15000, 6000), (31270, 32900)]
  | 3 => [(73470, 26530), (0, 100000), (10, -7700), (32168, 33767)]
  | _ => [(71300, 29300), (16500, 83000), (12800, 4400), (32168, 33767)]

/-- A 3 x 3 matrix of rationals, row-major. -/
abbrev Mat3 := List Rat

/-- Entry of a matrix. -/
def mAt (m : Mat3) (i j : Nat) : Rat := m.getD (3 * i + j) 0

/-- Product of matrices. -/
def mMul (a b : Mat3) : Mat3 :=
  [0, 1, 2].flatMap fun i => [0, 1, 2].map fun j => mAt a i 0 * mAt b 0 j + mAt a i 1 * mAt b 1 j + mAt a i 2 * mAt b 2 j

/-- Cofactor of an entry, by cyclic indexes. -/
def mCof (m : Mat3) (i j : Nat) : Rat :=
  mAt m ((i + 1) % 3) ((j + 1) % 3) * mAt m ((i + 2) % 3) ((j + 2) % 3) -
    mAt m ((i + 1) % 3) ((j + 2) % 3) * mAt m ((i + 2) % 3) ((j + 1) % 3)

/-- Inverse of a matrix. -/
def mInv (m : Mat3) : Mat3 :=
  let det := mAt m 0 0 * mCof m 0 0 + mAt m 0 1 * mCof m 0 1 + mAt m 0 2 * mCof m 0 2
  [0, 1, 2].flatMap fun i => [0, 1, 2].map fun j => mCof m j i / det

/-- XYZ of a chromaticity with Y = 1. -/
def xyzOf (c : Int × Int) : List Rat :=
  let x : Rat := c.1 / 100000
  let y : Rat := c.2 / 100000
  [x / y, 1, (1 - x - y) / y]

/-- RGB to XYZ of a gamut. -/
def rgbToXyz (g : Nat) : Mat3 :=
  let cs := gamutXy g
  let prim := fun (j : Nat) =>
    let c := cs.getD j (0, 1)
    [(c.1 : Rat) / 100000, (c.2 : Rat) / 100000, (100000 - c.1 - c.2 : Rat) / 100000]
  let p : Mat3 := [0, 1, 2].flatMap fun i => [0, 1, 2].map fun j => (prim j).getD i 0
  let w := xyzOf (cs.getD 3 (0, 1))
  let pi_ := mInv p
  let sc := [0, 1, 2].map fun i => mAt pi_ i 0 * w.getD 0 0 + mAt pi_ i 1 * w.getD 1 0 + mAt pi_ i 2 * w.getD 2 0
  [0, 1, 2].flatMap fun i => [0, 1, 2].map fun j => mAt p i j * sc.getD j 0

/-- The Bradford cone matrix (PRESUMED 52). -/
def bradford : Mat3 :=
  [8951 / 10000, 2664 / 10000, -1614 / 10000, -7502 / 10000, 17135 / 10000, 367 / 10000, 389 / 10000, -685 / 10000,
   10296 / 10000]

/-- Bradford adaptation from one gamut's white to another's (R264). -/
def adaptWhite (a b : Nat) : Mat3 :=
  let cone := fun (g : Nat) =>
    let w := xyzOf ((gamutXy g).getD 3 (0, 1))
    [0, 1, 2].map fun i => mAt bradford i 0 * w.getD 0 0 + mAt bradford i 1 * w.getD 1 0 + mAt bradford i 2 * w.getD 2 0
  let ca := cone a
  let cb := cone b
  let d : Mat3 := [0, 1, 2].flatMap fun i => [0, 1, 2].map fun j => if i = j then cb.getD i 0 / ca.getD i 1 else 0
  mMul (mInv bradford) (mMul d bradford)

/-- The output matrix from a working gamut to a target gamut, in 16 fractional bits (R264). -/
def gamutMatrix (work target : Nat) : List Int :=
  if work = target then [65536, 0, 0, 0, 65536, 0, 0, 0, 65536]
  else
    let same := (gamutXy work).getD 3 (0, 1) = (gamutXy target).getD 3 (0, 1)
    let m := mMul (mInv (rgbToXyz target)) (if same then rgbToXyz work else mMul (adaptWhite work target) (rgbToXyz work))
    let r := m.map fun v => roundRat (v.num * 65536) (Int.ofNat v.den)
    [0, 1, 2].flatMap fun i =>
      let rest := ([0, 1, 2].map fun j => if i = j then 0 else r.getD (3 * i + j) 0).sum
      [0, 1, 2].map fun j => if i = j then 65536 - rest else r.getD (3 * i + j) 0

/-- Output matrix and offsets of a tap (R264). -/
def outMatrix (k : TapCfg) (work : Nat) : List Int × List Int :=
  if k.gamut = 7 then (k.customMatrix.take 9, k.customMatrix.drop 9) else (gamutMatrix work k.gamut, [0, 0, 0])

/-! Transfer functions (R265, R266). -/

/-- A transfer function at a fixed-point value; the constants of the named standards are PRESUMED 52. -/
def tfAt (tf param : Nat) (x : Int) : Int :=
  match tf with
  | 1 =>
    if x < fxRat 18 1000 then 9 * x / 2
    else fxMul (fxRat 1099 1000) (fxPow x (fxRat 45 100)) - fxRat 99 1000
  | 2 =>
    if x ≤ fxRat 31308 10000000 then fxMul (fxRat 1292 100) x
    else fxMul (fxRat 1055 1000) (fxPow x (fxRat 10 24)) - fxRat 55 1000
  | 3 =>
    let y := min fxOne (x * Int.ofNat (if param = 0 then 203 else param) / 10000)
    let p := fxPow y (fxRat 2610 16384)
    fxPow (fxDiv (fxRat 3424 4096 + fxMul (fxRat (2413 * 32) 4096) p) (fxOne + fxMul (fxRat (2392 * 32) 4096) p))
      (fxRat (2523 * 128) 4096)
  | 4 =>
    let e := min fxOne (x * Int.ofNat (if param = 0 then 0x43C else param) / 4096)
    if 12 * e ≤ fxOne then fxSqrt (3 * e)
    else
      fxMul (fxRat 17883277 100000000) (fxLn (12 * e - fxRat 28466892 100000000)) + fxRat 55991073 100000000
  | 5 => 3 * fxLog2 (x + fxRat 1 64) / 32 + fxRat 5 8
  | _ => x

/-- The 4,096-entry table of a transfer function (R265). -/
def tfTable (k : TapCfg) : Array Nat :=
  if k.tf = 6 then k.customTf.toArray
  else ((List.range 4096).map fun i =>
    (max 0 (min (fxRound (tfAt k.tf k.tfParam (fxRat (Int.ofNat (indexPoint i)) (2 ^ 20))) (2 ^ 16)) 0x10000)).toNat).toArray

/-- A U4.20 value through the transfer function, in U1.16 (R265). -/
def transfer (tf : Nat) (table : Array Nat) (x : Int) : Int :=
  if tf = 0 then (min x 0x100000) >>> 4 else tableAt table x.toNat

/-! Encoding (R267 to R271). -/

/-- Kr, Kg, Kb, Sb, Sr (R267). -/
def yccConsts (ycc : Bool) : Int × Int × Int × Int × Int :=
  if ycc then (17216, 44434, 3886, 34834, 44443) else (13933, 46871, 4732, 35318, 41615)

/-- Y', Cb and Cr of an R'G'B' triple (R267). -/
def toYcc (ycc : Bool) (r g b : Int) : Int × Int × Int :=
  let (kr, kg, kb, sb, sr) := yccConsts ycc
  let y := roundShift (kr * r + kg * g + kb * b) 16
  (y, roundShift ((b - y) * sb) 16, roundShift ((r - y) * sr) 16)

/-- Code of a component before its clamp (R268). -/
def rawCode (full chroma : Bool) (n : Nat) (v : Int) : Int :=
  let q : Int := 2 ^ (n - 8)
  if full then
    (v * (2 ^ n - 1) + (if chroma then 2 ^ (n - 1) * 2 ^ 16 else 0) + 2 ^ 15) >>> 16
  else if chroma then (224 * q * v + 128 * q * 2 ^ 16 + 2 ^ 15) >>> 16
  else (219 * q * v + 16 * q * 2 ^ 16 + 2 ^ 15) >>> 16

/-- Code of a component, and whether it was clamped (R268). -/
def codeOf (full chroma : Bool) (n : Nat) (v : Int) : Nat × Bool :=
  let lo : Int := if full then 0 else 2 ^ (n - 8)
  let hi : Int := if full then 2 ^ n - 1 else 2 ^ n - 1 - 2 ^ (n - 8)
  let c := rawCode full chroma n v
  ((max lo (min c hi)).toNat, decide (c < lo ∨ hi < c))

/-- Bits of a code of a format (R269). -/
def formatBits : Nat → Nat
  | 0x0 => 8
  | 0x1 => 10
  | 0x2 => 12
  | 0x3 => 8
  | 0x4 => 10
  | 0x5 => 12
  | 0x6 => 10
  | 0x7 => 8
  | 0x8 => 10
  | 0x9 => 12
  | 0xB => 12
  | 0xD => 16
  | _ => 8

/-- Chroma sampling of a format: 0 none, 1 per column, 2 per pair (4:2:2), 3 per 2 x 2 group (4:2:0). -/
def formatChroma : Nat → Nat
  | 0x0 => 1
  | 0x1 => 1
  | 0x2 => 1
  | 0x3 => 2
  | 0x4 => 2
  | 0x5 => 2
  | 0x6 => 2
  | 0x7 => 3
  | 0x8 => 3
  | 0x9 => 3
  | _ => 0

/-- Full range applies (R268). -/
def fullRange (k : TapCfg) : Bool := k.full || decide (k.format = 0xA) || decide (k.format = 0xD) || decide (k.format = 0xE)

/-- Row bytes of plane 0, 1 and 2 of a format for `w` columns; 0 = no such plane (R269). -/
def rowBytesOf (format w : Nat) : Nat × Nat × Nat :=
  match format with
  | 0x0 => (w, w, w)
  | 0x1 => (2 * w, 2 * w, 2 * w)
  | 0x2 => (2 * w, 2 * w, 2 * w)
  | 0x3 => (2 * w, 0, 0)
  | 0x4 => (w / 2 * 5, 0, 0)
  | 0x5 => (4 * w, 0, 0)
  | 0x6 => (2 * w, 2 * w, 0)
  | 0x7 => (w, w, 0)
  | 0x8 => (2 * w, 2 * w, 0)
  | 0x9 => (2 * w, 2 * w, 0)
  | 0xA => (8 * w, 0, 0)
  | 0xB => (6 * w, 0, 0)
  | 0xC => (w, 0, 0)
  | 0xD => (2 * w, 0, 0)
  | _ => (w, w, 0)

/-- Rows of plane 1 of a format. -/
def chromaRows (format oh : Nat) : Nat := if formatChroma format = 3 then oh / 2 else oh

/-- IEEE 754 binary16 of v / 2^20, rounded to nearest even, for 0 <= v < 2^24 (R270). -/
def half16 (v : Nat) : Nat :=
  if v = 0 then 0
  else
    let e := Nat.log2 v
    let rne := fun (n k : Nat) =>
      let q := n / 2 ^ k
      let r := n % 2 ^ k
      if k = 0 then n else if 2 ^ (k - 1) < r ∨ (r = 2 ^ (k - 1) ∧ q % 2 = 1) then q + 1 else q
    if e < 6 then v * 16
    else
      let m := if e < 10 then v * 2 ^ (10 - e) else rne v (e - 10)
      (e - 5) * 1024 + (m - 1024)

/-- What a tap makes of its part: planes 0, 1, 2 as rows of bytes, and CLIP_SAMPLES. -/
structure TapOut where
  /-- plane 0 -/
  p0 : List (List Byte)
  /-- plane 1 -/
  p1 : List (List Byte)
  /-- plane 2 -/
  p2 : List (List Byte)
  /-- samples clipped -/
  clips : Nat

/-- The bytes of a code in its container: a byte, or 16 bits with the code at the top (R269). -/
def container (n c : Nat) : List Byte := if n = 8 then leBytes 1 c else leBytes 2 (c * 2 ^ (16 - n))

/-- The target RGB and R'G'B' of a tap over the columns it needs (R264, R265). -/
def tapRgb (k : TapCfg) (work : Nat) (p : Rgb) (j0 n : Nat) : Rgb × Rgb :=
  let ch := axisCoefs k k.cw k.ow
  let cv := axisCoefs k k.ch k.oh
  let q : Rgb := { r := scalePlane k ch cv p.r j0 n, g := scalePlane k ch cv p.g j0 n, b := scalePlane k ch cv p.b j0 n }
  let (m, o) := outMatrix k work
  let row := fun (i : Nat) => q.r.onto fun x y => matRow m o i (q.r.at_ x y) (q.g.at_ x y) (q.b.at_ x y)
  let t : Rgb := { r := row 0, g := row 1, b := row 2 }
  let tab := if k.tf = 0 then #[] else tfTable k
  let enc := fun (z : Plane) => z.onto fun x y => transfer k.tf tab (z.at_ x y)
  (t, { r := enc t.r, g := enc t.g, b := enc t.b })

/-- Integer coordinates of output column `j` and row `i`. -/
def atJI (p : Plane) (j i : Nat) : Int := p.at_ (Int.ofNat j) (Int.ofNat i)

/-- Sobel gradient of luma codes, mirrored at the tap's edges (R271). -/
def sobel (ow oh : Nat) (l : Nat → Nat → Int) (j i : Nat) : Nat :=
  let v := fun (a b : Int) => l (mirror 0 (ow - 1) (Int.ofNat j + a)) (mirror 0 (oh - 1) (Int.ofNat i + b))
  let gx := v 1 (-1) + 2 * v 1 0 + v 1 1 - v (-1) (-1) - 2 * v (-1) 0 - v (-1) 1
  let gy := v (-1) 1 + 2 * v 0 1 + v 1 1 - v (-1) (-1) - 2 * v 0 (-1) - v 1 (-1)
  min 255 ((gx.natAbs + gy.natAbs + 4) / 8)

/-- Stage 10 of a tap: columns `j0` to `j0 + n - 1` of its output (R258 to R271). -/
def tapPart (k : TapCfg) (work : Nat) (p : Rgb) (j0 n : Nat) : TapOut :=
  let a := if k.format = 0xE then j0 - 1 else j0
  let e := if k.format = 0xE then min k.ow (j0 + n + 1) else j0 + n
  let (t, c) := tapRgb k work p a (e - a)
  let nb := formatBits k.format
  let full := fullRange k
  let rows := List.range k.oh
  let cols := (List.range n).map (· + j0)
  let above := fun (z : Plane) (j i : Nat) => decide (0x100000 < atJI z j i)
  let tfClips := (rows.map fun i => (cols.map fun j =>
    b2n (above t.r j i) + b2n (above t.g j i) + b2n (above t.b j i)).sum).sum
  let ycc := fun (j i : Nat) => toYcc k.ycc (atJI c.r j i) (atJI c.g j i) (atJI c.b j i)
  let yCode := fun (j i : Nat) => codeOf full false nb (ycc j i).1
  let yClips := (rows.map fun i => (cols.map fun j => b2n (yCode j i).2).sum).sum
  let yRow := fun (i : Nat) => cols.flatMap fun j => container nb (yCode j i).1
  match formatChroma k.format with
  | 0 =>
    if k.format = 0xA then
      { p0 := rows.map fun i => cols.flatMap fun j =>
          leBytes 2 (half16 (atJI t.r j i).toNat) ++ leBytes 2 (half16 (atJI t.g j i).toNat) ++
            leBytes 2 (half16 (atJI t.b j i).toNat) ++ leBytes 2 0x3C00
        p1 := [], p2 := [], clips := tfClips }
    else if k.format = 0xB then
      let cd := fun (z : Plane) (j i : Nat) => codeOf full false nb (atJI z j i)
      { p0 := rows.map fun i => cols.flatMap fun j =>
          container nb (cd c.r j i).1 ++ container nb (cd c.g j i).1 ++ container nb (cd c.b j i).1
        p1 := [], p2 := []
        clips := (rows.map fun i => (cols.map fun j =>
          b2n (above t.r j i || (cd c.r j i).2) + b2n (above t.g j i || (cd c.g j i).2) +
            b2n (above t.b j i || (cd c.b j i).2)).sum).sum }
    else if k.format = 0xE then
      { p0 := rows.map yRow
        p1 := rows.map fun i => cols.map fun j =>
          BitVec.ofNat 8 (sobel k.ow k.oh (fun j i => Int.ofNat (yCode j i).1) j i)
        p2 := [], clips := tfClips + yClips }
    else { p0 := rows.map yRow, p1 := [], p2 := [], clips := tfClips + yClips }
  | m =>
    let cbr := fun (f : Int × Int × Int → Int) (j i : Nat) =>
      if m = 1 then f (ycc j i)
      else if m = 2 then (f (ycc j i) + f (ycc (j + 1) i) + 1) >>> 1
      else (f (ycc j (2 * i)) + f (ycc (j + 1) (2 * i)) + f (ycc j (2 * i + 1)) + f (ycc (j + 1) (2 * i + 1)) + 2) >>> 2
    let cb := fun (j i : Nat) => codeOf full true nb (cbr (fun v => v.2.1) j i)
    let cr := fun (j i : Nat) => codeOf full true nb (cbr (fun v => v.2.2) j i)
    let pairs := (List.range (n / 2)).map fun i => j0 + 2 * i
    let cCols := if m = 1 then cols else pairs
    let cRows := List.range (chromaRows k.format k.oh)
    let cClips := (cRows.map fun i => (cCols.map fun j => b2n (cb j i).2 + b2n (cr j i).2).sum).sum
    let clips := tfClips + yClips + cClips
    if m = 1 then
      { p0 := rows.map yRow, p1 := rows.map fun i => cols.flatMap fun j => container nb (cb j i).1
        p2 := rows.map fun i => cols.flatMap fun j => container nb (cr j i).1, clips }
    else if k.format = 0x4 then
      { p0 := rows.map fun i => pairs.flatMap fun j =>
          leBytes 5 ((cb j i).1 + (yCode j i).1 * 2 ^ 10 + (cr j i).1 * 2 ^ 20 + (yCode (j + 1) i).1 * 2 ^ 30)
        p1 := [], p2 := [], clips }
    else if k.format = 0x3 ∨ k.format = 0x5 then
      { p0 := rows.map fun i => pairs.flatMap fun j =>
          container nb (cb j i).1 ++ container nb (yCode j i).1 ++ container nb (cr j i).1 ++ container nb (yCode (j + 1) i).1
        p1 := [], p2 := [], clips }
    else
      { p0 := rows.map yRow
        p1 := cRows.map fun i => pairs.flatMap fun j => container nb (cb j i).1 ++ container nb (cr j i).1
        p2 := [], clips }

/-! Parts of an output (R262). -/

/-- Columns of a tap's output left of a boundary at picture column `x` (R262). -/
def leftCols (k : TapCfg) (x : Nat) : Nat :=
  let g := if 2 ≤ formatChroma k.format then 2 else 1
  let groups := (k.ow + g - 1) / g
  min k.ow (g * ((List.range groups).filter fun i =>
    decide (2 * k.cx * k.ow + (g * i + (g * i + g - 1) + 1) * k.cw < 2 * x * k.ow)).length)

end Sys2Proof.Machine
end

