-- ==== Sys2Proof/Machine/TapCmd.lean ====
section
/-! DEFINITION. The PIPE_ commands of colour, the LUT bank and the taps (R245 to R284). -/

namespace Sys2Proof.Machine

/-! The LUT bank (R252, R254, R255). -/

/-- A LUT_ID is named by a PIPE_SET_COLOUR accepted for a context of the half and not yet replaced, or by a frame in
progress (R254). -/
def lutReferenced (s : State) (h : Half) (id : Nat) : Bool :=
  ((List.range 32).any fun n =>
    let x := ctxAt s n
    ctxIn x h && ((x.colour.lutOn && decide (x.colour.lutId = id)) ||
      x.latched.any fun l => l.2.colour.lutOn && decide (l.2.colour.lutId = id))) ||
  s.staged.any fun x => decide (x.op = .pipeSetColour) && ctxIn (ctxAt s (pf x.cmd 2 4 0)) h && pb x.cmd 2 10 &&
    pb x.cmd 2 14 && decide (pf x.cmd 2 19 16 = id)

/-- LUT_IDs whose content a load of this size overwrites or discards: its page's where the size changes, else its own
(R255). -/
def overwritten (p : Pipe) (id : Nat) (big : Bool) : List Nat :=
  let page := (List.range 4).map fun i => id / 4 * 4 + i
  if page.any fun k => ((tget p.luts k).map fun l => decide (l.big ≠ big)).getD false then page else [id]

/-- The LUT_ID is loaded: a LUT being loaded counts as not loaded (R255). -/
def lutLoaded (p : Pipe) (id : Nat) : Option Lut :=
  if p.loading.any fun l => (overwritten p l.1 l.2.1).contains id then none else tget p.luts id

/-- Nodes of a LUT of a size, and its bytes. -/
def lutNodes (big : Bool) : Nat := if big then 65 * 65 * 65 else 33 * 33 * 33

/-- A node's three values (R252). -/
def nodeOf (v : Nat) : Nat × Nat × Nat := (v % 2 ^ 21, v / 2 ^ 21 % 2 ^ 21, v / 2 ^ 42 % 2 ^ 21)

/-- PIPE_SET_COLOUR may name this LUT_ID: loaded in each half of the context, and by one command (R255). -/
def lutUsable (s : State) (x : Context) (id : Nat) : Bool :=
  let ls := (halvesOf x).map fun h => lutLoaded (half s h).pipe id
  ls.all (·.isSome) && ls.all fun l => decide (l.map (·.loadId) = (ls.head?.bind id_).map (·.loadId))
where
  /-- the LUT itself -/
  id_ (l : Option Lut) : Option Lut := l

/-- A matrix block's coefficients and offsets are in range (R249). -/
def matrixOk (m offs : List Int) : Bool :=
  (m.all fun v => decide (-(2 ^ 23) ≤ v ∧ v < 2 ^ 23)) && offs.all fun v => decide (-(2 ^ 24) < v ∧ v < 2 ^ 24)

/-- PIPE_SET_COLOUR (R245 to R256, R280). -/
def opPipeSetColour (c : Cmd) (h : Half) (s : State) : Reply × State :=
  let n := pf c 2 4 0
  let x := ctxAt s n
  let sel := fun (i : Nat) => pb c 2 (8 + i)
  let mt := readTable s (sel 1) (pq c 4) 48
  let sh := readTable s (sel 2) (pq c 6) 24576
  let mb := mt.getD []
  match firstErr (rsv c [(2, 0xFF8080E0), (3, 0xFFFFFE00)] ++
      bad [(2, (sel 0 && decide (1 < pf c 2 13 12)) || (sel 3 && decide (4 < pf c 2 22 20))),
        (3, sel 0 && decide (256 < pf c 3 8 0))] ++
      [(sel 1 && decide (pq c 4 % 4 ≠ 0), badParam 0x4C 4), (sel 2 && decide (pq c 6 % 4 ≠ 0), badParam 0x4C 6),
       (mt.isNone || sh.isNone, err stDataCorrupt 0x04),
       (sel 1 && !matrixOk (intsOf 4 9 mb) (intsOf 4 3 (mb.drop 36)), badParam 0x56 4),
       (sel 2 && (numsOf 2 12288 (sh.getD [])).any fun v => decide (0x8000 < v), badParam 0x56 6),
       notState s n anyOpen, (sel 2 && pb c 2 14 && !lutUsable s x (pf c 2 19 16), wrongState 0x52)]) with
  | some e => (e, s)
  | none => (.deferred 1, stage s c .pipeSetColour h (.contextFrame (refHalf s x) n) (mb ++ sh.getD []))

/-- Source region of a half in PIPE_LOAD_LUT. -/
def lutSrc (c : Cmd) (h : Half) : Nat := if h = .A then pq c 3 else pq c 5

/-- Halves that PIPE_LOAD_LUT names. -/
def lutHalves (c : Cmd) : List Half := (if pb c 2 5 then [.A] else []) ++ (if pb c 2 6 then [.B] else [])

/-- PIPE_LOAD_LUT (R255). -/
def opPipeLoadLut (c : Cmd) (_h : Half) (s : State) : Reply × State :=
  let id := pf c 2 3 0
  let big := pb c 2 4
  let hs := lutHalves c
  let len := 8 * lutNodes big
  let badSrc := fun (h : Half) => hs.contains h && misplaced (half s h).mem false (lutSrc c h) 4096 len
  let bit63 := fun (h : Half) => (numsOf 8 (lutNodes big) (dramRead s h (lutSrc c h) len).1).any fun v => decide (2 ^ 63 ≤ v)
  match firstErr (rsv c [(2, 0xFFFFFF80)] ++ bad [(2, hs.isEmpty)] ++
      [(big && decide (id % 4 ≠ 0), badParam 0x52 2), (badSrc .A, badParam 0x4C 3), (badSrc .B, badParam 0x4C 5),
       (hs.any bit63, badParam 0x52 (if pb c 2 5 then 3 else 5))] ++ hs.flatMap (dramChecks s) ++
      [(hs.any fun h => (overwritten (half s h).pipe id big).any (lutReferenced s h), wrongState 0x51)]) with
  | some e => (e, s)
  | none =>
    (.running, hs.foldl (fun s h => modPipe s h fun p => { p with loading := p.loading ++ [(id, big, lutSrc c h, c.serial)] }) s)

/-- LOAD_SEQ that a submission's load received in a half; all ones where it loaded nothing there. -/
def seqOfLoad (s : State) (h : Half) (serial : Nat) : Word :=
  (((half s h).pipe.luts.toList.filterMap fun x => x).find? fun l => decide (l.loadId = serial)).map (·.loadSeq) |>.getD 0xFFFFFFFF

/-- The oldest load of a half is done: its LUT is in the bank, and the command completes with its last half (R255). -/
def lutLoadDone (s : State) (h : Half) : State :=
  let p := (half s h).pipe
  match p.loading with
  | [] => s
  | (id, big, src, serial) :: rest =>
    let (bs, poison) := dramRead s h src (8 * lutNodes big)
    let gone := overwritten p id big
    let l : Lut :=
      { big, loadSeq := p.loadSeq + 1, loadId := serial, src, nodes := (numsOf 8 (lutNodes big) bs).map nodeOf }
    let s1 := modPipe s h fun p =>
      if poison then { p with loading := rest }
      else { p with loading := rest, loadSeq := p.loadSeq + 1
                    luts := tset (gone.foldl (fun t k => tset t k none) p.luts) id (some l) }
    let others := (half s1 (otherHalf h)).pipe.loading.any fun l => decide (l.2.2.2 = serial)
    match flightOf s1 serial with
    | some f =>
      if poison then
        let s2 := modPipe s1 (otherHalf h) fun p => { p with loading := p.loading.filter fun l => decide (l.2.2.2 ≠ serial) }
        complete s2 f.cmd f.exec stDataCorrupt 0x71 0xFFFF 0xFFFFFFFF 0xFFFFFFFF 0
      else if others then s1
      else completeOk s1 f.cmd f.exec (seqOfLoad s1 .A serial) (seqOfLoad s1 .B serial) 0
    | none => s1

/-- LUT_LOAD_DONE (R255). -/
def execLutLoadDone (h : Half) (s : State) : Host.Outcome State Fault Refusal := actIf true s (lutLoadDone s h)

/-! PIPE_SET_TAP (R257 to R269, R282). -/

/-- Taps of a context (R257). -/
def tapCount (x : Context) : Nat := if x.span then 12 else 3

/-- The format has Cb and Cr. -/
def isYcc (format : Nat) : Bool := decide (format ≤ 9)

/-- Format, size, tap number and gamut are allowed for the tap (R257, R267). -/
def roleOk (x : Context) (t : Nat) (k : TapCfg) : Bool :=
  let vision := decide (k.cw ≤ 8 * k.ow)
  !(isYcc k.format && (decide (k.gamut = 3) || decide (k.gamut = 4))) && decide (k.format ≤ 0xE) &&
    if x.span then decide (k.format ≠ 0xE) || vision
    else match t with
      | 0 => decide (k.format = 0x4 ∧ k.ow ≤ 4096 ∧ k.oh ≤ 2160)
      | 1 => (decide (k.format = 0x8) || decide (k.format = 0x6)) &&
          decide (k.ow ≤ 8192 ∧ k.oh ≤ 4320 ∧ k.ow % 8 = 0 ∧ k.oh % 8 = 0)
      | _ => decide (k.format = 0xE ∧ k.ow ≤ 4096 ∧ k.oh ≤ 4096) && vision

/-- Crop, ratio, area and parity are valid (R258). -/
def cropOk (x : Context) (k : TapCfg) : Bool :=
  k.cx % 2 = 0 && decide (x.ax ≤ k.cx ∧ k.cx + k.cw ≤ x.ax + x.aw ∧ x.ay ≤ k.cy ∧ k.cy + k.ch ≤ x.ay + x.ah) &&
    decide (k.ow ≤ 4 * k.cw ∧ k.cw ≤ 16 * k.ow ∧ k.oh ≤ 4 * k.ch ∧ k.ch ≤ 16 * k.oh ∧ k.ow * k.oh ≤ 4 * (k.cw * k.ch)) &&
    !(decide (2 ≤ formatChroma k.format) && decide (k.ow % 2 ≠ 0)) && !(decide (formatChroma k.format = 3) && decide (k.oh % 2 ≠ 0))

/-- First output column that belongs to half B; 0 for a slice context (R262). -/
def outSplit (x : Context) (k : TapCfg) : Nat := if x.span then leftCols k x.seamX else 0

/-- First output column of a half's part, and its columns (R262). -/
def partOf (x : Context) (k : TapCfg) (h : Half) : Nat × Nat :=
  if !x.span then (0, k.ow) else if h = .A then (0, outSplit x k) else (outSplit x k, k.ow - outSplit x k)

/-- A ring's planes hold a half's part (R269, R273). -/
def ringHolds (r : TapRing) (k : TapCfg) (w : Nat) : Bool :=
  let (b0, b1, b2) := rowBytesOf k.format w
  let size := fun (pitch row rows : Nat) => if row = 0 then 0 else pitch * (rows - 1) + row
  let rows1 := chromaRows k.format k.oh
  let p1 := 64 * r.plane1
  let p2 := 64 * r.plane2
  let stop := r.stride * 4096
  decide (b0 ≤ r.pitch0 ∧ b1 ≤ r.pitch1 ∧ b2 ≤ r.pitch1) &&
    decide (size r.pitch0 b0 k.oh ≤ if b1 = 0 then stop else p1) &&
    (decide (b1 = 0) || decide (p1 + size r.pitch1 b1 rows1 ≤ if b2 = 0 then stop else p2)) &&
    (decide (b2 = 0) || decide (p2 + size r.pitch1 b2 rows1 ≤ stop))

/-- The ring of a tap in a half. -/
def ringIn (t : Tap) (h : Half) : Option TapRing := if h = .A then t.ringA else t.ringB

/-- Each half that the context occupies has a ring that holds its part, of one BUF_COUNT (R273). -/
def ringsOk (x : Context) (t : Tap) (k : TapCfg) : Bool :=
  let rs := (halvesOf x).map (ringIn t)
  ((halvesOf x).all fun h => ((ringIn t h).map fun r => ringHolds r k (partOf x k h).2).getD false) &&
    rs.all fun r => decide (r.map (·.count) = (rs.head?.bind fun q => q).map (·.count))

/-- The custom block of a tap: what the command needs of it, at its offsets (R282); none where a read fails. -/
def readCustom (s : State) (c : Cmd) : Option (List Byte) :=
  let a := pq c 7
  match readTable s (decide (pf c 2 21 19 = 7)) a 48, readTable s (decide (pf c 2 18 16 = 6)) (a + 64) 16384,
    readTable s (decide (pf c 2 23 22 = 2)) (a + 16448) 1024 with
  | some m, some t, some f =>
    some ((m ++ List.replicate (64 - m.length) 0) ++ (t ++ List.replicate (16384 - t.length) 0) ++ f)
  | _, _, _ => none

/-- Custom matrix, table and coefficients are in range (R249, R261, R265). -/
def customOk (k : TapCfg) : Bool :=
  matrixOk (k.customMatrix.take 9) (k.customMatrix.drop 9) && (k.customTf.all fun v => decide (v ≤ 0x10000)) &&
    (k.customCoef.isEmpty || (List.range 64).all fun p => decide (((k.customCoef.drop (8 * p)).take 8).sum = 1024))

/-- PIPE_SET_TAP (R258, R273, R280). -/
def opPipeSetTap (c : Cmd) (h : Half) (s : State) : Reply × State :=
  let n := pf c 2 4 0
  let t := pf c 2 8 5
  let x := ctxAt s n
  let blk := readCustom s c
  let k := tapCfgOf c (blk.getD [])
  let custom := decide (k.gamut = 7) || decide (k.tf = 6) || decide (k.filter = 2)
  let known := decide (x.st ≠ .closed)
  let sizeBad := fun (lo v : Nat) => decide (v < lo ∨ 32768 < v)
  match firstErr (rsv c [(6, 0xFFFF0000)] ++
      bad [(2, decide (k.gamut = 5) || decide (k.gamut = 6) || decide (k.tf = 7) || decide (k.filter = 3) || decide (k.report = 3) ||
          decide (20 < k.reportLog2)),
        (4, sizeBad 1 k.cw || sizeBad 1 k.ch), (5, sizeBad 2 k.ow || sizeBad 2 k.oh),
        (6, if k.tf = 3 then decide (10000 < k.tfParam) else decide (k.tf ≠ 4) && decide (k.tfParam ≠ 0)),
        (7, !custom && decide (pq c 7 ≠ 0))] ++
      [(custom && decide (pq c 7 % 64 ≠ 0), badParam 0x4C 7),
       (known && decide (tapCount x ≤ t), badParam 0x54 2), (known && !roleOk x t k, badParam 0x54 2),
       (known && !cropOk x k, badParam 0x50 3), (blk.isNone, err stDataCorrupt 0x04), (!customOk k, badParam 0x56 7),
       notState s n anyOpen, (k.enable && !ringsOk x (tget x.taps t) k, wrongState 0x53)]) with
  | some e => (e, s)
  | none => (.deferred 1, stage s c .pipeSetTap h (.contextFrame (refHalf s x) n) (blk.getD []))

/-! PIPE_SET_TAP_RING (R273). -/

/-- Regions of a tap ring: its buffers and its records. -/
def tapRegions (r : TapRing) : List (Nat × Nat) := [(r.base, r.count * r.stride * 4096), (r.recBase, 64 * r.count)]

/-- Regions of a statistics ring. -/
def statRegion (k : StatCfg) : List (Nat × Nat) :=
  if k.enable then [((k.params.getD 2 0).toNat + 2 ^ 32 * (k.params.getD 3 0).toNat, 98304 * fld (k.params.getD 1 0) 15 0)] else []

/-- Every tap ring in a half but one. -/
def tapRingsIn (s : State) (h : Half) (n t : Nat) : List (Nat × Nat) :=
  (List.range 32).flatMap fun k => (List.range 12).flatMap fun j =>
    if k = n ∧ j = t then [] else ((ringIn (tget (ctxAt s k).taps j) h).map tapRegions).getD []

/-- Every statistics ring in a half but that of context `n`. -/
def statRingsIn (s : State) (h : Half) (n : Nat) : List (Nat × Nat) :=
  (List.range 32).flatMap fun k => if k = n ∨ refHalf s (ctxAt s k) ≠ h then [] else statRegion (ctxAt s k).stat

/-- The ring that PIPE_SET_TAP_RING names. -/
def tapRingNamed (c : Cmd) : TapRing :=
  let count := pf c 2 17 11
  { count, base := pq c 3, stride := (dw c 5).toNat, pitch0 := (dw c 6).toNat, pitch1 := (dw c 7).toNat
    plane1 := (dw c 8).toNat, plane2 := (dw c 9).toNat, recBase := pq c 10, bufs := List.replicate count {} }

/-- A tap is enabled, or a change that enables it is staged. -/
def tapEnabled (s : State) (n t : Nat) : Bool :=
  (tget (ctxAt s n).taps t).cfg.enable || s.staged.any fun x =>
    decide (x.op = .pipeSetTap) && decide (pf x.cmd 2 4 0 = n) && decide (pf x.cmd 2 8 5 = t) && pb x.cmd 2 9

/-- A buffer of a tap is held. -/
def tapHeld (t : Tap) : Bool :=
  ([t.ringA, t.ringB].any fun r => (r.map fun r => r.bufs.any fun b => decide (b.st = .held)).getD false)

/-- PIPE_SET_TAP_RING. -/
def opPipeSetTapRing (c : Cmd) (_h : Half) (s : State) : Reply × State :=
  let n := pf c 2 4 0
  let t := pf c 2 8 5
  let x := ctxAt s n
  let known := decide (x.st ≠ .closed)
  let hf := (halfOfCode (pf c 2 10 9)).getD .A
  let r := tapRingNamed c
  let mine := tapRegions r
  let used := otherRegions s hf 64 ++ tapRingsIn s hf n t ++ statRingsIn s hf 32
  let placed := r.base % 4096 = 0 && r.recBase % 4096 = 0 && r.pitch0 % 64 = 0 && r.pitch1 % 64 = 0 && decide (0 < r.stride) &&
    (mine.all fun z => backedRange (half s hf).mem z.1 z.2) && disjoint mine && apart mine used
  match firstErr (rsv c [(2, 0xFFFC0000)] ++
      bad [(2, (halfOfCode (pf c 2 10 9)).isNone || decide (r.count < 2 ∨ 64 < r.count))] ++
      [(known && decide (tapCount x ≤ t), badParam 0x54 2), (known && !(halvesOf x).contains hf, badParam 0x53 2),
       (!placed, badParam 0x53 3)] ++ dramChecks s hf ++
      [notState s n anyOpen, (tapEnabled s n t || tapHeld (tget x.taps t), wrongState 0x53)]) with
  | some e => (e, s)
  | none => (ok, modTap s n t fun z => if hf = .A then { z with ringA := some r } else { z with ringB := some r })

/-! Holds (R274, R277, R283). -/

/-- A buffer's state after its holds have changed: HELD with a hold, READY without (R274). -/
def settleBuf (b : TapBuf) : TapBuf :=
  if b.st = .ready ∨ b.st = .held then
    { b with st := if b.hostHold || !b.vcuHolds.isEmpty || b.vfHold then .held else .ready }
  else b

/-- Change the holds of buffer `k` of a tap, in every half of its context (R277). -/
def modHolds (s : State) (n t k : Nat) (f : TapBuf → TapBuf) : State :=
  (halvesOf (ctxAt s n)).foldl (fun s h => modTapHalf s n t h (modBuf k fun b => settleBuf (f b)) id) s

/-- The buffer is READY or HELD in every half of the context. -/
def bufReady (x : Context) (t : Tap) (k : Nat) : Bool :=
  let bs := bufAt t (halvesOf x) k
  !bs.isEmpty && bs.all fun b => decide (b.st = .ready) || decide (b.st = .held)

/-- Frame and SEQ of a buffer. -/
def bufInfo (x : Context) (t : Tap) (k : Nat) : TapBuf := ((bufAt t (halvesOf x) k).head?).getD {}

/-- The newest READY or HELD buffer of a tap. -/
def newestBuf (x : Context) (t : Tap) : Option Nat :=
  match (List.range (ringCount t (halvesOf x))).filter (bufReady x t) with
  | [] => none
  | k :: rest => some (rest.foldl (fun b k => if (bufInfo x t b).seq.toNat < (bufInfo x t k).seq.toNat then k else b) k)

/-- PIPE_TAP_BUFFER (R283). -/
def opPipeTapBuffer (c : Cmd) (_h : Half) (s : State) : Reply × State :=
  let n := pf c 2 4 0
  let t := pf c 2 8 5
  let o := pf c 2 10 9
  let x := ctxAt s n
  let tap := tget x.taps t
  let known := decide (x.st ≠ .closed)
  let ks := List.range (ringCount tap (halvesOf x))
  let f := BitVec.ofNat 64 (pq c 3)
  let target : Option Nat := match o with
    | 0 => newestBuf x tap
    | 1 => ks.find? fun k => bufReady x tap k && decide ((bufInfo x tap k).frame = f)
    | _ => if (bufInfo x tap (pf c 2 16 11)).hostHold then some (pf c 2 16 11) else none
  match firstErr ([(decide (o = 1) && decide (c.params.length < 3), errAt stBadLength 0 1)] ++ rsv c [(2, 0xFFFE0000)] ++
      bad [(2, decide (o = 3))] ++
      [(known && decide (tapCount x ≤ t), badParam 0x54 2), notState s n anyOpen, (target.isNone, wrongState 0x55)]) with
  | some e => (e, s)
  | none =>
    let k := target.getD 0
    let b := bufInfo x tap k
    let s1 := modHolds s n t k fun b =>
      if o = 2 then { b with hostHold := false, holdVia := 0 }
      else { b with hostHold := true, holdVia := b.holdVia ||| halfCode c.recv }
    (okWith (BitVec.ofNat 32 k) (lo32 b.frame.toNat) (hi32 b.frame.toNat), s1)

/-! PIPE_GET_TAP_STATUS (R284). -/

/-- Buffers of a ring in a state, as a mask. -/
def stateMask (r : Option TapRing) (st : BufState) : Nat :=
  match r with
  | some r => ((List.range r.bufs.length).map fun k => if (r.bufs.getD k {}).st = st then 2 ^ k else 0).sum
  | none => 0

/-- The tap status record of a half (R284). -/
def tapRecord (s : State) (n t : Nat) (h : Half) : List Word :=
  let x := ctxAt s n
  let tap := tget x.taps t
  let r := ringIn tap h
  let q := if h = .A then tap.cntA else tap.cntB
  let rm := stateMask r .ready
  let hm := stateMask r .held
  [pack [(0, t), (4, n), (9, halfNum h), (11, b2n tap.cfg.enable), (12, (r.map (·.count)).getD 0)],
   pack [(0, outSplit x tap.cfg), (16, (partOf x tap.cfg h).2)], lo32 rm, hi32 rm, lo32 hm, hi32 hm,
   lo32 q.lastFrame.toNat, hi32 q.lastFrame.toNat, lo32 q.seq.toNat, hi32 q.seq.toNat, q.skipped, q.reclaimed, q.clipFrames,
   0, 0, 0]

/-- PIPE_GET_TAP_STATUS. -/
def opPipeGetTapStatus (c : Cmd) (_h : Half) (s : State) : Reply × State :=
  let n := pf c 2 4 0
  let t := pf c 2 8 5
  let x := ctxAt s n
  match firstErr (rsv c [(2, 0xFFFFFE00)] ++ bad [(3, decide (pq c 3 % 32 ≠ 0))] ++
      [(decide (x.st ≠ .closed) && decide (tapCount x ≤ t), badParam 0x54 2), notState s n anyOpen]) with
  | some e => (e, s)
  | none => writeRecord s c (pq c 3) (dwordBytes ((halvesOf x).flatMap (tapRecord s n t))) ok

/-! Rows of the commands. -/

/-- PIPE_SET_COLOUR (R280). -/
def execPipeSetColour (c : Cmd) (s : State) : Host.Outcome State Fault Refusal := submit (.pipeSetColour c) .pipeSetColour opPipeSetColour c s

/-- PIPE_LOAD_LUT (R255). -/
def execPipeLoadLut (c : Cmd) (s : State) : Host.Outcome State Fault Refusal := submit (.pipeLoadLut c) .pipeLoadLut opPipeLoadLut c s

/-- PIPE_SET_TAP (R258). -/
def execPipeSetTap (c : Cmd) (s : State) : Host.Outcome State Fault Refusal := submit (.pipeSetTap c) .pipeSetTap opPipeSetTap c s

/-- PIPE_SET_TAP_RING (R273). -/
def execPipeSetTapRing (c : Cmd) (s : State) : Host.Outcome State Fault Refusal := submit (.pipeSetTapRing c) .pipeSetTapRing opPipeSetTapRing c s

/-- PIPE_TAP_BUFFER (R283). -/
def execPipeTapBuffer (c : Cmd) (s : State) : Host.Outcome State Fault Refusal := submit (.pipeTapBuffer c) .pipeTapBuffer opPipeTapBuffer c s

/-- PIPE_GET_TAP_STATUS (R284). -/
def execPipeGetTapStatus (c : Cmd) (s : State) : Host.Outcome State Fault Refusal := submit (.pipeGetTapStatus c) .pipeGetTapStatus opPipeGetTapStatus c s

end Sys2Proof.Machine
end

