-- ==== Sys2Proof/Machine/StatCmd.lean ====
section
/-! DEFINITION. The STAT_ commands (R288, R293, R296). -/

namespace Sys2Proof.Machine

/-- Geometry of a context as the stages read it. -/
def geoOf (x : Context) : Geo := { cfa := x.cfa, ax := x.ax, ay := x.ay, aw := x.aw, ah := x.ah }

/-- STAT_CONFIGURE dword `k` of a setup. -/
def statDw (k : StatCfg) (d : Nat) : Word := k.params.getD (d - 2) 0

/-- RECORDS of a setup. -/
def statRecords (k : StatCfg) : Nat := fld (statDw k 3) 15 0

/-- BASE of a setup. -/
def statBase (k : StatCfg) : Nat := (statDw k 4).toNat + 2 ^ 32 * (statDw k 5).toNat

/-- HDR_LINK of a setup. -/
def statHdr (k : StatCfg) : Bool := k.enable && bitOf (statDw k 2) 6

/-- CLIP_CODE of a setup for codes of `d` bits (R288). -/
def statClipCode (k : StatCfg) (d : Nat) : Nat :=
  let v := fld (statDw k 3) 31 16
  if v = 0 then 2 ^ d - 1 else v

/-- CLIP_POST_LEVEL of a setup. -/
def statClipPost (k : StatCfg) : Nat :=
  let v := fld (statDw k 6) 23 0
  if v = 0 then 0xFFFFFF else v

/-- CHG_FLOOR of a setup. -/
def statFloor (k : StatCfg) : Nat :=
  let v := fld (statDw k 7) 23 0
  if v = 0 then 0x1000 else v

/-- Address of the record of SEQ `n` in a setup's ring (R288). -/
def statAddr (k : StatCfg) (n : Nat) : Nat := statBase k + 98304 * ((n - 1) % max 1 (statRecords k))

/-- A STAT_CONFIGURE accepted for a context asks for HDR_LINK, in force or staged. -/
def hdrHeld (s : State) (n : Nat) : Bool :=
  statHdr (ctxAt s n).stat || s.staged.any fun x =>
    decide (x.op = .statConfigure) && decide (pf x.cmd 2 4 0 = n) && pb x.cmd 2 5 && pb x.cmd 2 6

/-- Another context holds HDR_LINK for the reference stream of context `n` (R290). -/
def hdrTaken (s : State) (n : Nat) : Bool :=
  (List.range 32).any fun k => decide (k ≠ n) && decide ((ctxAt s k).st ≠ .closed) && hdrHeld s k &&
    (refSource s (ctxAt s k)).isSome && decide (refStream s (ctxAt s k) = refStream s (ctxAt s n))

/-- CLIP_CODE is below 2^depth of every configured source (R288). -/
def clipCodeOk (s : State) (x : Context) (v : Nat) : Bool :=
  (allSources x).all fun z => ((streamAt s z.stream).cfg.map fun g => decide (v < 2 ^ depthBits g.depth)).getD true

/-- STAT_CONFIGURE (R288, R290, R293). -/
def opStatConfigure (c : Cmd) (h : Half) (s : State) : Reply × State :=
  let n := pf c 2 4 0
  let x := ctxAt s n
  let hf := refHalf s x
  let known := decide (x.st ≠ .closed)
  let z := (pq c 4, 98304 * pf c 3 15 0)
  let placed := pq c 4 % 4096 = 0 && backedRange (half s hf).mem z.1 z.2 &&
    apart [z] (otherRegions s hf 64 ++ tapRingsIn s hf 32 0)
  match firstErr (rsv c [(2, 0xFFFFC000), (6, 0xFF000000), (7, 0xFF000000)] ++
      bad [(2, decide (pf c 2 8 7 = 3) || decide (20 < pf c 2 13 9)),
        (3, decide (pf c 3 15 0 < 2 ∨ 4096 < pf c 3 15 0) || !clipCodeOk s x (pf c 3 31 16))] ++
      [(known && !placed, badParam 0x58 4),
       (known && pb c 2 5 && pb c 2 6 && (refSource s x).isSome && hdrTaken s n, badParam 0x59 2)] ++
      dramChecks s hf ++ [notState s n anyOpen]) with
  | some e => (e, s)
  | none => (.deferred 1, stage s c .statConfigure h (.contextFrame hf n))

/-- STAT_SET_CONTENT_TRIGGER (R294 to R296). -/
def opStatSetContentTrigger (c : Cmd) (_h : Half) (s : State) : Reply × State :=
  let n := pf c 2 12 8
  let x := ctxAt s n
  let known := decide (x.st ≠ .closed)
  let (zx, zy) := zoneGrid (geoOf x)
  let x0 := pf c 3 5 0
  let x1 := pf c 3 13 8
  let y0 := pf c 3 21 16
  let y1 := pf c 3 29 24
  let cnt := pf c 4 27 16
  let rect := decide (x1 < x0 ∨ y1 < y0) || (known && decide (zx ≤ x1 ∨ zy ≤ y1))
  match firstErr (rsv c [(2, 0xFFFFE080), (3, 0xC0C0C0C0), (4, 0xF0000000), (5, 0xFFFFFF00)] ++
      bad [(2, decide (pf c 2 6 5 = 3)), (4, decide (pf c 4 15 0 = 0 ∨ 32767 < pf c 4 15 0)), (5, decide (pf c 5 7 0 = 0))] ++
      [(rect, badParam 0x5A 3), (decide (cnt = 0 ∨ (x1 + 1 - x0) * (y1 + 1 - y0) < cnt), badParam 0x5A 4),
       (!x.stat.enable, wrongState 0x5A)]) with
  | some e => (e, s)
  | none =>
    let t : ContentTrig :=
      { enable := pb c 2 4, ctx := n, polarity := pf c 2 6 5, x0, x1, y0, y1, thresh := pf c 4 15 0, countMin := cnt
        persist := pf c 5 7 0, armed := true, run := 0 }
    (ok, { s with contentTrigs := tset s.contentTrigs (pf c 2 3 0) t })

/-- SEQ of a record still in the ring of context `n`: the newest, or that of frame `f` (R293). -/
def statFind (s : State) (n : Nat) (f : Option Nat) : Option Nat :=
  let x := ctxAt s n
  let last := x.statSeq.toNat
  (List.range (min last (statRecords x.stat))).findSome? fun i =>
    let q := last - i
    let d := dramDwords s (refHalf s x) (statAddr x.stat q) 6
    let valid := decide (fld (d.getD 0 0) 15 0 = 0x57A7) && decide (fld (d.getD 0 0) 28 24 = n) && decide (qword d 4 = q)
    match f with
    | some f => if valid && decide (qword d 2 = f) then some q else none
    | none => if valid && decide (i = 0) then some q else none

/-- STAT_READ (R293). -/
def opStatRead (c : Cmd) (_h : Half) (s : State) : Reply × State :=
  let n := pf c 2 4 0
  let x := ctxAt s n
  let found := if x.st = .closed then none else statFind s n (if pb c 2 5 then none else some (pq c 3))
  match firstErr (rsv c [(2, 0xFFFFFFC0)] ++ bad [(5, decide (pq c 5 % 32 ≠ 0))] ++ dramChecks s (refHalf s x) ++
      [notState s n anyOpen, (found.isNone, wrongState 0x55)]) with
  | some e => (e, s)
  | none =>
    let (bs, poison) := dramRead s (refHalf s x) (statAddr x.stat (found.getD 1)) 98304
    copyOut s (pq c 5) bs poison ok

/-! Rows of the commands. -/

/-- STAT_CONFIGURE (R288). -/
def execStatConfigure (c : Cmd) (s : State) : Host.Outcome State Fault Refusal := submit (.statConfigure c) .statConfigure opStatConfigure c s

/-- STAT_SET_CONTENT_TRIGGER (R296). -/
def execStatSetContentTrigger (c : Cmd) (s : State) : Host.Outcome State Fault Refusal := submit (.statSetContentTrigger c) .statSetContentTrigger opStatSetContentTrigger c s

/-- STAT_READ (R293). -/
def execStatRead (c : Cmd) (s : State) : Host.Outcome State Fault Refusal := submit (.statRead c) .statRead opStatRead c s

end Sys2Proof.Machine
end

