-- ==== Sys2Proof/Machine/Link.lean ====
section
/-! DEFINITION. The sensor lanes and links: bring-up, equalisation, electrical idle, retrains at a clearing, lane sparing and
the LINK_ commands (chapter 03). -/

namespace Sys2Proof.Machine

/-! What a link is made of. -/

/-- Quad mode of a link (R74). -/
def linkMode (s : State) (l : Link) : Nat := (tget s.quads (l.cfg.firstLane.toNat / 4)).toNat

/-- The link carries CSI-2. -/
def isCsi (s : State) (l : Link) : Bool := decide (linkMode s l = 3)

/-- Speed codes of a mode in rising order (table of speed codes). -/
def speedsOf : Nat → List Nat
  | 1 => [0, 1, 2, 3, 5, 6, 7]
  | 2 => [0, 1, 2, 3, 4]
  | _ => []

/-- Device lanes that a configuration names: working lanes, then the spare. -/
def cfgLanes (c : LinkCfg) : List Nat :=
  ((List.range c.width.toNat).map fun i => c.firstLane.toNat + i) ++
    if c.spareLane = 0x7F then [] else [c.spareLane.toNat]

/-- Device lanes of a link in use, then its spare. -/
def devs (l : Link) : List Nat := l.lanes.map (·.toNat) ++ if l.spare = 0x7F then [] else [l.spare.toNat]

/-- The link, not DISABLED, that a device lane belongs to. -/
def linkOf (s : State) (lane : Nat) : Option Nat :=
  (List.range 32).find? fun n =>
    let l := linkAt s n
    l.st != .disabled && ((cfgLanes l.cfg).contains lane || (devs l).contains lane)

/-- The stream with the lowest number on a link (R115, R118). -/
def lowStream (s : State) (n : Nat) : Option Nat :=
  (List.range 64).find? fun k => decide ((streamAt s k).bind.map (·.link) = some n)

/-- Frame number of the link's lowest-numbered stream, and all ones without one (R118). -/
def linkPoint (s : State) (n : Nat) : Count64 :=
  match lowStream s n with
  | some k => (streamAt s k).frame.getD noPoint
  | none => noPoint

/-- The first frame after now of the link's lowest-numbered stream (R118). -/
def linkNext (s : State) (n : Nat) : Count64 :=
  match lowStream s n with
  | some k => ((streamAt s k).frame.map (· + 1)).getD 0
  | none => noPoint

/-- An event of a link. -/
def linkEvent (s : State) (n : Nat) (code : BitVec 16) (sev : BitVec 2) (point : Count64) (d0 d1 d2 : Nat) : State :=
  event s (halfOf n 16) code sev 0x10 n point d0 d1 d2

/-- An event of a device lane. -/
def laneEvent (s : State) (d : Nat) (code : BitVec 16) (sev : BitVec 2) (point : Count64) (d0 d1 : Nat) : State :=
  event s (halfOf d 48) code sev 0x11 d point d0 d1 0

/-- The state with each of these device lanes changed. -/
def modLanes (s : State) (ds : List Nat) (f : Lane → Lane) : State := ds.foldl (fun s d => modLane s d f) s

/-- State code of a link (R93). -/
def linkCode : LinkState → Nat
  | .disabled => 0
  | .detect => 1
  | .cap => 2
  | .train => 3
  | .active => 4
  | .idle => 5
  | .exit => 6
  | .retrain => 7
  | .backoff => 8
  | .silent => 9
  | .down => 10

/-- LSTATE code of a lane (R110). -/
def laneCode : LaneState → Nat
  | .off => 0
  | .training => 1
  | .active => 2
  | .idle => 3
  | .spareReady => 4
  | .down => 5
  | .backgroundRetrain => 6

/-- The link has a trained spare (R105). -/
def spareTrained (s : State) (l : Link) : Bool :=
  l.spare != 0x7F && decide ((laneAt s l.spare.toNat).lstate = .spareReady)

/-- RESULT0 of LINK_ENABLE (R114). -/
def linkResult (l : Link) : Nat :=
  l.speed.toNat + l.width.toNat * 16 + l.spare.toNat * 512 + b2n l.reduced * 65536

/-- Complete every command that waits for the link to come up. -/
def finishLinkCmds (s : State) (n : Nat) (status : BitVec 16) (reason : BitVec 8) : State :=
  let l := linkAt s n
  let s1 := modLink s n fun l => { l with enableCmd := none, retrainCmds := [] }
  (l.enableCmd.toList ++ l.retrainCmds).foldl (fun s c =>
    complete s c (halfOf n 16) status reason 0xFFFF (BitVec.ofNat 32 (linkResult l)) (BitVec.setWidth 32 l.downMask)
      (BitVec.ofNat 32 l.retries)) s1

/-! Bring-up (R87 to R92). -/

/-- A lane at the start of a training. -/
def freshLane (eq : BitVec 4) (x : Lane) : Lane :=
  { x with lstate := .training, locked := false, validRun := 0, hdrWindow := 0, eqTrained := eq, eqNow := eq
           frozen := false, wanderClamped := false, failing := false, misses := 0, stageLocked := false
           prbsResult := none, eqForced := false, deskewed := false, marker := none, capRun := 0, idleRun := 0 }

/-- The link goes to DETECT: receivers on, lanes at 1.25 Gb/s (R87 step 1). -/
def startDetect (s : State) (n : Nat) : State :=
  let l := linkAt s n
  let working := (List.range l.cfg.width.toNat).map fun i => l.cfg.firstLane + BitVec.ofNat 7 i
  let s1 := modLink s n fun l => { l with
    st := .detect, lanes := working, full := working, spare := l.cfg.spareLane, width := l.cfg.width, step := 0,
    passed := none, cap := none, awaitApplied := false, downMask := 0, retries := 0, spareUsed := false, remap := none,
    pendingRetrain := none, retraining := none, exitFailed := false, background := none, csi2Lp11 := false,
    csi2Skew := false, prbsCheck := none }
  modLanes s1 (cfgLanes l.cfg) (freshLane 0)

/-- A control-channel write of SPEED, WIDTH and TX_MODE with APPLY, and the wait for APPLIED (R84, R87). -/
def sensorApply (l : Link) (speed : BitVec 4) (mode : BitVec 3) : Link :=
  { l with sensor := { l.sensor with speed, width := BitVec.ofNat 5 l.lanes.length, txMode := mode, apply := true }
           awaitApplied := true }

/-- A control-channel write of TX_MODE and HOLD that waits for nothing. -/
def sensorMode (l : Link) (mode : BitVec 3) (hold : Bool) : Link :=
  { l with sensor := { l.sensor with txMode := mode, hold } }

/-- The lanes begin a stage again. -/
def resetStage (s : State) (n : Nat) : State :=
  modLanes s (devs (linkAt s n)) fun x =>
    if x.lstate = .down then x
    else { x with stageLocked := false, misses := 0, prbsResult := none, locked := false, validRun := 0 }

/-- A speed step starts (R87 step 4). -/
def startStep (s : State) (n : Nat) (step : BitVec 4) : State :=
  resetStage (modLink s n fun l => sensorApply { l with st := .train, step } step 2) n

/-- The link goes to DOWN (R90, R93). -/
def linkDown (s : State) (n : Nat) (reason : BitVec 8) : State :=
  let s1 := modLink s n fun l => { l with st := .down, awaitApplied := false, retraining := none }
  finishLinkCmds (linkEvent s1 n 0x100B 2 noPoint reason.toNat 0 0) n stLinkDown reason

/-- The last passed step is taken: traffic is ordered, unless it lies below MIN_SPEED (R87 step 8, R113). -/
def settle (s : State) (n : Nat) (step : BitVec 4) : State :=
  if step.toNat < (linkAt s n).cfg.minSpeed.toNat then linkDown s n 0x23
  else
    let s1 := modLink s n fun l => sensorApply { l with speed := step } step 3
    modLanes s1 (devs (linkAt s1 n)) fun x => { x with locked := false, validRun := 0, deskewed := false, marker := none }

/-- A lane can still be used. -/
def laneGood (s : State) (d : BitVec 7) : Bool := (laneAt s d.toNat).lstate != .down

/-- The first logical lane that is down is replaced by the spare (R90). -/
def substitute (s : State) (n : Nat) : State :=
  let l := linkAt s n
  match (List.range l.full.length).find? fun i => !laneGood s (l.full.getD i 0) with
  | some i =>
    if l.spare != 0x7F && laneGood s l.spare && ((l.cap.map (·.remap)).getD false) then
      modLink s n fun l => { l with
        full := l.full.set i l.spare, spare := 0x7F
        sensor := { l.sensor with
          remapLogical := BitVec.ofNat 5 i, remapPhysical := l.cfg.width, remapValid := true } }
    else s
  | none => s

/-- Bit of a width in WIDTH_MASK (R86). -/
def widthBit : Nat → Nat
  | 1 => 0
  | 2 => 1
  | 4 => 2
  | 8 => 3
  | 12 => 4
  | _ => 5

/-- The lanes that the link goes on with: all, or the largest width that qualifies (R90). -/
def chooseLanes (s : State) (l : Link) : Option (List (BitVec 7)) :=
  if l.full.all (laneGood s) then some l.full
  else
    let cap := l.cap.getD {}
    ([16, 12, 8, 4, 2, 1] : List Nat).findSome? fun w =>
      if w ≤ l.cfg.width.toNat ∧ l.cfg.minWidth.toNat ≤ w ∧ cap.widthMask.getLsbD (widthBit w) = true then
        if cap.remap then
          let g := l.full.filter (laneGood s)
          if w ≤ g.length then some (g.take w) else none
        else
          let g := l.full.take w
          if g.all (laneGood s) then some g else none
      else none

/-- Lanes have been marked down: the stage starts again on the lanes that remain, or the link goes to DOWN (R90). -/
def reduceWidth (s : State) (n : Nat) : State :=
  let s1 := substitute s n
  match chooseLanes s1 (linkAt s1 n) with
  | none => linkDown s1 n 0x21
  | some ls =>
    resetStage (modLink s1 n fun l =>
      sensorApply { l with lanes := ls, width := BitVec.ofNat 5 ls.length } l.step 2) n

/-- Logical number of a device lane in LINK_ENABLE's mask: 16 for the spare (R114). -/
def downBit (l : Link) (d : Nat) : Nat := if d = l.cfg.spareLane.toNat then 16 else d - l.cfg.firstLane.toNat

/-- A device lane is marked down in a stage (R88). -/
def markDown (s : State) (n d stage : Nat) : State :=
  let l := linkAt s n
  let s1 := modLane s d fun x => { x with lstate := .down, locked := false }
  let s2 := laneEvent (modLink s1 n fun l => { l with downMask := l.downMask ||| BitVec.ofNat 17 (2 ^ downBit l d) })
    d 0x1004 1 noPoint stage l.step.toNat
  if d = l.spare.toNat then modLink s2 n fun l => { l with spare := 0x7F } else reduceWidth s2 n

/-- A lane misses a stage's timeout: the stage is repeated up to three times (R88). -/
def missStage (s : State) (n d stage : Nat) : State :=
  let m := (laneAt s d).misses + 1
  let s1 := modLane s d fun x => { x with misses := m }
  if 4 ≤ m then markDown s1 n d stage else modLink s1 n fun l => { l with retries := l.retries + 1 }

/-- The link is in a lock or PRBS stage whose settings are applied. -/
def inStage (l : Link) : Bool := decide (l.st = .train) && !l.awaitApplied && decide (l.sensor.txMode = 2)

/-- Score of an eye: EYE_W x EYE_H (R95). -/
def eyeScore (e : EyeResult) : Nat := e.w.toNat * e.h.toNat

/-- Distance of two codes. -/
def codeDist (a b : BitVec 4) : Nat := (a.toNat - b.toNat) + (b.toNat - a.toNat)

/-- The better of two eyes: the larger product, then the code nearest the hint, then the lower code (R95). -/
def betterEye (hint : BitVec 4) (a b : EyeResult) : EyeResult :=
  if eyeScore b < eyeScore a then a
  else if eyeScore a < eyeScore b then b
  else if codeDist a.code hint < codeDist b.code hint then a
  else if codeDist b.code hint < codeDist a.code hint then b
  else if a.code.toNat ≤ b.code.toNat then a else b

/-- The best eye of a sweep; none where every product is 0 (R95). -/
def bestEye (hint : BitVec 4) (es : List EyeResult) : Option EyeResult :=
  match es with
  | [] => none
  | e :: t =>
    let b := t.foldl (betterEye hint) e
    if eyeScore b = 0 then none else some b

/-- A lane takes its trained code. -/
def takeEye (e : EyeResult) (x : Lane) : Lane :=
  { x with eqTrained := e.code, eqNow := e.code, eyeW := e.w, eyeH := e.h }

/-! Going up (R87 step 8). -/

/-- The link is ACTIVE: LINK_UP, and the commands that waited for it complete (R87, R114). -/
def goActive (s : State) (n : Nat) : State :=
  let l := linkAt s n
  let s0 := modLanes s (l.lanes.map (·.toNat)) fun x => { x with lstate := .active, failing := false, idleRun := 0 }
  let s1 := if l.spare = 0x7F then s0 else modLane s0 l.spare.toNat fun x => { x with lstate := .spareReady }
  let s2 := modLink s1 n fun l => { l with
    st := .active, awaitApplied := false, lossCount := 0, rounds := 0
    reduced := decide (l.width ≠ l.cfg.width) || decide (l.speed.toNat < l.cfg.maxSpeed.toNat && !isCsi s l) }
  let l2 := linkAt s2 n
  let cause := b2n (l2.enableCmd.isNone && l2.retrainCmds.isEmpty)
  let s3 := linkEvent s2 n 0x1001 0 noPoint (linkResult l2) l2.downMask.toNat cause
  setIdleAllow (finishLinkCmds s3 n stOk 0) n

/-! Losses (R91, R94). -/

/-- Backoff after the k-th consecutive loss, in AON cycles: 1 ms doubling to 1,024 ms (R91). -/
def lossBackoff (k : Nat) : Nat := 25000 * 2 ^ min (k - 1) 10

/-- The link has lost its signal: LINK_LOST and BACKOFF; after eight losses in training LINK_ENABLE completes (R91). -/
def linkLost (s : State) (n : Nat) (inTraining : Bool) : State :=
  let l := linkAt s n
  let k := l.lossCount + 1
  let s1 := modLink s n fun l => { l with
    st := .backoff, lossCount := k, backoff := lossBackoff k, losses := satInc l.losses, awaitApplied := false }
  let s2 := modLanes s1 (devs l) fun x => if x.lstate = .down then x else { x with lstate := .training, locked := false }
  let s3 := linkEvent s2 n 0x1002 2 (linkPoint s n) (linkCode l.st) (lossBackoff k) 0
  if inTraining && decide (8 ≤ k) then finishLinkCmds s3 n stLinkDown 0x24 else s3

/-! Lane sparing (R105 to R108). -/

/-- Frame F of a remap: the frame after next at the earliest, and at least 200 us (200,000 ingest cycles) on (R107). -/
def remapFrame (x : Stream) : Count64 :=
  let k := match x.reporting.periods with
    | [] => 2
    | p :: _ => if p = 0 then 2 else max 2 (200000 / p + 2)
  (x.frame.getD (BitVec.allOnes 64)) + BitVec.ofNat 64 k

/-- Arm a remap of a logical lane to the spare (R107 steps 1 and 2). -/
def armRemap (s : State) (n logical : Nat) (cmd : Option Cmd) : State :=
  match lowStream s n with
  | none => s
  | some k =>
    let f := remapFrame (streamAt s k)
    modLink s n fun l => { l with
      remap := some { logical, oldLane := l.lanes.getD logical 0, newLane := l.spare, frame := f, cmd }
      sensor := { l.sensor with
        remapLogical := BitVec.ofNat 5 logical, remapPhysical := l.cfg.width, remapFrame := BitVec.setWidth 32 f
        remapValid := true } }

/-- A remap can be armed: the link is ACTIVE with a trained spare, no remap armed, and a stream whose frames name F. -/
def canRemap (s : State) (n : Nat) : Bool :=
  let l := linkAt s n
  decide (l.st = .active) && spareTrained s l && l.remap.isNone && (lowStream s n).isSome

/-- A lane meets the failing criteria for the first time: it is remapped, or reported (R106, R108); a failing spare is
marked down. -/
def laneFails (s : State) (n d crit : Nat) : State :=
  let l := linkAt s n
  if d = l.spare.toNat then
    modLink (modLane s d fun x => { x with lstate := .down, failing := true }) n fun l =>
      { l with spare := 0x7F, downMask := l.downMask ||| 0x10000 }
  else
    let s1 := modLane s d fun x => { x with failing := true }
    match l.lanes.findIdx? fun x => decide (x.toNat = d) with
    | none => s
    | some i =>
      if l.policy.autoSpare && canRemap s n then armRemap s1 n i none
      else laneEvent s1 d 0x1009 2 (linkPoint s n) crit 0

/-- Criterion of R106 that a lane meets; 0 where it meets none. -/
def failCriterion (l : Link) (x : Lane) : Nat :=
  if 65 ≤ x.syncAt.length ∧ x.syncAt.headD 0 < x.syncAt.getLastD 0 + 2 ^ 24 then 1
  else if 5 ≤ x.bipAt.length ∧ x.bipAt.headD 0 < x.bipAt.getLastD 0 + 2 ^ 24 then 2
  else if l.policy.autoRetrain && x.wanderClamped then 4 else 0

/-- Check a lane of an ACTIVE link against the criteria; a loss of block lock is one by itself (R106). -/
def checkFailing (s : State) (n d : Nat) (lostLock : Bool) : State :=
  let l := linkAt s n
  let x := laneAt s d
  let c := if lostLock then 3 else failCriterion l x
  if l.st = .active ∧ x.failing = false ∧ c ≠ 0 ∧ (devs l).contains d = true then laneFails s n d c else s

/-! Retrains at a clearing (R103, R104). -/

/-- The first mechanism of the table that serves a retrain of these logical lanes. -/
def clearingMechanism (s : State) (n : Nat) (ls : List Nat) : Nat :=
  let l := linkAt s n
  let cap := l.cap.getD {}
  if ls.length = 1 ∧ canRemap s n = true then 1
  else if cap.holdOk && l.policy.allowHold then 2
  else if cap.fastExit && l.sensor.idleAllow then 3
  else 4

/-- Schedule a retrain of logical lanes at a clearing; one already pending covers both (R103, R104). -/
def scheduleRetrain (s : State) (n : Nat) (ls : List Nat) : State :=
  let l := linkAt s n
  let all := (l.pendingRetrain.map (·.2)).getD [] ++ ls.filter fun i => !((l.pendingRetrain.map (·.2)).getD []).contains i
  let m := clearingMechanism s n all
  let s1 := linkEvent (modLink s n fun l => { l with pendingRetrain := some (m, all) }) n 0x1006 0 noPoint m 0 0
  match m with
  | 1 => armRemap s1 n (all.headD 0) none
  | 2 => modLink s1 n fun l => sensorMode l 4 true
  | 3 => modLink s1 n fun l => { l with sensor := { l.sensor with retrainOnExit := true } }
  | _ => s1

/-- A retrain at current speed starts: mechanism (0 = not at a clearing: an exit of electrical idle, which leaves a pending
retrain pending), and the logical lanes it covers (R101, R102, R103). -/
def startRetrainAtSpeed (s : State) (n mech : Nat) (ls : List Nat) : State :=
  let s1 := modLink s n fun l => { l with st := .retrain, retraining := some (mech, ls), pendingRetrain := if mech = 0 then l.pendingRetrain else none }
  modLanes s1 (devs (linkAt s n)) fun x =>
    if x.lstate = .down then x else { x with lstate := .training, locked := false, validRun := 0, frozen := true }

/-- Every logical lane of a link. -/
def allLogical (l : Link) : List Nat := List.range l.lanes.length

/-- Mask of a list of logical lanes. -/
def maskOf (ls : List Nat) : Nat := (ls.map fun i => 2 ^ i).sum

/-- A clearing of a half is counted (R50). -/
def countClearing (s : State) (h : Half) : State := modMem s h fun m => { m with clearings := m.clearings + 1 }

/-- A clearing's retrain has ended: counted and reported, and the commands that waited for it complete (R103, R116). -/
def retrainReport (s : State) (n mech : Nat) (ls : List Nat) : State :=
  let s1 := modLink s n fun l => { l with retrains := satInc l.retrains }
  let s2 := linkEvent (countClearing s1 (halfOf n 16)) n 0x1007 0 (linkNext s n) mech (maskOf ls) 0
  finishLinkCmds s2 n stOk 0

/-- One lane's part of a retrain: a sweep over the held code and two to each side (R101). -/
def retrainLane (hint : BitVec 4) (es : List EyeResult) (x : Lane) : Lane :=
  match bestEye hint (es.filter fun e => decide (codeDist e.code x.eqNow ≤ 2)) with
  | some e => takeEye e { x with locked := true, wanderClamped := false, failing := false, deskewed := true }
  | none => { x with lstate := .down, locked := false }

/-- A retrain at current speed ends: `sweeps` holds what each lane in use measured, its spare last. Lanes that fail are
lost if the width allows it; else the link goes to DOWN (R93, R101, R103). -/
def retrainDone (s : State) (n : Nat) (sweeps : List (List EyeResult)) (cycles : Nat) : State :=
  let l := linkAt s n
  let hint := ((l.cap.map (·.eqHint)).getD 0)
  let s1 := (List.range (devs l).length).foldl (fun s i =>
    modLane s ((devs l).getD i 0) (retrainLane hint (sweeps.getD i []))) s
  let lost := (devs l).filter fun d => decide ((laneAt s1 d).lstate = .down)
  let s2 := modLink s1 n fun l => { l with
    trainCycles := BitVec.ofNat 32 cycles
    spare := if lost.contains l.spare.toNat then 0x7F else l.spare }
  match chooseLanes s2 { linkAt s2 n with full := l.lanes } with
  | none => linkDown s2 n 0x21
  | some ls =>
    let s3 := modLanes s2 (ls.map (·.toNat)) fun x => { x with lstate := .active, frozen := false, idleRun := 0 }
    let s4 := if (linkAt s3 n).spare = 0x7F then s3 else
      modLane s3 (linkAt s3 n).spare.toNat fun x => { x with lstate := .spareReady, frozen := false }
    let s5 := modLink s4 n fun l => { l with
      st := .active, lanes := ls, width := BitVec.ofNat 5 ls.length, retraining := none, exitFailed := false
      reduced := l.reduced || decide (ls.length < l.cfg.width.toNat)
      sensor := { l.sensor with txMode := 3, hold := false, retrainOnExit := false, width := BitVec.ofNat 5 ls.length } }
    if l.exitFailed then
      linkEvent s5 n 0x100A 1 (linkNext s n) (maskOf ((l.retraining.map (·.2)).getD [])) 0 0
    else if l.retraining.map (·.1) = some 0 then modLanes s5 (ls.map (·.toNat)) fun x => { x with exits := x.exits + 1 }
    else
      retrainReport s5 n ((l.retraining.map (·.1)).getD 4) ((l.retraining.map (·.2)).getD [])

/-! Rows of bring-up. -/

/-- SIGNAL_ENERGY_DETECTED (R87 step 2, R92, R93). -/
def energyDetected (s : State) (n : Nat) : State :=
  let l := linkAt s n
  match l.st with
  | .detect =>
    if isCsi s l then s else modLink s n fun l => sensorApply { l with st := .cap } l.sensor.speed 1
  | .silent => startDetect (modLink s n fun l => { l with rounds := 0 }) n
  | .idle =>
    if linkMode s l = 2 then
      startRetrainAtSpeed s n 0 (allLogical l)
    else
      modLanes (modLink s n fun l => { l with st := .exit }) (devs l) fun x =>
        if x.lstate = .down then x else { x with locked := false, validRun := 0, deskewed := false }
  | _ => s

/-- The fields of a CAP payload [63:8] (R86). -/
def capOf (p : BitVec 56) : Cap :=
  { version := p.extractLsb' 0 8, speedMask := p.extractLsb' 8 8, widthMask := p.extractLsb' 16 6
    eqHint := p.extractLsb' 24 4, remap := p.getLsbD 33, fastExit := p.getLsbD 34, holdOk := p.getLsbD 35
    sensorLink := p.extractLsb' 36 4, streams := p.extractLsb' 40 4 }

/-- A CAP payload without its LANE field (R86). -/
def capNoLane (p : BitVec 56) : BitVec 56 := p &&& 0xFFFFFE0FFFFFFF

/-- Capabilities are accepted: the highest common speed is chosen and training starts (R87 steps 3 and 4, R105, R113). -/
def acceptCap (s : State) (n : Nat) (cap : Cap) : State :=
  let l := linkAt s n
  let speeds := (speedsOf (linkMode s l)).filter fun c =>
    cap.speedMask.getLsbD c && decide (c ≤ l.cfg.maxSpeed.toNat)
  let s1 := modLanes (modLink s n fun l => { l with cap := some cap, rounds := 0 }) (devs l) (freshLane cap.eqHint)
  if l.cfg.spareLane ≠ 0x7F ∧ cap.remap = false then
    finishLinkCmds (modLanes (modLink s1 n fun l => { l with st := .disabled }) (devs l) fun x => { x with lstate := .off })
      n stBadParam 0x06
  else match speeds.getLast? with
    | none => linkDown s1 n 0x23
    | some top =>
      if top < l.cfg.minSpeed.toNat then linkDown s1 n 0x23
      else startStep (modLink s1 n fun l => { l with top := BitVec.ofNat 4 top }) n 0

/-- A CAP block arrives on a lane of a link in CAP (R86). -/
def capArrives (s : State) (lane : Nat) (p : BitVec 56) : State :=
  match linkOf s lane with
  | none => s
  | some n =>
    let l := linkAt s n
    if l.st ≠ .cap then s
    else
      let s1 := modLane s lane fun x => { x with
        capRun := if x.capBits = p ∧ 0 < x.capRun then x.capRun + 1 else 1, capBits := p }
      let ok := (devs l).all fun d =>
        decide (8 ≤ (laneAt s1 d).capRun) && decide (capNoLane (laneAt s1 d).capBits = capNoLane p)
      if ok then acceptCap s1 n (capOf p) else s1

/-- APPLIED: the sensor reports that its settings are in effect (R85, R87). -/
def execApplied (link : Nat) (s : State) : Host.Outcome State Fault Refusal :=
  act (.applied link) s
    (modLink s link fun l => { l with sensor := { l.sensor with apply := false }, awaitApplied := false })

/-- A lane's lock stage ends with a sweep of its codes (R95). -/
def lockDone (s : State) (lane : Nat) (sweep : List EyeResult) : State :=
  match linkOf s lane with
  | none => s
  | some n =>
    let l := linkAt s n
    if !inStage l || !(devs l).contains lane || decide ((laneAt s lane).lstate = .down) then s
    else match bestEye ((l.cap.map (·.eqHint)).getD 0) sweep with
      | none => missStage s n lane 1
      | some e => modLane s lane fun x => { takeEye e x with stageLocked := true, misses := 0 }

/-- A lane misses a timeout of the lock stage, or of the PRBS stage's pattern lock (R88). -/
def stageTimeout (s : State) (lane : Nat) : State :=
  match linkOf s lane with
  | none => s
  | some n =>
    let l := linkAt s n
    if !inStage l || !(devs l).contains lane || decide ((laneAt s lane).lstate = .down) then s
    else missStage s n lane (if (laneAt s lane).stageLocked then 2 else 1)

/-- The code after `c` among the mode's codes up to the top (R87 step 7). -/
def nextSpeed (s : State) (l : Link) : BitVec 4 :=
  BitVec.ofNat 4 (((speedsOf (linkMode s l)).find? fun c => decide (l.step.toNat < c)).getD l.top.toNat)

/-- Move a working device lane to the spare in training (R89). -/
def trainSpare (l : Link) (d : Nat) : Link :=
  let f := fun (x : BitVec 7) => if x.toNat = d then l.spare else x
  { l with
    lanes := l.lanes.map f, full := l.full.map f, spare := 0x7F, spareUsed := true
    sensor := { l.sensor with
      remapLogical := BitVec.ofNat 5 ((l.full.findIdx? fun x => decide (x.toNat = d)).getD 0)
      remapPhysical := l.cfg.width, remapValid := true } }

/-- The PRBS count of a step ends: `errors` per lane in use, the spare last (R87 steps 6 to 8, R89). -/
def prbsDone (s : State) (n : Nat) (errors : List Nat) (cycles : Nat) : State :=
  let l := linkAt s n
  if !inStage l || !(devs l).all (fun d => decide ((laneAt s d).lstate = .down) || (laneAt s d).stageLocked) then s
  else
    let err := fun d => errors.getD (((devs l).findIdx? fun x => decide (x = d)).getD 0) 0
    let s1 := (devs l).foldl (fun s d => modLane s d fun x => { x with
      prbsErr := BitVec.ofNat 32 (err d), prbsResult := some (err d) }) s
    let s2 := modLink s1 n fun l => { l with trainCycles := BitVec.ofNat 32 cycles }
    let s3 := if l.spare ≠ 0x7F ∧ err l.spare.toNat ≠ 0 then markDown s2 n l.spare.toNat 2 else s2
    let bad := (l.lanes.map (·.toNat)).filter fun d => decide (err d ≠ 0)
    let l3 := linkAt s3 n
    match bad with
    | [] =>
      if l.top.toNat ≤ l.step.toNat then settle s3 n l.step
      else startStep (modLink s3 n fun l => { l with passed := some l.step, spareUsed := false }) n (nextSpeed s l)
    | d :: more =>
      if l.step = 0 then bad.foldl (fun s d => if (linkAt s n).st = .train then missStage s n d 2 else s) s3
      else if more.isEmpty && l3.spare != 0x7F && !l.spareUsed && ((l.cap.map (·.remap)).getD false) then
        startStep (modLink s3 n fun l => trainSpare l d) n l.step
      else settle s3 n (l.passed.getD 0)

/-- A DETECT and CAP round ends unanswered; after three the link is SILENT (R92). -/
def capTimeout (s : State) (n : Nat) : State :=
  let l := linkAt s n
  if l.st = .detect ∨ l.st = .cap then
    if 3 ≤ l.rounds + 1 then
      let s1 := modLink s n fun l => { l with st := .silent, rounds := 0, awaitApplied := false }
      finishLinkCmds (linkEvent s1 n 0x1003 1 noPoint 0 0 0) n stLinkDown 0x20
    else modLink s n fun l => { l with st := .detect, rounds := l.rounds + 1, awaitApplied := false }
  else s

/-- LINK_BACKOFF_EXPIRY (R91). -/
def execLinkBackoffExpiry (link : Nat) (s : State) : Host.Outcome State Fault Refusal :=
  act (.linkBackoffExpiry link) s (if (linkAt s link).st = .backoff then startDetect s link else s)

/-! Blocks (R77 to R81). -/

/-- One bit through the self-synchronous descrambler 1 + x^39 + x^58 (R77). -/
def descrambleBit (st : BitVec 58) (b : Bool) : Bool × BitVec 58 :=
  (b ^^ st.getLsbD 38 ^^ st.getLsbD 57, (st <<< 1) ||| (if b then 1 else 0))

/-- A payload descrambled, least significant bit first. -/
def descramble : Nat → BitVec 64 → BitVec 58 → BitVec 64 × BitVec 58
  | 0, _, st => (0, st)
  | k + 1, p, st =>
    let r := descrambleBit st (p.getLsbD (63 - k))
    let t := descramble k p r.2
    (t.1 ||| (if r.1 then 1 <<< (63 - k) else 0), t.2)

/-- BIP-8 contribution of a block, by the bit places of IEEE 802.3 Clause 82 (PRESUMED 48): payload bit i in bit i mod 8,
the header's two bits in bits 3 and 4. -/
def bipOf (hdr : BitVec 2) (p : BitVec 64) : BitVec 8 :=
  (List.range 8).foldl (fun a i => a ^^^ p.extractLsb' (8 * i) 8) (0 : BitVec 8) ^^^
    BitVec.ofNat 8 (8 * b2n (hdr.getLsbD 0) + 16 * b2n (hdr.getLsbD 1))

/-- Invalid headers among the last 64. -/
def badHeaders (w : BitVec 64) : Nat := ((List.range 64).filter fun i => w.getLsbD i).length

/-- A sync-header error is counted. -/
def syncError (x : Lane) : Lane :=
  { x with syncErr := satInc x.syncErr, syncAt := (x.blocks :: x.syncAt).take 65 }

/-- A 66-bit block other than ALIGN on a lane: header, lock, scrambler, BIP-8 and IDLE run (R77, R78, R80, R97). -/
def laneBlock (x : Lane) (hdr : BitVec 2) (payload : BitVec 64) : Lane :=
  let valid := decide (hdr = 1) || decide (hdr = 2)
  let d := descramble 64 payload x.scrambler
  let ty := (d.1.extractLsb' 0 8).toNat
  let known := decide (hdr ≠ 2) || decide (0x80 ≤ ty) || decide (ty = 0x1E) || decide (ty = 0x33) || decide (ty = 0x55) ||
    decide (ty = 0x66) || decide (ty = 0x4B)
  let x1 := { x with
    blocks := x.blocks + 1, scrambler := d.2, bip := x.bip ^^^ bipOf hdr payload
    idleRun := if hdr = 2 ∧ ty = 0x1E then x.idleRun + 1 else 0
    hdrWindow := (x.hdrWindow <<< 1) ||| (if valid then 0 else 1) }
  let x2 := if valid && known then x1 else syncError x1
  if x.locked then
    if 16 ≤ badHeaders x2.hdrWindow then
      { x2 with locked := false, validRun := 0, hdrWindow := 0, lockLoss := satInc x2.lockLoss }
    else x2
  else
    let r := if valid then x.validRun + 1 else 0
    { x2 with validRun := r, locked := decide (64 ≤ r), hdrWindow := if 64 ≤ r then 0 else x2.hdrWindow }

/-- PSL_BLOCK: the block counts for its lane, and a failing lane is remapped or reported (R77, R78, R106). -/
def pslBlock (s : State) (lane : Nat) (hdr : BitVec 2) (payload : BitVec 64) : State :=
  match linkOf s lane with
  | none => s
  | some n =>
    let x := laneAt s lane
    let y := laneBlock x hdr payload
    let y2 := { y with frozen := decide (1024 < y.idleRun) || x.frozen && decide (0 < y.idleRun) }
    checkFailing (modLane s lane fun _ => y2) n lane (x.locked && !y.locked)

/-- One lane's ALIGN: deskew and BIP-8 (R80, R81). -/
def laneAlign (logical : Nat) (b : AlignBlock) (x : Lane) : Lane :=
  let bad := decide (8 < b.skew) || decide (b.lane ≠ logical) || ((x.marker.map fun m => decide (m ≠ b.marker)).getD false)
  let x1 := { x with deskewed := !bad, marker := some (b.marker + 1), bip := 0 }
  let x2 := if bad then { x1 with deskewErr := satInc x1.deskewErr } else x1
  if x.bip = b.bip then x2
  else { x2 with bipErr := satInc x2.bipErr, bipAt := (x2.blocks :: x2.bipAt).take 5 }

/-- What the ALIGN blocks of a link decide: training ends in ACTIVE, a fast exit is checked, lanes are judged (R81, R87,
R101, R106). -/
def alignDone (s : State) (n : Nat) : State :=
  let l := linkAt s n
  let ds := l.lanes.map (·.toNat)
  let up := fun d => (laneAt s d).locked && (laneAt s d).deskewed
  match l.st with
  | .train =>
    if l.sensor.txMode = 3 ∧ l.awaitApplied = false then
      if ds.all up then goActive s n
      else (ds.filter fun d => !(laneAt s d).deskewed).foldl
        (fun s d => if (linkAt s n).st = .train then missStage s n d 1 else s) s
    else s
  | .exit =>
    let failed := ds.filter fun d => !up d
    let s1 := modLanes s ds fun x => { x with exits := x.exits + 1 }
    if failed.isEmpty then
      modLanes (modLink s1 n fun l => { l with st := .active }) (devs l) fun x =>
        if x.lstate = .idle then { x with lstate := .active, frozen := false } else x
    else
      let s2 := modLanes s1 failed fun x => { x with exitFails := satInc x.exitFails }
      let idx := (List.range l.lanes.length).filter fun i => failed.contains (l.lanes.getD i 0).toNat
      startRetrainAtSpeed (modLink s2 n fun l => { l with exitFailed := true }) n 0 idx
  | .active => (devs l).foldl (fun s d => checkFailing s n d false) s
  | _ => s

/-- ALIGN (R81): `blocks` in the order of the lanes in use, the spare last. -/
def alignBlocks (s : State) (n : Nat) (blocks : List AlignBlock) : State :=
  let l := linkAt s n
  let s1 := (List.range (min blocks.length (devs l).length)).foldl (fun s i =>
    let logical := if i < l.lanes.length then i else l.cfg.width.toNat
    modLane s ((devs l).getD i 0) (laneAlign logical (blocks.getD i {}))) s
  alignDone s1 n

/-- A stream of the link has a frame open. -/
def frameOpen (s : State) (n : Nat) : Bool :=
  s.streams.toList.any fun x => decide (x.bind.map (·.link) = some n) && x.openFrame.isSome

/-- EIDLE: four EIDLE blocks on every lane between frames, while IDLE_ALLOW is 1 (R93, R99). -/
def execEidle (link : Nat) (s : State) : Host.Outcome State Fault Refusal :=
  let l := linkAt s link
  act (.eidle link) s
    (if l.st = .active ∧ l.sensor.idleAllow = true ∧ frameOpen s link = false then
      modLanes (modLink s link fun l => { l with st := .idle, idleEntries := l.idleEntries + 1 }) (devs l) fun x =>
        if x.lstate = .down then x else { x with lstate := if x.lstate = .spareReady then .spareReady else .idle, frozen := true }
    else s)

/-- TRAIN: a held sensor, or one that leaves electrical idle with RETRAIN_ON_EXIT, sends TRAIN and the retrain of the
clearing runs (R93, R103). -/
def trainArrives (s : State) (n : Nat) : State :=
  let l := linkAt s n
  match l.st, l.pendingRetrain with
  | .active, some (2, ls) => if frameOpen s n then s else startRetrainAtSpeed s n 2 ls
  | .exit, some (3, ls) => startRetrainAtSpeed s n 3 ls
  | _, _ => s

/-! Equalisation in traffic (R96 to R98). -/

/-- The neighbouring code that a lane moves toward: its score exceeds the current one by at least an eighth (R96). -/
def trackMove (below now above : EyeResult) : Option (BitVec 4) :=
  let better := fun (e : EyeResult) => decide (9 * eyeScore now ≤ 8 * eyeScore e) && decide (eyeScore now < eyeScore e)
  if better above && (!better below || decide (eyeScore below < eyeScore above)) then some above.code
  else if better below then some below.code else none

/-- The score of a lane's code is taken (R96, R97, R98); `auto`: the trim service runs domain 3 by itself (R297). -/
def trackEval (auto : Bool) (s : State) (lane : Nat) (below now above : EyeResult) (density : Nat) : State :=
  match linkOf s lane with
  | none => s
  | some n =>
    let l := linkAt s n
    let x := laneAt s lane
    if l.st ≠ .active ∨ l.policy.trackOff = true ∨ x.eqForced = true ∨ linkMode s l = 3 then s
    else if density < 30 ∨ 1024 < x.idleRun then modLane s lane fun x => { x with frozen := true }
    else
      let s1 := modLane s lane fun x => { x with frozen := false }
      match trackMove below now above with
      | none => s1
      | some c =>
        if codeDist c x.eqTrained ≤ 2 then modLane s1 lane fun x => { x with eqNow := c }
        else if x.wanderClamped then s1
        else
          let s2 := laneEvent (modLane s1 lane fun x => { x with wanderClamped := true }) lane 0x1005 1 (linkPoint s n)
            (x.eqTrained.toNat + 16 * x.eqNow.toNat) 0
          if l.policy.autoRetrain && auto then
            let s3 := match l.lanes.findIdx? fun d => decide (d.toNat = lane) with
              | some i => scheduleRetrain s2 n [i]
              | none => s2
            checkFailing s3 n lane false
          else checkFailing s2 n lane false

/-! Remaps (R107, R108). -/

/-- Report the effect of the LINK_REMAP_LANE that ordered a remap: its point is F (R115). -/
def remapEffect (s : State) (n : Nat) (f : Count64) (status : BitVec 16) : State :=
  let k := (lowStream s n).getD 0
  applyStaged s (.remap n) (fun _ s => s) fun x _ => { mkEffect x 0x1009 1 f k with status }

/-- A Frame Start on a link: frame F of an armed remap moves the logical lane; a remap whose REMAP_DONE read 0 is
restored and reported (R107). -/
def remapAtStart (s : State) (stream : Nat) (f : Count64) : State :=
  match (streamAt s stream).bind with
  | none => s
  | some b =>
    let n := b.link
    let l := linkAt s n
    match l.remap with
    | none => s
    | some r =>
      if lowStream s n ≠ some stream then s
      else if r.restore then
        let s1 := modLink s n fun l => { l with lanes := l.lanes.set r.logical r.oldLane, spare := r.newLane, remap := none }
        let s2 := modLane s1 r.newLane.toNat fun x => { x with lstate := .spareReady }
        let s3 := laneEvent (modLane s2 r.oldLane.toNat fun x => { x with lstate := .active })
          r.oldLane.toNat 0x1008 1 r.frame r.newLane.toNat 1
        remapEffect s3 n r.frame stAborted
      else if f = r.frame ∧ r.applied = false then
        let s1 := modLink s n fun l => { l with
          lanes := l.lanes.set r.logical r.newLane, spare := 0x7F, remap := some { r with applied := true } }
        modLane (modLane s1 r.newLane.toNat fun x => { x with lstate := .active }) r.oldLane.toNat
          fun x => { x with lstate := .training }
      else s

/-- REMAP_DONE is read after F: the remap is confirmed, and the old lane is retrained in the background; or the device
restores its map at the next Frame Start (R107 step 4, R108). -/
def remapRead (s : State) (n : Nat) (done : Bool) : State :=
  let l := linkAt s n
  match l.remap with
  | none => s
  | some r =>
    if !r.applied || r.restore then s
    else if done then
      let s1 := modLink s n fun l => { l with
        remap := none, remaps := satInc l.remaps, background := some r.oldLane
        full := l.full.map fun x => if x = r.oldLane then r.newLane else x
        sensor := { l.sensor with remapValid := false } }
      let s2 := modLane s1 r.oldLane.toNat fun x => { x with lstate := .backgroundRetrain, locked := false, failing := false }
      remapEffect (laneEvent s2 r.oldLane.toNat 0x1008 1 r.frame r.newLane.toNat 0) n r.frame stOk
    else modLink s n fun l => { l with remap := some { r with restore := true } }

/-- The background retrain of a replaced lane ends: it is the new spare, or stays down; a retrain that used the swap is
complete (R103, R108). -/
def spareDone (s : State) (n : Nat) (sweep : List EyeResult) : State :=
  let l := linkAt s n
  match l.background with
  | none => s
  | some d =>
    let s1 := modLink s n fun l => { l with background := none }
    match bestEye ((l.cap.map (·.eqHint)).getD 0) sweep with
    | some e =>
      let s2 := modLane (modLink s1 n fun l => { l with spare := d }) d.toNat fun x =>
        { takeEye e x with lstate := .spareReady, locked := true, wanderClamped := false, failing := false }
      match l.pendingRetrain with
      | some (1, ls) => retrainReport (modLink s2 n fun l => { l with pendingRetrain := none }) n 1 ls
      | _ => s2
    | none =>
      laneEvent (modLane s1 d.toNat fun x => { x with lstate := .down }) d.toNat 0x1004 1 noPoint 2 l.speed.toNat

/-! CSI-2 (R83). -/

/-- CSI2_CLOCK_LP11 (R83). -/
def execCsi2ClockLp11 (link : Nat) (s : State) : Host.Outcome State Fault Refusal :=
  let l := linkAt s link
  act (.csi2ClockLp11 link) s
    (if isCsi s l && decide (l.st = .detect) then modLink s link fun l => { l with csi2Lp11 := true } else s)

/-- SKEW_CALIBRATION (R83). -/
def execSkewCalibration (link : Nat) (s : State) : Host.Outcome State Fault Refusal :=
  let l := linkAt s link
  actIf (decide (link < 32)) s (if isCsi s l then modLink s link fun l => { l with csi2Skew := true } else s)

/-- A valid packet on a CSI-2 link: its first makes the link ACTIVE once LP-11 and any skew calibration it needs have been
seen (R83). -/
def csiPacket (s : State) (n : Nat) : State :=
  let l := linkAt s n
  if l.st = .detect ∧ l.csi2Lp11 = true ∧ (l.cfg.csi2Rate.toNat ≤ 1500 ∨ l.csi2Skew = true) then
    modLanes (goActive s n) (devs l) fun x => { x with locked := true }
  else s

/-- The link delivers packets to ingest: ACTIVE, and not in a PRBS check (R94, R117). -/
def linkDelivers (s : State) (n : Nat) : Bool :=
  let l := linkAt s n
  decide (l.st = .active) && l.prbsCheck.isNone

/-! Commands (R112 to R117). -/

/-- LINK_SET_QUAD_MODE (R112). -/
def opLinkSetQuadMode (c : Cmd) (_h : Half) (s : State) : Reply × State :=
  let q := pf c 2 4 0
  let used := s.links.toList.any fun l => l.st != .disabled && (cfgLanes l.cfg).any fun d => decide (d / 4 = q)
  match firstErr (rsv c [(2, 0xFFFFFCE0)] ++ bad [(2, decide (24 ≤ q))] ++ [(used, wrongState 0)]) with
  | some r => (r, s)
  | none => (ok, { s with quads := tset s.quads q (BitVec.ofNat 2 (pf c 2 9 8)) })

/-- The configuration that LINK_CONFIGURE names (R113). -/
def linkCfgOf (c : Cmd) : LinkCfg :=
  { configured := true, firstLane := BitVec.ofNat 7 (pf c 2 14 8), width := BitVec.ofNat 5 (pf c 2 20 16)
    spareLane := BitVec.ofNat 7 (pf c 2 30 24), maxSpeed := BitVec.ofNat 4 (pf c 3 3 0)
    minSpeed := BitVec.ofNat 4 (pf c 3 7 4), minWidth := BitVec.ofNat 5 (pf c 3 12 8)
    ctrlBus := BitVec.ofNat 2 (pf c 3 17 16), ctrlAddr := BitVec.ofNat 7 (pf c 3 25 19), i2c := pb c 3 26
    sensorLink := BitVec.ofNat 4 (pf c 4 3 0), csi2Rate := BitVec.ofNat 13 (pf c 4 28 16) }

/-- The lanes of a configuration keep the rules of R75; `n` is the link. -/
def lanesOk (s : State) (n : Nat) (k : LinkCfg) : Bool :=
  let w := k.width.toNat
  let f := k.firstLane.toNat
  let lanes := cfgLanes k
  let mode := tget s.quads (f / 4)
  let others := (List.range 32).filter fun m => decide (m ≠ n) && (linkAt s m).cfg.configured
  let csi := decide (mode = 3)
  ([1, 2, 4, 8, 12, 16] : List Nat).contains w && decide (mode ≠ 0) &&
    (lanes.all fun d => decide (d < 96) && decide (halfOf d 48 = halfOf n 16) && decide (tget s.quads (d / 4) = mode)) &&
    decide (f % (if w ≤ 2 then w else 4) = 0) &&
    (!csi || (decide (w ≤ 4) && decide (f / 4 = (f + w - 1) / 4) && decide (k.spareLane = 0x7F))) &&
    decide (lanes.Nodup) &&
    (others.all fun m => (cfgLanes (linkAt s m).cfg).all fun d => !lanes.contains d) &&
    (!csi || others.all fun m =>
      let o := (linkAt s m).cfg
      decide (o.firstLane.toNat / 4 ≠ f / 4) || (decide (w ≤ 2) && decide (o.width.toNat ≤ 2) && decide (o.csi2Rate = k.csi2Rate)))

/-- LINK_CONFIGURE (R75, R113). -/
def opLinkConfigure (c : Cmd) (_h : Half) (s : State) : Reply × State :=
  let n := pf c 2 4 0
  let k := linkCfgOf c
  let mode := (tget s.quads (k.firstLane.toNat / 4)).toNat
  let offered := fun x => (speedsOf mode).contains x
  match firstErr (rsv c [(2, 0x80E080E0), (3, 0xF804E000), (4, 0xE000FFF0)] ++
      bad [(2, !lanesOk s n k),
        (3, decide (mode ≠ 3) && (decide (k.maxSpeed.toNat < k.minSpeed.toNat) || !offered k.maxSpeed.toNat ||
          !offered k.minSpeed.toNat)),
        (4, if mode = 3 then decide (k.csi2Rate.toNat < 80) || decide (4500 < k.csi2Rate.toNat) else decide (k.csi2Rate ≠ 0))] ++
      [(decide ((linkAt s n).st ≠ .disabled), wrongState 0)]) with
  | some r => (r, s)
  | none => (ok, modLink s n fun l => { l with cfg := k })

/-- LINK_ENABLE (R87, R114). -/
def opLinkEnable (c : Cmd) (_h : Half) (s : State) : Reply × State :=
  let n := pf c 2 4 0
  let l := linkAt s n
  match firstErr (rsv c [(2, 0xFFFFFFE0)] ++ [(decide (l.st ≠ .disabled) || !l.cfg.configured, wrongState 0)]) with
  | some r => (r, s)
  | none =>
    let s1 := modLink s n fun l => { l with enableCmd := some c, lossCount := 0, rounds := 0 }
    let h := halfOf n 16
    let s2 := (cfgLanes l.cfg).foldl (fun s d => modIsland s h (.ingest (d / 4 % 12)) fun x => { x with pstate := .on }) s1
    (.running, startDetect s2 n)

/-- A link stops: every command that waits on it completes, and a pending retrain and remap are dropped (R104, R114). -/
def disableLink (s : State) (n : Nat) : State :=
  let l := linkAt s n
  let s1 := finishLinkCmds s n stAborted 0x22
  let s2 := match l.prbsCheck with
    | some (c, _) => complete s1 c (halfOf n 16) stAborted 0x22 0xFFFF 0 0 0
    | none => s1
  let s3 := remapEffect s2 n ((l.remap.map (·.frame)).getD noPoint) stAborted
  let s4 := modLink s3 n fun l => { l with
    st := .disabled, pendingRetrain := none, remap := none, retraining := none, prbsCheck := none, background := none
    awaitApplied := false, speed := 0, width := 0, reduced := false, spare := 0x7F, lanes := [], full := []
    sensor := { l.sensor with txMode := 0, hold := false } }
  modLanes s4 (cfgLanes l.cfg) fun x => { x with lstate := .off, locked := false }

/-- LINK_DISABLE (R114). -/
def opLinkDisable (c : Cmd) (_h : Half) (s : State) : Reply × State :=
  match firstErr (rsv c [(2, 0xFFFFFFE0)]) with
  | some r => (r, s)
  | none => (ok, disableLink s (pf c 2 4 0))

/-- LINK_RETRAIN (R103, R116). -/
def opLinkRetrain (c : Cmd) (_h : Half) (s : State) : Reply × State :=
  let n := pf c 2 4 0
  let l := linkAt s n
  let full := pb c 2 8 || decide (l.st = .down) || decide (l.st = .silent)
  match firstErr (rsv c [(2, 0xFFFFFCE0)] ++
      [(decide (l.st = .disabled) || isCsi s l || (!full && decide (l.st ≠ .active)), wrongState 0)]) with
  | some r => (r, s)
  | none =>
    let s1 := modLink s n fun l => { l with retrainCmds := l.retrainCmds ++ [c] }
    (.running,
      if full then startDetect (modLink s1 n fun l => { l with lossCount := 0, rounds := 0 }) n
      else if pb c 2 9 then scheduleRetrain s1 n (allLogical l)
      else startRetrainAtSpeed s1 n 4 (allLogical l))

/-- The link status record (R109). -/
def linkStatus (s : State) (n : Nat) : List Word :=
  let l := linkAt s n
  [pack [(0, n), (8, linkCode l.st), (12, l.speed.toNat), (16, l.width.toNat), (21, b2n l.reduced),
     (22, b2n l.pendingRetrain.isSome), (23, b2n l.remap.isSome), (24, if spareTrained s l then l.spare.toNat else 0x7F)],
   l.lineCrcErr, pack [(0, l.retrains.toNat), (16, l.losses.toNat)], pack [(0, l.remaps.toNat), (16, l.idleEntries.toNat)],
   l.discarded, l.trainCycles, l.hdrDiscards, 0]

/-- The lane status record (R110). -/
def laneStatus (s : State) (d : Nat) (spare : Bool) : List Word :=
  let x := laneAt s d
  [pack [(0, d), (7, b2n spare), (8, laneCode x.lstate), (11, b2n x.locked), (12, x.eqTrained.toNat), (16, x.eqNow.toNat),
     (20, b2n x.frozen), (21, b2n x.wanderClamped), (22, b2n x.failing)],
   pack [(0, x.eyeW.toNat), (8, x.eyeH.toNat)], x.syncErr, pack [(0, x.lockLoss.toNat), (16, x.deskewErr.toNat)], x.bipErr,
   pack [(0, x.codeErr.toNat), (16, x.uncorrErr.toNat)], x.prbsErr, pack [(0, x.exits.toNat), (16, x.exitFails.toNat)]]

/-- Device lane of each logical lane, in order: those in use, or as configured while none is. -/
def logicalLanes (l : Link) : List Nat :=
  if l.full.isEmpty then (List.range l.cfg.width.toNat).map fun i => l.cfg.firstLane.toNat + i else l.full.map (·.toNat)

/-- The records that LINK_GET_STATUS writes. -/
def linkRecords (s : State) (n : Nat) : List Word :=
  let l := linkAt s n
  linkStatus s n ++ ((logicalLanes l).map fun d => laneStatus s d false).flatten ++
    if l.cfg.spareLane = 0x7F then [] else
      laneStatus s (if l.spare = 0x7F then l.cfg.spareLane.toNat else l.spare.toNat) true

/-- LINK_GET_STATUS (R109, R110). -/
def opLinkGetStatus (c : Cmd) (_h : Half) (s : State) : Reply × State :=
  match firstErr (rsv c [(2, 0xFFFFFFE0)] ++ bad [(3, decide (pq c 3 % 32 ≠ 0))]) with
  | some r => (r, s)
  | none => writeRecord s c (pq c 3) (dwordBytes (linkRecords s (pf c 2 4 0))) ok

/-- Counters of a lane at 0. -/
def clearLane (x : Lane) : Lane :=
  { x with syncErr := 0, lockLoss := 0, deskewErr := 0, bipErr := 0, codeErr := 0, uncorrErr := 0, exits := 0, exitFails := 0 }

/-- Counters of a link at 0. -/
def clearLink (l : Link) : Link :=
  { l with lineCrcErr := 0, retrains := 0, losses := 0, remaps := 0, idleEntries := 0, discarded := 0, hdrDiscards := 0 }

/-- LINK_CLEAR_COUNTERS (R109, R110). -/
def opLinkClearCounters (c : Cmd) (_h : Half) (s : State) : Reply × State :=
  let n := pf c 2 4 0
  match firstErr (rsv c [(2, 0xFFFFFFE0)]) with
  | some r => (r, s)
  | none =>
    let l := linkAt s n
    (ok, modLanes (modLink s n clearLink) (logicalLanes l ++ cfgLanes l.cfg ++ devs l) clearLane)

/-- LINK_SET_POLICY (R98, R99, R106). -/
def opLinkSetPolicy (c : Cmd) (_h : Half) (s : State) : Reply × State :=
  let n := pf c 2 4 0
  match firstErr (rsv c [(2, 0xFFFFFFE0), (3, 0xFFFFFFE0)]) with
  | some r => (r, s)
  | none =>
    let p : LinkPolicy := { autoRetrain := pb c 3 0, autoSpare := pb c 3 1, allowHold := pb c 3 2, noIdle := pb c 3 3
                            trackOff := pb c 3 4 }
    let s1 := setIdleAllow (modLink s n fun l => { l with policy := p }) n
    (ok, (devs (linkAt s n)).foldl (fun s d => checkFailing s n d false) s1)

/-- LINK_REMAP_LANE (R107, R115). -/
def opLinkRemapLane (c : Cmd) (h : Half) (s : State) : Reply × State :=
  let n := pf c 2 4 0
  let i := pf c 2 12 8
  match firstErr (rsv c [(2, 0xFFFFE0E0)] ++ bad [(2, decide ((linkAt s n).st = .active) && decide ((linkAt s n).lanes.length ≤ i))] ++
      [(!canRemap s n, wrongState 0)]) with
  | some r => (r, s)
  | none => (.deferred 1, stage (armRemap s n i (some c)) c .linkRemapLane h (.remap n))

/-- LINK_SET_EQ (R96, R98). -/
def opLinkSetEq (c : Cmd) (_h : Half) (s : State) : Reply × State :=
  match firstErr (rsv c [(2, 0xFFFFFF80), (3, 0xFFFFFFE0)] ++ bad [(2, decide (96 ≤ pf c 2 6 0))]) with
  | some r => (r, s)
  | none => (ok, modLane s (pf c 2 6 0) fun x => { x with eqNow := BitVec.ofNat 4 (pf c 3 3 0), eqForced := pb c 3 4 })

/-- LINK_PRBS_CHECK (R117). -/
def opLinkPrbsCheck (c : Cmd) (_h : Half) (s : State) : Reply × State :=
  let n := pf c 2 4 0
  let l := linkAt s n
  let k := pf c 3 15 0
  match firstErr (rsv c [(2, 0xFFFFFFE0), (3, 0xFFFF0000)] ++ bad [(3, decide (k < 20) || decide (40 < k))] ++
      [(isCsi s l || l.prbsCheck.isSome || (decide (l.st ≠ .active) && decide (l.st ≠ .down)), wrongState 0)]) with
  | some r => (r, s)
  | none => (.running, modLink s n fun l => { sensorMode l 2 l.sensor.hold with prbsCheck := some (c, k) })

/-- PRBS_CHECK_DONE: the count ends, PRBS_ERR is written, and traffic is restored (R117). -/
def prbsCheckDone (s : State) (n : Nat) (errors : List Nat) : State :=
  let l := linkAt s n
  match l.prbsCheck with
  | none => s
  | some (c, _) =>
    let ds := devs l
    let s1 := (List.range ds.length).foldl (fun s i =>
      modLane s (ds.getD i 0) fun x => { x with prbsErr := BitVec.ofNat 32 (errors.getD i 0) }) s
    let s2 := modLink s1 n fun l => { sensorMode l 3 l.sensor.hold with prbsCheck := none }
    let mask := maskOf ((List.range ds.length).filterMap fun i =>
      if errors.getD i 0 = 0 then none else some (if i < l.lanes.length then i else 16))
    completeOk s2 c (halfOf n 16) (BitVec.ofNat 32 mask) 0 0

/-- PRBS_CHECK_DONE (R117). -/
def execPrbsCheckDone (link : Nat) (errors : List Nat) (s : State) : Host.Outcome State Fault Refusal :=
  actIf (decide (link < 32)) s (prbsCheckDone s link errors)

/-- A running LINK_ command is aborted: what it had started stops (R58, R114). -/
def abortLink (op : Op) (c : Cmd) (s : State) : State :=
  let n := pf c 2 4 0
  let other := fun (x : Cmd) => decide (x.serial ≠ c.serial)
  match op with
  | .linkEnable => disableLink (modLink s n fun l => { l with enableCmd := none }) n
  | .linkRetrain =>
    modLink s n fun l => { l with
      retrainCmds := l.retrainCmds.filter other
      pendingRetrain := if (l.retrainCmds.filter other).isEmpty then none else l.pendingRetrain }
  | .linkPrbsCheck => modLink s n fun l => { sensorMode l 3 l.sensor.hold with prbsCheck := none }
  | _ => s

/-- The links of a quad whose ingest island resets go to DETECT and retrain without a command (R111). -/
def restartQuadLinks (s : State) (quad : Nat) : State :=
  (List.range 32).foldl (fun s n =>
    let l := linkAt s n
    if l.st ≠ .disabled ∧ (cfgLanes l.cfg).any (fun d => decide (d / 4 = quad)) = true then
      startDetect s n
    else s) s

/-! Rows of the commands. -/

/-- LINK_SET_QUAD_MODE (R112). -/
def execLinkSetQuadMode (c : Cmd) (s : State) : Host.Outcome State Fault Refusal := submit (.linkSetQuadMode c) .linkSetQuadMode opLinkSetQuadMode c s

/-- LINK_CONFIGURE (R113). -/
def execLinkConfigure (c : Cmd) (s : State) : Host.Outcome State Fault Refusal := submit (.linkConfigure c) .linkConfigure opLinkConfigure c s

/-- LINK_ENABLE (R87). -/
def execLinkEnable (c : Cmd) (s : State) : Host.Outcome State Fault Refusal := submit (.linkEnable c) .linkEnable opLinkEnable c s

/-- LINK_GET_STATUS (R109). -/
def execLinkGetStatus (c : Cmd) (s : State) : Host.Outcome State Fault Refusal := submit (.linkGetStatus c) .linkGetStatus opLinkGetStatus c s

/-- LINK_CLEAR_COUNTERS (R109). -/
def execLinkClearCounters (c : Cmd) (s : State) : Host.Outcome State Fault Refusal := submit (.linkClearCounters c) .linkClearCounters opLinkClearCounters c s

/-- LINK_SET_POLICY (R106). -/
def execLinkSetPolicy (c : Cmd) (s : State) : Host.Outcome State Fault Refusal := submit (.linkSetPolicy c) .linkSetPolicy opLinkSetPolicy c s

/-- LINK_REMAP_LANE (R115). -/
def execLinkRemapLane (c : Cmd) (s : State) : Host.Outcome State Fault Refusal := submit (.linkRemapLane c) .linkRemapLane opLinkRemapLane c s

/-- LINK_PRBS_CHECK (R117). -/
def execLinkPrbsCheck (c : Cmd) (s : State) : Host.Outcome State Fault Refusal := submit (.linkPrbsCheck c) .linkPrbsCheck opLinkPrbsCheck c s

end Sys2Proof.Machine
end

