-- ==== Sys2Proof/Machine/Timing.lean ====
section
/-! DEFINITION. DRAM timing sets: their records, the speeds of the sets and of a half, channels and capacities (R355 to
R360, R371, R372, R376, R380). -/

namespace Sys2Proof.Machine

/-! Channels. -/

/-- Channel `k` of half `h`. -/
def chanAt (s : State) (h : Half) (k : Nat) : Chan := tget (half s h).mem.chans k
/-- The state with channel `k` of half `h` changed. -/
def modChan (s : State) (h : Half) (k : Nat) (f : Chan → Chan) : State :=
  modMem s h fun m => { m with chans := tmod m.chans k f }
/-- The channel is fitted and not excluded (R356). -/
def usable (c : Chan) : Bool := !c.excluded && decide (0 < c.dimms)
/-- Ranks of a channel. -/
def rankCount (c : Chan) : Nat := c.dimms * c.ranks
/-- The channel keeps its highest rank as a spare (R387). -/
def hasSpare (c : Chan) : Bool := c.policy.spareReserve && decide (c.dimms = 2)
/-- Usable GiB of a channel, spare excluded (R387, R392). -/
def usableGib (c : Chan) : Nat :=
  if !usable c then 0 else if hasSpare c then c.capacity - c.capacity / max 1 (rankCount c) else c.capacity
/-- Number of a channel in the device. -/
def devChan (h : Half) (k : Nat) : Nat := 8 * halfIdx h + k

/-- Speed of a channel under R357, MT/s. -/
def chanLimit (c : Chan) : Nat := min c.spdMax (if c.dimms = 2 then 5600 else 6400)

/-- Speed of timing set 0 of a half: the lowest that any usable channel allows (R357). -/
def set0Speed (m : HalfMem) : Nat :=
  let lim := (m.chans.toList.filter usable).foldl (fun a c => min a (chanLimit c)) 6400
  ([6400, 6000, 5600, 5200, 4800].find? fun v => decide (v ≤ lim)).getD 4800

/-- Speed of a timing set, MT/s (R380). -/
def setSpeed (m : HalfMem) (set : Nat) : Nat := [set0Speed m, 3200, 4800, 4000].getD set 3200

/-- Controller cycles a second, in thousands: half the DRAM command clock (R357). -/
def ctrlKhz (m : HalfMem) : Nat := setSpeed m m.set.toNat * 250

/-- tREFI of a channel at the normal rate, in controller cycles (R367). -/
def trefi (m : HalfMem) (c : Chan) : Nat :=
  (if c.policy.refMode then 1950 else 3900) * ctrlKhz m / 1000000

/-! Records (R372). -/

/-- The `i`-th of a list of numbers. -/
def nth (l : List Nat) (i : Nat) : Nat := l.getD i 0

/-- A subchannel timing block, 224 bytes. -/
def subBytes (t : SubTiming) : List Byte :=
  dwordBytes ((List.range 40).map fun i => pack [(0, nth t.rd i % 1024), (10, nth t.wr i % 1024), (20, nth t.vref i % 64)]) ++
    dwordBytes ((List.range 10).map fun i => pack [(0, nth t.gate i % 1024), (10, nth t.lvl i % 1024), (20, nth t.dvref i % 128)]) ++
    leBytes 2 t.oscBase ++ leBytes 2 t.winMin ++ leBytes 1 t.caVref ++ leBytes 3 0 ++
    (List.range 14).flatMap (fun i => leBytes 1 (nth t.caDly i)) ++ leBytes 1 t.csDly ++ leBytes 1 0

/-- A timing set record, 512 bytes. -/
def timingBytes (set rank : Nat) (r : TimingRec) : List Byte :=
  leBytes 2 (set + 4 * b2n r.valid + 8 * rank) ++ leBytes 2 r.speed ++
    (List.range 20).flatMap (fun i => leBytes 2 (nth r.timings i)) ++ List.replicate 20 0 ++ subBytes r.sub0 ++ subBytes r.sub1

/-- Records of the set in force for every rank of a channel, rank 0 first. -/
def recsInForce (m : HalfMem) (c : Chan) : List TimingRec :=
  (tget c.sets m.set.toNat).toList.take (rankCount c)

/-- A list of records as bytes. -/
def recsBytes (set : Nat) (rs : List TimingRec) : List Byte :=
  ((List.range rs.length).map fun i => timingBytes set i (rs.getD i {})).flatten

/-! The limits of domain 4 (R300, R376). -/

/-- Largest difference of two lists of numbers, entry by entry. -/
def listMove (a b : List Nat) : Nat :=
  (List.range (max a.length b.length)).foldl (fun m i => max m ((Int.ofNat (nth a i) - Int.ofNat (nth b i)).natAbs)) 0

/-- Largest change of any delay setting of a subchannel block. -/
def subMove (a b : SubTiming) : Nat :=
  [listMove a.rd b.rd, listMove a.wr b.wr, listMove a.gate b.gate, listMove a.lvl b.lvl, listMove a.caDly b.caDly,
    listMove [a.csDly] [b.csDly]].foldl max 0

/-- Largest change of any delay setting of a list of records. -/
def recsMove (a b : List TimingRec) : Nat :=
  (List.range (max a.length b.length)).foldl (fun m i =>
    let x := a.getD i {}
    let y := b.getD i {}
    max m (max (subMove x.sub0 y.sub0) (subMove x.sub1 y.sub1))) 0

/-- Smallest passing window of a list of records: the least WIN_MIN. -/
def recsMargin (rs : List TimingRec) : Nat :=
  rs.foldl (fun m r => min m (min r.sub0.winMin r.sub1.winMin)) 0xFFFF

end Sys2Proof.Machine
end

