-- ==== Sys2Proof/Machine/TrimCalc.lean ====
section
/-! DEFINITION. What the trim service computes from accumulated frames: means, black, fixed pattern, defects (R301 to
R303), and defect maps as lists of entries (R231, R232). -/

namespace Sys2Proof.Machine

/-! Defect maps (R231, R232). -/

/-- Sort key of a map entry: Y x 32,768 + X. -/
def mapKey (e : Nat) : Nat := e / 2 ^ 15 % 2 ^ 15 * 32768 + e % 2 ^ 15

/-- Pixels of an entry, as (X, Y), with the step `g` to the next pixel of its channel. -/
def mapPixels (g e : Nat) : List (Nat × Nat) :=
  let x := e % 2 ^ 15
  let y := e / 2 ^ 15 % 2 ^ 15
  match e / 2 ^ 30 with
  | 0 => [(x, y)]
  | 1 => [(x, y), (x + g, y)]
  | 2 => [(x, y), (x, y + g)]
  | _ => [(x, y), (x + g, y), (x, y + g), (x + g, y + g)]

/-- Address of a map buffer in a defect region. -/
def mapBuffer (base : Nat) (second : Bool) : Nat := base + (if second then 2 ^ 24 else 0)

/-- Entries of a map in a half's DRAM. -/
def mapEntries (s : State) (h : Half) (base count : Nat) (second : Bool) : List Nat :=
  numsOf 4 count (dramRead s h (mapBuffer base second) (4 * count)).1

/-- Which pixels of a stream of `w` x `ht` pixels entries list, row by row. -/
def markMap (w ht g : Nat) (es : List Nat) : Array Bool :=
  es.foldl (fun a e => (mapPixels g e).foldl (fun a p =>
    if p.1 < w ∧ p.2 < ht then a.set! (p.2 * w + p.1) true else a) a) (List.replicate (w * ht) false).toArray

/-- Entries strictly rise and lie within a geometry (R231, R232). -/
def mapInOrder (w ht : Nat) : List Nat → Bool
  | [] => true
  | [e] => decide (e % 2 ^ 15 < w ∧ e / 2 ^ 15 % 2 ^ 15 < ht)
  | e :: f :: t => decide (e % 2 ^ 15 < w ∧ e / 2 ^ 15 % 2 ^ 15 < ht) && decide (mapKey e < mapKey f) && mapInOrder w ht (f :: t)

/-- Union of two rising lists of entries; at one key the first list's entry is kept (R303). -/
def mergeMaps : Nat → List Nat → List Nat → List Nat
  | 0, a, b => a ++ b
  | _ + 1, [], b => b
  | _ + 1, a, [] => a
  | k + 1, x :: a, y :: b =>
    if mapKey x < mapKey y then x :: mergeMaps k a (y :: b)
    else if mapKey x = mapKey y then x :: mergeMaps k a b
    else y :: mergeMaps k (x :: a) b

/-! The mean frame (R301). -/

/-- What a measurement works on. -/
structure MeasIn where
  /-- width -/
  w : Nat
  /-- height -/
  ht : Nat
  /-- CFA: 4 = one channel -/
  cfa : Nat
  /-- corrections in force -/
  corr : StreamCorr
  /-- L of each pixel, row by row -/
  l : Array Int
  /-- excluded by the committed map -/
  out : Array Bool

/-- Mean of values rounded half up; none of no value. -/
def meanHalf (l : List Int) : Option Int :=
  if l.isEmpty then none else some ((2 * l.sum + Int.ofNat l.length) / (2 * Int.ofNat l.length))

/-- CFA by which a stream's channels are told: that of a context that reads it, else four channels (DESIGN CHOICE 55). -/
def streamCfa (s : State) (n : Nat) : Nat :=
  match (List.range 32).find? fun k => decide ((ctxAt s k).st ≠ .closed) && (allSources (ctxAt s k)).any fun z => decide (z.stream = n) with
  | some k => (ctxAt s k).cfa
  | none => 0

/-- Committed map of a stream: base, entries, buffer. -/
def committedMap (s : State) (n : Nat) : Option (Nat × Nat × Bool) :=
  match (trimAt s 2 n).committed with
  | some (.defect b c second) => some (b, c, second)
  | _ => none

/-- Entries of the committed map. -/
def committedEntries (s : State) (h : Half) (n : Nat) : List Nat :=
  match committedMap s n with
  | some (b, c, second) => mapEntries s h b c second
  | none => []

/-- The mean frame of a finished accumulation, linearised. -/
def measIn (s : State) (h : Half) (n : Nat) (a : Accum) : MeasIn :=
  let g := (streamAt s n).cfg.getD {}
  let k := tget s.corrs n
  let lut := (k.lut.getD []).toArray
  let sums := numsOf 4 (g.width * g.height) (dramRead s h (pq a.cmd 4) (4 * (g.width * g.height))).1
  let cfa := streamCfa s n
  { w := g.width, ht := g.height, cfa, corr := k
    l := (sums.map fun v => linearise lut (depthBits g.depth + 8) ((512 * v + a.n) / (2 * a.n))).toArray
    out := markMap g.width g.height (stepOf cfa).toNat (committedEntries s h n) }

/-- Row of the optical-black rows. -/
def MeasIn.ob (m : MeasIn) (v : Nat) : Bool := decide (m.corr.obFirst ≤ v ∧ v < m.corr.obFirst + m.corr.obRows)

/-- L of a pixel. -/
def MeasIn.at_ (m : MeasIn) (u v : Nat) : Int := m.l.getD (v * m.w + u) 0

/-- Pixels of the frame that satisfy a test, as (u, v). -/
def MeasIn.pick (m : MeasIn) (f : Nat → Nat → Bool) : List (Nat × Nat) :=
  ((List.range (m.w * m.ht)).map fun i => (i % m.w, i / m.w)).filter fun p => f p.1 p.2

/-- Channel of a stream pixel. -/
def MeasIn.chan (m : MeasIn) (u v : Nat) : Nat := chanOf m.cfa (Int.ofNat u) (Int.ofNat v)

/-! Black (R302 step 1). -/

/-- What a channel's black comes to, with the pixels of `out` left out: BLACK_FIXED, BLACK_ADJ and the new black. A
channel with no pixel keeps its values (DESIGN CHOICE 55). -/
def newBlack (m : MeasIn) (out : Array Bool) (c : Nat) : Int × Int × Int :=
  let fixed := Int.ofNat (m.corr.blackFixed.toArray.getD c 0)
  let adj := m.corr.blackAdj.toArray.getD c 0
  let own := fun (ob : Bool) => (m.pick fun u v => decide (m.chan u v = c) && decide (m.ob v = ob) && !(out.getD (v * m.w + u) false)).map
    fun p => m.at_ p.1 p.2
  if m.corr.obRows = 0 then
    match meanHalf (own false) with
    | some b => (b, adj, b)
    | none => (fixed, adj, fixed)
  else
    let b := (meanHalf (own true)).getD 0
    match meanHalf ((own false).map fun v => v - b) with
    | some a => (fixed, a, b + a)
    | none => (fixed, adj, b + adj)

/-- The new black of the four channels. -/
def newBlacks (m : MeasIn) (out : Array Bool) : List (Int × Int × Int) := (List.range 4).map (newBlack m out)

/-! Defects (R303). -/

/-- A pixel is defective in the mean frame. -/
def measDefect (m : MeasIn) (black : List Int) (flat : Bool) (abs rel : Nat) (u v : Nat) : Bool :=
  let g := stepOf m.cfa
  let y := fun (px py : Int) =>
    let a := mirror 0 (m.w - 1) px
    let b := mirror 0 (m.ht - 1) py
    m.at_ a b - black.getD (m.chan a b) 0
  dynDefect { dynHot := true, dynCold := flat, dynAbs := abs, dynRel := rel } g y (Int.ofNat u) (Int.ofNat v)

/-- The measured map: KIND 0 entries, rising. -/
def measuredMap (m : MeasIn) (c : Cmd) : List Nat :=
  let black := (newBlacks m m.out).map fun b => b.2.2
  (m.pick (measDefect m black (pb c 2 29) (pf c 13 23 0) (pf c 14 7 0))).map fun p => p.2 * 2 ^ 15 + p.1

/-! Fixed pattern (R302 steps 2 to 6). -/

/-- What domain 1 comes to. -/
structure FixedPattern where
  /-- BLACK_FIXED, BLACK_ADJ and new black of each channel -/
  blacks : List (Int × Int × Int)
  /-- ROW, clamped -/
  row : List Int
  /-- COL, clamped -/
  col : List Int
  /-- R, clamped, row by row -/
  res : List Int
  /-- entries of R clamped -/
  clamped : Nat

/-- Clamp to signed 16 bits. -/
def clamp16 (v : Int) : Int := max (-32768) (min 32767 v)

/-- Fixed pattern of the mean frame, with the pixels of `out` excluded. -/
def fixedPattern (m : MeasIn) (out : Array Bool) : FixedPattern :=
  let blacks := newBlacks m out
  let nb := (blacks.map fun b => b.2.2).toArray
  let ex := fun (u v : Nat) => out.getD (v * m.w + u) false || m.ob v
  let d := fun (u v : Nat) => m.at_ u v - nb.getD (m.chan u v) 0
  let row := ((List.range m.ht).map fun v =>
    (meanHalf (((List.range m.w).filter fun u => !ex u v).map fun u => d u v)).getD 0).toArray
  let col := ((List.range m.w).map fun u =>
    (meanHalf (((List.range m.ht).filter fun v => !ex u v).map fun v => d u v - row.getD v 0)).getD 0).toArray
  let raw := (List.range (m.w * m.ht)).map fun i =>
    let u := i % m.w
    let v := i / m.w
    if ex u v then 0 else d u v - row.getD v 0 - col.getD u 0
  { blacks, row := row.toList.map clamp16, col := col.toList.map clamp16, res := raw.map clamp16
    clamped := (raw.filter fun v => decide (clamp16 v ≠ v)).length }

/-- Signed 16-bit values as bytes. -/
def int16Bytes (l : List Int) : List Byte := l.flatMap fun v => leBytes 2 (pattern 16 v)

/-- Write the arrays of domain 1 to the regions the command names (R302). -/
def writeArrays (s : State) (h : Half) (c : Cmd) (w : Nat) (f : FixedPattern) : State :=
  let rows := (List.range f.row.length).foldl (fun s v =>
    dramWrite s h (pq c 6 + v * (dw c 8).toNat) (int16Bytes ((f.res.drop (v * w)).take w))) s
  dramWrite (dramWrite rows h (pq c 9) (int16Bytes f.col)) h (pq c 11) (int16Bytes f.row)

end Sys2Proof.Machine
end

