-- ==== Sys2Proof/Machine/Trim.lean ====
section
/-! DEFINITION. The trim service: its commands, its runs from request to commit, and its events (R297 to R310). -/

namespace Sys2Proof.Machine

/-! Domains and instances (R297). -/

/-- Domains that DOMAINS selects; none where it combines what may not be combined. -/
def trimDomains (c : Cmd) : List Nat :=
  match pf c 2 4 0 with
  | 1 => [1]
  | 2 => [2]
  | 3 => [1, 2]
  | 4 => [3]
  | 8 => [4]
  | 16 => [5]
  | _ => []

/-- The domain of a command that names one. -/
def trimDom (c : Cmd) : Nat := (trimDomains c).headD 1

/-- Instances of a domain. -/
def trimCount (d : Nat) : Nat := [0, 64, 64, 32, 16, 2].getD d 0

/-- Checks that every TRIM_ command shares: DOMAINS and INSTANCE. -/
def trimNamed (c : Cmd) (one : Bool) : List (Bool × Reply) :=
  bad [(2, (trimDomains c).isEmpty || (one && decide ((trimDomains c).length = 2)) ||
    decide (trimCount (trimDom c) ≤ trimInst c))]

/-- BOUNDARY of a domain's commit. -/
def trimBoundary (d : Nat) : BitVec 4 := if d ≤ 2 then 1 else 3

/-- The boundary key of a domain's commit. -/
def trimKey (d i : Nat) : BKey := if d ≤ 2 then .streamAdmit i else .clearing d i

/-- A command that stands for a run the device starts itself, whose commit makes no report. -/
def autoCmd (s : State) (d i : Nat) : Cmd :=
  { recv := trimHalf s d i, params := [pack [(d - 1, 1), (16, i)]] }

/-! Limits (R300). -/

/-- Default of limit `k` of a domain. -/
def defaultLimit (d k : Nat) : Nat :=
  ([[0x2000, 2048, 64], [4194304, 65536, 0], [64, 4, 0], [8, 4, 0], [48, 10, 0]].getD (d - 1) []).getD k 0

/-- Limit `k` in force. -/
def trimLimit (t : TrimInst) (d k : Nat) : Nat :=
  (([t.l0, t.l1, t.l2].getD k none).map (·.toNat)).getD (defaultLimit d k)

/-- A check of a measured value: limit index, value, limit, and whether the value must not exceed the limit (else it must
reach it). -/
structure LimitCheck where
  /-- limit index -/
  k : Nat
  /-- measured value -/
  v : Nat
  /-- the limit is a maximum -/
  isMax : Bool := true

/-- The first check not met, with its limit; 0xFFFF_FFFF disables a check (R300). -/
def firstUnmet (t : TrimInst) (d : Nat) : List LimitCheck → Option (Nat × Nat × Nat)
  | [] => none
  | c :: rest =>
    let l := trimLimit t d c.k
    if l ≠ 0xFFFFFFFF ∧ (if c.isMax then l < c.v else c.v < l) then some (c.k, c.v, l) else firstUnmet t d rest

/-! From check to commit (R298, R299). -/

/-- Values move to COMMIT_PENDING: they are staged for their boundary. -/
def pendCommit (s : State) (d i : Nat) (c : Cmd) (op : Op) : State :=
  stage (modTrim s d i fun t => { t with st := .commitPending }) c op (trimHalf s d i) (trimKey d i) [BitVec.ofNat 8 d]

/-- A check is met: STAGED, then COMMIT_PENDING with AUTO_COMMIT. -/
def trimStaged (s : State) (d i : Nat) (v : TrimVals) (point : Count64) : State :=
  let t := trimAt s d i
  let s1 := trimEvent (modTrim s d i fun t => { t with st := .staged, staged := some v, fails := 0, measurePoint := point })
    d i 0x5101 0 point t.fails.toNat 0 0
  if t.autoCommit then pendCommit s1 d i (t.cmd.getD (autoCmd s d i)) .trimMeasure else s1

/-- A check is not met: the values are discarded (R298). -/
def trimFailed (s : State) (d i k v l : Nat) (point : Count64) : State :=
  let t := trimAt s d i
  let f := satInc t.fails
  trimEvent (modTrim s d i fun t => { t with st := .idle, staged := none, fails := f, measurePoint := point })
    d i 0x5103 (if 3 ≤ f.toNat then 2 else 1) point k v l

/-- The command of a one-domain run completes (R309). -/
def trimRunEnds (s : State) (d i : Nat) (failed : Option Nat) : State :=
  let t := trimAt s d i
  let s1 := modTrim s d i fun t => { t with cmd := none }
  match t.cmd with
  | none => s1
  | some c =>
    match failed with
    | none => completeOk s1 c (trimHalf s d i) 1 0 0
    | some k => complete s1 c (trimHalf s d i) stPlausibilityFail 0x5D (BitVec.ofNat 16 k) 0x100 0 0

/-- The measurement of a run of domain 3, 4 or 5 is complete: CHECKING, and what follows. -/
def trimChecked (s : State) (d i : Nat) (v : TrimVals) (cs : List LimitCheck) (point : Count64) : State :=
  match firstUnmet (trimAt s d i) d cs with
  | none => trimRunEnds (trimStaged s d i v point) d i none
  | some (k, x, l) => trimRunEnds (trimFailed s d i k x l point) d i (some k)

/-- A run begins: MEASURING; values still staged from an earlier run go (DESIGN CHOICE 56). -/
def beginRun (s : State) (d i : Nat) (cmd : Option Cmd) (auto : Bool) : State :=
  modTrim (unstageTrim s d i) d i fun t => { t with st := .measuring, staged := none, cmd, autoCommit := auto, checked := false }

/-- A run of domain 3, 4 or 5 is aborted. -/
def abortRun (s : State) (d i : Nat) (reason : BitVec 8) : State :=
  let t := trimAt s d i
  if t.st = .measuring ∨ t.st = .checking then
    let s1 := modTrim s d i idleTrim
    match t.cmd with
    | some c => complete s1 c (trimHalf s d i) stAborted reason 0xFFFF 0 0 0
    | none => s1
  else s

/-- Values of domain 3 take effect on the lanes of their link. -/
def enforceEq (s : State) (n : Nat) (codes : List (BitVec 4)) : State :=
  let l := linkAt s n
  let set := fun (s : State) (d k : Nat) => modLane s d fun x => { x with eqTrained := codes.getD k 0, eqNow := codes.getD k 0 }
  let s1 := (List.range l.lanes.length).foldl (fun s k => set s ((l.lanes.getD k 0).toNat) k) s
  if l.spare = 0x7F then s1 else set s1 l.spare.toNat 16

/-- One staged commit of a clearing takes effect and is reported (R299). -/
def commitAt (d i : Nat) (point : Count64) : List Staged → State → State
  | [], s => s
  | x :: t, s =>
    let vals := (trimAt s d i).staged
    let s1 := commitTrim s d i point
    let s2 := match d, vals with
      | 3, some (.eq codes) => enforceEq s1 i codes
      | _, _ => s1
    commitAt d i point t
      (if x.op = .trimMeasure then s2 else reportEffect s2 x.exec (mkEffect x (BitVec.ofNat 16 (opCode x.op)) 3 point 0))

/-- A clearing of an instance of domain 3 or 5: pending values commit unless a supply guard or the clearing of a live swap is in force; the effect point is
the half's clearing count (R50, R297, R299). -/
def commitClearing (s : State) (d i : Nat) : State :=
  let h := trimHalf s d i
  let key := BKey.clearing d i
  if (half s h).sys.guard || inSwap s then s
  else
    commitAt d i (half s h).mem.clearings (s.staged.filter fun x => decide (x.key = key))
      { s with staged := s.staged.filter fun x => !decide (x.key = key) }

/-! Domains 1 and 2 (R301 to R305). -/

/-- Keep at most 256 frames taken by a stream's newest measurement. -/
def noteTaken (s : State) (n : Nat) (f : Count64) : State := modTrimS s fun t => { t with taken := t.taken ++ [(n, f)] }

/-- The state with a stream's accumulator run changed. -/
def modAccum (s : State) (n : Nat) (f : Accum → Accum) : State :=
  modTrimS s fun t => { t with accums := t.accums.map fun a => if a.1 = n then (a.1, f a.2) else a }

/-- Domains that a run measures. -/
def accumDoms (a : Accum) : List Nat := (if a.domains.getLsbD 0 then [1] else []) ++ (if a.domains.getLsbD 1 then [2] else [])

/-- Add a closed frame's codes into the 32-bit sums of WORK_ADDR (R301). -/
def accumulate (s : State) (h : Half) (addr : Nat) (first : Bool) (px : List Nat) : State :=
  let old := if first then [] else numsOf 4 px.length (dramRead s h addr (4 * px.length)).1
  dramWrite s h addr ((if first then px else (px.zip old).map fun p => p.1 + p.2).flatMap (leBytes 4))

/-- Too few clean frames: the measurement fails (R301). -/
def starvedTrim (s : State) (n : Nat) (a : Accum) : State :=
  let s1 := (accumDoms a).foldl (fun s d => modTrim s d n idleTrim) (dropAccum s n)
  complete s1 a.cmd (trimHalf s 1 n) stPlausibilityFail 0x5B 0xFFFF (BitVec.ofNat 32 (a.domains.toNat * 256))
    (BitVec.ofNat 32 a.taken) (BitVec.ofNat 32 a.passed)

/-- The measurement of a stream has taken all its frames. -/
def accumFull (a : Accum) : Bool := decide (a.n ≤ a.taken)

/-- Ingest closes a frame of a stream: a measurement takes it, or passes over it (R301). -/
def trimFrame (s : State) (n : Nat) (o : OpenFrame) : State :=
  match accumOf s n with
  | none => s
  | some a =>
    if accumFull a || (a.start.map fun k => decide (o.number.toNat < k.toNat)).getD false then s
    else if o.counts.flags &&& 0x1FFF = 0 then
      let s1 := accumulate s (trimHalf s 1 n) (pq a.cmd 4) (decide (a.taken = 0)) o.rows.flatten
      noteTaken (modAccum s1 n fun a => { a with taken := a.taken + 1, first := a.first.orElse fun _ => some o.number }) n o.number
    else
      let s1 := modAccum s n fun a => { a with passed := a.passed + 1 }
      if 2 * a.n ≤ a.taken + a.passed + 1 then starvedTrim s1 n { a with passed := a.passed + 1 } else s1

/-- Frame F of a context contains a frame that a measurement takes: one it has taken, or the one open in ingest (R304). -/
def staleFrame (s : State) (x : Context) (f : Count64) : Bool :=
  (allSources x).any fun z =>
    let n := z.stream
    let k := streamFrameOf z f
    s.trim.taken.contains (n, k) ||
      match accumOf s n with
      | some a => !accumFull a && ((a.start.map fun j => decide (j.toNat ≤ k.toNat)).getD true) &&
          decide ((streamAt s n).openFrame.map (·.number) = some k)
      | none => false

/-- The run's command completes once every domain it names has staged or failed (R309). -/
def trimMaybeDone (s : State) (n : Nat) : State :=
  match accumOf s n with
  | none => s
  | some a =>
    if a.staged ||| a.failed = a.domains then
      let res := BitVec.ofNat 32 (a.staged.toNat + 256 * a.failed.toNat)
      let used := BitVec.ofNat 32 a.taken
      let over_ := BitVec.ofNat 32 a.passed
      let s1 := (accumDoms a).foldl (fun s d => modTrim s d n fun t => { t with cmd := none }) (dropAccum s n)
      if a.failed = 0 then completeOk s1 a.cmd (trimHalf s 1 n) res used over_
      else complete s1 a.cmd (trimHalf s 1 n) stPlausibilityFail 0x5D a.failLimit res used over_
    else s

/-- A domain of a stream's run has staged, or has failed limit `k`. -/
def trimDomEnds (s : State) (n d : Nat) (failed : Option Nat) : State :=
  trimMaybeDone (modAccum s n fun a =>
    match failed with
    | none => { a with staged := a.staged ||| BitVec.ofNat 2 d }
    | some k => { a with failed := a.failed ||| BitVec.ofNat 2 d, failLimit := BitVec.ofNat 16 k }) n

/-- Check domain `d` of a stream, and stage or discard. -/
def trimStreamChecked (s : State) (n d : Nat) (v : TrimVals) (cs : List LimitCheck) (point : Count64) : State :=
  match firstUnmet (trimAt s d n) d cs with
  | none => trimDomEnds (trimStaged s d n v point) n d none
  | some (k, x, l) => trimDomEnds (trimFailed s d n k x l point) n d (some k)

/-- Committed black levels of an instance, or those in force. -/
def committedBlack (s : State) (n : Nat) : List Int :=
  let k := tget s.corrs n
  match (trimAt s 1 n).committed with
  | some (.black fixed adj ..) => if k.obRows = 0 then fixed.map Int.ofNat else adj
  | _ => if k.obRows = 0 then k.blackFixed.toList.map Int.ofNat else k.blackAdj.toList

/-- Domain 1 of a stream's run is computed, written and checked (R302). -/
def measureBlackFp (s : State) (n : Nat) (a : Accum) : State :=
  let h := trimHalf s 1 n
  let m := measIn s h n a
  let mine := if a.domains.getLsbD 1 then measuredMap m a.cmd else []
  let out := (mine.foldl (fun o e => o.set! (e / 2 ^ 15 * m.w + e % 2 ^ 15) true) m.out)
  let f := fixedPattern m out
  let s1 := writeArrays s h a.cmd m.w f
  let fixed := f.blacks.map fun b => b.1.toNat
  let adj := f.blacks.map fun b => b.2.1
  let now := if m.corr.obRows = 0 then fixed.map Int.ofNat else adj
  let delta := ((List.range 4).map fun c => (now.getD c 0 - (committedBlack s n).getD c 0).natAbs).foldl max 0
  let off := ((f.row ++ f.col).map Int.natAbs).foldl max 0
  let v := TrimVals.black fixed adj (pq a.cmd 6) (dw a.cmd 8).toNat (pq a.cmd 9) (pq a.cmd 11)
  trimStreamChecked s1 n 1 v
    [{ k := 0, v := delta }, { k := 1, v := off }, { k := 2, v := f.clamped * 65536 / max 1 (m.w * m.ht) }]
    (a.first.getD noPoint)

/-- A map is staged in the buffer not committed, unless it is out of order (R232). -/
def stageMap (s : State) (h : Half) (n base : Nat) (es : List Nat) : State × TrimVals :=
  let second := match committedMap s n with
    | some (_, _, b) => !b
    | none => false
  (dramWrite s h (mapBuffer base second) (es.flatMap (leBytes 4)), .defect base es.length second)

/-- A map fails the check of order and geometry: reported as a failed check that names no limit (DESIGN CHOICE 57). -/
def mapRefused (s : State) (n : Nat) (point : Count64) : State := trimFailed s 2 n 0xFFFFFFFF 0 0 point

/-- Domain 2 of a stream's run is computed, written and checked (R303). -/
def measureDefects (s : State) (n : Nat) (a : Accum) : State :=
  let h := trimHalf s 2 n
  let m := measIn s h n a
  let old := committedEntries s h n
  let found := measuredMap m a.cmd
  let es := if pb a.cmd 2 30 then mergeMaps (old.length + found.length) old found else found
  let point := a.first.getD noPoint
  if !mapInOrder m.w m.ht es ∨ 4194304 < es.length then trimDomEnds (mapRefused s n point) n 2 (some 0xFFFF)
  else
    let (s1, v) := stageMap s h n (tget s.corrs n).defectBase es
    trimStreamChecked s1 n 2 v [{ k := 0, v := es.length }, { k := 1, v := es.length - old.length }] point

/-! Domain 3 (R297, R300). -/

/-- Codes of a link's lanes as the trim record lists them: sixteen logical lanes, then the spare. -/
def eqCodes (s : State) (n : Nat) : List (BitVec 4) :=
  let l := linkAt s n
  ((List.range 16).map fun i => ((l.lanes[i]?).map fun d => (laneAt s d.toNat).eqTrained).getD 0) ++
    [if l.spare = 0x7F then 0 else (laneAt s l.spare.toNat).eqTrained]

/-- The retrain of a domain-3 run has measured the lanes of a link: `eyes` gives each lane in use its best code, its spare
last; `before` their codes so far. -/
def eyesMeasured (s : State) (n : Nat) (before : List (BitVec 4)) (eyes : List EyeResult) : State :=
  let l := linkAt s n
  let w := l.lanes.length
  let work := eyes.take w
  let codes := (List.range 17).map fun i =>
    if i < w then ((eyes[i]?).map (·.code)).getD (before.getD i 0)
    else if i = 16 then ((eyes[w]?).map (·.code)).getD (before.getD 16 0) else before.getD i 0
  let move := (List.range w).foldl (fun a i => max a (codeDist (codes.getD i 0) (before.getD i 0))) 0
  let eye := work.foldl (fun a e => min a (eyeScore e)) (255 * 255)
  let s1 := trimChecked s 3 n (.eq codes) [{ k := 0, v := eye, isMax := false }, { k := 1, v := move }]
    (half s (halfOf n 16)).mem.clearings
  modTrim s1 3 n fun t => { t with checked := decide ((linkAt s n).retraining.isSome) }

/-! Domain 5 (R297). -/

/-- The calibration of a half's sensors and monitors has been measured. -/
def calibrated (s : State) (i : Nat) (thermal supply : List Int) : State :=
  let m := fun (l : List Int) => (l.map Int.natAbs).foldl max 0
  trimChecked s 5 i (.telemetry thermal supply) [{ k := 0, v := m thermal }, { k := 1, v := m supply }]
    (half s (halfOfIdx i)).mem.clearings

/-- Domain `d` of stream `n` has still to be checked, and its frames are all taken. -/
def trimDue (a : Accum) (d : Nat) : Bool :=
  accumFull a && (a.domains &&& BitVec.ofNat 2 d) != 0 && ((a.staged ||| a.failed) &&& BitVec.ofNat 2 d) == 0

/-- A trim measurement ends. -/
def measurementDone (s : State) (d i : Nat) (r : TrimResult) : State :=
  let measuring := decide ((trimAt s d i).st = .measuring)
  match r with
  | .frames =>
    match accumOf s i with
    | some a =>
      if d = 1 ∧ trimDue a 1 = true then measureBlackFp s i a
      else if d = 2 ∧ trimDue a 2 = true then measureDefects s i a else s
    | none => s
  | .eyes eyes =>
    if d = 3 ∧ measuring = true ∧ ((linkAt s i).retraining.map fun r => decide (r.1 ≠ 0)) = some true then eyesMeasured s i (eqCodes s i) eyes else s
  | .calibration t v => if d = 5 ∧ measuring = true then calibrated s i t v else s
  | .failed => if d ≤ 2 then (if measuring then abortTrim s i else s) else abortRun s d i 0

/-- TRIM_MEASUREMENT_DONE (R298). -/
def execTrimMeasurementDone (dom inst : Nat) (r : TrimResult) (s : State) : Host.Outcome State Fault Refusal :=
  act (.trimMeasurementDone dom inst r) s (measurementDone s dom inst r)

/-- TELEMETRY_CAL_PERIOD (R297). -/
def execTelemetryCalPeriod (h : Half) (s : State) : Host.Outcome State Fault Refusal :=
  let t := trimAt s 5 (halfIdx h)
  act (.telemetryCalPeriod h) s (if t.auto ∧ t.st = .idle then beginRun s 5 (halfIdx h) none true else s)

/-! Commands (R309, R310). -/

/-- TRIM_SET_POLICY (R300). -/
def opTrimSetPolicy (c : Cmd) (_h : Half) (s : State) : Reply × State :=
  let d := trimDom c
  let i := trimInst c
  let lim := fun (k : Nat) => if dw c k = 0 then none else some (dw c k)
  match firstErr (rsv c [(2, if d ≤ 2 then 0xF000FFE0 else 0xE000FFE0), (6, if d ≤ 3 then 0xFFFFFFFF else 0)] ++ trimNamed c false) with
  | some e => (e, s)
  | none =>
    (ok, (trimDomains c).foldl (fun s d => modTrim s d i fun t => { t with
      l0 := lim 3, l1 := lim 4, l2 := lim 5, auto := pb c 2 28, period := dw c 6 }) s)

/-- The instance of a command is MEASURING or CHECKING (R305). -/
def trimBusy (s : State) (c : Cmd) : Bool :=
  let i := trimInst c
  let run := fun (d : Nat) => decide ((trimAt s d i).st = .measuring) || decide ((trimAt s d i).st = .checking)
  if trimDom c ≤ 2 then run 1 || run 2 || (accumOf s i).isSome else run (trimDom c)

/-- Checks on the regions of a measurement of domains 1 and 2 (R309). -/
def trimRegions (c : Cmd) (h : Half) (s : State) : List (Bool × Reply) :=
  let m := (half s h).mem
  let g := (streamAt s (trimInst c)).cfg.getD {}
  let pitch := (dw c 8).toNat
  [(misplaced m false (pq c 4) 4096 (4 * g.width * g.height), badParam 0x58 4),
   (misplaced m false (pq c 6) 64 ((g.height - 1) * pitch + 2 * g.width), badParam 0x58 6),
   (misplaced m false (pq c 9) 64 (2 * g.width), badParam 0x58 9),
   (misplaced m false (pq c 11) 64 (2 * g.height), badParam 0x58 11)]

/-- TRIM_MEASURE for domains 1 and 2 (R301). -/
def measureStream (c : Cmd) (h : Half) (s : State) : Reply × State :=
  let n := trimInst c
  let x := streamAt s n
  let g := x.cfg.getD {}
  match firstErr (rsv c [(2, 0x8000FFE0), (3, 0xFFFFFE00), (13, 0xFF000000), (14, 0xFFFFFF00)] ++ trimNamed c false ++
      bad [(3, decide (pf c 3 8 0 = 0 ∨ 256 < pf c 3 8 0)),
        (8, decide ((dw c 8).toNat % 64 ≠ 0 ∨ (dw c 8).toNat < 2 * g.width))] ++
      (if x.cfg.isSome then trimRegions c h s else []) ++
      [(x.bind.isNone || x.cfg.isNone, wrongState 0x30), (trimBusy s c, err stBusy 0)] ++ dramChecks s h) with
  | some e => (e, s)
  | none =>
    let a : Accum :=
      { cmd := c, domains := BitVec.ofNat 2 (pf c 2 4 0), n := pf c 3 8 0, start := x.frame.map fun k => k + 1 }
    let s1 := (trimDomains c).foldl (fun s d => beginRun s d n (some c) (pb c 2 28)) s
    (.running, modTrimS s1 fun t => { t with
      accums := t.accums ++ [(n, a)], taken := t.taken.filter fun p => decide (p.1 ≠ n) })

/-- TRIM_MEASURE for domains 3 to 5 (R297). -/
def measureOther (c : Cmd) (_h : Half) (s : State) : Reply × State :=
  let d := trimDom c
  let i := trimInst c
  let l := linkAt s i
  let chan := chanAt s (halfOf i 8) (i % 8)
  match firstErr (rsv c [(2, 0x8000FFE0)] ++ trimNamed c false ++
      [(decide (d = 3) && (isCsi s l || decide (l.st ≠ .active)), wrongState 0),
       (decide (d = 4) && !usable chan, wrongState 0x70), (trimBusy s c, err stBusy 0)]) with
  | some e => (e, s)
  | none =>
    let s1 := beginRun s d i (some c) (pb c 2 28)
    (.running, if d = 3 then scheduleRetrain s1 i (allLogical l) else s1)

/-- TRIM_MEASURE. -/
def opTrimMeasure (c : Cmd) (h : Half) (s : State) : Reply × State :=
  let two := decide (trimDom c ≤ 2)
  if c.params.length ≠ (if two && !(trimDomains c).isEmpty then 13 else 1) ∧ (trimDomains c).isEmpty = false then
    (errAt stBadLength 0 1, s)
  else if two then measureStream c h s else measureOther c h s

/-- TRIM_COMMIT. -/
def opTrimCommit (c : Cmd) (_h : Half) (s : State) : Reply × State :=
  let i := trimInst c
  let ready := (trimDomains c).filter fun d => decide ((trimAt s d i).st = .staged)
  match firstErr (rsv c [(2, 0xF000FFE0)] ++ trimNamed c false ++ [(ready.isEmpty, wrongState 0x5E)]) with
  | some e => (e, s)
  | none =>
    let s1 := ready.foldl (fun s d => modTrim s d i fun t => { t with st := .commitPending }) s
    (.deferred (trimBoundary (trimDom c)),
      stage s1 c .trimCommit (trimHalf s (trimDom c) i) (trimKey (trimDom c) i) (ready.map (BitVec.ofNat 8)))

/-! Records (R310). -/

/-- TSTATE. -/
def trimCode : TrimState → Nat
  | .idle => 0
  | .measuring => 1
  | .checking => 2
  | .staged => 3
  | .commitPending => 4

/-- Body of a trim record. -/
def valsBytes (set : Nat) : TrimVals → List Byte
  | .black fixed adj dark pitch col row =>
    (List.range 4).flatMap (fun i => leBytes 4 (nth fixed i)) ++ (List.range 4).flatMap (fun i => leBytes 2 (pattern 16 (adj.getD i 0))) ++
      leBytes 8 dark ++ leBytes 4 pitch ++ leBytes 4 0 ++ leBytes 8 col ++ leBytes 8 row ++ leBytes 8 0
  | .defect base count second => leBytes 8 base ++ leBytes 4 count ++ leBytes 4 (b2n second)
  | .eq codes => (List.range 17).flatMap (fun i => leBytes 1 (codes.getD i 0).toNat) ++ List.replicate 15 0
  | .timing recs => recsBytes set recs
  | .telemetry t v => (List.range 12).flatMap (fun i => leBytes 2 (pattern 16 (t.getD i 0))) ++
      (List.range 8).flatMap fun i => leBytes 2 (pattern 16 (v.getD i 0))

/-- Values of an instance with nothing committed: those in force. -/
def valsInForce (s : State) (d i : Nat) : TrimVals :=
  match d with
  | 1 => blackVals (tget s.corrs i)
  | 2 => .defect (tget s.corrs i).defectBase 0 false
  | 3 => .eq (eqCodes s i)
  | 4 => .timing (recsInForce (half s (halfOf i 8)).mem (chanAt s (halfOf i 8) (i % 8)))
  | _ => .telemetry [] []

/-- Header of a trim record. -/
def trimHeader (s : State) (d i body : Nat) : List Byte :=
  let t := trimAt s d i
  dwordBytes [pack [(0, d), (4, i), (16, trimCode t.st), (19, b2n t.retainedOnly)], t.fails] ++
    leBytes 8 t.commitPoint.toNat ++ leBytes 8 t.measurePoint.toNat ++
    dwordBytes ([t.commits, BitVec.ofNat 32 body] ++ (List.range 3).map fun k => BitVec.ofNat 32 (trimLimit t d k)) ++
    List.replicate 20 0

/-- Timing set of the half of a domain-4 instance. -/
def trimSet (s : State) (d i : Nat) : Nat := if d = 4 then (half s (halfOf i 8)).mem.set.toNat else 0

/-- TRIM_READ. -/
def opTrimRead (c : Cmd) (_h : Half) (s : State) : Reply × State :=
  let d := trimDom c
  let i := trimInst c
  let t := trimAt s d i
  match firstErr (rsv c [(2, 0xE000FFE0)] ++ trimNamed c true ++ bad [(3, decide (pq c 3 % 32 ≠ 0))] ++
      [(pb c 2 28 && t.staged.isNone, wrongState 0x5E)]) with
  | some e => (e, s)
  | none =>
    let now := if d = 4 then valsInForce s d i else t.committed.getD (valsInForce s d i)
    let body := valsBytes (trimSet s d i) (if pb c 2 28 then t.staged.getD now else now)
    writeRecord s c (pq c 3) (trimHeader s d i body.length ++ body) ok

/-- Bytes of a domain's body. -/
def bodyBytes (d : Nat) : Nat := if d = 1 then 64 else if d = 2 then 16 else 40

/-- Values that a record's body gives. -/
def valsOfBody (d : Nat) (b : List Byte) : TrimVals :=
  let q := fun (o : Nat) => leNat ((b.drop o).take 8)
  match d with
  | 1 => .black ((numsOf 4 4 b).map (· % 2 ^ 24)) (intsOf 2 4 (b.drop 16)) (q 0x18) (leNat ((b.drop 0x20).take 4)) (q 0x28) (q 0x30)
  | 2 => .defect (q 0) (leNat ((b.drop 8).take 4)) (decide (leNat ((b.drop 12).take 1) % 2 = 1))
  | _ => .telemetry (intsOf 2 12 b) (intsOf 2 8 (b.drop 24))

/-- Arrays of loaded domain 1 values lie in the half's DRAM. -/
def arraysOk (m : HalfMem) (g : StreamCfg) : TrimVals → Bool
  | .black _ _ dark pitch col row =>
    !(misplaced m true dark 64 ((g.height - 1) * pitch + 2 * g.width)) && !(misplaced m true col 64 (2 * g.width)) &&
      !(misplaced m true row 64 (2 * g.height))
  | _ => true

/-- The checks of loaded values against the limits (R300, R310). -/
def loadChecks (s : State) (h : Half) (n : Nat) (g : StreamCfg) : TrimVals → List LimitCheck
  | .black fixed adj _ _ col row =>
    let now := if (tget s.corrs n).obRows = 0 then fixed.map Int.ofNat else adj
    let delta := ((List.range 4).map fun c => (now.getD c 0 - (committedBlack s n).getD c 0).natAbs).foldl max 0
    let ints := fun (a k : Nat) => if a = 0 then [] else intsOf 2 k (dramRead s h a (2 * k)).1
    [{ k := 0, v := delta }, { k := 1, v := ((ints col g.width ++ ints row g.height).map Int.natAbs).foldl max 0 }]
  | .defect _ count _ => [{ k := 0, v := count }, { k := 1, v := count - (committedEntries s h n).length }]
  | .telemetry t v =>
    let m := fun (l : List Int) => (l.map Int.natAbs).foldl max 0
    [{ k := 0, v := m t }, { k := 1, v := m v }]
  | _ => []

/-- Loaded values are staged, then wait for their boundary (R307, R310). -/
def loadStaged (s : State) (c : Cmd) (d i : Nat) (v : TrimVals) : Reply × State :=
  let s1 := modTrim (discardTrim s d i 1) d i fun t => { t with staged := some v }
  (.deferred (trimBoundary d), pendCommit s1 d i c .trimLoad)

/-- A loaded set of values fails a check. -/
def loadFails (s : State) (d i k v l : Nat) : Reply × State :=
  (errAt stPlausibilityFail 0x5D k, trimFailed (discardTrim s d i 1) d i k v l noPoint)

/-- TRIM_LOAD with values at hand. -/
def loadVals (s : State) (c : Cmd) (d i : Nat) (v : TrimVals) (es : List Nat) : Reply × State :=
  let h := trimHalf s d i
  let g := (streamAt s i).cfg.getD {}
  if d = 2 ∧ pb c 2 28 = false ∧ (!mapInOrder g.width g.height es ∨ 4194304 < es.length) then
    (errAt stPlausibilityFail 0x5D 0xFFFF, mapRefused (discardTrim s 2 i 1) i noPoint)
  else
    match firstUnmet (trimAt s d i) d (if pb c 2 29 then loadChecks s h i g v else []) with
    | some (k, x, l) => loadFails s d i k x l
    | none =>
      if d = 2 ∧ pb c 2 28 = false then
        let (s1, v1) := stageMap s h i (tget s.corrs i).defectBase es
        loadStaged s1 c d i v1
      else loadStaged s c d i v

/-- TRIM_LOAD (R307, R308, R310). -/
def opTrimLoad (c : Cmd) (_h : Half) (s : State) : Reply × State :=
  let d := trimDom c
  let i := trimInst c
  let t := trimAt s d i
  let kept := pb c 2 28
  let hd := if kept then some [] else hostRead s (pq c 3) (64 + bodyBytes d)
  let b := (hd.getD []).drop 64
  let cnt := if d = 2 then leNat ((b.drop 8).take 4) else 0
  let tail := if kept then some [] else hostRead s (pq c 3 + 80) (4 * min cnt 4194305)
  let v := valsOfBody d b
  match firstErr (rsv c [(2, 0xC000FFE0)] ++ trimNamed c true ++
      [(decide (d = 3 ∨ d = 4), badParam 0x5F 2)] ++ bad [(3, !kept && decide (pq c 3 % 32 ≠ 0))] ++
      [(hd.isNone || tail.isNone, err stDataCorrupt 0x04)] ++
      bad [(3, !kept && decide (leNat (((hd.getD []).drop 28).take 4) ≠ bodyBytes d))] ++
      [(!kept && !arraysOk (half s (trimHalf s d i)).mem ((streamAt s i).cfg.getD {}) v, badParam 0x58 3),
       (decide (d ≤ 2) && ((streamAt s i).bind.isNone || (streamAt s i).cfg.isNone), wrongState 0x30),
       (kept && (t.committed.isNone || (decide (d ≤ 2) && decide (t.geom ≠ geomOf s i))), wrongState 0x5E),
       (trimBusy s c, err stBusy 0)] ++ (if d = 2 then dramChecks s (trimHalf s 2 i) else [])) with
  | some e => (e, s)
  | none => loadVals s c d i (if kept then t.committed.getD v else v) (numsOf 4 cnt (tail.getD []))

/-! Rows of the commands. -/

/-- TRIM_SET_POLICY (R300). -/
def execTrimSetPolicy (c : Cmd) (s : State) : Host.Outcome State Fault Refusal := submit (.trimSetPolicy c) .trimSetPolicy opTrimSetPolicy c s

/-- TRIM_MEASURE (R301). -/
def execTrimMeasure (c : Cmd) (s : State) : Host.Outcome State Fault Refusal := submit (.trimMeasure c) .trimMeasure opTrimMeasure c s

/-- TRIM_COMMIT (R309). -/
def execTrimCommit (c : Cmd) (s : State) : Host.Outcome State Fault Refusal := submit (.trimCommit c) .trimCommit opTrimCommit c s

/-- TRIM_LOAD (R310). -/
def execTrimLoad (c : Cmd) (s : State) : Host.Outcome State Fault Refusal := submit (.trimLoad c) .trimLoad opTrimLoad c s

/-- TRIM_READ (R310). -/
def execTrimRead (c : Cmd) (s : State) : Host.Outcome State Fault Refusal := submit (.trimRead c) .trimRead opTrimRead c s

end Sys2Proof.Machine
end

