-- ==== Sys2Proof/Machine/VcuCore.lean ====
section
/-! DEFINITION. VCU sessions: their halves, the parts of a picture, levels and limits, capacity, regions, rate model and
room in the output rings (R311 to R314, R326 to R331, R337, R342). -/

namespace Sys2Proof.Machine

/-! Sessions and halves (R314, R316). -/

/-- Half in which a session's commands run and its stream is merged. -/
def sessHalf (s : State) (x : Session) : Half := if x.cfg.half = 3 then leadHalf s else if x.cfg.half = 2 then .B else .A

/-- Halves that a session occupies. -/
def sessHalves (x : Session) : List Half :=
  if x.cfg.half = 3 then [.A, .B] else if x.cfg.half = 2 then [.B] else [.A]

/-- The session is open and occupies the half. -/
def sessIn (x : Session) (h : Half) : Bool := decide (x.st ≠ .closed) && (sessHalves x).contains h

/-- The session divides each picture between the halves. -/
def isSplit (x : Session) : Bool := decide (x.cfg.half = 3)

/-- An event of a session. -/
def sessEvent (s : State) (n : Nat) (code : BitVec 16) (sev : BitVec 2) (point : Count64) (d0 d1 d2 : Nat) : State :=
  event s (sessHalf s (sessAt s n)) code sev 0x60 n point d0 d1 d2

/-- Counts of a session in every half it occupies. -/
def modSessCounts (s : State) (n : Nat) (f : SessCounts → SessCounts) : State :=
  let hs := sessHalves (sessAt s n)
  modSess s n fun x => { x with
    cntA := if hs.contains .A then f x.cntA else x.cntA
    cntB := if hs.contains .B then f x.cntB else x.cntB }

/-- Counts of a session in a half. -/
def modSessCnt (s : State) (n : Nat) (h : Half) (f : SessCounts → SessCounts) : State :=
  modSess s n fun x => if h = .A then { x with cntA := f x.cntA } else { x with cntB := f x.cntB }

/-- Command checks on a session's state. -/
def sessState (s : State) (n : Nat) (sts : List SessState) : Bool × Reply := (!sts.contains (sessAt s n).st, wrongState 0x60)

/-! Parts of a picture (R331). -/

/-- First column, first row, columns and rows of a half's part of a picture of `w` by `h`. -/
def sessPart (k : SessCfg) (h : Half) (w ht : Nat) : Nat × Nat × Nat × Nat :=
  if k.half ≠ 3 then (0, 0, w, ht)
  else match h, k.slices with
    | .A, false => (0, 0, min k.splitPos w, ht)
    | .B, false => (k.splitPos, 0, w - k.splitPos, ht)
    | .A, true => (0, 0, w, min k.splitPos ht)
    | .B, true => (0, k.splitPos, w, ht - k.splitPos)

/-- Columns and rows of a half's part of a session's picture. -/
def partSize (k : SessCfg) (h : Half) : Nat × Nat := (sessPart k h k.width k.height).2.2

/-- Side of a coding tree unit (HEVC) or macroblock (AVC). -/
def unitSide (k : SessCfg) : Nat := if k.avc then 16 else 64

/-- Units across and down a size. -/
def unitGrid (k : SessCfg) (wh : Nat × Nat) : Nat × Nat :=
  ((wh.1 + unitSide k - 1) / unitSide k, (wh.2 + unitSide k - 1) / unitSide k)

/-- Units in a half's part. -/
def partUnits (k : SessCfg) (h : Half) : Nat := (unitGrid k (partSize k h)).1 * (unitGrid k (partSize k h)).2

/-- Units in a picture: N of R330. -/
def picUnits (k : SessCfg) : Nat := (unitGrid k (k.width, k.height)).1 * (unitGrid k (k.width, k.height)).2

/-- The profile's encoded chroma format is 4:2:2. -/
def is422 (k : SessCfg) : Bool := decide (k.profile = 2)

/-- Bytes of a stored sample: 1 for 8-bit profiles, 2 for the others (R337). -/
def sampleBytes (k : SessCfg) : Nat := if k.profile = 0 then 1 else 2

/-! Levels and tiers of the standards (PRESUMED 58: H.265 annex A, H.264 annex A). -/

/-- HEVC levels: general_level_idc, MaxLumaPs, MaxLumaSr, Main and High MaxBR and MaxCPB in units of 1,000. -/
def hevcLevels : List (Nat × Nat × Nat × (Nat × Nat) × (Nat × Nat)) :=
  [(30, 36864, 552960, (128, 350), (0, 0)), (60, 122880, 3686400, (1500, 1500), (0, 0)),
   (63, 245760, 7372800, (3000, 3000), (0, 0)), (90, 552960, 16588800, (6000, 6000), (0, 0)),
   (93, 983040, 33177600, (10000, 10000), (0, 0)), (120, 2228224, 66846720, (12000, 12000), (30000, 30000)),
   (123, 2228224, 133693440, (20000, 20000), (50000, 50000)), (150, 8912896, 267386880, (25000, 25000), (100000, 100000)),
   (153, 8912896, 534773760, (40000, 40000), (160000, 160000)), (156, 8912896, 1069547520, (60000, 60000), (240000, 240000)),
   (180, 35651584, 1069547520, (60000, 60000), (240000, 240000)), (183, 35651584, 2139095040, (120000, 120000), (480000, 480000)),
   (186, 35651584, 4278190080, (240000, 240000), (800000, 800000))]

/-- AVC levels: level_idc, MaxFS and MaxMBPS in macroblocks, MaxBR and MaxCPB in the profile's units. -/
def avcLevels : List (Nat × Nat × Nat × (Nat × Nat)) :=
  [(9, 99, 1485, (128, 350)), (10, 99, 1485, (64, 175)), (11, 396, 3000, (192, 500)), (12, 396, 6000, (384, 1000)),
   (13, 396, 11880, (768, 2000)), (20, 396, 11880, (2000, 2000)), (21, 792, 19800, (4000, 4000)),
   (22, 1620, 20250, (4000, 4000)), (30, 1620, 40500, (10000, 10000)), (31, 3600, 108000, (14000, 14000)),
   (32, 5120, 216000, (20000, 20000)), (40, 8192, 245760, (20000, 25000)), (41, 8192, 245760, (50000, 62500)),
   (42, 8704, 522240, (50000, 62500)), (50, 22080, 589824, (135000, 135000)), (51, 36864, 983040, (240000, 240000)),
   (52, 36864, 2073600, (240000, 240000)), (60, 139264, 4177920, (240000, 240000)), (61, 139264, 8355840, (480000, 480000)),
   (62, 139264, 16711680, (800000, 800000))]

/-- Limits of a level: largest picture and rate in units of the codec's tables, and bits per second and of the buffer. -/
structure LevelLimits where
  /-- luma samples (HEVC) or macroblocks (AVC) of a picture -/
  size : Nat := 0
  /-- the same per second -/
  rate : Nat := 0
  /-- bits per second -/
  bitRate : Nat := 0
  /-- bits of the coded picture buffer -/
  cpb : Nat := 0
  deriving DecidableEq, Repr, Inhabited

/-- Limits of a session's level, tier and profile; none where the codec has no such level or tier (R311). -/
def levelLimits (k : SessCfg) : Option LevelLimits :=
  if k.avc then
    let unit := [1250, 3000, 4000].getD k.profile 1250
    (avcLevels.find? fun l => decide (l.1 = k.level)).map fun (_, fs, mbps, br, cpb) =>
      { size := fs, rate := mbps, bitRate := br * unit, cpb := cpb * unit }
  else
    let unit := if k.profile = 2 then 1667 else 1000
    (hevcLevels.find? fun l => decide (l.1 = k.level)).bind fun (_, ps, sr, main, high) =>
      let t := if k.highTier then high else main
      if t.1 = 0 then none else some { size := ps, rate := sr, bitRate := t.1 * unit, cpb := t.2 * unit }

/-- The picture size and rate of an encode session fit its level. -/
def levelFits (k : SessCfg) (l : LevelLimits) : Bool :=
  let (w, h) := if k.avc then ((k.width + 15) / 16, (k.height + 15) / 16) else (k.width, k.height)
  decide (w * h ≤ l.size ∧ w * w ≤ 8 * l.size ∧ h * h ≤ 8 * l.size ∧ w * h * k.rateNum ≤ l.rate * k.rateDen)

/-- Profile, level, tier and size lie within R311 and R312. -/
def formatOk (k : SessCfg) : Bool :=
  decide (k.profile ≤ 2) && decide (k.width ≤ 8192 ∧ k.height ≤ 4352 ∧ k.width * k.height ≤ 35651584) &&
  match levelLimits k with
  | none => false
  | some l =>
    if k.decode then decide (0 < k.width ∧ 0 < k.height)
    else decide (k.width % 8 = 0 ∧ k.height % 8 = 0 ∧ 128 ≤ k.width ∧ 128 ≤ k.height) && levelFits k l

/-- SPLIT_KIND and SPLIT_POS are valid (R331). -/
def splitOk (k : SessCfg) : Bool :=
  if k.half ≠ 3 then true
  else
    let size := if k.slices then k.height else k.width
    decide (k.slices = k.avc) && !(k.slices && !k.decode && !k.hostInput) &&
      decide (k.splitPos % 64 = 0 ∧ 256 ≤ k.splitPos ∧ k.splitPos + 256 ≤ size)

/-! Capacity (R313). -/

/-- Luma samples per second that a half's VCU carries. -/
def vcuCapacity : Nat := 2123366400

/-- Load of a session in a half, as a fraction. -/
def sessLoad (k : SessCfg) (h : Half) : Nat × Nat :=
  let (w, ht) := partSize k h
  (w * ht * k.rateNum, k.rateDen)

/-- The sum of two fractions. -/
def addFrac (a b : Nat × Nat) : Nat × Nat := (a.1 * b.2 + b.1 * a.2, a.2 * b.2)

/-- Configurations of the sessions that occupy a half. -/
def sessionsOf (s : State) (h : Half) : List SessCfg := (s.sessions.toList.filter fun x => sessIn x h).map (·.cfg)

/-- A half carries these sessions: at most eight, within its capacity. -/
def carries (ks : List SessCfg) (h : Half) : Bool :=
  let sum := (ks.map fun k => sessLoad k h).foldl addFrac (0, 1)
  decide (ks.length ≤ 8) && decide (sum.1 ≤ vcuCapacity * sum.2)

/-! Reference storage (R337). -/

/-- A size rounded up to 64. -/
def up64 (v : Nat) : Nat := (v + 63) / 64 * 64

/-- PIC_BYTES of a half's part. -/
def picBytes (k : SessCfg) (h : Half) : Nat :=
  let (w, ht) := partSize k h
  up64 w * up64 ht * (if is422 k then 4 else 3) / 2 * sampleBytes k

/-- Pitch of an uncompressed picture's planes, in the part of a half: the row bytes rounded up to 64. -/
def poolPitch (k : SessCfg) (h : Half) (bytes : Nat) : Nat := up64 ((partSize k h).1 * bytes)

/-- PLANE1_OFF of an uncompressed picture. -/
def poolPlane1 (k : SessCfg) (h : Half) (bytes : Nat) : Nat := poolPitch k h bytes * up64 (partSize k h).2

/-- Bytes of an uncompressed picture in the part of a half. -/
def poolBytes (k : SessCfg) (h : Half) : Nat :=
  let b := sampleBytes k
  poolPlane1 k h b + poolPitch k h b * if is422 k then (partSize k h).2 else ((partSize k h).2 + 1) / 2

/-- Reference region or pool list of a half, and its size field. -/
def refOf (k : SessCfg) (h : Half) : Nat × Nat := if h = .A then (k.refA, k.refASize) else (k.refB, k.refBSize)

/-- Pool buffer addresses that a session's list names in a half. -/
def poolList (s : State) (k : SessCfg) (h : Half) : List Nat :=
  if k.compat then (List.range (refOf k h).2).map fun i => leNat (dramRead s h ((refOf k h).1 + 8 * i) 8).1 else []

/-- The reference region or pool of a half obeys R337. -/
def refsOk (s : State) (k : SessCfg) (h : Half) : Bool :=
  let (base, size) := refOf k h
  let m := (half s h).mem
  if k.compat then
    decide (size ≤ 32 ∧ (if k.decode then k.dpb + 1 else k.numRef + 2) ≤ size) && base % 8 = 0 && backedRange m base (8 * size) &&
      (poolList s k h).all fun a => a % 4096 = 0 && backedRange m a (poolBytes k h)
  else
    base % 4096 = 0 && decide ((if k.decode then k.dpb + 1 else k.numRef + 2) * picBytes k h ≤ size * 4096) &&
      decide (base + size * 4096 ≤ 2 ^ 64) && decide (0 < size) && backedRange m base (size * 4096)

/-- Regions of a half's DRAM that sessions use: references, pools, output rings (R361). -/
def vcuRegions (s : State) (h : Half) : List (Nat × Nat) :=
  s.sessions.toList.flatMap fun x =>
    if !sessIn x h then []
    else
      let (base, size) := refOf x.cfg h
      let refs := if x.cfg.compat then
          (base, 8 * size) :: (if h = .A then x.bufsA else x.bufsB).map fun a => (a, poolBytes x.cfg h)
        else [(base, size * 4096)]
      let out := match (if h = .A then x.outA else x.outB) with
        | none => []
        | some o =>
          if x.cfg.decode then [(o.base, o.recs * o.size * 4096), (o.recBase, 256 * max o.recs size)]
          else if o.inDram then [(o.base, 2 ^ o.size), (o.recBase, 64 * 2 ^ o.recs)] else []
      refs ++ out

/-- Output of a session in a half. -/
def sessOutIn (x : Session) (h : Half) : Option SessOut := if h = .A then x.outA else x.outB

/-! Rate model (R326 to R330). -/

/-- FLOOR of R330. -/
def rateFloor (k : SessCfg) : Nat := picUnits k * 96 + 4096

/-- The parameters of a VCU_SET_RATE (R326). -/
def rateOf (c : Cmd) : RateCfg :=
  { mode := pf c 2 6 4, hrd := pb c 2 7, target := (dw c 3).toNat, maxRate := (dw c 4).toNat, cpb := (dw c 5).toNat
    initFull := pf c 6 7 0, qpI := pf c 6 15 8, qpP := pf c 6 23 16, qpB := pf c 6 31 24, maxPic := (dw c 7).toNat }

/-- Rate of the reference decoder in kb/s: TARGET_KBPS in CBR, else MAX_KBPS (R326). -/
def hrdRate (r : RateCfg) : Nat := if r.mode = 0 then r.target else r.maxRate

/-- A rate setting obeys R330. -/
def rateOk (k : SessCfg) (r : RateCfg) : Bool :=
  let fl := rateFloor k
  let kbps := if r.mode = 1 ∨ r.mode = 2 then r.maxRate else r.target
  decide (2 * fl ≤ r.cpb * 1000) && decide (2 * fl * k.rateNum ≤ kbps * 1000 * k.rateDen) &&
    (decide (r.maxPic = 0) || decide (fl ≤ r.maxPic * 1000)) &&
    match levelLimits k with
    | some l => decide (kbps * 1000 ≤ l.bitRate ∧ r.cpb * 1000 ≤ l.cpb) && (decide (r.mode ≠ 1) || decide (r.target * 1000 ≤ l.bitRate))
    | none => false

/-- The rate setting that the next picture is coded under: the last one staged, else the one in force. -/
def rateSoon (s : State) (n : Nat) : Option RateCfg :=
  match (s.staged.filter fun z => decide (z.key = .vcu n ∧ z.op = .vcuSetRate)).getLast? with
  | some z => some (rateOf z.cmd)
  | none => (sessAt s n).rate

/-- Bits that the reference decoder's buffer holds at a removal time (R327). -/
def bufferAt (x : Session) (r : RateCfg) (t : Count64) : Nat :=
  match x.lastTime with
  | none => r.cpb * 1000 * r.initFull / 100
  | some t0 =>
    min (r.cpb * 1000) (x.bufferBits + hrdRate r * 1000 * (t - t0).toNat * x.cfg.rateDen / max 1 x.cfg.rateNum)

/-- The picture cap applies (R326). -/
def capped (r : RateCfg) : Bool := decide (r.mode ≠ 3) || decide (r.maxPic ≠ 0)

/-- A picture's cap, given the bits of the buffer (R327). -/
def picCap (r : RateCfg) (bits : Nat) : Nat := if r.maxPic = 0 then bits else min bits (r.maxPic * 1000)

/-- CEIL of R328: the PCM form of a unit. -/
def unitCeil (k : SessCfg) (bits : Nat) : Nat :=
  let side := unitSide k
  (side * side * if is422 k then 2 else 1) * bits + (if is422 k then 0 else side * side / 2 * bits) + 64

/-- The most bytes that a picture can take: its cap, or its PCM form where no cap applies. -/
def roomNeeded (x : Session) (r : RateCfg) (cap : Nat) : Nat :=
  ((if capped r then cap else picUnits x.cfg * unitCeil x.cfg x.bits) + 7) / 8

/-! Room in the output rings (R340, R342). -/

/-- Free bytes of the data ring. -/
def bytesFree (x : Session) (o : SessOut) : Nat := 2 ^ o.size - (x.dataPos - x.dataHead)

/-- Free records of the record ring. -/
def recsFree (x : Session) (o : SessOut) : Nat := 2 ^ o.recs - (x.recPos - x.recHead)

/-- Count at which an AU of a length starts: contiguous, from the ring's first byte where it would pass the end (R340). -/
def auStart (x : Session) (o : SessOut) (len : Nat) : Nat :=
  let p := x.dataPos % 2 ^ o.size
  if p + len ≤ 2 ^ o.size then x.dataPos else x.dataPos + (2 ^ o.size - p)

/-- One free record, and contiguous room for a number of bytes (R342). -/
def auRoom (x : Session) (o : SessOut) (len : Nat) : Bool :=
  decide (0 < recsFree x o) && decide (len ≤ 2 ^ o.size ∧ auStart x o len + len ≤ x.dataHead + 2 ^ o.size)

/-- Output of an encode session: kept in the entry of its half. -/
def encOut (s : State) (x : Session) : Option SessOut := sessOutIn x (sessHalf s x)

/-- The output rings have no room: the stall is counted and raised once (R342). -/
def outputStall (s : State) (n : Nat) : State :=
  let x := sessAt s n
  if x.stalled then s
  else
    let o := (encOut s x).getD {}
    let s1 := modSessCounts (modSess s n fun x => { x with stalled := true }) n fun k => { k with outputStalls := satInc k.outputStalls }
    sessEvent s1 n 0x6004 1 noPoint (bytesFree x o) (recsFree x o) 0

end Sys2Proof.Machine
end

