-- ==== Sys2Proof/Machine/MemMap.lean ====
section
/-! DEFINITION. The DRAM address map of a half: regions, channels, and the fields of a channel address (R358 to R361, R374). -/

namespace Sys2Proof.Machine

/-! Regions (R358, R359). -/

/-- Channels of a mask, lowest first. -/
def maskChans (mask : BitVec 8) : List Nat := (List.range 8).filter fun c => mask.getLsbD c

/-- GiB that a region takes of each of its channels. -/
def gibPerChan (r : MemRegion) : Nat := r.size / max 1 (maskChans r.mask).length

/-- CBASE of a region's range in a channel, in GiB: the ranges of the regions before it. -/
def cbase (m : HalfMem) (k c : Nat) : Nat :=
  ((List.range k).map fun j =>
    let r := tget m.regions j
    if r.enable && r.mask.getLsbD c then gibPerChan r else 0).sum

/-- Where a half address lies: channel of the half, and address in the channel; none where unbacked (R359). -/
def toChan (m : HalfMem) (a : Nat) : Option (Nat × Nat) :=
  (List.range 8).findSome? fun k =>
    let r := tget m.regions k
    if r.enable && decide (r.base * 2 ^ 30 ≤ a ∧ a < (r.base + r.size) * 2 ^ 30) then
      let cs := maskChans r.mask
      let n := max 1 cs.length
      let j := (a - r.base * 2 ^ 30) / 256
      let c := cs.getD (j % n) 0
      some (c, cbase m k c * 2 ^ 30 + j / n * 256 + a % 256)
    else none

/-- The half address of a channel address; none where no region maps it. -/
def ofChan (m : HalfMem) (c ca : Nat) : Option Nat :=
  (List.range 8).findSome? fun k =>
    let r := tget m.regions k
    let lo := cbase m k c * 2 ^ 30
    if r.enable && r.mask.getLsbD c && decide (lo ≤ ca ∧ ca < lo + gibPerChan r * 2 ^ 30) then
      let cs := maskChans r.mask
      some (r.base * 2 ^ 30 + ((ca - lo) / 256 * cs.length + cs.idxOf c) * 256 + ca % 256)
    else none

/-- Order of the region that backs a half address. -/
def orderAt (m : HalfMem) (a : Nat) : Nat := ((regionOf m a).map (·.order.toNat)).getD 1

/-! Fields of a channel address (R360). -/

/-- Where a burst lies in its channel. -/
structure Place where
  /-- channel of the half -/
  chan : Nat := 0
  /-- subchannel 1 -/
  sub : Bool := false
  /-- rank -/
  rank : Nat := 0
  /-- bank group -/
  bg : Nat := 0
  /-- bank -/
  bank : Nat := 0
  /-- row -/
  row : Nat := 0
  /-- column, in bursts -/
  col : Nat := 0
  deriving DecidableEq, Repr, Inhabited

/-- Ranks that the map uses: the spare apart. -/
def mapRanks (c : Chan) : Nat := max 1 (if hasSpare c then rankCount c - 1 else rankCount c)

/-- Rows of a bank. -/
def bankRows (c : Chan) : Nat := max 1 (c.capacity * 2048 / max 1 (rankCount c))

/-- Fields of a channel address in an order; `b` is the address above its subchannel bit. -/
def placeIn (c : Chan) (chan order : Nat) (sub : Bool) (b : Nat) : Place :=
  let n := mapRanks c
  match order with
  | 0 =>
    { chan, sub, col := b % 128, bank := b / 128 % 4, bg := b / 512 % 8, rank := b / 4096 % n, row := b / 4096 / n }
  | 3 =>
    let v := b / 512
    { chan, sub, col := b % 8 + b / 256 % 16 * 8, bg := b / 8 % 8, bank := b / 64 % 4, row := b / 4096 % bankRows c
      rank := v / 8 / bankRows c }
  | _ =>
    let row := b / 4096 / n
    let x := order = 2
    { chan, sub, col := b % 2 + b / 16 % 64 * 2
      bg := (b / 2 % 8) ^^^ (if x then row % 8 else 0), bank := (b / 1024 % 4) ^^^ (if x then row / 8 % 4 else 0)
      rank := b / 4096 % n, row }

/-- Where the burst of a half address lies. -/
def memPlace (m : HalfMem) (a : Nat) : Option Place :=
  (toChan m a).map fun (k, ca) => placeIn (tget m.chans k) k (orderAt m a) (decide (ca / 64 % 2 = 1)) (ca / 128)

/-- Key of a bank of a subchannel: rank, bank group, bank. -/
def bankKey (p : Place) : Nat := p.rank * 32 + p.bg * 4 + p.bank

/-- Key of a row of a subchannel. -/
def rowKey (p : Place) : Nat := p.row * 128 + bankKey p

/-- Bursts of a channel's usable space (R385). -/
def chanBursts (c : Chan) : Nat := usableGib c * 2 ^ 24

/-! The default map (R358). -/

/-- The largest count of 1, 2, 4 or 8 within a number. -/
def powerUpTo (n : Nat) : Nat := if 8 ≤ n then 8 else if 4 ≤ n then 4 else if 2 ≤ n then 2 else 1

/-- Regions of the default map: `left` are the remaining channels with their usable GiB, `base` the next free half address. -/
def mapRegions : Nat → List (Nat × Nat) → Nat → List MemRegion
  | 0, _, _ => []
  | _ + 1, [], _ => []
  | n + 1, (c, g) :: t, base =>
    let same := (t.filter fun x => decide (x.2 = g)).map (·.1)
    let k := powerUpTo (same.length + 1)
    let mine := c :: same.take (k - 1)
    { enable := true, base, size := k * g, mask := BitVec.ofNat 8 (mine.map fun c => 2 ^ c).sum, order := 1 } ::
      mapRegions n (t.filter fun x => !mine.contains x.1) (base + k * g)

/-- The map that firmware builds after power-on. -/
def defaultMap (m : HalfMem) : Vector MemRegion 8 :=
  let cs := ((List.range 8).map fun k => (k, usableGib (tget m.chans k))).filter fun x => decide (0 < x.2)
  let rs := mapRegions 8 cs 0
  Vector.ofFn fun i => rs.getD i.val {}

/-! Changing the map (R361). -/

/-- A region's range of half addresses. -/
def regionRange (r : MemRegion) : Nat × Nat := if r.enable then (r.base * 2 ^ 30, r.size * 2 ^ 30) else (0, 0)

/-- The regions are disjoint, each region takes whole GiB of usable channels, and every channel has the room (R358). -/
def mapOk (m : HalfMem) : Bool :=
  let rs := m.regions.toList.filter (·.enable)
  disjoint (rs.map regionRange) &&
    (List.range 8).all fun c => decide (cbase m 8 c ≤ usableGib (tget m.chans c))

/-- What decides a region's mapping, its size apart. -/
def regionMap (m : HalfMem) (k : Nat) : MemRegion × List Nat :=
  let r := tget m.regions k
  ({ r with size := 0 }, (maskChans r.mask).map (cbase m k))

/-- Make the contents of a range undefined (R361). -/
def scrambleMem (m : HalfMem) (z : Nat × Nat) (tag : Nat) : HalfMem :=
  if z.2 = 0 then m
  else { m with
    mem := m.mem.scramble z.1 z.2 tag
    poison := m.poison.filter fun b => !decide (z.1 ≤ b * 64 ∧ b * 64 < z.1 + z.2)
    injected := m.injected.filter fun b => !decide (z.1 ≤ b.1 * 64 ∧ b.1 * 64 < z.1 + z.2) }

/-- Ranges whose mapping differs between two maps of a half. -/
def changedRanges (old new : HalfMem) : List (Nat × Nat) :=
  (List.range 8).flatMap fun k =>
    let a := tget old.regions k
    let b := tget new.regions k
    if regionMap old k = regionMap new k then
      if a.size < b.size then [((b.base + a.size) * 2 ^ 30, (b.size - a.size) * 2 ^ 30)]
      else [((a.base + b.size) * 2 ^ 30, (a.size - b.size) * 2 ^ 30)]
    else [regionRange a, regionRange b]

/-- Configured structures in a half's DRAM: Quarry regions, tap and statistics rings, VCU regions, defect regions and stage-3
arrays (R361). -/
def structures (s : State) (h : Half) : List (Nat × Nat) :=
  otherRegions s h 64 ++ tapRingsIn s h 32 0 ++ statRingsIn s h 32 ++ vcuRegions s h ++
    (List.range 64).flatMap fun n =>
      if streamHalf s n ≠ some h then []
      else
        let k := tget s.corrs n
        let g := (streamAt s n).cfg.getD {}
        (if k.defectBase = 0 then [] else [(k.defectBase, 2 ^ 25)]) ++
          (if k.fpOn then
            (if k.darkAddr = 0 then [] else [(k.darkAddr, k.darkPitch * g.height)]) ++
            (if k.colAddr = 0 then [] else [(k.colAddr, 2 * g.width)]) ++
            (if k.rowAddr = 0 then [] else [(k.rowAddr, 2 * g.height)])
          else [])

end Sys2Proof.Machine
end

