-- ==== Sys2Proof/Machine/VfPix.lean ====
section
/-! DEFINITION. The viewfinder's pictures: sources and their parts in each half, the rendering of a panel image, tile
signatures, rectangles and packets (R415 to R420, R423). -/

namespace Sys2Proof.Machine

/-! Sources and their parts (R415 to R417). -/

/-- Halves that hold a part of a source. -/
def srcHalves (s : State) (z : VfSource) : List Half := if z.host then [z.half] else halvesOf (ctxAt s z.ctx)

/-- A half does not hold the whole of a source. -/
def needsPeer (s : State) (z : VfSource) (h : Half) : Bool := decide (srcHalves s z ≠ [h])

/-- The peer region that a source names for a half. -/
def peerBase (z : VfSource) (h : Half) : Nat := if h = .A then z.peerA else z.peerB

/-- Bytes of a peer buffer, and its pitch (R417). -/
def peerBytes : Nat := 22118400
/-- Pitch of a peer buffer. -/
def peerPitch : Nat := 10240

/-- Outputs of a half (R414). -/
def outsOf (h : Half) : List Nat := [2 * halfIdx h, 2 * halfIdx h + 1]

/-- Half of an output. -/
def outHalf (o : Nat) : Half := halfOf o 2

/-- A half has an output in RUN 2. -/
def vfRuns (s : State) (h : Half) : Bool := (outsOf h).any fun o => decide ((outAt s o).cfg.run = 2)

/-- Columns of a frame that a half holds: first and count. -/
def framePart (s : State) (z : VfSource) (fr : VfFrame) (h : Half) : Nat × Nat :=
  if srcHalves s z = [.A, .B] then (if h = .A then (0, fr.split) else (fr.split, fr.w - fr.split)) else (0, fr.w)

/-- Bytes of `n` columns of a Y422_10 row. -/
def yuvBytes (n : Nat) : Nat := n / 2 * 5

/-- A row of the part that a half holds of its own. -/
def ownRow (s : State) (z : VfSource) (fr : VfFrame) (h : Half) (y : Nat) : List Byte :=
  let n := yuvBytes (framePart s z fr h).2
  if z.host then (dramRead s h (z.addr + y * z.pitch) n).1
  else match ringIn (tget (ctxAt s z.ctx).taps z.tap) h with
    | some r => (dramRead s h (r.base + (fr.buf.getD 0) * r.stride * 4096 + y * r.pitch0) n).1
    | none => List.replicate n 0

/-- A row of the part that a half has received into a peer buffer. -/
def peerRow (s : State) (z : VfSource) (fr : VfFrame) (h : Half) (y : Nat) : List Byte :=
  let (l, n) := framePart s z fr (otherHalf h)
  (dramRead s h (peerBase z h + (fr.peer.getD 0) * peerBytes + y * peerPitch + yuvBytes l) (yuvBytes n)).1

/-- A whole row of a frame complete in a half. -/
def wholeRow (s : State) (z : VfSource) (fr : VfFrame) (h : Half) (y : Nat) : List Byte :=
  let own := if (srcHalves s z).contains h then ownRow s z fr h y else []
  let far := if needsPeer s z h then peerRow s z fr h y else []
  if h = .A then own ++ far else far ++ own

/-! From picture to panel image (R418). -/

/-- Codes of a source picture. -/
structure YuvPic where
  /-- width -/
  w : Nat
  /-- height -/
  h : Nat
  /-- groups of two pixels, row by row: 40 bits each -/
  groups : Array Nat

/-- A frame as codes. -/
def yuvOf (s : State) (z : VfSource) (fr : VfFrame) (h : Half) : YuvPic :=
  { w := fr.w, h := fr.h
    groups := ((List.range fr.h).flatMap fun y => numsOf 5 (fr.w / 2) (wholeRow s z fr h y)).toArray }

/-- A code with the inverse of its range, in 16 fractional bits (R268, DESIGN CHOICE 59). -/
def uncode (full chroma : Bool) (c : Nat) : Int :=
  if full then (if chroma then roundRat ((Int.ofNat c - 512) * 65536) 1023 else roundRat (Int.ofNat c * 65536) 1023)
  else if chroma then roundRat ((Int.ofNat c - 512) * 65536) 896 else roundRat ((Int.ofNat c - 64) * 65536) 876

/-- Clamp to U1.16. -/
def clampU116 (v : Int) : Int := max 0 (min v 0x10000)

/-- R', G', B' of a pixel (R418 step 2, DESIGN CHOICE 59). -/
def yuvRgb (p : YuvPic) (ycc full : Bool) (x y : Nat) : Int × Int × Int :=
  let g := p.groups.getD (y * (p.w / 2) + x / 2) 0
  let yy := uncode full false ((if x % 2 = 0 then g / 2 ^ 10 else g / 2 ^ 30) % 1024)
  let cb := uncode full true (g % 1024)
  let cr := uncode full true (g / 2 ^ 20 % 1024)
  let (kr, kg, kb, _, _) := yccConsts ycc
  let r := yy + roundShift (2 * (65536 - kr) * cr) 16
  let b := yy + roundShift (2 * (65536 - kb) * cb) 16
  let one := roundRat (65536 * 65536) kg
  let gg := roundShift (one * yy - roundRat (kr * 65536) kg * r - roundRat (kb * 65536) kg * b) 16
  (clampU116 r, clampU116 gg, clampU116 b)

/-- Crop of an axis: start and size; a size of 0 takes the whole. -/
def cropOf (start size whole : Nat) : Nat × Nat := if size = 0 then (0, whole) else (start, size)

/-- Coefficients of an axis with FILTER 1 (R261). -/
def vfCoefs (crop out : Nat) : Array Int := ((List.range 64).flatMap fun ph => phaseCoefs 1 crop out ph).toArray

/-- A component scaled to `ow` x `oh` (R418 step 3). -/
def vfScale (p : Plane) (cx cw cy ch ow oh : Nat) : Plane :=
  let hz := mkPlane 0 0 ow p.h fun j y => scaleAt (vfCoefs cw ow) cx cw ow (fun x => p.at_ (Int.ofNat (mirror 0 (p.w - 1) x)) y) j.toNat
  mkPlane 0 0 ow oh fun j i =>
    clampU116 (scaleAt (vfCoefs ch oh) cy ch oh (fun y => hz.at_ j (Int.ofNat (mirror 0 (p.h - 1) y))) i.toNat)

/-- Where a window pixel comes from in the scaled picture of `w` x `h` before it is turned (R418 step 4). -/
def unturn (rot : Nat) (flip : Bool) (ow oh x y : Nat) : Nat × Nat :=
  let x1 := if flip then ow - 1 - x else x
  match rot with
  | 1 => (y, ow - 1 - x1)
  | 2 => (ow - 1 - x1, oh - 1 - y)
  | 3 => (oh - 1 - y, x1)
  | _ => (x1, y)

/-- The panel image: one RGB888 number for each pixel, row by row (R418). -/
def panelImage (k : VfCfg) (p : YuvPic) (ycc full : Bool) : Array Nat :=
  let side := decide (k.rotate = 1 ∨ k.rotate = 3)
  let (sw, sh) := if side then (k.outH, k.outW) else (k.outW, k.outH)
  let (cx, cw) := cropOf k.srcX k.srcW p.w
  let (cy, ch) := cropOf k.srcY k.srcH p.h
  let comp := fun (f : Int × Int × Int → Int) =>
    vfScale (mkPlane 0 0 p.w p.h fun x y => f (yuvRgb p ycc full x.toNat y.toNat)) cx cw cy ch sw sh
  let r := comp (·.1)
  let g := comp (·.2.1)
  let b := comp (·.2.2)
  ((List.range (k.panelW * k.panelH)).map fun i =>
    let x := i % k.panelW
    let y := i / k.panelW
    if k.outX ≤ x ∧ x < k.outX + k.outW ∧ k.outY ≤ y ∧ y < k.outY + k.outH then
      let (u, v) := unturn k.rotate.toNat k.mirror k.outW k.outH (x - k.outX) (y - k.outY)
      let q := fun (z : Plane) => (codeOf true false 8 (atJI z u v)).1
      q r * 65536 + q g * 256 + q b
    else k.bg.toNat).toArray

/-- Bytes R, G, B of a rectangle of a panel image, in raster order. -/
def rectBytes (w : Nat) (img : Array Nat) (x y rw rh : Nat) : List Byte :=
  (List.range rh).flatMap fun j => (List.range rw).flatMap fun i =>
    let v := img.getD ((y + j) * w + x + i) 0
    [BitVec.ofNat 8 (v / 65536), BitVec.ofNat 8 (v / 256), BitVec.ofNat 8 v]

/-- Pitch of the render buffer (R418). -/
def renderPitch (k : VfCfg) : Nat := (3 * k.panelW + 63) / 64 * 64

/-- Write the panel image into the render buffer of its half. -/
def writePanel (s : State) (h : Half) (k : VfCfg) (img : Array Nat) : State :=
  (List.range k.panelH).foldl (fun s y => dramWrite s h (k.renderBase + y * renderPitch k) (rectBytes k.panelW img 0 y k.panelW 1)) s

/-! Tiles and rectangles (R419, R420). -/

/-- Columns and rows of tiles. -/
def tileGrid (k : VfCfg) : Nat × Nat := ((k.panelW + 63) / 64, (k.panelH + 63) / 64)

/-- Signatures of the tiles of a panel image, row by row. -/
def tileSigs (k : VfCfg) (img : Array Nat) : List Word :=
  let (nx, ny) := tileGrid k
  (List.range (nx * ny)).map fun i =>
    let x := i % nx * 64
    let y := i / nx * 64
    crc32c (rectBytes k.panelW img x y (min 64 (k.panelW - x)) (min 64 (k.panelH - y)))

/-- A rectangle of tiles: first column, first row, last column, last row. -/
abbrev TileRect := Nat × Nat × Nat × Nat

/-- Bounding box of two rectangles of tiles. -/
def boxOf (a b : TileRect) : TileRect := (min a.1 b.1, min a.2.1 b.2.1, max a.2.2.1 b.2.2.1, max a.2.2.2 b.2.2.2)

/-- Bands of the rows that hold changed tiles, upper first: the leftmost and rightmost changed columns of each row. -/
def bandsOf : Nat → List (Option (Nat × Nat)) → List TileRect
  | _, [] => []
  | y, none :: t => bandsOf (y + 1) t
  | y, some (l, r) :: t =>
    match t, bandsOf (y + 1) t with
    | some _ :: _, b :: bs => boxOf (l, y, r, y) b :: bs
    | _, bs => (l, y, r, y) :: bs

/-- Merge the pair of neighbours with the smallest gap, the uppermost of equals. -/
def mergeClosest (rs : List TileRect) : List TileRect :=
  let gap := fun (i : Nat) => (rs.getD (i + 1) default).2.1 - (rs.getD i default).2.2.2
  let best := (List.range (rs.length - 1)).foldl (fun b i => if gap i < gap b then i else b) 0
  rs.take best ++ boxOf (rs.getD best default) (rs.getD (best + 1) default) :: rs.drop (best + 2)

/-- Merge until at most 8 remain. -/
def mergeDown : Nat → List TileRect → List TileRect
  | 0, rs => rs
  | n + 1, rs => if 8 < rs.length then mergeDown n (mergeClosest rs) else rs

/-- The rectangles of a push in panel pixels, in the order in which they are sent: x, y, width, height (R420, R423). -/
def pushRects (k : VfCfg) (old new : List Word) (whole : Bool) : List (Nat × Nat × Nat × Nat) :=
  let (nx, ny) := tileGrid k
  let rows := (List.range ny).map fun y =>
    let cs := (List.range nx).filter fun x => whole || decide (old[y * nx + x]? ≠ new[y * nx + x]?)
    cs.head?.map fun l => (l, cs.getLastD l)
  (mergeDown ny (bandsOf 0 rows)).map fun r =>
    let x := 64 * r.1
    let y := 64 * r.2.1
    (x, y, min k.panelW (64 * (r.2.2.1 + 1)) - x, min k.panelH (64 * (r.2.2.2 + 1)) - y)

/-- Two bytes, most significant first. -/
def beBytes (v : Nat) : List Byte := [BitVec.ofNat 8 (v / 256), BitVec.ofNat 8 v]

/-- A DCS long write. -/
def dcsLong (cmd : Byte) (bs : List Byte) : PanelPkt := { dataType := 0x39, payload := cmd :: bs }

/-- The pixel packets of a rectangle: the first carries write_memory_start, the rest write_memory_continue. -/
def pixelPkts (n : Nat) : Nat → Bool → List Byte → List PanelPkt
  | 0, _, _ => []
  | fuel + 1, first, bs =>
    if bs.isEmpty then []
    else dcsLong (if first then 0x2C else 0x3C) (bs.take (3 * n)) :: pixelPkts n fuel false (bs.drop (3 * n))

/-- The packets of one rectangle (R423). -/
def rectPkts (k : VfCfg) (img : Array Nat) (r : Nat × Nat × Nat × Nat) : List PanelPkt :=
  let (x, y, w, h) := r
  dcsLong 0x2A (beBytes x ++ beBytes (x + w - 1)) :: dcsLong 0x2B (beBytes y ++ beBytes (y + h - 1)) ::
    pixelPkts k.maxPkt (w * h) true (rectBytes k.panelW img x y w h)

/-- Bytes of a packet on the link: header 4, payload, checksum 2; a short packet is 4 bytes. -/
def pktBytes (p : PanelPkt) : Nat := if p.dataType = 0x39 ∨ p.dataType = 0x29 then 4 + p.payload.length + 2 else 4

end Sys2Proof.Machine
end

