-- ==== Sys2Proof/Machine/Viewfinder.lean ====
section
/-! DEFINITION. The viewfinder: holds and peer frames, updates at TE edges, panel sequences, checks, and the VF_ commands
(R415 to R430). -/

namespace Sys2Proof.Machine

/-! Events and state (R430). -/

/-- A viewfinder event. -/
def vfEvent (s : State) (o : Nat) (code : BitVec 16) (sev : BitVec 2) (d0 d1 d2 : Nat) : State :=
  event s (outHalf o) code sev 0x80 o (outAt s o).teCount d0 d1 d2

/-- Sources that an output shows or is to show, and the device's own. -/
def sourcesInUse (s : State) : List VfSource :=
  s.vfSrc.toList ++ s.outs.toList.flatMap fun x => x.src.toList ++ x.staged.map (·.src)

/-- The source of this number. -/
def sourceOf (s : State) (serial : Nat) : Option VfSource := (sourcesInUse s).find? fun z => decide (z.serial = serial)

/-- An update of an output renders from this frame. -/
def rendersFrom (s : State) (h : Half) (p : VfFrame → Bool) : Bool :=
  (outsOf h).any fun o => decide ((outAt s o).phase = .rendering) && ((outAt s o).frame.map p).getD false

/-! Holds (R277, R416). -/

/-- The buffer of a frame is held while either half's engine holds it. -/
def settleVfHold (s : State) (fr : VfFrame) : State :=
  match fr.buf with
  | none => s
  | some k =>
    let held := [Half.A, .B].any fun h => (half s h).vf.holds.any fun g => decide (g.ctx = fr.ctx ∧ g.tap = fr.tap ∧ g.buf = some k)
    modHolds s fr.ctx fr.tap k fun b => { b with vfHold := held }

/-- Holds that a half's engine keeps of a source: what an update renders from, and the newest (R416). -/
def keptHolds (s : State) (h : Half) (hs : List VfFrame) : List VfFrame :=
  hs.zipIdx.filterMap fun (fr, i) =>
    let newer := (hs.drop (i + 1)).any fun g => decide (g.serial = fr.serial)
    let known := (sourceOf s fr.serial).isSome
    let busy := rendersFrom s h fun g => decide (g.serial = fr.serial ∧ g.f = fr.f ∧ g.buf = fr.buf)
    if busy || (known && !newer) then some fr else none

/-- Release what a half's engine need not hold any more. -/
def releaseVf (s : State) (h : Half) : State :=
  let old := (half s h).vf.holds
  let new := keptHolds s h old
  let s1 := modVfe s h fun e => { e with holds := new }
  (old.filter fun fr => !new.contains fr).foldl settleVfHold s1

/-- A tap buffer has become READY in every half: the engine of each half that has a part of it takes its hold, unless two
updates of the half render from two others (R415, R416). -/
def takeVf (s : State) (h : Half) (z : VfSource) (fr : VfFrame) : State :=
  let s1 := modVfe s h fun e => { e with holds := e.holds ++ [fr] }
  let s2 := releaseVf s1 h
  if 2 < ((half s2 h).vf.holds.filter fun g => decide (g.serial = z.serial)).length then
    s
  else settleVfHold s2 fr

/-- A tap buffer has become READY (R415, R416). -/
def vfTapReady (s : State) (ctx tap buf : Nat) (f : Count64) (t : TapCfg) (split : Nat) : State :=
  if t.format ≠ 4 ∨ 4096 < t.ow ∨ 2160 < t.oh then s
  else
    let mine := ((sourcesInUse s).filter fun z => decide (!z.host ∧ z.ctx = ctx ∧ z.tap = tap)).foldl
      (fun acc z => if acc.any fun y => decide (y.serial = z.serial) then acc else acc ++ [z]) []
    mine.foldl (fun s z =>
      (srcHalves s z).foldl (fun s h =>
        takeVf s h z { f, serial := z.serial, ctx, tap, buf := some buf, ycc := t.ycc, full := t.full, w := t.ow, h := t.oh, split }) s) s

/-! Frames complete in a half, and the path between halves (R417). -/

/-- Frames of a source that are complete in a half, oldest first. -/
def completeIn (s : State) (h : Half) (z : VfSource) : List VfFrame :=
  let e := (half s h).vf
  let own := e.holds.filter fun fr => decide (fr.serial = z.serial)
  let far := (List.range 2).filterMap fun k => (tget e.peer k).bind fun fr =>
    if fr.serial = z.serial then some { fr with buf := none, peer := some k } else none
  if srcHalves s z = [h] then own
  else if (srcHalves s z).contains h then
    own.filterMap fun fr => (far.find? fun g => decide (g.f = fr.f)).map fun g => { fr with peer := g.peer }
  else far

/-- The newest of a list of frames. -/
def newestFrame : List VfFrame → Option VfFrame
  | [] => none
  | a :: t => some (t.foldl (fun b x => if b.f.toNat ≤ x.f.toNat then x else b) a)

/-- The peer buffer of a half that takes the next frame: none is used by an update; empty or of another source before an older
frame. -/
def peerFree (s : State) (h : Half) (serial : Nat) : Option Nat :=
  let e := (half s h).vf
  let ok := (List.range 2).filter fun k => !rendersFrom s h fun g => decide (g.peer = some k)
  let spare := fun (k : Nat) => ((tget e.peer k).map fun fr => decide (fr.serial ≠ serial)).getD true
  let age := fun (k : Nat) => ((tget e.peer k).map fun fr => fr.f.toNat).getD 0
  match ok.find? spare with
  | some k => some k
  | none => match ok with
    | [] => none
    | a :: t => some (t.foldl (fun b k => if age k < age b then k else b) a)

/-- What half `h` may send to the other half: a source, newest first, and its newest frame not sent yet. -/
def toSend (s : State) (h : Half) : Option (VfSource × VfFrame) :=
  let o := otherHalf h
  let zs := ((outsOf o).flatMap fun i =>
    if (outAt s i).cfg.run = 2 then (outAt s i).staged.reverse.map (·.src) ++ (outAt s i).src.toList else []) ++ s.vfSrc.toList
  zs.findSome? fun z =>
    if !needsPeer s z o || !(srcHalves s z).contains h || peerBase z o = 0 then none
    else (newestFrame ((half s h).vf.holds.filter fun fr => decide (fr.serial = z.serial))).bind fun fr =>
      if (half s h).vf.sent = some (z.serial, fr.f) then none else some (z, fr)

/-- VF_PEER_FRAME_SEND (R417). -/
def peerSend (s : State) (h : Half) : State :=
  let o := otherHalf h
  match toSend s h with
  | none => s
  | some (z, fr) =>
    if !mortarUp s || !vfRuns s o || (peerFree s o z.serial).isNone || !islandRuns s h .viewfinder then s
    else
      let data := (List.range fr.h).flatMap (ownRow s z fr h)
      mortarQueue (modVfe s h fun e => { e with sent := some (z.serial, fr.f) }) h (.vfFrame fr data)

/-- VF_PEER_FRAME_SEND. -/
def execVfPeerFrameSend (h : Half) (s : State) : Host.Outcome State Fault Refusal := act (.vfPeerFrameSend h) s (peerSend s h)

/-- Write the rows of a part into a peer buffer. -/
def putRows (s : State) (h : Half) (base n : Nat) : Nat → List Byte → Nat → State
  | 0, _, _ => s
  | rows + 1, bs, y => putRows (dramWrite s h (base + y * peerPitch) (bs.take n)) h base n rows (bs.drop n) (y + 1)

/-- VF_PEER_FRAME_RECEIVED (R417). -/
def execVfPeerFrameReceived (at_ : Half) (s : State) : Host.Outcome State Fault Refusal :=
  act (.vfPeerFrameReceived at_) s (takeMsg s at_ 3 fun m =>
    match m with
    | .vfFrame fr data =>
      match sourceOf s fr.serial, peerFree s at_ fr.serial with
      | some z, some k => some fun s =>
        let (l, n) := framePart s z fr (otherHalf at_)
        let s1 := modVfe s at_ fun e => { e with peer := tset e.peer k (some { fr with buf := none }) }
        putRows s1 at_ (peerBase z at_ + k * peerBytes + yuvBytes l) (yuvBytes n) fr.h data 0
      | none, _ => some fun s => s
      | some _, none => none
    | _ => none)

/-! Sources at the TE edge (R424). -/

/-- Progress of a staged source: outputs that take part, that have latched, that latched at their first edge, the one that
latched last, and its TE_COUNT there. -/
structure VfProgress where
  /-- outputs that take part -/
  part : Nat
  /-- outputs that have latched -/
  done : Nat
  /-- outputs that latched at their first edge -/
  first : Nat
  /-- output that latched last -/
  last : Nat
  /-- its TE_COUNT -/
  count : Nat

/-- Progress as the staged change holds it. -/
def progressBytes (p : VfProgress) : List Byte := leBytes 1 p.part ++ leBytes 1 p.done ++ leBytes 1 p.first ++ leBytes 1 p.last ++ leBytes 8 p.count

/-- Progress that a staged change holds. -/
def progressOf (b : List Byte) : VfProgress :=
  let at_ := fun i => (b.getD i 0).toNat
  { part := at_ 0, done := at_ 1, first := at_ 2, last := at_ 3, count := leNat (b.drop 4) }

/-- Effect report of a source change (R424). -/
def vfEffect (x : Staged) (p : VfProgress) : EffectReport :=
  { mkEffect x 0x8001 4 (if p.done = 0 then noPoint else BitVec.ofNat 64 p.count) 0 with
    res0 := BitVec.ofNat 32 p.last, res1 := pack [(0, p.first), (4, if p.done = 0 then 0 else p.part)] }

/-- The progress of a staged source changes; once every output that takes part has latched, it is reported and in force. -/
def vfProgress (s : State) (src : VfSource) (serial : Nat) (f : VfProgress → VfProgress) : State :=
  match s.staged.find? fun x => decide (x.key = .te ∧ x.cmd.serial = serial) with
  | none => s
  | some x =>
    let p := f (progressOf x.data)
    if p.part = p.done then
      let s1 := { s with staged := s.staged.filter fun y => !decide (y.key = .te ∧ y.cmd.serial = serial), vfSrc := some src }
      reportEffect ([Half.A, .B].foldl releaseVf s1) x.exec (vfEffect x p)
    else
      { s with staged := s.staged.map fun y => if y.key = .te ∧ y.cmd.serial = serial then { y with data := progressBytes p } else y }

/-- Set bit `o` of a mask. -/
def withBit (m o : Nat) : Nat := m ||| 2 ^ o

/-- Latch armed sources of an output, oldest first. -/
def latchSources (o : Nat) : List VfStaged → State → State
  | [], s => s
  | x :: t, s =>
    let s1 := modOut s o fun y => { y with src := some x.src, changed := true }
    let n := (outAt s1 o).teCount.toNat
    latchSources o t (vfProgress s1 x.src x.cmd.serial fun p =>
      { p with done := withBit p.done o, first := if x.edges = 0 then withBit p.first o else p.first, last := o, count := n })

/-- An output takes no further part in the changes staged for it: they are in force for it at once. -/
def leaveRun (s : State) (o : Nat) : State :=
  let st := (outAt s o).staged
  st.foldl (fun s x => vfProgress (modOut s o fun y => { y with src := some x.src }) x.src x.cmd.serial fun p =>
    { p with part := p.part &&& (15 - 2 ^ o) }) (modOut s o fun y => { y with staged := [] })

/-- VF_SOURCE_ARMED: 50 AON cycles after the oldest unarmed source was written (R424). -/
def armNext : List VfStaged → List VfStaged
  | [] => []
  | x :: t => if x.armed then x :: armNext t else { x with armed := true } :: t

/-- VF_SOURCE_ARMED. -/
def execVfSourceArmed (output : Nat) (s : State) : Host.Outcome State Fault Refusal :=
  act (.vfSourceArmed output) s (modOut s output fun x => { x with staged := armNext x.staged })

/-! Waiting commands (R425, R426). -/

/-- The source set last: the newest staged one, else the one in force. -/
def newestSource (s : State) : Option VfSource :=
  ((s.staged.filter fun y => decide (y.key = .te)).filterMap fun y =>
    (sourcesInUse s).find? fun z => decide (z.serial = y.cmd.serial)).getLast?.or s.vfSrc

/-- A new configuration is in force: a full push is due. -/
def applyCfg (s : State) (o : Nat) (cmd : Cmd) (k : VfCfg) : State :=
  let x := outAt s o
  let s1 := if x.cfg.run = 2 ∧ k.run ≠ 2 then leaveRun s o else s
  let enter := decide (k.run = 2) && decide (x.cfg.run ≠ 2)
  let newest := newestSource s1
  let s2 := modOut s1 o fun y => { y with
    cfg := k, fullDue := true, phase := .idle, src := if enter then newest else y.src, divCount := if enter then 0 else y.divCount
    jobs := y.jobs.tail }
  let n := x.teCount.toNat
  completeOk s2 cmd (outHalf o) (lo32 n) (hi32 n) 0

/-- The link leaves its settings: lane rate, lane count or clock mode change while it is up. -/
def linkRestarts (old new : VfCfg) : Bool :=
  decide (old.run ≠ 0) && decide (new.run ≠ 0) &&
    (decide (old.mbps ≠ new.mbps) || decide (old.lanes ≠ new.lanes) || (old.contClk != new.contClk))

/-- Start what waits for an output, while no update, restart or sequence is in progress. -/
def pumpOut : Nat → State → Nat → State
  | 0, s, _ => s
  | fuel + 1, s, o =>
    let x := outAt s o
    if x.phase ≠ .idle then s
    else match x.jobs with
      | [] => s
      | .config cmd k :: _ =>
        if linkRestarts x.cfg k then modOut s o fun y => { y with phase := .restarting }
        else pumpOut fuel (applyCfg s o cmd k) o
      | .sequence cmd [] :: rest => pumpOut fuel (completeOk (modOut s o fun y => { y with jobs := rest }) cmd (outHalf o) 0 0 0) o
      | .sequence cmd (p :: _) :: rest =>
        if x.cfg.run = 0 then
          pumpOut fuel (complete (modOut s o fun y => { y with jobs := rest }) cmd (outHalf o) stWrongState 0x84 0xFFFF 0 0 0) o
        else modOut s o fun y => { y with phase := .sequence, sent := [p] }

/-- Start what waits for an output. -/
def pump (s : State) (o : Nat) : State := pumpOut (2 * (outAt s o).jobs.length + 1) s o

/-- PANEL_SEQUENCE_DELAY_EXPIRY: the packet's DELAY has passed (R426). -/
def sequenceNext (s : State) (o : Nat) : State :=
  let x := outAt s o
  match x.phase, x.jobs with
  | .sequence, .sequence cmd (_ :: t) :: rest =>
    match t with
    | [] => pump (completeOk (modOut s o fun y => { y with jobs := rest, phase := .idle }) cmd (outHalf o) 0 0 0) o
    | q :: _ => modOut s o fun y => { y with jobs := .sequence cmd t :: rest, sent := [q] }
  | _, _ => s

/-- PANEL_SEQUENCE_DELAY_EXPIRY. -/
def execPanelSequenceDelayExpiry (output : Nat) (s : State) : Host.Outcome State Fault Refusal :=
  actIf (decide (output < 4)) s (sequenceNext s output)

/-- VF_LINK_RESTART_DONE (R425). -/
def execVfLinkRestartDone (output : Nat) (s : State) : Host.Outcome State Fault Refusal :=
  act (.vfLinkRestartDone output) s
    (match (outAt s output).phase, (outAt s output).jobs with
    | .restarting, .config cmd k :: _ => pump (applyCfg s output cmd k) output
    | _, _ => s)

/-! Updates (R421, R422). -/

/-- An update ends. -/
def endUpdate (s : State) (o : Nat) : State :=
  pump (releaseVf (modOut s o fun x => { x with phase := .idle, frame := none }) (outHalf o)) o

/-- A newer frame than the last update's is not complete in the half while the Mortar link does not carry it (R417). -/
def waitsForPeer (s : State) (o : Nat) (fr : Option VfFrame) : Bool :=
  let x := outAt s o
  let h := outHalf o
  let newer := match fr with
    | some g => decide ((x.lastUpdate.map fun l => (l.serial, l.f)) ≠ some (g.serial, g.f))
    | none => false
  ((x.src.map fun z => needsPeer s z h).getD false) && !mortarCarries s && decide (s.mortar.st ≠ .idle) && !newer

/-- An edge is acted on: one update starts (R422 steps 1 to 3). -/
def actOnEdge (s : State) (o : Nat) : State :=
  let h := outHalf o
  let x := outAt s o
  let s1 := modOut s o fun x => { x with
    teCount := x.teCount + 1, overrunSeen := x.overrunSeen && x.late, late := false
    staged := (x.staged.filter fun y => !y.armed).map fun y => { y with edges := y.edges + 1 } }
  let s2 := latchSources o (x.staged.filter (·.armed)) s1
  let y := outAt s2 o
  let fr := y.src.bind fun z => newestFrame (completeIn s2 h z)
  let wait := waitsForPeer s2 o fr
  let s3 := modOut s2 o fun y => { y with peerWait := wait }
  let s4 := if wait && !y.peerWait then vfEvent s3 o 0x8004 1 0 0 0 else s3
  match fr with
  | none => s4
  | some g =>
    if (y.lastUpdate.map fun l => (l.serial, l.f)) = some (g.serial, g.f) ∧ y.changed = false ∧ y.fullDue = false then
      modOut s4 o fun y => { y with noChange := satInc y.noChange }
    else modOut s4 o fun y => { y with phase := .rendering, frame := some g, lastUpdate := some g, changed := false }

/-- An edge that finds the last update still running (R421). -/
def overrun (s : State) (o : Nat) : State :=
  let x := outAt s o
  let s1 := modOut s o fun x => { x with overruns := satInc x.overruns, overrunSeen := true, late := true }
  if x.overrunSeen then s1 else vfEvent s1 o 0x8002 1 x.lastBytes.toNat 0 0

/-- An edge, real or synthetic, at an output in RUN 2: not acted on while the link restarts or a sequence runs. -/
def vfEdge (s : State) (o : Nat) : State :=
  match (outAt s o).phase with
  | .idle => actOnEdge s o
  | .rendering => overrun s o
  | .pushing => overrun s o
  | _ => s

/-- The output acts on edges. -/
def edgesCount (s : State) (o : Nat) : Bool := decide ((outAt s o).cfg.run = 2) && islandRuns s (outHalf o) .viewfinder

/-- TE_EDGE: an edge of the chosen polarity (R421). -/
def teEdge (s : State) (o : Nat) : State :=
  if !edgesCount s o then s
  else
    let s1 := if (outAt s o).teLost then vfEvent (modOut s o fun x => { x with teLost := false }) o 0x8003 1 0 0 0 else s
    let x := outAt s1 o
    if x.divCount + 1 < x.cfg.teDiv then modOut s1 o fun x => { x with divCount := x.divCount + 1 }
    else vfEdge (modOut s1 o fun x => { x with divCount := 0 }) o

/-- TE_EDGE. -/
def execTeEdge (output : Nat) (s : State) : Host.Outcome State Fault Refusal := act (.teEdge output) s (teEdge s output)

/-- VF_TE_LOST: TE_TIMEOUT has passed without an edge; a synthetic edge (R421). -/
def teLost (s : State) (o : Nat) : State :=
  if !edgesCount s o then s
  else
    let s1 := if (outAt s o).teLost then s else vfEvent (modOut s o fun x => { x with teLost := true }) o 0x8003 1 1 0 0
    vfEdge s1 o

/-- VF_TE_LOST. -/
def execVfTeLost (output : Nat) (s : State) : Host.Outcome State Fault Refusal := act (.vfTeLost output) s (teLost s output)

/-! Rendering, checks and pushes (R418 to R423, R427). -/

/-- One check rectangle against a rendered panel image (R427). -/
def runCheck (o : Nat) (img : Array Nat) (s : State) (i : Nat) : State :=
  let x := outAt s o
  let c := tget x.checks i
  if !c.enable then s
  else
    let crc := crc32c (rectBytes x.cfg.panelW img c.x c.y c.w c.h)
    let put := fun (s : State) (c : VfCheck) => modOut s o fun x => { x with checks := tset x.checks i { c with lastCrc := crc } }
    if c.learn then put s { c with learn := false, expected := crc, mismatched := false }
    else if crc = c.expected then put s { c with mismatched := false }
    else
      let s1 := modOut (put s { c with mismatched := true }) o fun x => { x with
        mismatches := satInc x.mismatches, frozen := x.frozen || c.freeze }
      if c.mismatched then s1 else vfEvent s1 o 0x8001 2 i crc.toNat (b2n (outAt s1 o).frozen)

/-- VF_RENDER_DONE: the panel image is rendered and checked, and its changed tiles are pushed unless the output is FROZEN. A
mirror writes no panel (R461). -/
def renderDone (s : State) (o : Nat) : State :=
  let h := outHalf o
  let x := outAt s o
  match x.phase, x.src, x.frame with
  | .rendering, some z, some fr =>
    let k := x.cfg
    let img := panelImage k (yuvOf s z fr h) fr.ycc fr.full
    let sigs := tileSigs k img
    let s1 := modOut (writePanel s h k img) o fun x => { x with newSigs := sigs }
    let s2 := (List.range 8).foldl (runCheck o img) s1
    let y := outAt s2 o
    let rects := pushRects k y.sigs sigs y.fullDue
    if y.frozen || rects.isEmpty || decide (s.pair.role = 2) || s.pair.fenced then endUpdate s2 o
    else
      releaseVf (modOut s2 o fun x => { x with phase := .pushing, rects, sent := rects.flatMap (rectPkts k img) }) h
  | _, _, _ => s

/-- VF_RENDER_DONE. -/
def execVfRenderDone (output : Nat) (s : State) : Host.Outcome State Fault Refusal := act (.vfRenderDone output) s (renderDone s output)

/-- The tile lies in a pushed rectangle. -/
def tilePushed (k : VfCfg) (rects : List (Nat × Nat × Nat × Nat)) (i : Nat) : Bool :=
  let nx := max 1 (tileGrid k).1
  let x := i % nx * 64
  let y := i / nx * 64
  rects.any fun r => decide (r.1 ≤ x ∧ x < r.1 + r.2.2.1 ∧ r.2.1 ≤ y ∧ y < r.2.1 + r.2.2.2)

/-- VF_PUSH_DONE: the burst has ended; pushed tiles' signatures become their reference (R419, R422, R423). -/
def pushDone (s : State) (o : Nat) : State :=
  let x := outAt s o
  if x.phase ≠ .pushing then s
  else
    let sigs := (List.range x.newSigs.length).map fun i => if tilePushed x.cfg x.rects i then x.newSigs.getD i 0 else x.sigs.getD i 0
    endUpdate (modOut s o fun x => { x with
      sigs, fullDue := false, pushes := satInc x.pushes, lastRects := BitVec.ofNat 4 x.rects.length
      lastBytes := BitVec.ofNat 32 ((x.sent.map pktBytes).sum), lastFrame := (x.frame.map (·.f)).getD noPoint, rects := [] }) o

/-- VF_PUSH_DONE. -/
def execVfPushDone (output : Nat) (s : State) : Host.Outcome State Fault Refusal := act (.vfPushDone output) s (pushDone s output)

/-! VF_SET_SOURCE (R415, R424, R430). -/

/-- The source that a command describes. -/
def sourceIn (c : Cmd) (serial : Nat) : VfSource :=
  { host := pb c 2 0, ctx := pf c 2 5 1, tap := pf c 2 9 6, ycc := pb c 2 10, full := pb c 2 11
    half := (halfOfCode (pf c 2 13 12)).getD .A, addr := pq c 3, pitch := (dw c 5).toNat, w := pf c 6 15 0, h := pf c 6 31 16
    peerA := pq c 7, peerB := pq c 9, serial }

/-- The tap or picture satisfies R415. -/
def sourceOk (s : State) (c : Cmd) (z : VfSource) : Bool :=
  if z.host then
    (halfOfCode (pf c 2 13 12)).isSome && decide (0 < z.w ∧ z.w ≤ 4096 ∧ z.w % 2 = 0 ∧ 0 < z.h ∧ z.h ≤ 2160) &&
      decide (z.addr % 64 = 0 ∧ z.pitch % 64 = 0 ∧ yuvBytes z.w ≤ z.pitch) &&
      backedRange (half s z.half).mem z.addr (z.pitch * (z.h - 1) + yuvBytes z.w)
  else
    let x := ctxAt s z.ctx
    let t := (tget x.taps z.tap).cfg
    decide (x.st ≠ .closed) && decide (z.tap < tapCount x) && decide (t.format = 4 ∧ t.ow ≤ 4096 ∧ t.oh ≤ 2160)

/-- The peer region of a half is there where it is needed, aligned and backed. -/
def peerOk (s : State) (z : VfSource) (h : Half) : Bool :=
  let b := peerBase z h
  if b = 0 then !(vfRuns s h && needsPeer s z h) else decide (b % 4096 = 0) && backedRange (half s h).mem b (2 * peerBytes)

/-- Outputs in RUN 2. -/
def runningOuts (s : State) : List Nat := (List.range 4).filter fun o => decide ((outAt s o).cfg.run = 2)

/-- A host picture is at hand in its half at once. -/
def holdPicture (s : State) (z : VfSource) : State :=
  if z.host then
    takeVf s z.half z { f := noPoint, serial := z.serial, ycc := z.ycc, full := z.full, w := z.w, h := z.h }
  else s

/-- VF_SET_SOURCE (R424). -/
def opVfSetSource (c : Cmd) (h : Half) (s : State) : Reply × State :=
  let z := sourceIn c s.a.vf.serials
  let host := pb c 2 0
  let far := otherHalf h
  match firstErr (rsv c [(2, if host then 0xFFFFC3FE else 0xFFFFFC00), (3, if host then 0 else 0xFFFFFFFF),
        (4, if host then 0 else 0xFFFFFFFF), (5, if host then 0 else 0xFFFFFFFF), (6, if host then 0 else 0xFFFFFFFF)] ++
      (if host then dramChecks s z.half else []) ++
      [(!sourceOk s c z, badParam 0x80 2), (!peerOk s z .A, badParam 0x82 7), (!peerOk s z .B, badParam 0x82 9),
       (vfRuns s far && !mortarUp s, err stLinkDown 0)]) with
  | some r => (r, s)
  | none =>
    let s1 := modVfe s .A fun e => { e with serials := e.serials + 1 }
    let os := runningOuts s1
    if os.isEmpty then
      let s2 := { s1 with vfSrc := some z, outs := s1.outs.map fun x => { x with src := some z } }
      let s3 := holdPicture ([Half.A, .B].foldl releaseVf s2) z
      (.deferred 4, stage s3 c .vfSetSource h (.now noPoint 0))
    else
      let s2 := os.foldl (fun s o => modOut s o fun x => { x with staged := x.staged ++ [{ src := z, cmd := c }] }) s1
      let p : VfProgress := { part := (os.map (2 ^ ·)).sum, done := 0, first := 0, last := 0, count := 0 }
      (.deferred 4, stage (holdPicture s2 z) c .vfSetSource h .te (progressBytes p))

/-- A staged source change is withdrawn before any output has latched it: true where that is still possible. -/
def vfMayCancel (x : Staged) : Bool := decide ((progressOf x.data).done = 0)

/-- A staged source change is withdrawn. -/
def cancelVf (serial : Nat) (s : State) : State :=
  let s1 := { s with outs := s.outs.map fun x => { x with staged := x.staged.filter fun y => decide (y.cmd.serial ≠ serial) } }
  [Half.A, .B].foldl releaseVf s1

/-! VF_CONFIGURE_OUTPUT (R425, R430). -/

/-- The configuration that a command describes. -/
def vfCfgIn (c : Cmd) : VfCfg :=
  { run := BitVec.ofNat 2 (pf c 2 3 2), lanes := BitVec.ofNat 3 (pf c 2 6 4), contClk := pb c 2 7, tePol := pb c 2 8
    teDiv := pf c 2 12 9, rotate := BitVec.ofNat 2 (pf c 2 14 13), mirror := pb c 2 15, mbps := pf c 2 27 16
    panelW := pf c 3 15 0, panelH := pf c 3 31 16, outX := pf c 4 15 0, outY := pf c 4 31 16, outW := pf c 5 15 0
    outH := pf c 5 31 16, srcX := pf c 6 15 0, srcY := pf c 6 31 16, srcW := pf c 7 15 0, srcH := pf c 7 31 16
    bg := BitVec.ofNat 24 (pf c 8 23 0), renderBase := pq c 9, maxPkt := pf c 11 10 0
    teTimeout := if dw c 12 = 0 then 2500000 else (dw c 12).toNat }

/-- Panel and window hold (R418). -/
def windowOk (k : VfCfg) : Bool :=
  decide (16 ≤ k.panelW ∧ k.panelW ≤ 3840 ∧ 16 ≤ k.panelH ∧ k.panelH ≤ 3840 ∧ k.panelW * k.panelH ≤ 8294400) &&
    decide (0 < k.outW ∧ 0 < k.outH ∧ k.outX + k.outW ≤ k.panelW ∧ k.outY + k.outH ≤ k.panelH) &&
    decide (k.srcX % 2 = 0 ∧ k.srcY % 2 = 0)

/-- Width and height of a source: its tap's settings in force, or the picture's. -/
def sourceSize (s : State) (z : VfSource) : Nat × Nat :=
  if z.host then (z.w, z.h) else
    let t := (tget (ctxAt s z.ctx).taps z.tap).cfg
    (t.ow, t.oh)

/-- The crop lies in the source and each axis ratio between 1/4 and 8 (R418). -/
def vfCropOk (s : State) (k : VfCfg) : Bool :=
  match s.vfSrc with
  | none => true
  | some z =>
    let (w, h) := sourceSize s z
    let (cx, cw) := cropOf k.srcX k.srcW w
    let (cy, ch) := cropOf k.srcY k.srcH h
    let side := decide (k.rotate = 1 ∨ k.rotate = 3)
    let ow := if side then k.outH else k.outW
    let oh := if side then k.outW else k.outH
    decide (cx + cw ≤ w ∧ cy + ch ≤ h ∧ ow ≤ 4 * cw ∧ cw ≤ 8 * ow ∧ oh ≤ 4 * ch ∧ ch ≤ 8 * oh)

/-- The half needs a peer region that its source does not name. -/
def peerMissing (s : State) (h : Half) : Bool :=
  match s.vfSrc with
  | some z => needsPeer s z h && decide (peerBase z h = 0)
  | none => false

/-- VF_CONFIGURE_OUTPUT (R425): in force at once unless a push, a restart or a sequence is in progress. -/
def opVfConfigureOutput (c : Cmd) (h : Half) (s : State) : Reply × State :=
  let o := pf c 2 1 0
  let k := vfCfgIn c
  match firstErr (rsv c [(2, 0xF0000000), (8, 0xFF000000), (11, 0xFFFFF800)] ++
      bad [(2, decide (k.run = 3) || !(decide (k.lanes = 1) || decide (k.lanes = 2) || decide (k.lanes = 4)) || decide (k.teDiv = 0) ||
          decide (k.mbps < 80 ∨ 2500 < k.mbps)), (11, decide (k.maxPkt = 0 ∨ 1024 < k.maxPkt))] ++
      [(!windowOk k || !vfCropOk s k, badParam 0x81 3)] ++ dramChecks s h ++
      [(decide (k.renderBase % 4096 ≠ 0) || !backedRange (half s h).mem k.renderBase (renderPitch k * k.panelH), badParam 0x82 9),
       (decide (k.run = 2) && peerMissing s h, wrongState 0x82)]) with
  | some r => (r, s)
  | none =>
    let s1 := modOut s o fun x => { x with
      jobs := x.jobs ++ [.config c k]
      phase := if x.phase = .rendering then .idle else x.phase, frame := if x.phase = .rendering then none else x.frame }
    (.running, pump s1 o)

/-! VF_PANEL_SEQUENCE (R426, R430). -/

/-- The DSI data types of a panel sequence. -/
def seqTypes : List Nat := [0x05, 0x15, 0x39, 0x03, 0x13, 0x23, 0x29]

/-- An entry may be sent: its data type belongs to the row, and its DCS command is not one of the engine's own. -/
def entryOk (t flags len : Nat) (payload : List Byte) : Bool :=
  seqTypes.contains t && decide (flags = 0) && decide (len ≤ 256) &&
    !((decide (t = 0x05) || decide (t = 0x15) || decide (t = 0x39)) &&
      ((payload.head?.map fun b => [0x2A, 0x2B, 0x2C, 0x3C].contains b.toNat).getD false))

/-- Why a list of entries is not sent. -/
inductive SeqFail where
  /-- the list cannot be read over PCIe -/
  | unread
  /-- an entry is invalid -/
  | invalid
  deriving DecidableEq, Repr

/-- Read the entries of a sequence from host memory. -/
def readSeq (s : State) : Nat → Nat → List PanelPkt → Except SeqFail (List PanelPkt)
  | 0, _, acc => .ok acc
  | n + 1, addr, acc =>
    match hostRead s addr 8 with
    | none => .error .unread
    | some hd =>
      let t := leNat (hd.take 1)
      let len := leNat ((hd.drop 2).take 2)
      match hostRead s (addr + 8) (min len 256) with
      | none => .error .unread
      | some payload =>
        if entryOk t (leNat ((hd.drop 1).take 1)) len payload then
          readSeq s n (addr + 8 + (len + 7) / 8 * 8) (acc ++ [{ dataType := BitVec.ofNat 8 t, payload, delay := leNat (hd.drop 4) }])
        else .error .invalid

/-- VF_PANEL_SEQUENCE (R426). -/
def opVfPanelSequence (c : Cmd) (_h : Half) (s : State) : Reply × State :=
  let o := pf c 2 1 0
  let n := pf c 2 8 2
  match firstErr (rsv c [(2, 0xFFFFFE00)] ++ bad [(2, decide (n = 0 ∨ 64 < n)), (3, decide (pq c 3 % 8 ≠ 0))] ++
      [(decide ((outAt s o).cfg.run = 0), wrongState 0x84)]) with
  | some r => (r, s)
  | none =>
    match readSeq s n (pq c 3) [] with
    | .error .unread => (err stDataCorrupt 0x04, s)
    | .error .invalid => (badParam 0x83 3, s)
    | .ok pkts => (.running, pump (modOut s o fun x => { x with jobs := x.jobs ++ [.sequence c pkts] }) o)

/-! VF_SET_CHECK, VF_RESUME, VF_GET_STATUS (R427, R430). -/

/-- VF_SET_CHECK (R427): it takes effect at the next render. -/
def opVfSetCheck (c : Cmd) (_h : Half) (s : State) : Reply × State :=
  let o := pf c 2 1 0
  let k := (outAt s o).cfg
  let x := pf c 3 15 0
  let y := pf c 3 31 16
  let w := pf c 4 15 0
  let h := pf c 4 31 16
  match firstErr (rsv c [(2, 0xFFFFFF00)] ++
      [(decide (w = 0 ∨ h = 0 ∨ k.panelW < x + w ∨ k.panelH < y + h), badParam 0x81 3)]) with
  | some r => (r, s)
  | none =>
    let i := pf c 2 4 2
    (ok, modOut s o fun z => { z with checks := tmod z.checks i fun q =>
      { enable := pb c 2 5, freeze := pb c 2 6, learn := pb c 2 7, x, y, w, h, expected := dw c 5, lastCrc := q.lastCrc } })

/-- VF_RESUME (R427). -/
def opVfResume (c : Cmd) (_h : Half) (s : State) : Reply × State :=
  let o := pf c 2 1 0
  match firstErr (rsv c [(2, 0xFFFFFFFC)] ++ [(!(outAt s o).frozen, wrongState 0x84)]) with
  | some r => (r, s)
  | none => (ok, modOut s o fun x => { x with frozen := false, fullDue := true })

/-- The viewfinder status record (R430). -/
def vfRecord (x : VfOut) (o : Nat) : List Word :=
  [pack [(0, o), (2, x.cfg.run.toNat), (4, b2n x.frozen), (5, b2n x.teLost), (6, b2n x.peerWait), (7, b2n x.fullDue)], 0,
   lo32 x.teCount.toNat, hi32 x.teCount.toNat, lo32 x.lastFrame.toNat, hi32 x.lastFrame.toNat, x.pushes, x.overruns,
   BitVec.setWidth 32 x.lastRects, x.mismatches, x.lastBytes, x.noChange] ++ (x.checks.toList.map (·.lastCrc)) ++ [0, 0, 0, 0]

/-- VF_GET_STATUS (R430). -/
def opVfGetStatus (c : Cmd) (_h : Half) (s : State) : Reply × State :=
  match firstErr (rsv c [(2, 0xFFFFFFFC)] ++ bad [(3, decide (pq c 3 % 32 ≠ 0)), (3, c.port && decide (pq c 3 ≠ 0))]) with
  | some r => (r, s)
  | none => writeRecord s c (pq c 3) (dwordBytes (vfRecord (outAt s (pf c 2 1 0)) (pf c 2 1 0))) ok

/-! Aborts and resets (R58, R428, R429). -/

/-- A running VF_ command is aborted: a sequence ends after the packet it has sent, a configuration is not taken. -/
def abortVf (c : Cmd) (s : State) : State :=
  let o := pf c 2 1 0
  let mine := fun (j : VfJob) => match j with
    | .config k _ => decide (k.serial = c.serial)
    | .sequence k _ => decide (k.serial = c.serial)
  let busy := ((outAt s o).jobs.head?.map mine).getD false
  pump (modOut s o fun x => { x with
    jobs := x.jobs.filter fun j => !mine j
    phase := if busy && (decide (x.phase = .sequence) || decide (x.phase = .restarting)) then .idle else x.phase }) o

/-- The viewfinder engine of a half stops: the push in progress is cut, and the next update is a full push (R429, R505). -/
def vfCut (s : State) (h : Half) : State :=
  (outsOf h).foldl (fun s o => modOut s o fun x => { x with
    phase := if x.phase = .sequence ∨ x.phase = .restarting then x.phase else .idle
    frame := none, fullDue := true, rects := [], sent := [], newSigs := [], sigs := [], peerWait := false }) s

/-- A viewfinder island reset of a half: the push in progress is cut and the link returns to LP-11 (R429). Commands that ran
on the island end. -/
def vfIslandReset (s : State) (h : Half) : State :=
  (outsOf h).foldl (fun s o =>
    let jobs := (outAt s o).jobs
    let s1 := modOut s o fun x => { x with phase := .idle, jobs := [], teLost := false }
    jobs.foldl (fun s j => match j with
      | .config c _ => complete s c h stIslandReset 0 0xFFFF 0 0 0
      | .sequence c _ => complete s c h stIslandReset 0 0xFFFF 0 0 0) s1) (vfCut s h)

/-- Counters of the outputs of a half at 0 (R7, R430). -/
def vfZero (s : State) (h : Half) : State :=
  (outsOf h).foldl (fun s o => modOut s o fun x => { x with
    lastRects := 0, lastBytes := 0, pushes := 0, overruns := 0, mismatches := 0, noChange := 0
    checks := x.checks.map fun c => { c with lastCrc := 0 } }) s

/-- The outputs of a half are restored after an island reset (R429). -/
def vfRestarted (s : State) (h : Half) : State :=
  (outsOf h).foldl (fun s o => if (outAt s o).cfg.run = 0 then s else vfEvent s o 0x8005 2 0 0 0) s

/-- A half reset or a wider one of the owning half (R428). -/
def vfHalfReset (s : State) (h : Half) : State :=
  let s1 := (outsOf h).foldl (fun s o => modOut (leaveRun s o) o fun _ => {}) s
  let old := (half s1 h).vf.holds
  old.foldl settleVfHold (modVfe s1 h fun e => { serials := e.serials })


/-! Rows of the commands. -/

/-- VF_SET_SOURCE (R424). -/
def execVfSetSource (c : Cmd) (s : State) : Host.Outcome State Fault Refusal := submit (.vfSetSource c) .vfSetSource opVfSetSource c s

/-- VF_CONFIGURE_OUTPUT (R425). -/
def execVfConfigureOutput (c : Cmd) (s : State) : Host.Outcome State Fault Refusal := submit (.vfConfigureOutput c) .vfConfigureOutput opVfConfigureOutput c s

/-- VF_PANEL_SEQUENCE (R426). -/
def execVfPanelSequence (c : Cmd) (s : State) : Host.Outcome State Fault Refusal := submit (.vfPanelSequence c) .vfPanelSequence opVfPanelSequence c s

/-- VF_SET_CHECK (R427). -/
def execVfSetCheck (c : Cmd) (s : State) : Host.Outcome State Fault Refusal := submit (.vfSetCheck c) .vfSetCheck opVfSetCheck c s

/-- VF_RESUME (R427). -/
def execVfResume (c : Cmd) (s : State) : Host.Outcome State Fault Refusal := submit (.vfResume c) .vfResume opVfResume c s

/-- VF_GET_STATUS (R430). -/
def execVfGetStatus (c : Cmd) (s : State) : Host.Outcome State Fault Refusal := submit (.vfGetStatus c) .vfGetStatus opVfGetStatus c s

end Sys2Proof.Machine
end

