-- ==== Sys2Proof/Machine/Audio.lean ====
section
/-! DEFINITION. The audio ports: frames, levels, faults, marks and latches, and the AUD_ commands (R431 to R451). -/

namespace Sys2Proof.Machine

/-! Ports (R431 to R435). -/

/-- Half of a port. -/
def audHalf (p : Nat) : Half := halfOf p 4

/-- The port whose clocks a port uses. -/
def clockRoot (s : State) (p : Nat) : Nat :=
  let x := portAt s p
  if x.cfg.clkSrc = 2 then p / 4 * 4 + x.cfg.clkPort.toNat else p

/-- Ports of the clock group of a port: those configured, that use the same clocks (R433). -/
def clockGroup (s : State) (p : Nat) : List Nat :=
  (List.range 8).filter fun q => decide ((portAt s q).st ≠ .unconfigured) && decide (clockRoot s q = clockRoot s p) && decide (q / 4 = p / 4)

/-- The clock of a port can fault: it comes from a follower (R440). -/
def canFault (s : State) (p : Nat) : Bool := decide ((portAt s (clockRoot s p)).cfg.clkSrc = 0)

/-- Bytes of a sample frame in the ring (R435). -/
def audFrameBytes (k : AudCfg) : Nat := if k.word = 16 then 4 else 8

/-- Frames that the ring holds at most. -/
def audCap (k : AudCfg) : Nat := 2 ^ k.ringLog2 / audFrameBytes k

/-- Address of a ring position. -/
def audAddr (k : AudCfg) (pos : Nat) : Nat := k.ringBase + pos * audFrameBytes k % 2 ^ k.ringLog2

/-- A sample at a level (R437). -/
def levelled (v : Int) (l : Nat) : Int := (v * Int.ofNat l + 32) >>> 6

/-- A sample in its container (R435). -/
def audSampleBytes (k : AudCfg) (v : Int) : List Byte :=
  match k.word with
  | 16 => leBytes 2 (pattern 16 v)
  | 24 => leBytes 4 (pattern 24 v * 256)
  | _ => leBytes 4 (pattern 32 v)

/-- The sample of a container. -/
def sampleOf (k : AudCfg) (bs : List Byte) : Int :=
  match k.word with
  | 16 => signed 16 (leNat (bs.take 2))
  | 24 => signed 24 (leNat (bs.take 4) / 256)
  | _ => signed 32 (leNat (bs.take 4))

/-- Write a frame at a ring position. -/
def putFrame (s : State) (p pos : Nat) (l r : Int) : State :=
  let k := (portAt s p).cfg
  dramWrite s (audHalf p) (audAddr k pos) (audSampleBytes k l ++ audSampleBytes k r)

/-- Read the frame at a ring position. -/
def getFrame (s : State) (p pos : Nat) : Int × Int :=
  let k := (portAt s p).cfg
  let bs := (dramRead s (audHalf p) (audAddr k pos) (audFrameBytes k)).1
  (sampleOf k bs, sampleOf k (bs.drop (audFrameBytes k / 2)))

/-- Frames that an input port has written into its ring: those it has taken, less those in the delay line (R439). -/
def audWritten (x : AudPort) : Nat := x.ringPos.toNat - x.delay.length

/-- Frames that an output ring holds beyond RING_POS. -/
def audAhead (x : AudPort) : Nat := (x.hostPos - x.ringPos).toNat

/-- Free frames of an input ring. -/
def audFree (x : AudPort) : Nat := audCap x.cfg - (audWritten x - x.hostPos.toNat)

/-! Marks and events (R443). -/

/-- A mark record. -/
def markBytes (p kind phase : Nat) (remote : Bool) (seq : Word) (count pos arg : Nat) : List Byte :=
  leBytes 1 kind ++ leBytes 1 (p + 8 * b2n remote) ++ leBytes 2 phase ++ leBytes 4 seq.toNat ++ leBytes 8 count ++ leBytes 8 pos ++
    leBytes 8 arg

/-- Write a mark into the next slot of the port's mark ring, as one 32-byte write. -/
def putMark (s : State) (p kind : Nat) (count pos : Count64) (arg phase : Nat) (remote : Bool) : State :=
  let x := portAt s p
  let n := x.markSeq + 1
  let s1 := modPort s p fun x => { x with markSeq := n }
  dramWrite s1 (audHalf p) (x.cfg.markBase + (n.toNat - 1) % 4096 * 32) (markBytes p kind phase remote n count.toNat pos.toNat arg)

/-- A mark of the frame in progress. -/
def markHere (s : State) (p kind arg : Nat) : State := putMark s p kind (portAt s p).sampleCount (portAt s p).ringPos arg 0 false

/-- ARG of a mark that has none. -/
def noArg : Nat := 2 ^ 64 - 1

/-- An event of a port, named by the SAMPLE_COUNT of its mark. -/
def audEvent (s : State) (p : Nat) (code : BitVec 16) (sev : BitVec 2) (count : Count64) (d0 d1 d2 : Nat) : State :=
  event s (audHalf p) code sev 0x90 p count d0 d1 d2

/-- A gap in a dword, saturating. -/
def gap32 (g : Nat) : Nat := min g 0xFFFFFFFF

/-! Fade, silence and ramp (R437, R439 to R441). -/

/-- Write the delay line of an input port at levels that fall from `l`. -/
def flushFading (p pos : Nat) : Nat → List (Int × Int × Nat) → State → State
  | _, [], s => s
  | l, (a, b, _) :: t, s => flushFading p (pos + 1) (l - 1) t (putFrame s p pos (levelled a (l - 1)) (levelled b (l - 1)))

/-- Write the delay line of an input port at the levels it has. -/
def flushAsIs (p pos : Nat) : List (Int × Int × Nat) → State → State
  | [], s => s
  | (a, b, l) :: t, s => flushAsIs p (pos + 1) t (putFrame s p pos (levelled a l) (levelled b l))

/-- Phase of a port that has faded. -/
def silentPhase (x : AudPort) : AudPhase := if x.causes.contains 0x14 then .measuring else .silent

/-- A cause is found: one fade, unless the port fades or is silent already. An input port fades over its delay line at once; an
output port fades over the frames it sends next, or falls silent where none can be sent. -/
def audFade (s : State) (p kind : Nat) (canSend : Bool) : State :=
  let s1 := modPort s p fun x => { x with causes := if x.causes.contains kind then x.causes else x.causes ++ [kind] }
  let x := portAt s1 p
  if x.cfg.output then
    if !canSend then modPort s1 p fun x => { x with phase := silentPhase x, level := 0 }
    else if x.phase = .full ∨ x.phase = .ramping then modPort s1 p fun x => { x with phase := if x.level = 0 then silentPhase x else .fading }
    else if x.phase = .silent then modPort s1 p fun x => { x with phase := silentPhase x }
    else s1
  else
    let s2 := flushFading p (audWritten x) x.level x.delay s1
    modPort s2 p fun x => { x with delay := [], level := 0, phase := silentPhase x }

/-- Conditions of the ring that have cleared (R440). -/
def clearCauses (x : AudPort) : AudPort :=
  { x with causes := x.causes.filter fun k =>
      !((decide (k = 0x10) && decide (x.cfg.resume ≤ audAhead x)) || (decide (k = 0x11) && decide (x.cfg.resume + 64 ≤ audFree x))) }

/-- A silent port whose causes have all cleared ramps from this frame on. -/
def audRamp (s : State) (p : Nat) : State :=
  let s1 := modPort s p fun x => if x.phase = .silent then clearCauses x else x
  let x := portAt s1 p
  if x.phase = .silent ∧ x.causes = [] then
    audEvent (markHere (modPort s1 p fun x => { x with phase := .ramping }) p 0x20 noArg) p 0x9004 0 x.sampleCount (x.ringPos.toNat % 2 ^ 32) 0 0
  else s1

/-- The level of the next frame, and the phase after it. -/
def stepLevel (x : AudPort) : AudPort :=
  match x.phase with
  | .fading =>
    let l := x.level - 1
    { x with level := l, phase := if l = 0 then silentPhase x else .fading }
  | .ramping =>
    let l := x.level + 1
    { x with level := min l 64, phase := if 64 ≤ l then .full else .ramping }
  | _ => x

/-! One sample frame (R436, R438 to R440). -/

/-- An input port takes a frame: into the delay line, whose oldest frame beyond 64 is written; nothing while silent. -/
def takeInput (s : State) (p : Nat) (l r : Int) : State :=
  let x0 := portAt s p
  if x0.phase = .silent ∨ x0.phase = .measuring then s
  else
    let x := stepLevel x0
    let d := x.delay ++ [(l, r, x.level)]
    let s1 := modPort s p fun _ => { x with delay := d, ringPos := x.ringPos + 1 }
    match d with
    | (a, b, lv) :: t =>
      if 64 < d.length then
        let s2 := putFrame s1 p (audWritten (portAt s1 p)) (levelled a lv) (levelled b lv)
        modPort s2 p fun x => { x with delay := t }
      else s1
    | [] => s1

/-- An output port sends a frame from its ring, or one of zeros while it is silent or its ring is empty. -/
def sendOutput (s : State) (p : Nat) : State :=
  let x0 := portAt s p
  if x0.phase = .silent ∨ x0.phase = .measuring ∨ audAhead x0 = 0 then
    modPort s p fun x => { (if x.phase = .silent ∨ x.phase = .measuring then x else stepLevel x) with sent := some (0, 0) }
  else
    let (l, r) := getFrame s p x0.ringPos.toNat
    let x := stepLevel x0
    modPort s p fun _ => { x with ringPos := x.ringPos + 1, sent := some (levelled l x.level, levelled r x.level) }

/-- Underrun and overrun are found once a frame has been moved (R440). -/
def findGap (s : State) (p : Nat) : State :=
  let x := portAt s p
  let moving := decide (x.phase ≠ .silent) && decide (x.phase ≠ .measuring)
  if x.cfg.output ∧ moving = true ∧ ¬ x.causes.contains 0x10 ∧ audAhead x ≤ 64 then
    let s1 := modPort (markHere s p 0x10 noArg) p fun x => { x with underruns := satInc x.underruns }
    audFade (audEvent s1 p 0x9001 1 x.sampleCount 0x10 (x.ringPos.toNat % 2 ^ 32) 0) p 0x10 true
  else if ¬ x.cfg.output ∧ moving = true ∧ ¬ x.causes.contains 0x11 ∧ audFree x ≤ 64 then
    let back := BitVec.ofNat 64 x.delay.length
    let s1 := modPort (putMark s p 0x11 (x.sampleCount - back) (x.ringPos - back) noArg 0 false) p fun x => { x with
      underruns := satInc x.underruns }
    audFade (audEvent s1 p 0x9001 1 (x.sampleCount - back) 0x11 ((x.ringPos - back).toNat % 2 ^ 32) 0) p 0x11 true
  else s

/-- An AUD_START or AUD_STOP completes once none of its ports waits for it. -/
def audComplete (s : State) (c : Cmd) (waits : AudPort → Option Cmd) (done : State → State) : State :=
  if s.ports.toList.any fun x => decide ((waits x).map (·.serial) = some c.serial) then s else done s

/-- Mask of started ports and the first one's SAMPLE_COUNT at its START mark, as an AUD_START reports them (R449, R450). -/
def startDone (s : State) (c : Cmd) (mask : Nat) (count : Count64) : State :=
  let h := (halfOfCode c.target.toNat).getD .A
  completeOk s c h (BitVec.ofNat 32 mask) (lo32 count.toNat) (hi32 count.toNat)

/-- The port stops (R438, R439, R441): after the frame in progress, at the level it has. -/
def audStop (s : State) (p : Nat) : State :=
  let x := portAt s p
  let s1 := flushAsIs p (audWritten x) x.delay s
  let s2 := putMark s1 p 0x02 (x.sampleCount - 1) (x.ringPos - 1) noArg 0 false
  let s3 := modPort s2 p fun x => { x with
    st := .stopped, delay := [], causes := [], pendingMarks := [], restart := none, sent := none, first := false
    offFrames := 0, stopCmd := none, clocks := x.cfg.clkSrc = 1 && x.cfg.keepClock }
  match x.stopCmd with
  | some c => audComplete s3 c (·.stopCmd) fun s => completeOk s c (audHalf p) 0 0 0
  | none => s3

/-- Detect a rate change: the port re-measures (R440). -/
def rateFound (s : State) (p : Nat) : State :=
  audFade (modPort s p fun x => { x with measured := 0, offFrames := 0, recentGlitches := [] }) p 0x14 true

/-- A glitch at a running port: its frame is invalid, and framing is resynchronised after `gap` AON cycles (R440). -/
def audGlitch (gap : Nat) (s : State) (p : Nat) : State :=
  let x := portAt s p
  if x.st ≠ .running then s
  else
    let recent := (x.recentGlitches.filter fun a => decide (a < 1024)) ++ [0]
    let s1 := modPort s p fun x => { x with glitches := satInc x.glitches, recentGlitches := recent, offFrames := 0 }
    if x.stopCmd.isSome then audStop s1 p
    else if x.phase = .measuring then s1
    else
      let s2 := audFade (modPort s1 p fun x => { x with pendingMarks := x.pendingMarks ++ [(0x13, gap)] }) p 0x13 true
      let s3 := modPort s2 p fun x => { x with causes := x.causes.filter fun k => decide (k ≠ 0x13) }
      if 16 ≤ recent.length then rateFound s3 p else s3

/-- Marks that refer to the first valid frame after a fault. -/
def lateMarks (s : State) (p gap : Nat) : State :=
  let x := portAt s p
  let s1 := if x.causes.contains 0x12 then
      let c := x.sampleCount - 1
      let s1 := putMark s p 0x12 c (x.ringPos - 1) gap 0 false
      audEvent (modPort s1 p fun x => { x with causes := x.causes.filter fun k => decide (k ≠ 0x12) }) p 0x9002 1 c 0x12 0 (gap32 gap)
    else s
  let s2 := x.pendingMarks.foldl (fun s m => audEvent (markHere s p m.1 m.2) p 0x9002 1 x.sampleCount m.1 0 (gap32 m.2))
    (modPort s1 p fun x => { x with pendingMarks := [] })
  match x.restart with
  | some g =>
    let s3 := modPort s2 p fun x => { x with restart := none, causes := x.causes.filter fun k => decide (k ≠ 0x15) }
    audEvent (markHere s3 p 0x15 g) p 0x9005 2 x.sampleCount 0 0 (gap32 g)
  | none => s2

/-- A waiting port starts at this frame (R438, R449). -/
def audBegin (s : State) (p : Nat) : State :=
  let x := portAt s p
  if x.st ≠ .waiting then s
  else
    let s1 := modPort s p fun x => { x with
      st := .running, phase := .full, level := 64, causes := [], pendingMarks := [], measured := 0, offFrames := 0
      recentGlitches := [], delay := [], first := true, clocks := x.cfg.clkSrc = 1, startCmd := none }
    let s2 := markHere s1 p 0x01 noArg
    match x.startCmd with
    | some c =>
      let mask := pf c 2 3 0
      let h := (halfOfCode c.target.toNat).getD .A
      let q := 4 * halfIdx h + ((List.range 4).find? fun i => mask.testBit i).getD 0
      audComplete s2 c (·.startCmd) fun s => startDone s c mask (if q = p then x.sampleCount else (portAt s q).sampleCount - 1)
    | none => s2

/-- A port clocks a frame with valid framing (R436). -/
def audValid (s : State) (p : Nat) (l r : Int) (off : Bool) (gap : Nat) : State :=
  let s0 := modPort s p fun x => { x with clockOk := true }
  let x0 := portAt s0 p
  if x0.st ≠ .running ∧ x0.st ≠ .waiting then s0
  else if x0.phase = .measuring ∧ x0.st = .running then
    let s1 := modPort s0 p fun x => { x with measured := x.measured + 1, sent := if x.cfg.output then some (0, 0) else none }
    if x0.stopCmd.isSome then audStop s1 p else s1
  else
    let s1 := audRamp (lateMarks (audBegin s0 p) p gap) p
    let s2 := if x0.cfg.output then sendOutput s1 p else takeInput s1 p l r
    let s3 := modPort s2 p fun x => { x with
      sampleCount := x.sampleCount + 1, first := false, recentGlitches := x.recentGlitches.map (· + 1)
      offFrames := if off then x.offFrames + 1 else 0 }
    let s4 := findGap s3 p
    let s5 := if (portAt s4 p).offFrames = 8 ∧ canFault s4 p = true then rateFound s4 p else s4
    if x0.stopCmd.isSome then audStop s5 p else s5

/-- AUDIO_FRAME (R436): a glitch of a group's clock applies to every port of the group. -/
def audioFrame (s : State) (p : Nat) (l r : Int) (t : AudTiming) : State :=
  if !islandRuns s (audHalf p) .audio then s
  else match t with
    | .ok gap => audValid s p l r false gap
    | .offRate => audValid s p l r true 0
    | .glitch gap => if canFault s p then (clockGroup s p).foldl (audGlitch gap) s else s

/-- AUDIO_FRAME. -/
def execAudioFrame (port : Nat) (left right : Int) (timing : AudTiming) (s : State) : Host.Outcome State Fault Refusal :=
  act (.audioFrame port left right timing) s (audioFrame s port left right timing)

/-- A clock stop at a port (R440). -/
def clockStopped (s : State) (p : Nat) : State :=
  let x := portAt s p
  let s1 := modPort s p fun x => { x with clockOk := false }
  if x.st ≠ .running ∨ x.causes.contains 0x12 then s1
  else if x.stopCmd.isSome then audStop s1 p
  else audFade (modPort s1 p fun x => { x with clockStops := satInc x.clockStops }) p 0x12 false

/-- CLOCK_STOP: no bit-clock edge for four nominal bit periods. -/
def execClockStop (port : Nat) (s : State) : Host.Outcome State Fault Refusal :=
  act (.clockStop port) s (if canFault s port && islandRuns s (audHalf port) .audio then (clockGroup s port).foldl clockStopped s else s)

/-- A re-measurement ends: the measured rate is the nominal one (R440, R442). -/
def rateMeasured (hz gap : Nat) (s : State) (p : Nat) : State :=
  let x := portAt s p
  if x.st ≠ .running ∨ x.phase ≠ .measuring ∨ x.measured < 256 then s
  else
    let s1 := modPort s p fun x => { x with
      rate := hz, rateChanges := satInc x.rateChanges, phase := .silent, causes := x.causes.filter fun k => decide (k ≠ 0x14) }
    audEvent (markHere s1 p 0x14 (hz * 2 ^ 32 + gap32 gap)) p 0x9003 1 x.sampleCount hz 0 0

/-- RATE_CHANGE. -/
def execRateChange (port hz gap : Nat) (s : State) : Host.Outcome State Fault Refusal :=
  act (.rateChange port hz gap) s (if islandRuns s (audHalf port) .audio then (clockGroup s port).foldl (rateMeasured hz gap) s else s)

/-! Latches (R444). -/

/-- A port takes a latch: it runs and its clock does. -/
def latchPort (n : Nat) (number : Count64) (remote : Bool) (phase : Nat) (s : State) (p : Nat) : State :=
  let s1 := modPort s p fun x => match x.latchNext with
    | some (m, d) => if m = n then { x with latchStream := some m, latchDiv := d, latchNext := none } else x
    | none => x
  let x := portAt s1 p
  if x.latchStream = some n ∧ number.toNat % max 1 x.latchDiv = 0 ∧ x.st = .running ∧ ¬ x.causes.contains 0x12 ∧
      islandRuns s1 (audHalf p) .audio = true then
    putMark s1 p 0x03 x.sampleCount x.ringPos number.toNat phase remote
  else s1

/-- A port names a stream for its latches. -/
def latchesOn (s : State) (n p : Nat) : Bool :=
  decide ((portAt s p).latchStream = some n) || decide ((portAt s p).latchNext.map (·.1) = some n)

/-- Ports of a half. -/
def portsOf (h : Half) : List Nat := (List.range 4).map fun i => 4 * halfIdx h + i

/-- Ingest accepts a Frame Start of a stream: latches of its half, and word to the other half. -/
def audFrameStart (s : State) (n : Nat) (number : Count64) : State :=
  match streamHalf s n with
  | none => s
  | some h =>
    let s1 := (portsOf h).foldl (fun s p =>
      if latchesOn s n p then
        let (k, s1) := fresh s
        latchPort n number false (Config.freeNat k % 2 ^ 16) s1 p
      else s) s
    if (portsOf (otherHalf h)).any (latchesOn s1 n) && mortarUp s1 then mortarQueue s1 h (.remoteLatch n number) else s1

/-- REMOTE_LATCH: a Frame Start of the other half arrives; `phases` are the ports' bit clocks since their left-slot edges. -/
def execRemoteLatch (at_ : Half) (phases : List (Nat × Nat)) (s : State) : Host.Outcome State Fault Refusal :=
  act (.remoteLatch at_ phases) s (takeMsg s at_ 0 fun m =>
    match m with
    | .remoteLatch n number => some fun s => (portsOf at_).foldl (fun s p =>
        latchPort n number true (((phases.find? fun x => decide (x.1 = p)).map (·.2)).getD 0 % 2 ^ 16) s p) s
    | _ => none)

/-! AUD_CONFIGURE (R434, R448). -/

/-- The configuration that a command describes. -/
def audCfgIn (c : Cmd) : AudCfg :=
  { output := pb c 2 3, leftJust := pb c 2 4, word := [16, 24, 32].getD (pf c 2 6 5) 16, slot32 := pb c 2 7
    clkSrc := BitVec.ofNat 2 (pf c 2 9 8), clkPort := BitVec.ofNat 2 (pf c 2 11 10), mclk := pb c 2 12, keepClock := pb c 2 13
    ringBase := pq c 4, ringLog2 := pf c 6 4 0, resume := if pf c 7 16 0 = 0 then 256 else pf c 7 16 0, markBase := pq c 8 }

/-- Rates of a leader: 48 kHz family, then 44.1 kHz family. -/
def leaderFamily (rate : Nat) : Option Bool :=
  if [32000, 48000, 96000, 192000, 384000].contains rate then some false
  else if [44100, 88200, 176400, 352800].contains rate then some true else none

/-- Ring and mark region of a port. -/
def audRegions (k : AudCfg) : List (Nat × Nat) := [(k.ringBase, 2 ^ k.ringLog2), (k.markBase, 131072)]

/-- Regions of the other configured ports of a half, and the other structures of the half. -/
def audOthers (s : State) (h : Half) (p : Nat) : List (Nat × Nat) :=
  structures s h ++ ((portsOf h).filter fun q => decide (q ≠ p) && decide ((portAt s q).st ≠ .unconfigured)).flatMap
    fun q => audRegions (portAt s q).cfg

/-- Another leader port of the half is configured. -/
def otherLeader (s : State) (p : Nat) : Bool :=
  (portsOf (audHalf p)).any fun q => decide (q ≠ p) && decide ((portAt s q).st ≠ .unconfigured) && decide ((portAt s q).cfg.clkSrc = 1)

/-- AUD_CONFIGURE (R448). -/
def opAudConfigure (c : Cmd) (h : Half) (s : State) : Reply × State :=
  let p := pf c 2 2 0
  let k := audCfgIn c
  let rate := pf c 3 18 0
  let x := portAt s p
  let shared := decide (k.clkSrc = 2)
  let root := 4 * (p / 4) + k.clkPort.toNat
  let fam := leaderFamily rate
  let rs := audRegions k
  let placed := decide (k.ringBase % 4096 = 0 ∧ k.markBase % 4096 = 0) && (rs.all fun z => backedRange (half s h).mem z.1 z.2) &&
    disjoint rs && apart rs (audOthers s h p)
  match firstErr (rsv c [(2, if shared then 0xFFFFC000 else 0xFFFFCC00), (3, 0xFFF80000), (6, 0xFFFFFFE0), (7, 0xFFFE0000)] ++
      [(decide (pf c 2 6 5 = 3 ∨ pf c 2 9 8 = 3) ||
          (shared && (decide (root = p) || decide ((portAt s root).cfg.clkSrc = 2))), badParam 0x90 2),
       (decide (rate < 32000 ∨ 384000 < rate) || (decide (k.clkSrc = 1) && fam.isNone), badParam 0x90 3),
       (decide (k.ringLog2 < 12 ∨ 26 < k.ringLog2), badParam 0x90 6),
       (decide (k.resume < 64 ∨ 65536 < k.resume), badParam 0x90 7)] ++ dramChecks s h ++
      [(!placed, badParam 0x93 4),
       (decide (x.st = .running ∨ x.st = .waiting), wrongState 0x92),
       (decide (k.clkSrc = 1) && otherLeader s p && decide ((half s h).audFamily ≠ fam), wrongState 0x91)]) with
  | some r => (r, s)
  | none =>
    let s1 := modPort s p fun x => { x with
      st := .stopped, cfg := k, phase := .full, level := 0, rate, sampleCount := 0, ringPos := 0, hostPos := 0, markSeq := 0
      delay := [], causes := [], measured := 0, offFrames := 0, recentGlitches := [], pendingMarks := [], restart := none
      sent := none, clocks := false, first := false }
    let leader := (portsOf h).any fun q => decide ((portAt s1 q).st ≠ .unconfigured) && decide ((portAt s1 q).cfg.clkSrc = 1)
    (ok, modHalf s1 h fun y => { y with audFamily := if k.clkSrc = 1 then fam else if leader then y.audFamily else none })

/-! The other AUD_ commands (R436, R444, R449 to R451). -/

/-- Ports that a mask names in the half of its TARGET (R450). -/
def portsNamed (c : Cmd) (h : Half) : List Nat := (portsOf h).filter fun p => (pf c 2 3 0).testBit (p % 4)

/-- AUD_START (R449): each named port starts at the next frame of its clock, and the command completes once all have. -/
def opAudStart (c : Cmd) (h : Half) (s : State) : Reply × State :=
  let ps := portsNamed c h
  let bad := fun (p : Nat) =>
    let x := portAt s p
    decide (x.st ≠ .stopped) || (x.cfg.output && decide (audAhead x < x.cfg.resume))
  match firstErr (rsv c [(2, 0xFFFFFFF0)] ++ [(ps.isEmpty || ps.any bad, wrongState 0x92)]) with
  | some r => (r, s)
  | none =>
    (.running, ps.foldl (fun s p => modPort s p fun x => { x with st := .waiting, startCmd := some c, clocks := x.cfg.clkSrc = 1 }) s)

/-- A waiting port is taken back to stopped; its AUD_START completes once none of its ports waits. -/
def unwait (s : State) (p : Nat) : State :=
  let x := portAt s p
  let s1 := modPort s p fun x => { x with st := .stopped, startCmd := none, clocks := false }
  match x.startCmd with
  | some c =>
    let mask := ((portsNamed c (audHalf p)).map fun q => if (portAt s1 q).st = .running then 2 ^ (q % 4) else 0).sum
    audComplete s1 c (·.startCmd) fun s => startDone s c mask 0
  | none => s1

/-- A port has a frame in progress: it runs and its clock does. -/
def framing (x : AudPort) : Bool := decide (x.st = .running) && !x.causes.contains 0x12 && x.restart.isNone

/-- AUD_STOP (R438, R449): each named port stops after its frame in progress, and the command completes once all have. -/
def opAudStop (c : Cmd) (h : Half) (s : State) : Reply × State :=
  match firstErr (rsv c [(2, 0xFFFFFFF0)]) with
  | some r => (r, s)
  | none =>
    let ps := portsNamed c h
    let s1 := (ps.filter fun p => decide ((portAt s p).st = .waiting)).foldl unwait s
    let s2 := (ps.filter fun p => decide ((portAt s p).st = .running) && !framing (portAt s p)).foldl audStop s1
    let busy := ps.filter fun p => decide ((portAt s2 p).st = .running)
    if busy.isEmpty then (ok, s2)
    else (.running, busy.foldl (fun s p => modPort s p fun x => { x with stopCmd := some c }) s2)

/-- AUD_ADVANCE (R436). -/
def opAudAdvance (c : Cmd) (_h : Half) (s : State) : Reply × State :=
  let p := pf c 2 2 0
  let x := portAt s p
  let v := pq c 3
  let top := if x.cfg.output then x.ringPos.toNat + audCap x.cfg else audWritten x
  match firstErr (rsv c [(2, 0xFFFFFFF8)] ++ [(decide (x.st = .unconfigured), wrongState 0x92),
      (decide (v < x.hostPos.toNat ∨ top < v), wrongState 0x94)]) with
  | some r => (r, s)
  | none => (ok, modPort s p fun x => { x with hostPos := BitVec.ofNat 64 v })

/-- AUD_SET_LATCH (R444, R449): in effect at the next Frame Start of the new stream. -/
def opAudSetLatch (c : Cmd) (_h : Half) (s : State) : Reply × State :=
  let p := pf c 2 2 0
  let n := pf c 2 9 3
  match firstErr (bad [(2, decide (63 < n ∧ n ≠ 0x7F))]) with
  | some r => (r, s)
  | none =>
    (ok, modPort s p fun x =>
      if n = 0x7F then { x with latchStream := none, latchNext := none } else { x with latchNext := some (n, max 1 (pf c 2 31 10)) })

/-- PSTATE. -/
def audCode : AudState → Nat
  | .unconfigured => 0
  | .stopped => 1
  | .running => 2
  | .waiting => 3

/-- PHASE. -/
def audPhaseCode : AudPhase → Nat
  | .full => 0
  | .fading => 1
  | .silent => 2
  | .ramping => 3
  | .measuring => 4

/-- The audio port status record (R451). -/
def audRecord (x : AudPort) (p : Nat) : List Word :=
  [pack [(0, p), (3, audCode x.st), (5, audPhaseCode x.phase), (8, x.level), (15, b2n x.clockOk)], pack [(0, x.rate % 2 ^ 19)],
   lo32 x.sampleCount.toNat, hi32 x.sampleCount.toNat, lo32 x.ringPos.toNat, hi32 x.ringPos.toNat, lo32 x.hostPos.toNat,
   hi32 x.hostPos.toNat, x.markSeq, pack [(0, x.underruns.toNat), (16, x.glitches.toNat)],
   pack [(0, x.clockStops.toNat), (16, x.rateChanges.toNat)], 0, 0, 0, 0, 0]

/-- AUD_GET_STATUS (R451). -/
def opAudGetStatus (c : Cmd) (_h : Half) (s : State) : Reply × State :=
  match firstErr (rsv c [(2, 0xFFFFFFF8)] ++ bad [(3, decide (pq c 3 % 32 ≠ 0)), (3, c.port && decide (pq c 3 ≠ 0))]) with
  | some r => (r, s)
  | none => writeRecord s c (pq c 3) (dwordBytes (audRecord (portAt s (pf c 2 2 0)) (pf c 2 2 0))) ok

/-! Resets (R445, R447). -/

/-- The audio island of a half faults: running ports lose their delay lines and are silent until a valid frame (R447). -/
def audIslandFault (s : State) (h : Half) : State :=
  (portsOf h).foldl (fun s p => modPort s p fun x =>
    if x.st = .running then
      { x with delay := [], ringPos := x.ringPos - BitVec.ofNat 64 x.delay.length, level := 0, phase := .silent, causes := [0x15]
               pendingMarks := [], offFrames := 0, recentGlitches := [], measured := 0, clockOk := false }
    else { x with clockOk := false }) s

/-- The audio island of a half is switched off: its counters are zeroed (R446). -/
def audIslandOff (s : State) (h : Half) : State :=
  (portsOf h).foldl (fun s p => modPort s p fun x => { x with underruns := 0, glitches := 0, clockStops := 0, rateChanges := 0 }) s

/-- The audio island of a half runs again after `cycles` AON cycles (R447). -/
def audIslandDone (s : State) (h : Half) (cycles : Nat) : State :=
  (portsOf h).foldl (fun s p => modPort s p fun x => if x.st = .running then { x with restart := some cycles } else x) s

/-- Every port of a half is unconfigured (R445). -/
def audHalfReset (s : State) (h : Half) : State :=
  modHalf ((portsOf h).foldl (fun s p => modPort s p fun _ => {}) s) h fun x => { x with audFamily := none }

/-! Rows of the commands. -/

/-- AUD_CONFIGURE (R448). -/
def execAudConfigure (c : Cmd) (s : State) : Host.Outcome State Fault Refusal := submit (.audConfigure c) .audConfigure opAudConfigure c s

/-- AUD_START (R449). -/
def execAudStart (c : Cmd) (s : State) : Host.Outcome State Fault Refusal := submit (.audStart c) .audStart opAudStart c s

/-- AUD_STOP (R438). -/
def execAudStop (c : Cmd) (s : State) : Host.Outcome State Fault Refusal := submit (.audStop c) .audStop opAudStop c s

/-- AUD_ADVANCE (R436). -/
def execAudAdvance (c : Cmd) (s : State) : Host.Outcome State Fault Refusal := submit (.audAdvance c) .audAdvance opAudAdvance c s

/-- AUD_SET_LATCH (R444). -/
def execAudSetLatch (c : Cmd) (s : State) : Host.Outcome State Fault Refusal := submit (.audSetLatch c) .audSetLatch opAudSetLatch c s

/-- AUD_GET_STATUS (R451). -/
def execAudGetStatus (c : Cmd) (s : State) : Host.Outcome State Fault Refusal := submit (.audGetStatus c) .audGetStatus opAudGetStatus c s

end Sys2Proof.Machine
end

