-- ==== Sys2Proof/Machine/Ingest.lean ====
section
/-! DEFINITION. Stream ingest: packets into lines, lines into frames, geometry enforcement, frame numbers (R119 to R131,
R156). -/

namespace Sys2Proof.Machine

/-! Packets and streams. -/

/-- STREAM_ID of a packet block (R119). -/
def blockSid (b : BitVec 64) : BitVec 4 := BitVec.ofNat 4 (b.toNat >>> 8)

/-- Bits [hi:lo] of a packet block. -/
def blockFld (b : BitVec 64) (hi lo : Nat) : Nat := (b.toNat >>> lo) % 2 ^ (hi - lo + 1)

/-- The stream bound to a (link, STREAM_ID) pair (R125). -/
def boundStream (s : State) (link : Nat) (sid : BitVec 4) : Option Nat :=
  (List.range 64).find? fun n =>
    match (streamAt s n).bind with
    | some b => decide (b.link = link) && decide (b.streamId = sid)
    | none => false

/-- The state with a link's packet reception changed. -/
def modRx (s : State) (link : Nat) (f : LinkRx → LinkRx) : State := { s with rx := tmod s.rx link f }

/-- The state with a stream's open frame changed. -/
def modOpen (s : State) (n : Nat) (f : OpenFrame → OpenFrame) : State :=
  modStream s n fun x => { x with openFrame := x.openFrame.map f }

/-- A packet of an unbound STREAM_ID is counted (R125). -/
def countUnmapped (s : State) (link : Nat) : State := modRx s link fun r => { r with unmapped := satInc r.unmapped }

/-- A packet block is discarded for its HCRC (R120). -/
def discardBlock (s : State) (link : Nat) (b : BitVec 64) : State :=
  let s1 := modLink s link fun l => { l with hdrDiscards := satInc l.hdrDiscards }
  match boundStream s link (blockSid b) with
  | some n => modOpen s1 n fun o => { o with counts := { o.counts with hdrErr := min 0xFFFFFFFF (o.counts.hdrErr + 1) } }
  | none => s1

/-! Lines (R123, R129). -/

/-- Set a flag of the open frame. -/
def flagOpen (k : FrameCounts) (bit : Nat) : FrameCounts := { k with flags := k.flags ||| BitVec.ofNat 32 (2 ^ bit) }

/-- Place the next row of the open frame and hand what it completes to the encoders and the line stores (R129, R133). -/
def placeRow (s : State) (n : Nat) (px : List Nat) : State :=
  match (streamAt s n).openFrame, streamHalf s n with
  | some o, some h =>
    let s1 := modOpen s n fun o => { o with rows := o.rows ++ [px] }
    pipeLine (submitRows s1 h n 1) n o.rows.length px
  | _, _ => s

/-- Fill rows with PAD_VALUE (R129). -/
def padRows (s : State) (n : Nat) : Nat → State
  | 0 => s
  | k + 1 =>
    match (streamAt s n).openFrame with
    | some o =>
      let s1 := modOpen s n fun o => { o with
        counts := { flagOpen o.counts 2 with padLines := o.counts.padLines + 1 } }
      padRows (placeRow s1 n (List.replicate o.cfg.width o.cfg.pad.toNat)) n k
    | none => s

/-- A line of the open frame as it is placed: its pixels, and the counts with it (R123, R129). -/
def enforceLine (g : StreamCfg) (k : FrameCounts) (failed : Bool) (format : BitVec 2) (px : List Nat) :
    List Nat × FrameCounts :=
  let pad := List.replicate g.width g.pad.toNat
  let k0 := { k with linesPlaced := k.linesPlaced + 1 }
  if failed then (pad, { flagOpen k0 7 with crcLines := k.crcLines + 1 })
  else if format ≠ g.depth then (pad, { flagOpen k0 8 with formatLines := k.formatLines + 1 })
  else if px.length < g.width then
    (px ++ List.replicate (g.width - px.length) g.pad.toNat,
     { flagOpen k0 0 with shortLines := k.shortLines + 1, padPixels := k.padPixels + (g.width - px.length) })
  else if g.width < px.length then
    (px.take g.width, { flagOpen k0 1 with longLines := k.longLines + 1, cutPixels := k.cutPixels + (px.length - g.width) })
  else (px, k0)

/-- A line packet of stream `n` ends: an orphan, out of range, out of order, or placed at its row (R129). -/
def lineEnds (s : State) (n row : Nat) (failed : Bool) (format : BitVec 2) (px : List Nat) : State :=
  match (streamAt s n).openFrame with
  | none => modStream s n fun x => { x with counts := { x.counts with orphanLines := satInc x.counts.orphanLines } }
  | some o =>
    if o.cfg.height ≤ row then
      modOpen s n fun o => { o with counts := { flagOpen o.counts 3 with extraLines := o.counts.extraLines + 1 } }
    else if row < o.rows.length then
      modOpen s n fun o => { o with counts := { flagOpen o.counts 9 with orderLines := o.counts.orderLines + 1 } }
    else
      let s1 := padRows s n (row - o.rows.length)
      let k := ((streamAt s1 n).openFrame.map (·.counts)).getD {}
      let (line, k1) := enforceLine o.cfg k failed format px
      placeRow (modOpen s1 n fun o => { o with counts := k1 }) n line

/-- A PSL line packet ends, failed or as its CRC was (R121, R123). -/
def packetEnds (s : State) (link : Nat) (p : LinePkt) (failed : Bool) : State :=
  let s1 := modRx s link fun r => { r with pkt := none }
  let d := depthBits p.format
  match boundStream s link p.streamId with
  | some n => lineEnds s1 n p.line failed p.format (unpackPixels d p.pixels p.data)
  | none => s1

/-- A packet-layer block of another type ends a line packet in progress, which fails (R122). -/
def breakPacket (s : State) (link : Nat) : State :=
  match (tget s.rx link).pkt with
  | some p => packetEnds s link p true
  | none => s

/-! Frames (R126 to R129). -/

/-- FN_DELTA of a carried number after the previous one, as a signed dword (R127). -/
def fnDelta (prev : Option Word) (fn : Word) (csi : Bool) : Word :=
  match prev with
  | none => 0
  | some p =>
    if csi then
      if fn = 0 then 0
      else BitVec.ofInt 32 (signed 16 ((fn.toNat + 2 ^ 17 - (p.toNat % 2 ^ 16) - 1) % 2 ^ 16))
    else fn - (p + 1)

/-- Close the frame open in ingest: its missing rows are padded, and what follows its close comes about (R129, R132). -/
def closeFrame (s : State) (n : Nat) (flags : Word) (period : Nat) : State :=
  match (streamAt s n).openFrame with
  | none => s
  | some o0 =>
    let s1 := padRows s n (o0.cfg.height - o0.rows.length)
    match (streamAt s1 n).openFrame with
    | none => s1
    | some o1 =>
      let o := { o1 with counts := { o1.counts with flags := o1.counts.flags ||| flags } }
      let s2 := modStream s1 n fun x => { x with openFrame := none }
      let w := (streamAt s2 n).writing.find? fun w => decide (w.number = o.number)
      let s2 := tell s2 (.frame n o.carried o.number ((w.map (·.mark)).getD o.mark))
      let s3 := qryFrameClose s2 n o period
      trimFrame (pipeFrameClosed (countHoldoff s3 n) n o) n o

/-- Open a frame of a configured stream: it is numbered, a remap or a latch may take effect at it, and the capture state
takes it (R126 to R128, R157). -/
def openFrame (s : State) (n : Nat) (fn : Word) (csi : Bool) (period : Nat) : State :=
  let s0 := closeFrame s n 0x10 period
  let x := streamAt s0 n
  match x.cfg with
  | none => s0
  | some g =>
    let number := match x.frame with
      | some k => k + 1
      | none => BitVec.setWidth 64 fn
    let delta := fnDelta x.carried fn csi
    let o : OpenFrame :=
      { number, carried := fn, delta, cfg := g, counts := { flags := if delta = 0 then 0 else 0x40 } }
    let last := (streamAt s0 n).lastGeom
    let s1 := modStream s0 n fun x => { x with
      frame := some number, carried := some fn, openFrame := some o, lastGeom := some (g.width, g.height, g.depth.toNat) }
    let s2 := if last.isSome ∧ last ≠ some (g.width, g.height, g.depth.toNat) then abortTrim s1 n else s1
    audFrameStart (pipeFrameStart (qryFrameStart (remapAtStart s2 n number) n) n number) n number

/-- What a packet of a (link, STREAM_ID) pair does: it is counted where the pair is unbound, and ignored while the stream
is not configured (R125, R126). -/
def forStream (s : State) (link : Nat) (sid : BitVec 4) (f : State → Nat → State) : State :=
  match boundStream s link sid with
  | none => countUnmapped s link
  | some n => if (streamAt s n).cfg.isSome then f s n else s

/-! PSL packet rows. -/

/-- The link of a row delivers packets, and its quad's island is not in reset (R94, R131). -/
def delivers (s : State) (link : Nat) : Bool :=
  let q := (linkAt s link).cfg.firstLane.toNat / 4
  linkDelivers s link && !(islandAt s (halfOf link 16) (.ingest (q % 12))).resetting

/-- A packet block that passes or fails its HCRC (R120). -/
def packetBlock (s : State) (link : Nat) (b : BitVec 64) (f : State → State) : State :=
  if !delivers s link then s else if hcrcOk b then f s else discardBlock s link b

/-- FRAME_START (R126). -/
def execFrameStart (link : Nat) (block : BitVec 64) (period : Nat) (s : State) : Host.Outcome State Fault Refusal :=
  act (.frameStart link block period) s
    (packetBlock s link block fun s => forStream (breakPacket s link) link (blockSid block) fun s n =>
      openFrame s n (BitVec.ofNat 32 (blockFld block 47 16)) false period)

/-- LINE_HEADER (R119, R122). -/
def execLineHeader (link : Nat) (block : BitVec 64) (s : State) : Host.Outcome State Fault Refusal :=
  act (.lineHeader link block) s
    (packetBlock s link block fun s => forStream (breakPacket s link) link (blockSid block) fun s _ =>
      let p : LinePkt :=
        { streamId := blockSid block, format := BitVec.ofNat 2 (blockFld block 13 12), line := blockFld block 31 16
          pixels := blockFld block 47 32 }
      modRx s link fun r => { r with pkt := some p })

/-- PSL_DATA_BLOCK (R121). -/
def execPslDataBlock (link : Nat) (payload : BitVec 64) (s : State) : Host.Outcome State Fault Refusal :=
  act (.pslDataBlock link payload) s
    (if delivers s link then
      modRx s link fun r => { r with
        pkt := r.pkt.map fun p => { p with data := p.data ++ leBytes 8 payload.toNat, blocks := p.blocks + 1 } }
    else s)

/-- A line packet's CRC and block count are as its header and payload make them (R121, R123). -/
def lineGood (p : LinePkt) (crc : Word) : Bool :=
  decide (crc32c p.data = crc) && decide (p.blocks = (p.pixels * depthBits p.format + 63) / 64)

/-- LINE_CRC (R120, R123). -/
def execLineCrc (link : Nat) (block : BitVec 64) (s : State) : Host.Outcome State Fault Refusal :=
  act (.lineCrc link block) s
    (if !delivers s link then s
    else
      let good := hcrcOk block
      let s0 := if good then s else discardBlock s link block
      match (tget s0.rx link).pkt with
      | none => s0
      | some p =>
        let crc := BitVec.ofNat 32 (blockFld block 47 16)
        let s1 := if good && decide (crc32c p.data ≠ crc) then
            modLink s0 link fun l => { l with lineCrcErr := satInc l.lineCrcErr } else s0
        packetEnds s1 link p (!(good && lineGood p crc)))

/-- A frame ends: LINES_SENT, and the close (R129). -/
def frameEnds (s : State) (n sent period : Nat) : State :=
  let s1 := modOpen s n fun o => { o with
    counts := { (if o.cfg.height < sent then flagOpen o.counts 3 else o.counts) with linesSent := min sent 0xFFFF } }
  closeFrame s1 n 0 period

/-- FRAME_END (R129). -/
def execFrameEnd (link : Nat) (block : BitVec 64) (period : Nat) (s : State) : Host.Outcome State Fault Refusal :=
  act (.frameEnd link block period) s
    (packetBlock s link block fun s => forStream (breakPacket s link) link (blockSid block) fun s n =>
      frameEnds s n (blockFld block 31 16) period)

/-- LINE_GAP_WATCHDOG_EXPIRY (R130). -/
def execLineGapWatchdogExpiry (stream : Nat) (period : Nat) (s : State) : Host.Outcome State Fault Refusal :=
  act (.lineGapWatchdogExpiry stream period) s (closeFrame s stream 0x20 period)

/-! CSI-2 packet rows (R124). -/

/-- CSI2_SHORT_PACKET: Frame Start 0x00, Frame End 0x01, Line Start 0x02 (PRESUMED 49). -/
def execCsi2ShortPacket (link : Nat) (vc : BitVec 4) (dt : BitVec 6) (value : BitVec 16) (period : Nat) (s : State) :
    Host.Outcome State Fault Refusal :=
  let s0 := if isCsi s (linkAt s link) then csiPacket s link else s
  act (.csi2ShortPacket link vc dt value period) s
    (if !(isCsi s (linkAt s link) && delivers s0 link) then s0
    else forStream s0 link vc fun s n =>
      if dt = 0 then openFrame s n (BitVec.setWidth 32 value) true period
      else if dt = 1 then frameEnds s n (((streamAt s n).openFrame.map (·.csiLines)).getD 0) period
      else if dt = 2 then modOpen s n fun o => { o with csiLine := some value.toNat }
      else s)

/-- Pixels of a CSI-2 payload of `d` bits each (PRESUMED 50: the packings of MIPI CSI-2). -/
def csiPixels (d : Nat) : Nat → List Byte → List Nat
  | 0, _ => []
  | k + 1, bs =>
    let b := fun i => (bs.getD i 0).toNat
    match d with
    | 10 => (List.range 4).map (fun i => b i * 4 + (b 4 >>> (2 * i)) % 4) ++ csiPixels d k (bs.drop 5)
    | 12 => [b 0 * 16 + b 2 % 16, b 1 * 16 + b 2 / 16] ++ csiPixels d k (bs.drop 3)
    | 14 =>
      let low := b 4 + 256 * b 5 + 65536 * b 6
      (List.range 4).map (fun i => b i * 64 + (low >>> (6 * i)) % 64) ++ csiPixels d k (bs.drop 7)
    | _ => [b 0 * 256 + b 1] ++ csiPixels d k (bs.drop 2)

/-- DEPTH code of a supported data type; user-defined types take the stream's depth (R83). -/
def csiDepth (dt : BitVec 6) (g : StreamCfg) : Option (BitVec 2) :=
  if 0x2B ≤ dt.toNat ∧ dt.toNat ≤ 0x2E then some (BitVec.ofNat 2 (dt.toNat - 0x2B))
  else if 0x30 ≤ dt.toNat ∧ dt.toNat ≤ 0x37 then some g.depth
  else none

/-- A CSI-2 packet of another data type is discarded and counted; embedded data is not counted (R83). -/
def csiDiscard (s : State) (link : Nat) (dt : BitVec 6) : State :=
  if dt = 0x12 then s else modLink s link fun l => { l with discarded := satInc l.discarded }

/-- A long packet of the configured data type is one line (R124). -/
def csiLine (s : State) (link n : Nat) (dt : BitVec 6) (bytes : List Byte) (crcOk : Bool) : State :=
  let x := streamAt s n
  let g := ((x.openFrame.map (·.cfg)).orElse fun _ => x.cfg).getD {}
  match csiDepth dt g with
  | none => csiDiscard s link dt
  | some fmt =>
    if (x.bind.map (·.csiDt)) ≠ some dt then csiDiscard s link dt
    else
      let d := depthBits fmt
      let cnt := bytes.length * 8 / d
      let row := (x.openFrame.map fun o => o.csiLine.getD o.csiLines).getD 0
      let s1 := if crcOk then s else modLink s link fun l => { l with lineCrcErr := satInc l.lineCrcErr }
      let s2 := lineEnds s1 n row (!crcOk) fmt ((csiPixels d (bytes.length / 2 + 1) bytes).take cnt)
      modOpen s2 n fun o => { o with csiLine := none, csiLines := o.csiLines + 1 }

/-- CSI2_LONG_PACKET (R124). -/
def execCsi2LongPacket (link : Nat) (vc : BitVec 4) (dt : BitVec 6) (bytes : List Byte) (crcOk : Bool) (s : State) :
    Host.Outcome State Fault Refusal :=
  let s0 := if isCsi s (linkAt s link) then csiPacket s link else s
  act (.csi2LongPacket link vc dt bytes crcOk) s
    (if !(isCsi s (linkAt s link) && delivers s0 link) then s0
    else forStream s0 link vc fun s n => csiLine s link n dt bytes crcOk)

/-! Frames that a link or an island cuts short (R131). -/

/-- Close every open frame of a link, with flags. -/
def closeLinkFrames (s : State) (link : Nat) (flags : Word) : State :=
  (List.range 64).foldl (fun s n =>
    if ((streamAt s n).bind.map (·.link)) = some link then
      let (k, s1) := fresh s
      if (streamAt s n).openFrame.isSome then closeFrame s1 n flags (Config.freeNat k) else s
    else s) (modRx s link fun r => { r with pkt := none })

/-- Every link that has left ACTIVE closes its frames with LINK_EVENT and NO_FRAME_END (R131, R139). -/
def linkGuard (before s : State) : State :=
  (List.range 32).foldl (fun s n =>
    if (linkAt before n).st = .active ∧ (linkAt s n).st ≠ .active then closeLinkFrames s n 0x410 else s) s

/-! QRY_MAP_STREAM and FRAME_CLOSE_WRITE. -/

/-- QRY_MAP_STREAM (R125, R156). -/
def opQryMapStream (c : Cmd) (_h : Half) (s : State) : Reply × State :=
  let n := pf c 2 5 0
  let link := pf c 2 12 8
  let sid := BitVec.ofNat 4 (pf c 2 19 16)
  let unmap := pb c 2 30
  let x := streamAt s n
  let b : Binding := { link, streamId := sid, csiDt := BitVec.ofNat 6 (pf c 2 29 24) }
  match firstErr (rsv c [(2, 0x80F0E0C0)] ++ bad [(2, !isCsi s (linkAt s link) && decide (b.csiDt ≠ 0) && !unmap)] ++
      [(!unmap && (x.bind.isSome || (boundStream s link sid).isSome), badParam 0x36 2),
       (unmap && decide (x.bind.map (fun b => (b.link, b.streamId)) ≠ some (link, sid)), wrongState 0x30),
       (streamBusy x, wrongState 0)]) with
  | some e => (e, s)
  | none =>
    if unmap then
      let (k, s1) := fresh s
      let s2 := if x.openFrame.isSome then closeFrame s1 n 0x10 (Config.freeNat k) else s
      (ok, abortTrim (modStream s2 n fun x => { x with bind := none }) n)
    else (ok, modStream s n fun x => { x with bind := some b })

/-- QRY_MAP_STREAM (R156). -/
def execQryMapStream (c : Cmd) (s : State) : Host.Outcome State Fault Refusal :=
  submit (.qryMapStream c) .qryMapStream opQryMapStream c s

/-- FRAME_CLOSE_WRITE (R136): the header is written; contexts and the pair hear of the stored frame. -/
def execFrameCloseWrite (stream : Nat) (s : State) : Host.Outcome State Fault Refusal :=
  act (.frameCloseWrite stream) s
    (match (streamAt s stream).writing.head? with
    | some w => if frameReady w ∧ numberKnown s w then pipeFrameStored (frameCloseWrite s stream) stream w.number else s
    | none => s)

end Sys2Proof.Machine
end

