-- ==== Sys2Proof/Machine/MemOps.lean ====
section
/-! DEFINITION. The DRAM controller: requests and their order, ECC and poison, the page policy, refresh debts, clearings,
sweeps, repairs, spares, periodic samples and patrol scrub (R363 to R370, R376 to R379, R382 to R387). -/

namespace Sys2Proof.Machine

/-- A row of the DRAM controller takes effect unless its island resets, or holds the DIMMs in self-refresh across a reset of
its half: what reaches it waits at its crossing (R388, R389). -/
def memAct (h : Half) (i : Instr) (s t : State) : Host.Outcome State Fault Refusal :=
  act i s (if (islandAt s h .dram).resetting || (half s h).mem.selfRefresh then s else t)

/-! Events, subchannels and ranks. -/

/-- An event of channel `k` of half `h`. -/
def chanEvent (s : State) (h : Half) (k : Nat) (code : BitVec 16) (sev : BitVec 2) (point : Count64) (d0 d1 d2 : Nat) : State :=
  event s h code sev 0x70 (devChan h k) point d0 d1 d2

/-- Clearing count of a half. -/
def clearingsOf (s : State) (h : Half) : Count64 := (half s h).mem.clearings

/-- A subchannel of a channel. -/
def subAt (c : Chan) (sub : Bool) : SubChan := if sub then c.sub1 else c.sub0

/-- A channel with a subchannel changed. -/
def modSub (c : Chan) (sub : Bool) (f : SubChan → SubChan) : Chan :=
  if sub then { c with sub1 := f c.sub1 } else { c with sub0 := f c.sub0 }

/-- The state with a subchannel changed. -/
def modSubAt (s : State) (h : Half) (k : Nat) (sub : Bool) (f : SubChan → SubChan) : State :=
  modChan s h k fun c => modSub c sub f

/-- The state with a rank's refresh changed. -/
def modRank (s : State) (h : Half) (k r : Nat) (f : RankRefresh → RankRefresh) : State :=
  modChan s h k fun c => { c with rank := tmod c.rank r f }

/-- Rank of a queued request. -/
def reqRank (m : HalfMem) (q : MemReq) : Nat := ((memPlace m q.burst).map (·.rank)).getD 0

/-- A rank has a queued request. -/
def rankQueued (m : HalfMem) (c : Chan) (r : Nat) : Bool :=
  (c.sub0.readQ ++ c.sub0.writeQ ++ c.sub1.readQ ++ c.sub1.writeQ).any fun q => decide (reqRank m q = r)

/-! Accepting requests (R363, R364, R374). -/

/-- The bytes of a write under its mask, over what the burst holds. -/
def maskedBytes (mask : BitVec 64) (data old : List Byte) : List Byte :=
  (List.range 64).map fun i => if mask.getLsbD i then data.getD i 0 else old.getD i 0

/-- The contents after a write: seen by every later read from its acceptance on; a full-mask write clears poison. -/
def storeBurst (m : HalfMem) (a : Nat) (mask : BitVec 64) (data : List Byte) : HalfMem :=
  let m1 := writeBacked m a (maskedBytes mask data ((List.range 64).map fun i => dramByte m (a + i)))
  if mask = BitVec.allOnes 64 then
    { m1 with
      poison := m1.poison.filter fun b => decide (b ≠ a / 64)
      injected := m1.injected.filter fun b => decide (b.1 ≠ a / 64) }
  else m1

/-- Merge a write into the queued write of its burst, or queue it. -/
def queueWrite (q : List MemReq) (w : MemReq) : List MemReq :=
  if q.any fun x => decide (x.burst = w.burst) then
    q.map fun x => if x.burst = w.burst then
      { x with mask := x.mask ||| w.mask, data := maskedBytes w.mask w.data x.data } else x
  else q ++ [w]

/-- The burst has not been initialised: it lies above the watermark and holds only zeros (R374). -/
def unwritten (m : HalfMem) (c : Chan) (a ca : Nat) : Bool :=
  !c.initDone && decide (c.initMark * 64 ≤ ca) && (List.range 64).all fun i => decide (dramByte m (a + i) = 0)

/-- A 64-byte request of a unit of half `h` (R363): a read of queued data is answered from the queue; a request that finds its
queue full waits in the fabric. -/
def acceptRequest (s : State) (h : Half) (r : DramReq) : State :=
  let m := (half s h).mem
  match memPlace m r.addr with
  | none => if r.write then dramWrite s h r.addr (r.data.take 64) else s
  | some p =>
    let c := tget m.chans p.chan
    let q := subAt c p.sub
    let w : MemReq := { burst := r.addr, mask := r.mask, order := m.nextReq, unit := r.unit, data := r.data }
    let next := fun (s : State) => modMem s h fun m => { m with nextReq := m.nextReq + 1 }
    if r.write then
      let merges := q.writeQ.any fun x => decide (x.burst = r.addr)
      if !merges && decide (64 ≤ q.writeQ.length) then s
      else
        let s1 := modMem s h fun m => storeBurst m r.addr r.mask r.data
        next (modSubAt s1 h p.chan p.sub fun b => { b with writeQ := queueWrite b.writeQ w })
    else
      let whole := q.writeQ.any fun x => decide (x.burst = r.addr ∧ x.mask = BitVec.allOnes 64)
      let ca := ((toChan m r.addr).map (·.2)).getD 0
      if whole then modChan s h p.chan fun c => { c with fwdReads := satInc c.fwdReads }
      else if unwritten m c r.addr ca && !q.writeQ.any fun x => decide (x.burst = r.addr) then s
      else if 64 ≤ q.readQ.length then s
      else next (modSubAt s h p.chan p.sub fun b => { b with readQ := b.readQ ++ [{ w with mask := BitVec.allOnes 64, data := [] }] })

/-- DRAM_REQUEST_ACCEPT (R363). -/
def execDramRequestAccept (h : Half) (r : DramReq) (s : State) : Host.Outcome State Fault Refusal :=
  memAct h (.dramRequestAccept h r) s (acceptRequest s h r)

/-! ECC (R383, R384, R386, R387). -/

/-- What a read of a burst finds: an injected error shows as ECC treats it (R383, R391). -/
def eccFinds (m : HalfMem) (c : Chan) (burst : Nat) (e : EccResult) : EccResult :=
  match m.injected.find? fun b => decide (b.1 = burst) with
  | none => e
  | some (_, kind, dev) =>
    if kind = 0 ∨ (kind = 1 ∧ c.x8 = false) then .corrected (BitVec.ofNat 4 dev) else .uncorrectable 0

/-- A row is to be repaired in a clearing of its subchannel, once (R386). -/
def orderRepair (s : State) (h : Half) (p : Place) : State :=
  let c := chanAt s h p.chan
  let w := ClearWork.repair p.rank p.bg p.bank p.row none
  if !c.policy.autoRepair || c.repairedRows.contains (b2n p.sub, rowKey p) || (subAt c p.sub).work.contains w then s
  else modSubAt s h p.chan p.sub fun b => { b with work := b.work ++ [w] }

/-- The last error of a channel. -/
def noteError (c : Chan) (a : Option Nat) (kind : BitVec 2) (p : Place) (dev : BitVec 4) : Chan :=
  { c with lastAddr := (a.map (BitVec.ofNat 64)).getD noPoint, lastKind := kind, lastSub := p.sub, lastRank := BitVec.ofNat 2 p.rank
           lastDevice := dev }

/-- Count one correction of a rank and device. -/
def countDevice (l : List (Nat × Nat)) (k : Nat) : List (Nat × Nat) :=
  if l.any fun x => decide (x.1 = k) then l.map fun x => if x.1 = k then (k, x.2 + 1) else x else l ++ [(k, 1)]

/-- A rank that passes its threshold within a scrub pass is reported, and spared where that is possible (R387). -/
def passThreshold (s : State) (h : Half) (k r : Nat) : State :=
  let c := chanAt s h k
  let n := tget c.ceInPass r
  if n ≠ c.policy.ceThreshold + 1 then s
  else
    let s1 := chanEvent s h k 0x7004 1 noPoint r n 0
    if c.policy.autoSpare && hasSpare c && c.spared.isNone && c.sparing.isNone && decide (r + 1 < rankCount c) then
      modChan s1 h k fun c => { c with sparing := some (r, none) }
    else s1

/-- A corrected read (R383, R386, R387). -/
def corrected (s : State) (h : Half) (a : Option Nat) (p : Place) (dev : BitVec 4) : State :=
  let c := chanAt s h p.chan
  let pass := c.scrubPasses.toNat
  let seen := c.ceRows.any fun x => decide (x.1 = b2n p.sub ∧ x.2.1 = rowKey p ∧ x.2.2 ≠ pass)
  let s1 := modChan s h p.chan fun c => noteError { c with
    ce := c.ce + 1
    ceInPass := tmod c.ceInPass p.rank (· + 1)
    ceByDevice := countDevice c.ceByDevice (p.rank * 16 + dev.toNat)
    ceRows := (b2n p.sub, rowKey p, pass) :: c.ceRows.filter fun x => decide (x.1 ≠ b2n p.sub ∨ x.2.1 ≠ rowKey p) } a 1 p dev
  let s2 := passThreshold s1 h p.chan p.rank
  if seen then orderRepair s2 h p else s2

/-- An uncorrectable read: its burst is poisoned, with the bytes in error zero; counted and raised when first found. -/
def uncorrectable (s : State) (h : Half) (a : Option Nat) (p : Place) (bytes : BitVec 64) (unit : Nat) : State :=
  let s1 := modChan s h p.chan fun c => noteError { c with ue := satInc c.ue, ueInPass := c.ueInPass + 1 } a 2 p 0xF
  let s2 := match a with
    | some a =>
      let s2 := modMem s1 h fun m =>
        poisonBurst (writeBacked { m with injected := m.injected.filter fun b => decide (b.1 ≠ a / 64) } a
          ((List.range 64).map fun i => if bytes.getLsbD i then 0 else dramByte m (a + i))) (a / 64)
      chanEvent s2 h p.chan 0x7003 2 noPoint (a % 2 ^ 32) (a / 2 ^ 32) unit
    | none => s1
  orderRepair s2 h p

/-- A read of a burst with what ECC finds; patrol scrub and read-modify-writes write a corrected burst back. -/
def readBurst (s : State) (h : Half) (a : Option Nat) (p : Place) (e : EccResult) (back : Bool) (unit : Nat) : State :=
  let m := (half s h).mem
  let burst := a.getD 0 / 64
  if a.isSome && m.poison.contains burst && !(m.injected.any fun b => decide (b.1 = burst)) then s
  else
    match (if a.isSome then eccFinds m (chanAt s h p.chan) burst e else e) with
    | .clean => s
    | .corrected d =>
      let s1 := corrected s h a p d
      if back then modMem s1 h fun m => { m with injected := m.injected.filter fun b => decide (b.1 ≠ burst) } else s1
    | .uncorrectable bytes => uncorrectable s h a p bytes unit

/-! Issuing (R364 to R366). -/

/-- The bank of a place. -/
def bankOf (b : SubChan) (p : Place) : Bank := (b.banks.find? fun x => decide (x.key = bankKey p)).getD { key := bankKey p }

/-- The bank after an access under the page policy (R366). -/
def accessBank (page : BitVec 2) (row : Nat) (b : Bank) : Bank :=
  let pred := match b.lastRow with
    | none => b.pred
    | some r => if r = row then (if b.pred = 3 then 3 else b.pred + 1) else (if b.pred = 0 then 0 else b.pred - 1)
  { b with pred, lastRow := some row, rowOpen := if page = 1 then true else if page = 2 then false else decide (2 ≤ pred.toNat) }

/-- Put a bank back. -/
def putBank (bs : List Bank) (b : Bank) : List Bank :=
  if bs.any fun x => decide (x.key = b.key) then bs.map fun x => if x.key = b.key then b else x else bs ++ [b]

/-- A request hits the open row of its bank. -/
def rowHit (m : HalfMem) (b : SubChan) (q : MemReq) : Bool :=
  match memPlace m q.burst with
  | some p => (bankOf b p).rowOpen && decide ((bankOf b p).lastRow = some p.row)
  | none => false

/-- Requests of a queue that may issue: not behind an older one of the same burst in the other queue, and not to a rank that
repays refresh at top priority (R363, R368). -/
def mayIssue (m : HalfMem) (c : Chan) (q other : List MemReq) : List MemReq :=
  q.filter fun x => !(other.any fun y => decide (y.burst = x.burst ∧ y.order < x.order)) &&
    ((tget c.rank (reqRank m x)).repay).isNone

/-- The first of a list: a row hit before any other, then the oldest. -/
def pickReq (m : HalfMem) (b : SubChan) (q : List MemReq) : Option MemReq := (q.find? (rowHit m b)).or q.head?

/-- Draining of writes begins at 48 and ends at 16 (R365). -/
def drains (b : SubChan) : Bool := decide (48 ≤ b.writeQ.length) || (b.draining && decide (16 < b.writeQ.length))

/-- The request issued next, with whether it is a write: one of the age class first, then by the issue priority (R365). Which
requests have waited long enough for the age class is a free value. -/
def nextIssue (m : HalfMem) (c : Chan) (b : SubChan) (aged : Bool) : Option (MemReq × Bool) :=
  let rs := mayIssue m c b.readQ b.writeQ
  let ws := mayIssue m c b.writeQ b.readQ
  let oldest := match rs.head?, ws.head? with
    | some r, some w => if w.order < r.order then some (w, true) else some (r, false)
    | some r, none => some (r, false)
    | none, some w => some (w, true)
    | none, none => none
  let r := (pickReq m b rs).map fun q => (q, false)
  let w := (pickReq m b ws).map fun q => (q, true)
  if aged then oldest else if drains b then w.or r else r.or w

/-- DRAM_COMMAND_ISSUE: the next request of a subchannel is issued (R364 to R366, R383, R384). -/
def commandIssue (s : State) (h : Half) (k : Nat) (sub : Bool) (e : EccResult) : State :=
  let (i, s0) := fresh s
  let m := (half s0 h).mem
  let c := tget m.chans k
  let b := subAt c sub
  match nextIssue m c b (Config.freeBool i) with
  | none => s
  | some (q, write) =>
    match memPlace m q.burst with
    | none => s
    | some p =>
      let gone := fun (l : List MemReq) => l.filter fun x => decide (x.order ≠ q.order)
      let bank := accessBank c.policy.page p.row (bankOf b p)
      let s1 := modSubAt s0 h k sub fun b => { b with
        readQ := if write then b.readQ else gone b.readQ
        writeQ := if write then gone b.writeQ else b.writeQ
        draining := drains (if write then { b with writeQ := gone b.writeQ, draining := drains b } else b)
        banks := putBank b.banks bank }
      let s2 := modRank s1 h k p.rank fun r => { r with powerDown := false }
      if !write then readBurst s2 h (some q.burst) p e false q.unit
      else if q.mask = BitVec.allOnes 64 then s2
      else readBurst (modChan s2 h k fun c => { c with rmwWrites := satInc c.rmwWrites }) h (some q.burst) p e true q.unit

/-- DRAM_COMMAND_ISSUE. -/
def execDramCommandIssue (h : Half) (chan : Nat) (sub : Bool) (err : EccResult) (s : State) : Host.Outcome State Fault Refusal :=
  memAct h (.dramCommandIssue h chan sub err) s (commandIssue s h chan sub err)

/-! Refresh (R367 to R369). -/

/-- tREFI of a rank. -/
def rankTrefi (m : HalfMem) (c : Chan) (r : Nat) : Nat := if (tget c.rank r).hot then trefi m c / 2 else trefi m c

/-- Limit of a rank's debt. -/
def debtLimit (m : HalfMem) (c : Chan) (r : Nat) : Nat := 4 * rankTrefi m c r

/-- The largest D of a channel. -/
def notePeakDebt (c : Chan) (d : Nat) : Chan := { c with debtPeak := BitVec.ofNat 32 (max c.debtPeak.toNat (min d 0xFFFFFFFF)) }

/-- Repayment at top priority starts where D is at or above the limit (R368, R369). -/
def startRepay (s : State) (h : Half) (k r : Nat) : State :=
  let m := (half s h).mem
  let c := tget m.chans k
  let x := tget c.rank r
  if x.repay.isNone ∧ debtLimit m c r ≤ x.debt then
    modChan s h k fun c => { c with
      rank := tmod c.rank r fun x => { x with repay := some (x.debt, 0), powerDown := false }
      topRefresh := satInc c.topRefresh }
  else s

/-- Controller cycles pass for a rank: D rises, and reaches the limit at most once. -/
def passCycles (s : State) (h : Half) (k r cycles : Nat) : State :=
  let m := (half s h).mem
  let c := tget m.chans k
  let x := tget c.rank r
  let lim := debtLimit m c r
  let d := x.debt + cycles
  let s1 := modChan s h k fun c => notePeakDebt { c with rank := tmod c.rank r fun x => { x with debt := d } } d
  if x.repay.isNone ∧ x.debt < lim ∧ lim ≤ d then
    modChan s1 h k fun c => { c with
      rank := tmod c.rank r fun x => { x with repay := some (lim, 0), powerDown := false }, topRefresh := satInc c.topRefresh }
  else s1

/-- A refresh is issued to a rank: D falls by the tREFI in force; a repayment ends at half the limit (R368). -/
def issueRefresh (s : State) (h : Half) (k r : Nat) : State :=
  let m := (half s h).mem
  let c := tget m.chans k
  let x := tget c.rank r
  let d := x.debt - rankTrefi m c r
  let s1 := modRank s h k r fun x => { x with debt := d, powerDown := false }
  match x.repay with
  | none => s1
  | some (d0, n) =>
    if 2 * d ≤ debtLimit m c r then
      chanEvent (modRank s1 h k r fun x => { x with repay := none }) h k 0x7006 1 noPoint r d0 (n + 1)
    else modRank s1 h k r fun x => { x with repay := some (d0, n + 1) }

/-- The rank exists on a usable channel. -/
def rankThere (s : State) (h : Half) (k r : Nat) : Bool := usable (chanAt s h k) && decide (r < rankCount (chanAt s h k))

/-- REFRESH_ISSUE: `cycles` controller cycles after the rank's last refresh event; a refresh is issued at top priority, or
where one is owed and no row hit of the rank waits (R368). -/
def refreshIssue (s : State) (h : Half) (k r cycles : Nat) : State :=
  if !rankThere s h k r then s
  else
    let s1 := passCycles s h k r cycles
    let m := (half s1 h).mem
    let c := tget m.chans k
    let x := tget c.rank r
    let hits := [c.sub0, c.sub1].any fun b => (b.readQ ++ b.writeQ).any fun q => decide (reqRank m q = r) && rowHit m b q
    if x.repay.isSome || (decide (rankTrefi m c r ≤ x.debt) && (!rankQueued m c r || !hits)) then issueRefresh s1 h k r else s1

/-- REFRESH_ISSUE. -/
def execRefreshIssue (h : Half) (chan rank cycles : Nat) (s : State) : Host.Outcome State Fault Refusal :=
  memAct h (.refreshIssue h chan rank cycles) s (refreshIssue s h chan rank cycles)

/-- REFRESH_DEBT_LIMIT: D has risen to the limit (R368). -/
def debtReached (s : State) (h : Half) (k r : Nat) : State :=
  let m := (half s h).mem
  let c := tget m.chans k
  if !rankThere s h k r || ((tget c.rank r).repay).isSome then s
  else
    let d := max (tget c.rank r).debt (debtLimit m c r)
    startRepay (modChan s h k fun c => notePeakDebt { c with rank := tmod c.rank r fun x => { x with debt := d } } d) h k r

/-- REFRESH_DEBT_LIMIT. -/
def execRefreshDebtLimit (h : Half) (chan rank : Nat) (s : State) : Host.Outcome State Fault Refusal :=
  memAct h (.refreshDebtLimit h chan rank) s (debtReached s h chan rank)

/-- What an MR4 read changes of a rank (R367): its rate, and the limit of its channel's command slots. -/
def mr4Rank (t : Mr4Temp) (x : RankRefresh) : RankRefresh :=
  match t with
  | .normal =>
    if x.hot then
      if x.coolReads + 1 = 2 then { x with hot := false, coolReads := 0, limited := false }
      else { x with coolReads := x.coolReads + 1, limited := false }
    else { x with limited := false }
  | .above85 => { x with hot := true, coolReads := 0, limited := false }
  | .overRange => { x with hot := true, coolReads := 0, limited := true }

/-- MR4_POLL (R367, R369). -/
def mr4Poll (s : State) (h : Half) (k r : Nat) (t : Mr4Temp) (cycles : Nat) : State :=
  if !rankThere s h k r then s
  else
    let s1 := passCycles s h k r cycles
    let x := tget (chanAt s1 h k).rank r
    let y := mr4Rank t x
    let s2 := modRank s1 h k r fun _ => y
    let s3 := if x.hot = y.hot then s2 else chanEvent s2 h k 0x7005 0 noPoint r (b2n y.hot) 0
    let s4 := if x.limited = y.limited then s3 else chanEvent s3 h k 0x7007 2 noPoint r (b2n y.limited) 0
    if y.hot && !x.hot then startRepay s4 h k r else s4

/-- MR4_POLL. -/
def execMr4Poll (h : Half) (chan rank : Nat) (temp : Mr4Temp) (cycles : Nat) (s : State) : Host.Outcome State Fault Refusal :=
  memAct h (.mr4Poll h chan rank temp cycles) s (mr4Poll s h chan rank temp cycles)

/-- POWER_DOWN_ENTRY: a rank idle with every bank precharged (R382). -/
def powerDownEntry (s : State) (h : Half) (k r : Nat) : State :=
  let m := (half s h).mem
  let c := tget m.chans k
  let opened := [c.sub0, c.sub1].any fun b => b.banks.any fun x => decide (x.key / 32 = r) && x.rowOpen
  if !rankThere s h k r || rankQueued m c r || opened || ((tget c.rank r).repay).isSome then s
  else modRank s h k r fun x => { x with powerDown := true }

/-- POWER_DOWN_ENTRY. -/
def execPowerDownEntry (h : Half) (chan rank : Nat) (s : State) : Host.Outcome State Fault Refusal :=
  memAct h (.powerDownEntry h chan rank) s (powerDownEntry s h chan rank)

/-! Sweeps (R376, R378, R379, R391). -/

/-- A sweep of a channel begins, on a MEM_TRAIN or by itself. -/
def beginSweep (s : State) (h : Half) (k : Nat) (cmd : Option Cmd) : State :=
  let add := fun (b : SubChan) => { b with work := b.work ++ [.sweep] }
  modChan s h k fun c => { c with sweep := some { cmd }, sub0 := add c.sub0, sub1 := add c.sub1 }

/-- Other channels that sweep under the same MEM_TRAIN. -/
def sweepMates (s : State) (h : Half) (serial : Nat) : List Nat :=
  (List.range 8).filter fun k =>
    decide ((((chanAt s h k).sweep.bind fun w => w.cmd).map fun c => c.serial) = some serial)

/-- A channel's sweep has ended, well or not; MEM_TRAIN completes with its last channel. -/
def endSweep (s : State) (h : Half) (k : Nat) (good : Bool) : State :=
  let w := (chanAt s h k).sweep.getD {}
  let drop := fun (b : SubChan) => { b with work := b.work.filter fun x => decide (x ≠ .sweep) }
  let s1 := modChan s h k fun c => { c with sweep := none, trackFrozen := false, sub0 := drop c.sub0, sub1 := drop c.sub1 }
  match w.cmd with
  | none => s1
  | some c =>
    let bad := w.failed || !good
    let mates := sweepMates s1 h c.serial
    if mates.isEmpty then
      if bad then complete s1 c h stPlausibilityFail 0x5D 0xFFFF 0 0 0 else completeOk s1 c h 0 0 0
    else if bad then
      mates.foldl (fun s j => modChan s h j fun c => { c with sweep := c.sweep.map fun w => { w with failed := true } }) s1
    else s1

/-- A sweep's records are checked against MIN_MARGIN only; they become the values and the baseline (R376, R378). -/
def sweepResult (s : State) (h : Half) (k : Nat) (recs : List TimingRec) : State :=
  let m := (half s h).mem
  let set := m.set.toNat
  let t := trimAt s 4 (devChan h k)
  let margin := recsMargin recs
  match firstUnmet t 4 [{ k := 1, v := margin, isMax := false }] with
  | some _ =>
    let (i, s1) := fresh s
    endSweep (chanEvent s1 h k 0x700A 2 (clearingsOf s1 h) (Config.freeWord i).toNat margin 0) h k false
  | none =>
    let put := fun (v : Vector (Vector TimingRec 4) 4) => tset v set (Vector.ofFn fun i => recs.getD i.val {})
    endSweep (modChan s h k fun c => { c with sets := put c.sets, base := put c.base }) h k true

/-! Clearings (R299, R370, R377, R386, R387). -/

/-- One subchannel's block of staged values moves into the set they were measured at. -/
def commitSub (sub : Bool) (recs : List TimingRec) (v : Vector TimingRec 4) : Vector TimingRec 4 :=
  Vector.ofFn fun i =>
    let old := tget v i.val
    match recs[i.val]? with
    | none => old
    | some r => if sub then { old with sub1 := r.sub1 } else { old with sub0 := r.sub0 }

/-- A clearing commits a subchannel's staged values; the commit is complete with the later subchannel (R377). A supply guard
holds it (R379). -/
def commitDomain4 (s : State) (h : Half) (k : Nat) (sub : Bool) : State :=
  let i := devChan h k
  let key := BKey.clearing 4 i
  let c := chanAt s h k
  let bit : BitVec 2 := if sub then 2 else 1
  let wait := if c.commitWait = 0 then 3 else c.commitWait
  if (half s h).sys.guard || inSwap s || !(s.staged.any fun x => decide (x.key = key)) || decide (wait &&& bit = 0) then s
  else
    let set := ((c.stagedSet.map (·.1)).getD (half s h).mem.set.toNat)
    let recs := match (trimAt s 4 i).staged with
      | some (.timing rs) => rs
      | _ => []
    let left := wait &&& ~~~ bit
    let s1 := modChan s h k fun c => { c with
      sets := tmod c.sets set (commitSub sub recs), commitWait := left, stagedSet := if left = 0 then none else c.stagedSet }
    if left ≠ 0 then s1
    else commitAt 4 i (clearingsOf s1 h) (s1.staged.filter fun x => decide (x.key = key))
      { s1 with staged := s1.staged.filter fun x => !decide (x.key = key) }

/-- A row's soft repair ends in its clearing, or finds no resource (R386). -/
def repairRow (s : State) (h : Half) (k : Nat) (sub : Bool) (rank bg bank row : Nat) (cmd : Option Cmd) (noResource : Bool) : State :=
  if noResource then
    match cmd with
    | some c => complete s c h stWrongState 0x77 0xFFFF 0 0 0
    | none => passThreshold (modChan s h k fun c => { c with ceInPass := tmod c.ceInPass rank (· + 1) }) h k rank
  else
    let key := row * 128 + (rank * 32 + bg * 4 + bank)
    let s1 := modChan s h k fun c => { c with repairs := satInc c.repairs, repairedRows := c.repairedRows ++ [(b2n sub, key)] }
    let s2 := chanEvent s1 h k 0x700B 1 (clearingsOf s1 h) (rank + 4 * bg + 32 * bank) row 0
    match cmd with
    | some c => completeOk s2 c h 0 0 0
    | none => s2

/-- The mapping of a rank moves to the spare, once in a clearing of each subchannel (R387). -/
def spareStep (s : State) (h : Half) (k : Nat) (rank : Nat) : State :=
  let c := chanAt s h k
  if (c.sub0.work ++ c.sub1.work).contains (.spare rank) then s
  else
    let cmd := c.sparing.bind (·.2)
    let s1 := chanEvent (modChan s h k fun c => { c with spared := some rank, sparing := none }) h k 0x700C 2 (clearingsOf s h) rank 0 0
    match cmd with
    | some c => completeOk s1 c h 0 0 0
    | none => s1

/-- The oldest work of a clearing is carried out. -/
def clearWork (s : State) (h : Half) (k : Nat) (sub : Bool) (r : ClearResult) : State :=
  match (subAt (chanAt s h k) sub).work with
  | [] => s
  | w :: rest =>
    let s1 := modSubAt s h k sub fun b => { b with work := rest }
    match w with
    | .sweep =>
      let s2 := modChan s1 h k fun c => modSub { c with sweep := c.sweep.map fun w => { w with points := w.points + 1 } } sub
        fun b => { b with work := b.work ++ [.sweep] }
      match r.sweepDone with
      | some recs => sweepResult s2 h k recs
      | none => s2
    | .repair rank bg bank row cmd => repairRow s1 h k sub rank bg bank row cmd r.noResource
    | .spare rank => spareStep s1 h k rank

/-- Something waits for a clearing of a subchannel (R370). -/
def clearingNeeded (s : State) (h : Half) (k : Nat) (sub : Bool) : Bool :=
  let c := chanAt s h k
  !(subAt c sub).work.isEmpty || s.staged.any fun x => decide (x.key = .clearing 4 (devChan h k))

/-- A clearing of a subchannel: counted, with the commits that wait for it and its work. -/
def subClearing (s : State) (h : Half) (k : Nat) (sub : Bool) (r : ClearResult) : State :=
  if !usable (chanAt s h k) || !clearingNeeded s h k sub then s
  else clearWork (commitDomain4 (countClearing s h) h k sub) h k sub r

/-- CLEARING_FOUND: the queues of the subchannel have been empty (R370). -/
def execClearingFound (h : Half) (chan : Nat) (sub : Bool) (r : ClearResult) (s : State) : Host.Outcome State Fault Refusal :=
  let b := subAt (chanAt s h chan) sub
  memAct h (.clearingFound h chan sub r) s (if b.readQ.isEmpty && b.writeQ.isEmpty then subClearing s h chan sub r else s)

/-- CLEARING_MADE: none has been found in time (R370). -/
def execClearingMade (h : Half) (chan : Nat) (sub : Bool) (r : ClearResult) (s : State) : Host.Outcome State Fault Refusal :=
  memAct h (.clearingMade h chan sub r) s (subClearing s h chan sub r)

/-! Periodic samples (R376, R377, R379). -/

/-- A delay moved by a signed tap, not below zero. -/
def moveTap (v : Nat) (d : Int) : Nat := (Int.ofNat v + d).toNat

/-- A subchannel block after the proposals of a sample: WR_DLY and WR_LVL against the drift of their DQS pair, RD_DLY away
from an edge that alone fails. -/
def proposeSub (x : SubSample) (t : SubTiming) : SubTiming :=
  let dir := fun (p : Nat) =>
    let d := x.drift.getD p 0
    if d = 0 then (0 : Int) else if 0 < d then -1 else 1
  let edge := fun (i : Nat) =>
    match x.edges.getD i (false, false) with
    | (true, false) => (1 : Int)
    | (false, true) => -1
    | _ => 0
  { t with
    wr := t.wr.zipIdx.map fun (v, i) => moveTap v (dir (i / 4))
    lvl := t.lvl.zipIdx.map fun (v, i) => moveTap v (dir i)
    rd := t.rd.zipIdx.map fun (v, i) => moveTap v (edge i) }

/-- The records in force after the proposals of both subchannels. -/
def propose (recs : List TimingRec) (xs : List SubSample) : List TimingRec :=
  recs.zipIdx.map fun (r, i) =>
    let one := fun (sub : Bool) (t : SubTiming) => match xs.find? fun x => decide (x.rank = i ∧ x.sub1 = sub) with
      | some x => proposeSub x t
      | none => t
    { r with sub0 := one false r.sub0, sub1 := one true r.sub1 }

/-- Largest drift of a sample, in taps. -/
def largestDrift (xs : List SubSample) : Nat := (xs.flatMap (·.drift)).foldl (fun m d => max m d.natAbs) 0

/-- RETRAIN_SAMPLE: one sample of each subchannel, in a clearing of each (R377). -/
def retrainSample (s : State) (h : Half) (k : Nat) (xs : List SubSample) : State :=
  let c := chanAt s h k
  let i := devChan h k
  let t := trimAt s 4 i
  let measuring := decide (t.st = .measuring)
  if !usable c || !(measuring || (t.auto && c.policy.track)) then s
  else
    let s1 := modChan (countClearing (countClearing s h) h) h k fun c => { c with oscDrift := BitVec.ofNat 16 (min (largestDrift xs) 0xFFFF) }
    let m := (half s1 h).mem
    let now := recsInForce m c
    let recs := propose now xs
    if !measuring && (c.trackFrozen || decide (recs = now) || decide (t.st ≠ .idle)) then s1
    else
      let s2 := if measuring then s1 else beginRun s1 4 i none true
      let s3 := modChan s2 h k fun c => { c with stagedSet := some (m.set.toNat, recs), commitWait := 0 }
      let recs1 := if c.trackFrozen then now else recs
      let base := (tget c.base m.set.toNat).toList.take (rankCount c)
      let checks : List LimitCheck := [{ k := 0, v := recsMove recs1 base }, { k := 1, v := recsMargin recs1, isMax := false }]
      let failed := (firstUnmet (trimAt s3 4 i) 4 checks).isSome
      let s4 := trimChecked s3 4 i (.timing recs1) checks (clearingsOf s3 h)
      if failed then
        let s5 := modChan s4 h k fun c => { c with trackFrozen := true, stagedSet := none }
        if t.auto && (chanAt s5 h k).sweep.isNone then beginSweep s5 h k none else s5
      else s4

/-- RETRAIN_SAMPLE. -/
def execRetrainSample (h : Half) (chan : Nat) (samples : List SubSample) (s : State) : Host.Outcome State Fault Refusal :=
  memAct h (.retrainSample h chan samples) s (retrainSample s h chan samples)

/-! Patrol scrub (R385) and initialisation (R374). -/

/-- PATROL_SCRUB_READ: the burst at the scrub pointer. -/
def patrolRead (s : State) (h : Half) (k : Nat) (e : EccResult) : State :=
  let m := (half s h).mem
  let c := tget m.chans k
  if !usable c || decide (chanBursts c ≤ c.scrubPtr) then s
  else
    let ca := c.scrubPtr * 64
    let a := ofChan m k ca
    let p := placeIn c k ((a.map (orderAt m)).getD 1) (decide (ca / 64 % 2 = 1)) (ca / 128)
    readBurst (modChan s h k fun c => { c with scrubPtr := c.scrubPtr + 1 }) h a p e true 0

/-- PATROL_SCRUB_READ. -/
def execPatrolScrubRead (h : Half) (chan : Nat) (err : EccResult) (s : State) : Host.Outcome State Fault Refusal :=
  memAct h (.patrolScrubRead h chan err) s (patrolRead s h chan err)

/-- MEM_SCRUB_PASS: every burst of the channel has been read (R385). -/
def scrubPass (s : State) (h : Half) (k : Nat) : State :=
  let c := chanAt s h k
  if !usable c || decide (c.scrubPtr < chanBursts c) then s
  else
    let ce := (c.ceInPass.toList).sum
    let s1 := modChan s h k fun c => { c with
      scrubPtr := 0, scrubPasses := c.scrubPasses + 1, ceInPass := Vector.replicate 4 0, ueInPass := 0 }
    chanEvent s1 h k 0x700D 0 noPoint ce c.ueInPass 0

/-- MEM_SCRUB_PASS. -/
def execMemScrubPass (h : Half) (chan : Nat) (s : State) : Host.Outcome State Fault Refusal :=
  memAct h (.memScrubPass h chan) s (scrubPass s h chan)

/-- RANK_SPARE_COPY_DONE: the final step waits for a clearing of each subchannel (R387). -/
def spareCopied (s : State) (h : Half) (k : Nat) : State :=
  let c := chanAt s h k
  match c.sparing with
  | none => s
  | some (r, _) =>
    if (c.sub0.work ++ c.sub1.work).contains (.spare r) then s
    else
      let add := fun (b : SubChan) => { b with work := b.work ++ [.spare r] }
      modChan s h k fun c => { c with sub0 := add c.sub0, sub1 := add c.sub1 }

/-- RANK_SPARE_COPY_DONE. -/
def execRankSpareCopyDone (h : Half) (chan : Nat) (s : State) : Host.Outcome State Fault Refusal :=
  memAct h (.rankSpareCopyDone h chan) s (spareCopied s h chan)

/-- DRAM_INIT_DONE: the watermark has reached the top of the channel (R374). -/
def initDone (s : State) (h : Half) (k : Nat) : State :=
  if usable (chanAt s h k) && (half s h).ident.memReady then
    modChan s h k fun c => { c with initDone := true, initMark := chanBursts c }
  else s

/-- DRAM_INIT_DONE. -/
def execDramInitDone (h : Half) (chan : Nat) (s : State) : Host.Outcome State Fault Refusal :=
  memAct h (.dramInitDone h chan) s (initDone s h chan)

end Sys2Proof.Machine
end

