-- ==== Sys2Proof/Machine/MemCmd.lean ====
section
/-! DEFINITION. Power-on training, frequency changes, and the MEM_ commands (R373 to R375, R380, R381, R390 to R392). -/

namespace Sys2Proof.Machine

/-! Power-on training (R356, R373, R388). -/

/-- The records of a set by rank. -/
def setOf (recs : List TimingRec) : Vector TimingRec 4 := Vector.ofFn fun i => recs.getD i.val {}

/-- A channel as power-on training leaves it. -/
def trainedChan (old : Chan) (t : ChanTraining) (repairs : List (Nat × Nat)) : Chan :=
  let sets : Vector (Vector TimingRec 4) 4 := #v[setOf t.set0, setOf t.set1, setOf [], setOf []]
  { policy := old.policy, dimms := t.dimms, ranks := t.ranks, x8 := t.x8, density := t.density
    excluded := decide (t.cause ≠ 0), capacity := t.dimms * t.gib, spdMax := t.spdMax, ident := t.ident
    sets, base := sets, repairedRows := if t.cause = 0 then repairs else [] }

/-- The identities of the DIMMs of a half, by channel. -/
def identsOf (chans : List ChanTraining) : List (List Nat) :=
  (List.range 8).map fun k => ((chans.find? fun t => decide (t.chan = k)).map (·.ident)).getD []

/-- Usable GiB of a half. -/
def halfGib (m : HalfMem) : Nat := (m.chans.toList.map usableGib).sum

/-- MEM_READY, and the last step of boot. -/
def memReady (s : State) (h : Half) : State :=
  let m := (half s h).mem
  let s1 := modIdent s h fun i => { i with memReady := true, bootStage := if i.bootStage = 3 then 4 else i.bootStage }
  event s1 h 0x7001 0 0x71 (halfIdx h) noPoint (halfGib m) (b2n m.stored) 0

/-- Every excluded channel that carries DIMMs is reported (R356). -/
def reportExcluded (h : Half) : List ChanTraining → State → State
  | [], s => s
  | t :: rest, s =>
    reportExcluded h rest (if t.cause = 0 then s else chanEvent s h t.chan 0x7002 2 noPoint t.cause 0 0)

/-- DRAM_TRAINING_DONE (R373, R374, R488): the channels of a half are trained, or leave self-refresh with what they kept. -/
def trainingDone (s : State) (h : Half) (chans : List ChanTraining) : State :=
  let m := (half s h).mem
  if (half s h).ident.bootStage ≠ 3 then s
  else if m.selfRefresh then memReady (modMem s h fun m => { m with selfRefresh := false }) h
  else
    let saved := tget s.sys.saved (halfIdx h)
    let ids := identsOf chans
    let stored := decide ((saved.map (·.ident)) = some ids)
    let rep := fun (k : Nat) => if stored then ((saved.map (·.repairs)).getD []).getD k [] else []
    let m1 := { m with
      stored, set := 0
      chans := Vector.ofFn fun i => match chans.find? fun (t : ChanTraining) => decide (t.chan = i.val) with
        | some t => trainedChan (tget m.chans i.val) t (rep i.val)
        | none => { policy := (tget m.chans i.val).policy } }
    let s1 := modMem s h fun _ => { m1 with regions := defaultMap m1 }
    memReady (reportExcluded h chans s1) h

/-- DRAM_TRAINING_DONE. -/
def execDramTrainingDone (h : Half) (chans : List ChanTraining) (s : State) : Host.Outcome State Fault Refusal :=
  act (.dramTrainingDone h chans) s (trainingDone s h chans)

/-! Frequency changes (R366, R369, R380, R381). -/

/-- Channels of a half that are usable. -/
def usableChans (m : HalfMem) : List Nat := (List.range 8).filter fun k => usable (tget m.chans k)

/-- A set is trained on every usable channel. -/
def setTrained (m : HalfMem) (set : Nat) : Bool :=
  (usableChans m).all fun k => (List.range (rankCount (tget m.chans k))).all fun r => (tget (tget (tget m.chans k).sets set) r).valid

/-- No stream of the half is CAPTURING and no live context of the half is RUNNING (R381, R382). -/
def quietHalf (s : State) (h : Half) : Bool := !capturesIn s h && !liveIn s h [.running]

/-- A sweep under way starts again from its first point at the new set. -/
def restartSweep (s : State) (h : Half) (k set : Nat) : State :=
  match (chanAt s h k).sweep with
  | none => s
  | some _ =>
    chanEvent (modChan s h k fun c => { c with sweep := c.sweep.map fun w => { w with points := 0 } })
      h k 0x7009 1 (clearingsOf s h) set 0 0

/-- The ranks of a channel are refreshed until each D is below tREFI: repayments end, and D is then set to 0. -/
def settleDebts (s : State) (h : Half) (k : Nat) : List Nat → State
  | [] => s
  | r :: t =>
    let m := (half s h).mem
    let c := tget m.chans k
    let x := tget c.rank r
    let s1 := modRank s h k r fun x => { x with debt := 0, repay := none, powerDown := false }
    let s2 := match x.repay with
      | some (d0, n) => chanEvent s1 h k 0x7006 1 noPoint r d0 (n + x.debt / max 1 (rankTrefi m c r))
      | none => s1
    settleDebts s2 h k t

/-- A channel's queues drain and its banks close; predictors are kept. -/
def drainSub (b : SubChan) : SubChan :=
  { b with readQ := [], writeQ := [], draining := false, banks := b.banks.map fun x => { x with rowOpen := false } }

/-- Step 4 for one channel. -/
def drainChan (s : State) (h : Half) (k : Nat) : State :=
  let s1 := settleDebts s h k (List.range (rankCount (chanAt s h k)))
  modChan s1 h k fun c => { c with sub0 := drainSub c.sub0, sub1 := drainSub c.sub1 }

/-- Step 5 for one channel: pending commits go into the set they were measured at. -/
def commitChan (s : State) (h : Half) (k : Nat) : State := commitDomain4 (commitDomain4 s h k false) h k true

/-- The records of a set that has just been trained. -/
def putTrained (s : State) (h : Half) (set : Nat) : List TimingRecIn → State
  | [] => s
  | t :: rest =>
    putTrained (modChan s h t.chan fun c => { c with sets := tset c.sets set (setOf t.recs), base := tset c.base set (setOf t.recs) })
      h set rest

/-- Whether this change of set may happen now: the one commanded, or firmware's own choice under R382. -/
def freqMay (s : State) (h : Half) (set : Nat) : Bool :=
  let m := (half s h).mem
  match m.freq with
  | some f => decide (f.newSet = set)
  | none => !m.hold && decide (set ≠ m.set.toNat) && (decide (set = 0) || quietHalf s h) && (setTrained m set || quietHalf s h)

/-- MEM_FREQ_CHANGED: the steps of R381. -/
def freqChanged (s : State) (h : Half) (set : Nat) (trained : List TimingRecIn) : State :=
  let m := (half s h).mem
  if !(half s h).ident.memReady || m.selfRefresh || (islandAt s h .dram).resetting || !freqMay s h set then s
  else
    let ks := usableChans m
    let s1 := countClearing (ks.foldl (fun s k => drainChan s h k) s) h
    let s2 := ks.foldl (fun s k => commitChan s h k) s1
    let s3 := if setTrained m set then s2 else putTrained s2 h set trained
    let point := clearingsOf s3 h
    let s4 := modMem s3 h fun m => { m with set := BitVec.ofNat 2 set, freq := none }
    let s5 := ks.foldl (fun s k => restartSweep s h k set) s4
    let s6 := event s5 h 0x7008 0 0x71 (halfIdx h) point m.set.toNat set 0
    match m.freq.bind (·.cmd) with
    | some c => completeOk (modMem s6 h fun m => { m with hold := pb c 2 2 }) c h (lo32 point.toNat) 0 0
    | none => s6

/-- MEM_FREQ_CHANGED. -/
def execMemFreqChanged (h : Half) (set : Nat) (trained : List TimingRecIn) (s : State) : Host.Outcome State Fault Refusal :=
  act (.memFreqChanged h set trained) s (freqChanged s h set trained)

/-! Status and timing records (R372, R392). -/

/-- The channel status record. -/
def chanRecord (m : HalfMem) (h : Half) (k : Nat) : List Word :=
  let c := tget m.chans k
  [pack [(0, devChan h k), (4, c.dimms), (6, c.ranks), (8, b2n c.x8), (9, c.density.toNat), (11, m.set.toNat), (13, b2n c.excluded),
     (14, b2n (c.rank.toList.any (·.hot))), (15, b2n c.spared.isSome), (16, b2n c.initDone), (17, b2n c.trackFrozen),
     (18, b2n c.sweep.isSome)],
   pack [(0, setSpeed m m.set.toNat), (16, usableGib c)], lo32 c.ce.toNat, hi32 c.ce.toNat, c.ue, pack [(0, c.repairs.toNat)],
   lo32 c.lastAddr.toNat, hi32 c.lastAddr.toNat,
   pack [(0, c.lastKind.toNat), (2, b2n c.lastSub), (3, c.lastRank.toNat), (5, c.lastDevice.toNat)],
   c.scrubPasses, c.debtPeak, c.topRefresh, c.rmwWrites, c.fwdReads, pack [(0, c.oscDrift.toNat), (16, c.tempMax.toNat)], 0]

/-- Channel of the half that a command names. -/
def namedChan (c : Cmd) : Nat := pf c 2 3 0 % 8

/-- BUF of a record: 32-byte aligned, 0 through the management port. -/
def bufChecks (c : Cmd) : List (Bool × Reply) := bad [(3, decide (pq c 3 % 32 ≠ 0)), (3, c.port && decide (pq c 3 ≠ 0))]

/-- The SPD hubs of a channel's DIMMs as a status record finds them (R392): a free value, since no row reads them (log
entry 3). -/
def hubsRead (s : State) (h : Half) (k : Nat) : State :=
  modChan (fresh s).2 h k fun x => { x with tempMax := BitVec.ofNat 16 (Config.freeNat (fresh s).1) }

/-- MEM_GET_STATUS (R392). -/
def opMemGetStatus (c : Cmd) (h : Half) (s : State) : Reply × State :=
  match firstErr (rsv c [(2, 0xFFFFFFE0)] ++ bufChecks c) with
  | some r => (r, s)
  | none =>
    let k := namedChan c
    let s0 := hubsRead s h k
    let s1 := if pb c 2 4 then
        modChan s0 h k fun x => { x with debtPeak := 0, topRefresh := 0, rmwWrites := 0, fwdReads := 0 }
      else s0
    writeRecord s1 c (pq c 3) (dwordBytes (chanRecord (half s0 h).mem h k)) ok

/-- MEM_READ_TIMING (R372). -/
def opMemReadTiming (c : Cmd) (h : Half) (s : State) : Reply × State :=
  match firstErr (rsv c [(2, 0xFFFFFE00)] ++ bufChecks c) with
  | some r => (r, s)
  | none =>
    let x := chanAt s h (namedChan c)
    let set := pf c 2 5 4
    let rank := pf c 2 7 6
    let r := tget (tget (if pb c 2 8 then x.base else x.sets) set) rank
    writeRecord s c (pq c 3) (timingBytes set rank r) ok

/-! Regions and policies (R358, R361, R390). -/

/-- The region that a MEM_SET_REGION describes. -/
def regionIn (c : Cmd) : MemRegion :=
  { enable := pb c 2 3, base := pf c 3 15 0, size := pf c 4 15 0, mask := BitVec.ofNat 8 (pf c 2 11 4), order := BitVec.ofNat 2 (pf c 2 13 12) }

/-- Make ranges of a half undefined, one free index for each. -/
def scrambleRanges (h : Half) : List (Nat × Nat) → State → State
  | [], s => s
  | z :: t, s =>
    let (i, s1) := fresh s
    scrambleRanges h t (modMem s1 h fun m => scrambleMem m z i)

/-- MEM_SET_REGION (R358, R361). -/
def opMemSetRegion (c : Cmd) (h : Half) (s : State) : Reply × State :=
  let m := (half s h).mem
  let k := pf c 2 2 0
  let r := regionIn c
  let n := (maskChans r.mask).length
  let m1 := { m with regions := tset m.regions k r }
  let clash := (List.range 8).any fun j =>
    let o := tget m.regions j
    decide (j ≠ k) && overlap (regionRange o).1 (regionRange o).2 (regionRange r).1 (regionRange r).2
  let room := (List.range 8).all fun j => decide (cbase m1 8 j ≤ usableGib (tget m.chans j))
  let inUse := fun (z : Nat × Nat) => (structures s h).any fun y => overlap z.1 z.2 y.1 y.2
  match firstErr (rsv c [(2, 0xFFFF8000), (3, 0xFFFF0000), (4, 0xFFFF0000)] ++
      [(!(decide (n = 1) || decide (n = 2) || decide (n = 4) || decide (n = 8)) ||
          (maskChans r.mask).any (fun j => !usable (tget m.chans j)), badParam 0x70 2)] ++
      bad [(4, decide (r.size = 0 ∨ 2048 < r.size)), (4, decide (r.size % max 1 n ≠ 0)), (3, r.enable && clash), (4, r.enable && !room)] ++
      dramChecks s h ++
      [(!pb c 2 14 || inUse (regionRange (tget m.regions k)) || inUse (regionRange r), wrongState 0x72)]) with
  | some r => (r, s)
  | none => (ok, scrambleRanges h (changedRanges m m1) (modMem s h fun _ => m1))

/-- The policies that a MEM_SET_POLICY gives. -/
def policyIn (c : Cmd) : MemPolicy :=
  let dflt := fun (v d : Nat) => if v = 0 then d else v
  { page := BitVec.ofNat 2 (pf c 2 6 5), refMode := pb c 2 7, autoRepair := pb c 2 8, autoSpare := pb c 2 9, spareReserve := pb c 2 10
    track := pb c 2 11, scrubHours := dflt (pf c 3 7 0) 24, ceThreshold := dflt (pf c 3 23 8) 64, spareRate := dflt (pf c 4 15 0) 2000 }

/-- The refresh rate of every rank of a channel has changed: D is held against the new limit (R369). -/
def rateChanged (s : State) (h : Half) (k : Nat) (faster : Bool) : List Nat → State
  | [] => s
  | r :: t =>
    let s1 := chanEvent s h k 0x7005 0 noPoint r (b2n (tget (chanAt s h k).rank r).hot) 0
    rateChanged (if faster then startRepay s1 h k r else s1) h k faster t

/-- Set the policies of a channel. Where they take or free the spare rank, its ranks map anew and its regions' contents are
undefined (R361, R387). -/
def setPolicy (h : Half) (p : MemPolicy) (s : State) (k : Nat) : State :=
  let old := chanAt s h k
  let s1 := modChan s h k fun c => { c with policy := p }
  let s2 := if old.policy.refMode = p.refMode then s1 else rateChanged s1 h k p.refMode (List.range (rankCount old))
  if hasSpare old = hasSpare (chanAt s2 h k) then s2
  else
    scrambleRanges h (((half s h).mem.regions.toList.filter fun r => r.enable && r.mask.getLsbD k).map regionRange) s2

/-- Channels that a command names with ALL_HALF in bit 4. -/
def chansNamed (c : Cmd) (h : Half) (s : State) : List Nat := if pb c 2 4 then usableChans (half s h).mem else [namedChan c]

/-- The channel a command names is excluded (R390). -/
def excludedCheck (c : Cmd) (h : Half) (s : State) (all : Bool) : Bool × Reply :=
  (!all && !usable (chanAt s h (namedChan c)), wrongState 0x70)

/-- MEM_SET_POLICY (R390). -/
def opMemSetPolicy (c : Cmd) (h : Half) (s : State) : Reply × State :=
  match firstErr (rsv c [(2, 0xFFFFF000), (3, 0xFF000000), (4, 0xFFFF0000)] ++
      bad [(2, decide (pf c 2 6 5 = 3)), (3, decide (168 < pf c 3 7 0))] ++ dramChecks s h ++ [excludedCheck c h s (pb c 2 4)]) with
  | some r => (r, s)
  | none => (ok, (chansNamed c h s).foldl (setPolicy h (policyIn c)) s)

/-! Long commands (R378, R381, R386, R387, R391). -/

/-- MEM_TRAIN (R378, R391). -/
def opMemTrain (c : Cmd) (h : Half) (s : State) : Reply × State :=
  match firstErr (rsv c [(2, 0xFFFFFFE0)] ++ dramChecks s h ++ [excludedCheck c h s (pb c 2 4),
      ((chansNamed c h s).any fun k => (chanAt s h k).sweep.isSome, err stBusy 0)]) with
  | some r => (r, s)
  | none => (.running, (chansNamed c h s).foldl (fun s k => beginSweep s h k (some c)) s)

/-- MEM_SET_FREQ (R380, R381). -/
def opMemSetFreq (c : Cmd) (h : Half) (s : State) : Reply × State :=
  let m := (half s h).mem
  let set := pf c 2 1 0
  match firstErr (rsv c [(2, 0xFFFFFFF8)] ++ dramChecks s h ++
      [(!setTrained m set && !quietHalf s h, wrongState 0x73), (m.freq.isSome, err stBusy 0)]) with
  | some r => (r, s)
  | none => (.running, modMem s h fun m => { m with freq := some { cmd := some c, newSet := set } })

/-- MEM_REPAIR (R386, R387). -/
def opMemRepair (c : Cmd) (h : Half) (s : State) : Reply × State :=
  let k := namedChan c
  let x := chanAt s h k
  let rank := pf c 2 7 6
  let kind := pb c 2 4
  match firstErr (rsv c [(2, if kind then 0xFFFFFF20 else 0xFFFFE000), (3, if kind then 0xFFFFFFFF else 0xFFFE0000)] ++
      bad [(2, decide (mapRanks x ≤ rank)), (3, !kind && decide (bankRows x ≤ pf c 3 16 0))] ++ dramChecks s h ++
      [excludedCheck c h s false, (kind && (!hasSpare x || x.spared.isSome || x.sparing.isSome), wrongState 0x76)]) with
  | some r => (r, s)
  | none =>
    if kind then (.running, modChan s h k fun y => { y with sparing := some (rank, some c) })
    else
      let w := ClearWork.repair rank (pf c 2 10 8) (pf c 2 12 11) (pf c 3 16 0) (some c)
      (.running, modSubAt s h k (pb c 2 5) fun b => { b with work := b.work ++ [w] })

/-! The training area (R375). -/

/-- What is saved of a half. -/
def savedOf (m : HalfMem) : SavedTraining :=
  let cs := m.chans.toList
  { ident := cs.map (·.ident), sets := cs.map fun c => c.sets.toList.map (·.toList), repairs := cs.map (·.repairedRows) }

/-- Flash address of a half's training area (R486). -/
def trainingArea (h : Half) : Nat := 0x03000000 + 0x00400000 * halfIdx h

/-- Some set of the half is trained. -/
def anyTrained (m : HalfMem) : Bool := m.chans.toList.any fun c => usable c && c.sets.toList.any fun v => v.toList.any (·.valid)

/-- MEM_SAVE_TRAINING (R375, R391): the flash write is queued; it waits while a supply guard is in force. -/
def opMemSaveTraining (c : Cmd) (h : Half) (s : State) : Reply × State :=
  let m := (half s h).mem
  match firstErr (rsv c [(2, 0xFFFFFFFF)] ++ [(!anyTrained m, wrongState 0x78)]) with
  | some r => (r, s)
  | none =>
    let job : FlashJob := { cmd := c, op := .memSaveTraining, half := h, pieces := [(trainingArea h, [])], training := some (savedOf m) }
    (.running, flashGo (modDev s fun d => { d with jobs := d.jobs ++ [job] }))

/-! Error injection (R383, R384, R391). -/

/-- What an injected error makes of a burst for a reader: a correctable one shows nothing; an uncorrectable one is poisoned, with
the bytes in error, which the spec leaves open, read as zero. -/
def injectBurst (m : HalfMem) (a kind dev tag : Nat) : HalfMem :=
  let x8 := match memPlace m a with
    | some p => (tget m.chans p.chan).x8
    | none => false
  let m1 := { m with injected := (a / 64, kind, dev) :: m.injected.filter fun b => decide (b.1 ≠ a / 64) }
  if kind = 0 ∨ (kind = 1 ∧ x8 = false) then m1
  else
    poisonBurst (writeBacked m1 a ((List.range 64).map fun i =>
      if (Config.freeByte tag (a + i)).getLsbD 0 then 0 else dramByte m (a + i))) (a / 64)

/-- MEM_INJECT_ERROR (R391). -/
def opMemInjectError (c : Cmd) (h : Half) (s : State) : Reply × State :=
  let a := pq c 3
  match firstErr (rsv c [(2, 0xFFFFFFC0)] ++ bad [(2, decide (pf c 2 1 0 = 3)), (2, decide (9 < pf c 2 5 2)), (3, decide (a % 64 ≠ 0))] ++
      dramChecks s h ++ [(!backed (half s h).mem a, badValue 3)]) with
  | some r => (r, s)
  | none =>
    let (i, s1) := fresh s
    (ok, modMem s1 h fun m => injectBurst m a (pf c 2 1 0) (pf c 2 5 2) i)

/-! Aborts (R58). -/

/-- A running MEM_ command of half `h` is aborted. -/
def abortMem (op : Op) (c : Cmd) (h : Half) (s : State) : State :=
  let mine := fun (x : Option Cmd) => decide (x.map (·.serial) = some c.serial)
  let ks := List.range 8
  match op with
  | .memTrain =>
    ks.foldl (fun s k =>
      if mine ((chanAt s h k).sweep.bind (·.cmd)) then
        let drop := fun (b : SubChan) => { b with work := b.work.filter fun x => decide (x ≠ .sweep) }
        modChan s h k fun x => { x with sweep := none, sub0 := drop x.sub0, sub1 := drop x.sub1 }
      else s) s
  | .memRepair =>
    ks.foldl (fun s k =>
      let spare := mine ((chanAt s h k).sparing.bind (·.2))
      let keep := fun (w : ClearWork) => match w with
        | .repair _ _ _ _ x => !mine x
        | .spare _ => !spare
        | .sweep => true
      let drop := fun (b : SubChan) => { b with work := b.work.filter keep }
      modChan s h k fun x => { x with sparing := if spare then none else x.sparing, sub0 := drop x.sub0, sub1 := drop x.sub1 }) s
  | .memSetFreq => modMem s h fun m => { m with freq := if mine (m.freq.bind (·.cmd)) then none else m.freq }
  | .memSaveTraining => flashGo (modDev s fun d => { d with jobs := d.jobs.filter fun j => decide (j.cmd.serial ≠ c.serial) })
  | _ => s

/-! Rows of the commands. -/

/-- MEM_GET_STATUS (R392). -/
def execMemGetStatus (c : Cmd) (s : State) : Host.Outcome State Fault Refusal := submit (.memGetStatus c) .memGetStatus opMemGetStatus c s

/-- MEM_SET_REGION (R361). -/
def execMemSetRegion (c : Cmd) (s : State) : Host.Outcome State Fault Refusal := submit (.memSetRegion c) .memSetRegion opMemSetRegion c s

/-- MEM_SET_POLICY (R390). -/
def execMemSetPolicy (c : Cmd) (s : State) : Host.Outcome State Fault Refusal := submit (.memSetPolicy c) .memSetPolicy opMemSetPolicy c s

/-- MEM_TRAIN (R378). -/
def execMemTrain (c : Cmd) (s : State) : Host.Outcome State Fault Refusal := submit (.memTrain c) .memTrain opMemTrain c s

/-- MEM_SET_FREQ (R381). -/
def execMemSetFreq (c : Cmd) (s : State) : Host.Outcome State Fault Refusal := submit (.memSetFreq c) .memSetFreq opMemSetFreq c s

/-- MEM_READ_TIMING (R372). -/
def execMemReadTiming (c : Cmd) (s : State) : Host.Outcome State Fault Refusal := submit (.memReadTiming c) .memReadTiming opMemReadTiming c s

/-- MEM_REPAIR (R386). -/
def execMemRepair (c : Cmd) (s : State) : Host.Outcome State Fault Refusal := submit (.memRepair c) .memRepair opMemRepair c s

/-- MEM_SAVE_TRAINING (R375). -/
def execMemSaveTraining (c : Cmd) (s : State) : Host.Outcome State Fault Refusal := submit (.memSaveTraining c) .memSaveTraining opMemSaveTraining c s

/-- MEM_INJECT_ERROR (R391). -/
def execMemInjectError (c : Cmd) (s : State) : Host.Outcome State Fault Refusal := submit (.memInjectError c) .memInjectError opMemInjectError c s

end Sys2Proof.Machine
end

