-- ==== Sys2Proof/Machine/VcuEnc.lean ====
section
/-! DEFINITION. Encode sessions: input pictures, picture structure, the row guard and exhaustion, access units and their
records, split sessions (R318 to R342, R350 to R352). -/

namespace Sys2Proof.Machine

/-! Input (R318, R319). -/

/-- Pictures that a session holds. -/
def heldCount (x : Session) : Nat := x.held.length + if x.coding.isSome then 1 else 0

/-- The VCU releases its hold on a tap buffer (R277, R318). -/
def releaseTap (s : State) (n : Nat) (p : EncPic) : State :=
  match p.buf with
  | some k =>
    let cfg := (sessAt s n).cfg
    modHolds s cfg.ctx cfg.tap k fun b => { b with vcuHolds := b.vcuHolds.filter fun v => decide (v ≠ n) }
  | none => s

/-- A frame that is not coded is counted, and raised if it is the first after a coded one (R318). -/
def skipInput (s : State) (n : Nat) (f : Count64) (cause : Nat) : State :=
  let first := !(sessAt s n).skipping
  let s1 := modSessCounts (modSess s n fun x => { x with skipping := true, skippedBefore := x.skippedBefore + 1 }) n fun k =>
    { k with skippedInput := satInc k.skippedInput }
  if first then sessEvent s1 n 0x6003 1 f cause 0 0 else s1

/-- The tap format that a profile needs (R317); 8-bit input is one of two for Main 10 and High 10. -/
def tapFormatOk (k : SessCfg) (format : Nat) : Bool :=
  match k.profile with
  | 0 => decide (format = 0x7)
  | 1 => decide (format = 0x8) || decide (format = 0x7)
  | _ => decide (format = 0x6)

/-- The record of a frame shows the session's format and sizes (R318). -/
def recordFits (x : Session) (t : TapCfg) (split : Nat) : Bool :=
  tapFormatOk x.cfg t.format && decide ((if t.format = 0x7 then 8 else 10) = x.bits) &&
    decide (t.ow = x.cfg.width ∧ t.oh = x.cfg.height) && (decide (x.cfg.half ≠ 3) || decide (split = x.cfg.splitPos))

/-- A tap buffer becomes READY: session `n` takes its hold in the same step, or skips the frame (R318, R342); a VCU shed for
temperature holds none (R505). -/
def sessTapReady (s : State) (n ctx tap buf : Nat) (f : Count64) (t : TapCfg) (split : Nat) (pflags : Word)
    (mark : Option Count64) : State :=
  let x := sessAt s n
  if !(decide (x.st = .starting) || decide (x.st = .running)) || x.cfg.decode || x.cfg.hostInput || decide (x.cfg.ctx ≠ ctx) ||
      decide (x.cfg.tap ≠ tap) then s
  else if (sessHalves x).any (isShed s · 0) then skipInput s n f 0
  else if !recordFits x t split then skipInput s n f 2
  else if x.cfg.bFrames + 2 ≤ heldCount x then skipInput s n f 0
  else
    let r := (rateSoon s n).getD {}
    let o := (encOut s x).getD {}
    if auRoom x o (roomNeeded x r (picCap r (r.cpb * 1000))) then
      modSess (modHolds s ctx tap buf fun b => { b with vcuHolds := b.vcuHolds ++ [n] }) n fun x => { x with
        held := x.held ++ [{ f, buf := some buf, mark, pflags }], skipping := false }
    else skipInput (outputStall s n) n f 1

/-- A tap buffer becomes READY: every session that codes the tap takes or skips it. -/
def vcuTapReady (s : State) (ctx tap buf : Nat) (f : Count64) (t : TapCfg) (split : Nat) (pflags : Word)
    (mark : Option Count64) : State :=
  (List.range 16).foldl (fun s n => sessTapReady s n ctx tap buf f t split pflags mark) s

/-! Picture structure (R320, R321). -/

/-- B pictures between two others in hierarchical order: each F, with whether others predict from it. -/
def hierB : Nat → List Count64 → List (Count64 × Bool)
  | 0, _ => []
  | _ + 1, [] => []
  | n + 1, l =>
    let m := (l.length - 1) / 2
    (l.getD m 0, decide (1 < l.length)) :: (hierB n (l.take m) ++ hierB n (l.drop (m + 1)))

/-- A held picture is coded as IDR (R320). -/
def mustIdr (x : Session) (p : EncPic) : Bool :=
  match x.lastIdr with
  | none => true
  | some f0 => decide (x.cfg.gopLen ≤ (p.f - f0).toNat) || p.forceIdr

/-- The next group of pictures in coding order, once the pictures it needs are held: an IDR alone, or a P picture and the B
pictures before it. A session that stops closes its group with a P picture (R320, R352). -/
def nextPlan (x : Session) (asked : Bool) : List (Count64 × Nat × Bool × Bool) :=
  match x.held with
  | [] => []
  | p :: _ =>
    if mustIdr x p || asked then [(p.f, 0, true, true)]
    else
      let grp := (x.held.take (x.cfg.bFrames + 1)).takeWhile fun p => !mustIdr x p
      if decide (grp.length = x.cfg.bFrames + 1) || decide (grp.length < x.held.length) || decide (x.st = .stopping) then
        let fs := grp.map (·.f)
        (fs.getLastD 0, 1, false, true) :: (hierB fs.length fs.dropLast).map fun b => (b.1, 2, false, b.2)
      else []

/-- Order count of a picture (R321). -/
def pocOf (x : Session) (f : Count64) : Nat := (f - x.lastIdr.getD f).toNat * if x.cfg.avc then 2 else 1

/-- Stream named by a session's effect reports (R352). -/
def sessStream (s : State) (x : Session) : Nat := if x.cfg.hostInput then 0x3F else refStream s (ctxAt s x.cfg.ctx)

/-! Pool marks (R338, R339). -/

/-- The marks of a half's pool changed. -/
def modMarks (s : State) (n : Nat) (h : Half) (f : List Mark → List Mark) : State :=
  modSess s n fun x => if h = .A then { x with poolA := f x.poolA } else { x with poolB := f x.poolB }

/-- Marks of a half's pool. -/
def marksIn (x : Session) (h : Half) : List Mark := if h = .A then x.poolA else x.poolB

/-- IN_USE clears when nothing uses the buffer (R339). -/
def settleMark (m : Mark) : Mark :=
  if m.ref = 0 ∧ m.outputPending = false ∧ m.hostHeld = false then { m with inUse := false } else m

/-- The lowest-numbered buffer not in use (R339). -/
def freeMark (ms : List Mark) : Option Nat := (List.range ms.length).find? fun k => !(ms.getD k {}).inUse

/-- A session in compatibility mode takes a buffer in each half for a new picture; none where a half has none. -/
def takePool (s : State) (n : Nat) (m : Mark) : Option (State × Option Nat × Option Nat) :=
  let x := sessAt s n
  if !x.cfg.compat then some (s, none, none)
  else
    let k := fun (h : Half) => freeMark (marksIn x h)
    if (sessHalves x).all fun h => (k h).isSome then
      let s1 := (sessHalves x).foldl (fun s h => modMarks s n h fun ms => ms.set ((k h).getD 0) m) s
      some (s1, if sessIn x .A then k .A else none, if sessIn x .B then k .B else none)
    else none

/-- Reference marks of a pool after an encoded picture in buffer `k`: an IDR drops the others, and the oldest beyond what the
group needs goes. -/
def encMarks (cfg : SessCfg) (c : Coding) (k : Nat) (ms : List Mark) : List Mark :=
  let ms1 := ms.zipIdx.map fun (m, i) =>
    if i = k then { m with ref := if c.isRef then 1 else 0 } else if c.idr then { m with ref := 0 } else m
  let refs := ms1.filter fun m => decide (m.ref ≠ 0)
  let limit := cfg.numRef + if cfg.bFrames = 0 then 0 else 1
  let oldest := refs.foldl (fun a m => min a m.number.toNat) (2 ^ 64)
  let drop := fun (m : Mark) => if m.ref ≠ 0 ∧ m.number.toNat = oldest then { m with ref := 0 } else m
  (if limit < refs.length then ms1.map drop else ms1).map settleMark

/-! Starting a picture (R315, R320, R326, R327, R342, R352). -/

/-- Staged settings take effect at the picture, in the order in which they started. -/
def applyVcu (n : Nat) (x : Staged) (s : State) : State :=
  if x.op = .vcuSetRate then modSess s n fun z => { z with rate := some (rateOf x.cmd) } else s

/-- Settings staged for a key take effect at picture `f`. -/
def sessApply (s : State) (n : Nat) (key : BKey) (f : Count64) : State :=
  let stream := sessStream s (sessAt s n)
  applyStaged s key (applyVcu n) fun x _ => mkEffect x (BitVec.ofNat 16 (opCode x.op)) 1 f stream

/-- A picture starts: its settings, its type, its cap and its target, which in the clearing of a live swap is the previous
picture's (R473). -/
def beginPicture (s : State) (n : Nat) (plan : List (Count64 × Nat × Bool × Bool)) (times : List Count64) (p : EncPic) : State :=
  match plan with
  | [] => s
  | (f, ptype, idr, ref) :: rest =>
    let x := sessAt s n
    let mark : Mark :=
      { ref := 0, inUse := true, number := f, poc := if idr then 0 else pocOf x f }
    match takePool s n mark with
    | none => skipInput (releaseTap (modSess s n fun x => { x with
        plan := rest, times := times.tail, held := x.held.filter fun q => decide (q.f ≠ f) }) n p) n f 0
    | some (s0, pa, pb) =>
      let s1 := sessApply (if idr then sessApply s0 n (.vcu n) f else s0) n (if idr then .vcuIrap n else .vcu n) f
      let (k, s2) := fresh s1
      let target := if inSwap s then x.lastTarget else Config.targetBits k
      let r := ((sessAt s2 n).rate).getD {}
      let t := times.headD f
      let bits := bufferAt (sessAt s2 n) r t
      modSess s2 n fun x => { x with
        st := if x.st = .starting then .running else x.st
        plan := rest, times := times.tail, lastTime := some t, lastTarget := target, bufferBits := bits
        held := x.held.filter fun q => decide (q.f ≠ f)
        lastIdr := if idr then some f else x.lastIdr
        coding := some
          { pic := p, ptype, idr, isRef := ref, cap := picCap r bits, target, poolA := pa, poolB := pb } }

/-- VCU_PICTURE_START of session `n`: the next picture in coding order, when it is held, its references are complete and
there is room for it (R320, R334, R342). -/
def pictureStart (s : State) (n : Nat) : State :=
  let x := sessAt s n
  if x.coding.isSome || x.cfg.decode || !(decide (x.st = .starting) || decide (x.st = .running) || decide (x.st = .stopping)) ||
      !(sessHalves x).all (islandRuns s · .vcu) then s
  else
    let asked := s.staged.any fun z => decide (z.key = .vcuIrap n)
    let plan := if x.plan.isEmpty then nextPlan x asked else x.plan
    let times := if x.plan.isEmpty then (x.held.take plan.length).map (·.f) else x.times
    match plan with
    | [] => s
    | (f, _, idr, _) :: _ =>
      match x.held.find? fun p => decide (p.f = f) with
      | none => s
      | some p =>
        let r := (rateSoon s n).getD {}
        let cap := picCap r (bufferAt x r (times.headD f))
        if decide (x.bands ≠ 0) && !idr then s
        else if !auRoom x ((encOut s x).getD {}) (roomNeeded x r cap) then outputStall s n
        else beginPicture s n plan times p

/-- VCU_PICTURE_START. -/
def execVcuPictureStart (session : Nat) (s : State) : Host.Outcome State Fault Refusal :=
  act (.vcuPictureStart session) s (pictureStart s session)

/-! Spending of a part (R328, R329). -/

/-- What a half's part spends. -/
structure PartSpend where
  /-- bits spent -/
  bits : Nat := 0
  /-- guard offset for the next row -/
  guardNow : Nat := 0
  /-- largest guard offset -/
  peak : Nat := 0
  /-- unit at which exhaustion mode began -/
  exhausted : Option Nat := none
  deriving DecidableEq, Repr, Inhabited

/-- The guard offset after `r` of `rows` rows that spent `bits` of a target share. -/
def guardNext (bits target r rows g : Nat) : Nat :=
  if 5 * (target * r) < 4 * (bits * rows) then min 6 (g + 1)
  else if bits * rows ≤ target * r then g - 1 else g

/-- One unit of a part is coded: the exhaustion check before it, its ceiling, and the guard after a row. `cols` and `rows`
count the part's units; `cap` is none where no cap applies, `target` none where no guard does. -/
def spendUnit (cols rows ceil res : Nat) (cap target : Option Nat) (a : PartSpend) (u : Nat × Nat) : PartSpend :=
  let (bits, i) := u
  let above := match cap with
    | some c => decide (c < a.bits + ceil + res * (cols * rows - 1 - i))
    | none => false
  let ex := if a.exhausted.isNone && above then some i else a.exhausted
  let b := a.bits + min bits (if ex.isSome then res else ceil)
  let r := (i + 1) / cols
  let g := match target with
    | some t => if (i + 1) % cols = 0 ∧ r < rows then guardNext b t r rows a.guardNow else a.guardNow
    | none => a.guardNow
  { bits := b, guardNow := g, peak := max a.peak g, exhausted := ex }

/-- What a half's part of the picture being coded spends (R327, R328). -/
def spend (x : Session) (r : RateCfg) (c : Coding) (h : Half) (p : PartResult) : PartSpend :=
  let (cols, rows) := unitGrid x.cfg (partSize x.cfg h)
  let total := cols * rows
  let share := fun (v : Nat) => v * total / max 1 (picUnits x.cfg)
  let units := (p.ctus ++ List.replicate (total - p.ctus.length) 0).take total
  units.zipIdx.foldl (spendUnit cols rows (unitCeil x.cfg x.bits) (if c.ptype = 0 then 96 else 2)
    (if capped r then some (share c.cap) else none) (if r.mode = 3 then none else some (share c.target))) {}

/-- Row and column, across the picture, of unit `i` of a half's part (R329). -/
def unitPlace (k : SessCfg) (h : Half) (i : Nat) : Nat × Nat :=
  let (x0, y0, w, ht) := sessPart k h k.width k.height
  let cols := max 1 (unitGrid k (w, ht)).1
  (y0 / unitSide k + i / cols, x0 / unitSide k + i % cols)

/-! The access unit (R321 to R323, R333, R340, R352). -/

/-- Bytes of a NAL unit with emulation prevention: a 3 before a byte of at most 3 that follows two zero bytes. -/
def escapeBytes : Nat → List Byte → List Byte
  | _, [] => []
  | z, b :: bs =>
    if 2 ≤ z ∧ b.toNat ≤ 3 then 3 :: b :: escapeBytes (if b = 0 then 1 else 0) bs
    else b :: escapeBytes (if b = 0 then z + 1 else 0) bs

/-- Access unit delimiter by picture type. -/
def audBytes (avc : Bool) (ptype : Nat) : List Byte :=
  [0, 0, 0, 1] ++ (if avc then [0x09] else [0x46, 0x01]) ++ [[0x10, 0x30, 0x50].getD ptype 0x50]

/-- Identifier of the host-mark SEI (R323). -/
def markUuid : List Byte :=
  [0x96, 0x32, 0xA0, 0xB7, 0x4C, 0x1E, 0x4D, 0x2A, 0xB6, 0xF0, 0x3E, 0x71, 0xC8, 0xA9, 0x5D, 0x04]

/-- The user-data-unregistered SEI that carries a host mark (R323). -/
def markSei (avc : Bool) (mark : Count64) : List Byte :=
  [0, 0, 1] ++ (if avc then [0x06] else [0x4E, 0x01]) ++
    escapeBytes 0 ([5, 24] ++ markUuid ++ leBytes 8 mark.toNat ++ [0x80])

/-- End of sequence NAL unit. -/
def eosBytes (avc : Bool) : List Byte := [0, 0, 1] ++ if avc then [0x0A] else [0x48, 0x01]

/-- Filler data NAL unit of at least `n` bytes. -/
def fillerBytes (avc : Bool) (n : Nat) : List Byte :=
  let head : List Byte := [0, 0, 1] ++ if avc then [0x0C] else [0x4C, 0x01]
  head ++ List.replicate (n - head.length - 1) 0xFF ++ [0x80]

/-- colour_primaries, transfer_characteristics, matrix_coefficients and video_full_range_flag of a session (R322). -/
def vuiCodes (v : BitVec 8) : List Nat :=
  [[1, 9, 12].getD (v.toNat % 8) 2, [8, 1, 13, 16, 18].getD (v.toNat / 8 % 8) 2, if v.getLsbD 6 then 9 else 1,
   b2n (v.getLsbD 7)]

/-- What the parameter sets of a session describe (R311, R312, R321, R322). -/
def streamDesc (x : Session) (r : RateCfg) : List Nat :=
  let k := x.cfg
  [b2n k.avc, k.profile, b2n k.highTier, k.level, k.width, k.height, x.bits, k.rateDen,
   k.rateNum * if k.avc then 2 else 1, k.bFrames, k.numRef, if k.half = 3 ∧ !k.slices then k.splitPos else 0] ++
   vuiCodes x.vui ++ if r.hrd then [hrdRate r, r.cpb, r.initFull] else []

/-- The access unit of the picture being coded, without filler. -/
def auBytes (x : Session) (r : RateCfg) (c : Coding) (a b : List Byte) (last : Bool) : List Byte :=
  let k := x.cfg
  let poc := if c.idr then 0 else pocOf x c.pic.f
  let tiles := decide (k.half = 3) && !k.slices
  audBytes k.avc c.ptype ++
    (if c.idr then Config.paramSets (streamDesc x r) else []) ++
    (if r.hrd || tiles then
      Config.timingSei [b2n k.avc, b2n c.idr, poc, c.ptype, b2n r.hrd, x.bufferBits, if tiles then k.splitPos else 0] else []) ++
    (match k.markSei, c.pic.mark with
     | true, some m => markSei k.avc m
     | _, _ => []) ++
    (if tiles then Config.tileHeader [b2n c.idr, poc, c.ptype, k.splitPos, a.length] else []) ++ a ++ b ++
    if last then eosBytes k.avc else []

/-- Bytes of filler data in CBR: what would overflow the buffer by the next removal, within the cap (R326). -/
def fillerLen (x : Session) (r : RateCfg) (c : Coding) (len : Nat) : Nat :=
  if r.mode ≠ 0 then 0
  else
    let k := x.cfg
    let gap := match x.times with
      | t :: _ => (t - x.lastTime.getD t).toNat
      | [] => 1
    let next := x.bufferBits - 8 * len + hrdRate r * 1000 * gap * k.rateDen / max 1 k.rateNum
    let n := (next - r.cpb * 1000 + 7) / 8
    if n = 0 ∨ c.cap / 8 < len + max 6 n then 0 else max 6 n

/-- Write bytes to a ring of the session, in the space of its output; a mirror writes no host memory (R340, R461). -/
def sessWrite (s : State) (n : Nat) (addr : Nat) (bs : List Byte) : State :=
  let x := sessAt s n
  if ((encOut s x).getD {}).inDram then dramWrite s (sessHalf s x) addr bs else if s.pair.role = 2 then s else (hostWrite s addr bs).getD s

/-- Append an access unit to the data ring: its DATA_POS, and the state after it is written. -/
def appendAu (s : State) (n : Nat) (bs : List Byte) : Nat × State :=
  let x := sessAt s n
  let o := (encOut s x).getD {}
  let start := auStart x o bs.length
  (start, modSess (sessWrite s n (o.base + start % 2 ^ o.size) bs) n fun x => { x with dataPos := start + bs.length })

/-- Bytes of a record closed by its CRC-32C (R276, R341). -/
def withCrc (ws : List Word) : List Byte :=
  let bs := dwordBytes ws
  bs ++ leBytes 4 (crc32c bs).toNat

/-- The AU record (R341). -/
def auRecord (n : Nat) (x : Session) (c : Coding) (ex : Option (Half × Nat × Nat)) (peak pos len filler : Nat) (qp : Nat) :
    List Word :=
  let (row, col, hf) := match ex with
    | some (h, r, q) => (r, q, halfNum h)
    | none => (0xFFFF, 0xFFFF, 0)
  let mark := c.pic.mark.getD 0
  [pack [(0, 0xA0C5), (16, n), (20, b2n (isSplit x)), (21, b2n c.idr), (22, c.ptype)],
   pack [(0, if ex.isSome then stBudgetExhausted.toNat else 0), (16, row)],
   lo32 c.pic.f.toNat, hi32 c.pic.f.toNat, lo32 (if c.idr then 0 else pocOf x c.pic.f),
   pack [(0, col), (16, hf)], lo32 pos, hi32 pos, lo32 len,
   pack [(0, qp), (8, peak), (16, min x.skippedBefore 0xFFFF)], lo32 mark.toNat, hi32 mark.toNat,
   pack [(0, b2n c.pic.mark.isSome), (1, b2n c.again), (2, b2n (decide (filler ≠ 0)))], c.pic.pflags, 0]

/-- The session has coded its last picture and stops: it returns to OPEN, with the effect of VCU_STOP (R315, R352). -/
def settleStop (s : State) (n : Nat) : State :=
  let x := sessAt s n
  if x.st = .stopping ∧ x.held = [] ∧ x.plan = [] ∧ x.coding = none then
    sessApply (modSess s n fun x => { x with st := .open_ }) n (.vcuLast n) (x.lastCoded.getD noPoint)
  else s

/-- The half whose exhaustion the record names: the one with the higher row, half A of two equal. -/
def firstExhausted (k : SessCfg) (a b : Option Nat) : Option (Half × Nat × Nat) :=
  match a.map (unitPlace k .A), b.map (unitPlace k .B) with
  | some p, some q => if q.1 < p.1 then some (.B, q) else some (.A, p)
  | some p, none => some (.A, p)
  | none, some q => some (.B, q)
  | none, none => none

/-- Every part of the picture is coded and at hand: its AU and its record are written (R329, R333, R338, R340). -/
def writeAu (s : State) (n : Nat) (c : Coding) : State :=
  let x := sessAt s n
  let h := sessHalf s x
  let r := x.rate.getD {}
  let pa := spend x r c .A (c.partA.getD {})
  let pb := spend x r c .B (c.partB.getD {})
  let ex := firstExhausted x.cfg (if sessIn x .A then pa.exhausted else none) (if sessIn x .B then pb.exhausted else none)
  let last := decide (x.st = .stopping) && x.held.isEmpty && x.plan.isEmpty
  let au := auBytes x r c ((c.partA.map (·.data)).getD []) ((c.partB.map (·.data)).getD []) last
  let fill := fillerLen x r c au.length
  let bs := if fill = 0 then au else au ++ fillerBytes x.cfg.avc fill
  let (pos, s1) := appendAu s n bs
  let (qk, s2) := fresh s1
  let o := (encOut s x).getD {}
  let idx := x.recPos % 2 ^ o.recs
  let rec_ := auRecord n x c ex (max (if sessIn x .A then pa.peak else 0) (if sessIn x .B then pb.peak else 0)) pos bs.length fill
    ((Config.freeWord qk).toNat % 256)
  let s3 := sessWrite s2 n (o.recBase + 64 * idx) (withCrc rec_)
  let marks := fun (k : Option Nat) (ms : List Mark) => match k with
    | some k => encMarks x.cfg c k ms
    | none => ms
  let s4 := modSess s3 n fun x => { x with
    coding := none, recPos := x.recPos + 1, skippedBefore := 0, lastCoded := some c.pic.f
    bufferBits := x.bufferBits - 8 * bs.length
    poolA := marks c.poolA x.poolA, poolB := marks c.poolB x.poolB }
  let s5 := modSessCounts s4 n fun k => { k with
    pictures := k.pictures + 1, exhausted := if ex.isSome then satInc k.exhausted else k.exhausted }
  let s6 := if o.report then
      sessEvent s5 n 0x6001 0 c.pic.f idx bs.length (if ex.isSome then stBudgetExhausted.toNat else 0) else s5
  let s7 := match ex with
    | some (hf, row, col) =>
      sessEvent s6 n 0x6002 1 c.pic.f (row + 2 ^ 16 * col) (halfNum hf) (if hf = .A then pa.bits else pb.bits)
    | none => s6
  let s8 := match c.pic.cmd with
    | some k =>
      complete s7 k h (if ex.isSome then stBudgetExhausted else stOk) 0 0xFFFF (BitVec.ofNat 32 idx)
        (BitVec.ofNat 32 ((ex.map fun e => e.2.1).getD 0xFFFF)) 0
    | none => s7
  settleStop s8 n

/-! Coding, in one half or in both (R332 to R334). -/

/-- The part of a half is coded. -/
def partOf_ (c : Coding) (h : Half) : Option PartResult := if h = .A then c.partA else c.partB

/-- Every part of the picture is coded, and the other half's substream has reached the lead. -/
def auComplete (x : Session) (c : Coding) : Bool := ((sessHalves x).all fun h => (partOf_ c h).isSome) && decide (c.owed = 0)

/-- Bytes of a band of reference rows: 264 luma rows and their chroma (R334). -/
def bandBytes (x : Session) : Nat := 264 * x.cfg.width * (if is422 x.cfg then 4 else 3) / 2 * if x.bits = 8 then 1 else 2

/-- Half `h` sends bytes in the VCU class, counted in its MORTAR_KIB. -/
def sendVcu (s : State) (n : Nat) (h : Half) (m : Msg) (bytes : Nat) : State :=
  modSessCnt (tellPeer s h m) n h fun k => { k with mortarBytes := k.mortarBytes + bytes }

/-- A half of a slice split sends its band of the reference picture to the other half (R334). -/
def sendRefBand (s : State) (n : Nat) (h : Half) (f : Count64) : State :=
  let x := sessAt s n
  modSess (sendVcu s n h (.refBand n f (bandBytes x)) (bandBytes x)) n fun x => { x with
    bands := x.bands ||| halfCode (otherHalf h) }

/-- VCU_PICTURE_CODED: half `h` finishes its part. -/
def pictureCoded (s : State) (n : Nat) (h : Half) (p : PartResult) : State :=
  let x := sessAt s n
  match x.coding with
  | none => s
  | some c =>
    if !sessIn x h || (partOf_ c h).isSome || !islandRuns s h .vcu then s
    else
      let remote := isSplit x && decide (h ≠ leadHalf s)
      let c1 := if h = .A then { c with partA := some p } else { c with partB := some p }
      let c2 := if remote then { c1 with owed := c1.owed + 1 } else c1
      let s1 := modSess s n fun x => { x with coding := some c2 }
      let s2 := if remote then sendVcu s1 n h (.substream n c.pic.f p) p.data.length else s1
      let s3 := if isSplit x && x.cfg.slices && c.isRef then sendRefBand s2 n h c.pic.f else s2
      let s4 := if (sessHalves x).all fun h => (partOf_ c2 h).isSome then releaseTap s3 n c.pic else s3
      if auComplete x c2 then writeAu s4 n c2 else s4

/-- VCU_PICTURE_CODED (R340). -/
def execVcuPictureCoded (session : Nat) (h : Half) (part : PartResult) (s : State) : Host.Outcome State Fault Refusal :=
  act (.vcuPictureCoded session h part) s (pictureCoded s session h part)

/-- A substream of the other half reaches the lead, which merges the AU once it has both (R333). -/
def substreamArrives (s : State) (n : Nat) (f : Count64) : State :=
  let x := sessAt s n
  match x.coding with
  | some c =>
    if c.pic.f ≠ f ∨ c.owed = 0 then s
    else
      let c1 := { c with owed := c.owed - 1 }
      let s1 := modSess s n fun x => { x with coding := some c1 }
      if auComplete x c1 then writeAu s1 n c1 else s1
  | none => s

/-- VCU_SUBSTREAM_RECEIVED (R333). -/
def execVcuSubstreamReceived (at_ : Half) (s : State) : Host.Outcome State Fault Refusal :=
  act (.vcuSubstreamReceived at_) s (takeMsg s at_ 4 fun m =>
    match m with
    | .substream n f _ => some fun s => substreamArrives s n f
    | _ => none)

/-- VCU_REF_BAND_RECEIVED (R334). -/
def execVcuRefBandReceived (at_ : Half) (s : State) : Host.Outcome State Fault Refusal :=
  act (.vcuRefBandReceived at_) s (takeMsg s at_ 4 fun m =>
    match m with
    | .refBand n _ _ => some fun s => modSess s n fun x => { x with bands := x.bands &&& ~~~ (halfCode at_) }
    | _ => none)

end Sys2Proof.Machine
end

