-- ==== Sys2Proof/Machine/VcuDec.lean ====
section
/-! DEFINITION. Decode sessions: chunks, unsupported sequences, concealment, substituted references, output of pictures and
flushing (R343 to R349, R353). -/

namespace Sys2Proof.Machine

/-! Reading the byte stream (R343, R353). -/

/-- Bytes read from chunks, and the AUs that start among them: the chunks after, and each new AU's host mark. -/
def feedChunks : List Chunk → Nat → List Nat → List Chunk × List (Option Count64)
  | [], _, _ => ([], [])
  | c :: t, n, starts =>
    let k := min n (c.length - c.read)
    let mine := starts.filter fun o => decide (o < k)
    let marks := mine.zipIdx.map fun (_, i) => if c.aus = 0 ∧ i = 0 then c.mark else none
    let c1 := { c with
      read := c.read + k, aus := c.aus + mine.length
      auAt := match mine.getLast? with
        | some o => c.read + o
        | none => c.auAt }
    let (t1, m1) := feedChunks t (n - k) ((starts.filter fun o => decide (k ≤ o)).map fun o => o - k)
    (c1 :: t1, marks ++ m1)

/-- Chunks up to the first that marks the end of the stream. -/
def upToEnd : List Chunk → List Chunk
  | [] => []
  | c :: t => if c.last then [c] else c :: upToEnd t

/-- Bytes that the decoder may read now: up to an END, or to a VCU_FLUSH in progress. -/
def readable (x : Session) : Nat :=
  if x.ending then 0
  else ((upToEnd (if x.flush.isSome then x.chunks.take x.flushChunks else x.chunks)).map fun c => c.length - c.read).sum

/-- The chunks read whole complete, in their order. -/
def finishChunks (h : Half) (n : Nat) : List Chunk → State → State
  | [], s => s
  | c :: t, s =>
    if c.read < c.length then s
    else
      let s1 := modSess s n fun x => { x with
        chunks := x.chunks.tail, flushChunks := x.flushChunks - 1, ending := x.ending || c.last
        st := if c.last then .draining else x.st }
      finishChunks h n t (completeOk s1 c.cmd h (BitVec.ofNat 32 c.length) (BitVec.ofNat 32 c.aus) 0)

/-! Decoded picture buffer (R338, R346, R348). -/

/-- A picture is needed no more: neither a reference nor waiting for output. -/
def deadPic (p : DecPic) : Bool := decide (p.ref = 0) && !p.waits

/-- A pool mark after its picture's own marks. -/
def decMark (p : DecPic) (m : Mark) : Mark := settleMark { m with ref := p.ref, outputPending := p.waits }

/-- Bring the pool marks in line with the decoded picture buffer, and let go of the pictures needed no more (R338, R339). -/
def settleDpb (s : State) (n : Nat) : State :=
  let dpb := (sessAt s n).dpb
  let put := fun (g : DecPic → Option Nat) (ms : List Mark) => dpb.foldl (fun ms p =>
    match g p with
    | some k => ms.modify k (decMark p)
    | none => ms) ms
  modSess s n fun x => { x with
    poolA := put (·.poolA) x.poolA, poolB := put (·.poolB) x.poolB, dpb := x.dpb.filter fun p => !deadPic p }

/-- The picture of a list nearest in output order to an order count; of two equally near, the earlier. -/
def nearest (poc : Int) : List DecPic → Option DecPic
  | [] => none
  | p :: t =>
    some (t.foldl (fun b q =>
      let db := (b.poc - poc).natAbs
      let dq := (q.poc - poc).natAbs
      if dq < db ∨ (dq = db ∧ q.poc < b.poc) then q else b) p)

/-- FLAGS of a picture that another may not be concealed from while a better one exists (R346). -/
def notGood (p : DecPic) : Bool := decide (p.flags &&& 0x7 ≠ 0)

/-- The picture that concealment copies from (R346). -/
def concealFrom (poc : Int) (dpb : List DecPic) : Option DecPic :=
  (nearest poc (dpb.filter fun p => !notGood p)).or (nearest poc dpb)

/-- Middle code of a bit depth. -/
def midCode (depth : Nat) : Nat := 2 ^ (depth - 1)

/-- Chroma samples of a coded picture across a row and rows (Cb and Cr interleaved). -/
def chromaSize (q : SeqInfo) : Nat × Nat :=
  if q.chroma = 0 then (0, 0) else (q.codedW, if q.chroma = 1 then q.codedH / 2 else q.codedH)

/-- A plane with the samples of some units taken from another plane, or the middle code where there is none. `side` is the
unit's columns, `rows` its rows in this plane. -/
def patchPlane (w side rows cols : Nat) (units : List Nat) (mid : Nat) (other : Option (List Nat)) (px : List Nat) : List Nat :=
  let src := match other with
    | some o => o ++ List.replicate (px.length - o.length) mid
    | none => List.replicate px.length mid
  (px.zip src).zipIdx.map fun ((a, b), i) =>
    let u := (i / w / max 1 rows) * cols + (i % w) / max 1 side
    if units.contains u then b else a

/-- Columns of units of a sequence's pictures. -/
def unitCols_ (q : SeqInfo) : Nat := (q.codedW + 2 ^ q.rowLog2 - 1) / 2 ^ q.rowLog2

/-- Rows of units of a sequence's pictures: ROWS of the record. -/
def unitRows_ (q : SeqInfo) : Nat := (q.codedH + 2 ^ q.rowLog2 - 1) / 2 ^ q.rowLog2

/-- A picture's samples with its missing units concealed (R346). -/
def conceal (q : SeqInfo) (p : AuPic) (dpb : List DecPic) : List Nat × List Nat :=
  if p.missing.isEmpty then (p.luma, p.chroma)
  else
    let from_ := concealFrom p.poc dpb
    let side := 2 ^ q.rowLog2
    let mid := midCode q.depth
    let (cw, _) := chromaSize q
    (patchPlane q.codedW side side (unitCols_ q) p.missing mid (from_.map (·.luma)) p.luma,
     patchPlane cw side (if q.chroma = 1 then side / 2 else side) (unitCols_ q) p.missing mid (from_.map (·.chroma)) p.chroma)

/-- Why a sequence is not decoded: the cause of VCU_STREAM_UNSUPPORTED, or none (R311, R344). -/
def unsupported (k : SessCfg) (q : SeqInfo) : Option Nat :=
  let rank := fun (avc : Bool) (l : Nat) => if avc then (avcLevels.map (·.1)).idxOf l else (hevcLevels.map (·.1)).idxOf l
  let count := if k.avc then avcLevels.length else hevcLevels.length
  if decide (k.profile < q.profile) then some 1
  else if q.field then some 4
  else if decide (k.width < q.crop.2.2.1 ∨ k.height < q.crop.2.2.2) || decide (count ≤ rank k.avc q.level) ||
      decide (rank k.avc k.level < rank k.avc q.level) || (q.highTier && !k.highTier) then some 2
  else if decide (q.profile < 2 ∧ 1 < q.chroma) || decide (2 < q.chroma) ||
      (!k.avc && decide (q.profile < 2 ∧ q.chroma = 0)) || !(decide (q.depth = 8) || (decide (q.depth = 10) && decide (1 ≤ q.profile)))
    then some 3
  else none

/-! Samples in memory (R337, R348). -/

/-- FORMAT code of a decoded sequence (R348). -/
def decFormat (q : SeqInfo) : Nat := if q.chroma = 2 then 0x6 else if q.depth = 8 then 0x7 else 0x8

/-- Bytes of a stored sample of a format. -/
def formatBytes (f : Nat) : Nat := if f = 0x7 then 1 else 2

/-- A sample of `depth` bits as it is stored: a byte, or the top of 16 bits. -/
def sampleOut (f depth v : Nat) : List Byte := leBytes (formatBytes f) (if f = 0x7 then v else v * 2 ^ (16 - depth))

/-- Rows of a plane from row `r0`, columns from `c0`, `w` by `h`, written from an address with a pitch. -/
def writePlane (s : State) (h : Half) (addr pitch f depth planeW : Nat) (px : List Nat) (c0 r0 w rows : Nat) : State :=
  (List.range rows).foldl (fun s i =>
    dramWrite s h (addr + i * pitch) (((px.drop ((r0 + i) * planeW + c0)).take w).flatMap (sampleOut f depth))) s

/-- A decoded picture is written in a half, at an address: its part, after cropping, in the layout of R337 and R348. -/
def writePic (s : State) (k : SessCfg) (h : Half) (addr : Nat) (p : DecPic) : State :=
  let q := p.seq
  let (cx, cy, cw, ch) := q.crop
  let (x0, y0, w, rows) := sessPart k h cw ch
  let f := decFormat q
  let pitch := poolPitch k h (formatBytes f)
  let s1 := writePlane s h addr pitch f q.depth q.codedW p.luma (cx + x0) (cy + y0) w rows
  let v := if q.chroma = 2 then 1 else 2
  let (pw, px) := if q.chroma = 0 then (q.codedW, List.replicate (q.codedW * (q.codedH / 2)) (midCode q.depth))
    else (q.codedW, p.chroma)
  writePlane s1 h (addr + poolPlane1 k h (formatBytes f)) pitch f q.depth pw px (cx + x0) ((cy + y0) / v) w (rows / v)

/-! Decoding an AU (R344 to R347). -/

/-- An AU is not decoded (R344, R345). -/
def dropAu (s : State) (n : Nat) : State :=
  modSessCounts (modSess s n fun x => { x with droppedSinceFlush := x.droppedSinceFlush + 1 }) n fun k =>
    { k with droppedAus := satInc k.droppedAus }

/-- A picture that stands for a reference never received: the nearest decoded picture, or a synthesised one (R347). -/
def substPic (dpb : List DecPic) (cvs : Nat) (q : SeqInfo) (poc : Int) : DecPic :=
  match nearest poc dpb with
  | some p => { p with cvs, poc, flags := p.flags ||| 0x2, waits := false, ref := 1, poolA := none, poolB := none }
  | none =>
    let (cw, ch) := chromaSize q
    { cvs, poc, seq := q, flags := 0x4, waits := false, ref := 1
      luma := List.replicate (q.codedW * q.codedH) (midCode q.depth)
      chroma := List.replicate (cw * ch) (midCode q.depth) }

/-- The picture of an AU is decoded: substituted references, concealment, flags, marks, and its place in the decoded picture
buffer (R338, R339, R345 to R347). `newSeq`: it begins a coded video sequence; `whole`: an island reset left it undecoded. -/
def producePic (s : State) (n : Nat) (au : AuResult) (mark : Option Count64) (newSeq : Bool) (p : AuPic) (flags0 : Word) : State :=
  let x := sessAt s n
  let q := if newSeq then au.seq else x.seq
  let cvs := if newSeq then x.cvs + 1 else x.cvs
  let dpb0 := if newSeq && decide (au.irap ≠ 0) then
      x.dpb.map fun d => { d with ref := 0, waits := d.waits && !au.noPrior } else x.dpb
  let isRefOf := fun (m : Int) (d : DecPic) => decide (d.poc = m) && decide (d.ref ≠ 0) && decide (d.cvs = cvs)
  let lost := p.refs.eraseDups.filter fun m => !dpb0.any (isRefOf m)
  let subs := lost.map (substPic dpb0 cvs q)
  let dpb1 := dpb0 ++ subs
  let used := dpb1.filter fun d => p.refs.any fun m => isRefOf m d
  let tainted := decide (au.irap = 0) && used.any fun d => decide (d.flags &&& 0xF ≠ 0)
  let flags : Word := flags0 ||| pack [(0, b2n !p.missing.isEmpty), (1, b2n (!subs.isEmpty && !dpb0.isEmpty)),
    (2, b2n (!subs.isEmpty && dpb0.isEmpty)), (3, b2n tainted), (5, b2n mark.isSome), (6, b2n p.splitEdge)]
  let (luma, chroma) := conceal q p dpb1
  match takePool s n { inUse := true, outputPending := true, poc := p.poc, concealed := decide (flags &&& 7 ≠ 0) } with
  | none => s
  | some (s0, pa, pb) =>
    let d : DecPic :=
      { cvs, poc := p.poc, decodeNumber := x.decodeNumber, flags, units := p.missing.eraseDups.length
        rows := (p.missing.map fun u => u / max 1 (unitCols_ q)).eraseDups, mark, seq := q, luma, chroma, poolA := pa, poolB := pb
        waits := true, ref := if p.isRef then 1 else 0 }
    let kept := dpb1.map fun e => if e.cvs ≠ cvs then { e with ref := 0 } else
      { e with ref := match p.keep.find? fun k => decide (k.1 = e.poc) with
          | some (_, long) => if e.ref = 0 then 0 else if long then 2 else 1
          | none => 0 }
    let s1 := modSess s0 n fun x => { x with
      dpb := kept ++ [d], cvs, seq := q, decodeNumber := x.decodeNumber + 1, discarding := false
      dropRasl := if au.irap ≠ 0 then newSeq && decide (au.irap = 2) else x.dropRasl }
    let put := fun (s : State) (h : Half) (k : Option Nat) (bufs : List Nat) => match k with
      | some k => writePic s x.cfg h (bufs.getD k 0) d
      | none => s
    let s2 := put (put s1 .A pa x.bufsA) .B pb x.bufsB
    let s3 := modSessCounts s2 n fun k => { k with
      pictures := k.pictures + 1
      concealedPictures := if flags &&& 7 ≠ 0 then satInc k.concealedPictures else k.concealedPictures }
    let s4 := if isSplit x && x.cfg.slices && p.isRef then
        sendRefBand (sendRefBand s3 n .A (BitVec.ofInt 64 p.poc)) n .B (BitVec.ofInt 64 p.poc) else s3
    settleDpb s4 n

/-- One AU is decoded, dropped, or discarded with its sequence (R344, R345). -/
def decodeOne (s : State) (n : Nat) (au : AuResult) (mark : Option Count64) (flags0 : Word) : State :=
  let x := sessAt s n
  let starts := decide (au.irap ≠ 0) && (au.first || x.discarding || decide (x.cvs = 0))
  let newSeq := starts || (decide (x.cvs = 0) && !x.discarding)
  match (if newSeq then unsupported x.cfg au.seq else none) with
  | some cause =>
    let s1 := dropAu (modSess s n fun x => { x with discarding := true }) n
    if x.discarding && !au.first then s1 else sessEvent s1 n 0x6007 2 noPoint cause 0 0
  | none =>
    if x.discarding && !newSeq then dropAu s n
    else if au.rasl && x.dropRasl then dropAu s n
    else match au.pic with
      | none => dropAu s n
      | some p => producePic s n au (au.mark.or mark) newSeq p flags0

/-! Output (R348, R349, R353). -/

/-- The picture that is output next: the first in output order that waits. -/
def nextOut (x : Session) : Option DecPic :=
  (x.dpb.filter (·.waits)).foldl (fun b p =>
    match b with
    | none => some p
    | some q => if p.cvs < q.cvs ∨ (p.cvs = q.cvs ∧ p.poc < q.poc) then some p else b) none

/-- The session flushes: everything before a VCU_FLUSH or an END has been read. -/
def flushes (x : Session) : Bool := x.ending || (x.flush.isSome && decide (x.flushChunks = 0) && x.auMarks.isEmpty)

/-- The standard's bumping process outputs a picture now (R348). -/
def outputDue (x : Session) : Bool :=
  let w := x.dpb.filter (·.waits)
  !w.isEmpty && (flushes x || decide (x.seq.reorder < w.length) || decide (x.seq.buffers < x.dpb.length) ||
    w.any fun p => decide (p.cvs ≠ x.cvs))

/-- The output buffer that the next picture takes; none where it must wait. -/
def outBuffer (s : State) (x : Session) (p : DecPic) : Option Nat :=
  if x.cfg.compat then if sessHalf s x = .A then p.poolA else p.poolB
  else (List.range (((sessOutIn x (sessHalf s x)).getD {}).recs)).find? fun k => !x.hostBufs.contains k

/-- A wait for an output buffer is counted once (R348, R354). -/
def countWait (s : State) (n : Nat) : State :=
  let x := sessAt s n
  match nextOut x with
  | some p =>
    if outputDue x && (outBuffer s x p).isNone && !x.stalled then
      modSessCounts (modSess s n fun x => { x with stalled := true }) n fun k => { k with outputStalls := satInc k.outputStalls }
    else s
  | none => s

/-- A flush or an END is done once no picture waits; a VCU_FLUSH completes (R315, R353). -/
def settleFlush (s : State) (n : Nat) : State :=
  let x := sessAt s n
  if !flushes x || !x.auMarks.isEmpty || (nextOut x).isSome then s
  else
    let whole := x.flush.isSome && decide (x.flushChunks = 0)
    let s1 := modSess s n fun x => { x with
      ending := false, flush := if whole then none else x.flush, outSinceFlush := 0, droppedSinceFlush := 0
      st := if whole || x.flush.isNone then .running else .draining }
    match x.flush with
    | some c =>
      if whole then completeOk s1 c (sessHalf s x) (BitVec.ofNat 32 x.outSinceFlush) (BitVec.ofNat 32 x.droppedSinceFlush) 0 else s1
    | none => s1

/-- The record of a picture output (R349). -/
def picRecord (n : Nat) (k : SessCfg) (p : DecPic) (buf : Nat) (number : Count64) : List Word :=
  let q := p.seq
  let (_, _, w, h) := q.crop
  let map := (List.range 16).map fun i => pack ((List.range 32).map fun j => (j, b2n (p.rows.contains (32 * i + j))))
  let mark := p.mark.getD 0
  [pack [(0, 0xDEC0), (16, n), (20, buf), (26, b2n k.compat)], p.flags, lo32 number.toNat, hi32 number.toNat,
   BitVec.ofInt 32 p.poc, lo32 p.decodeNumber, lo32 mark.toNat, hi32 mark.toNat, pack [(0, w), (16, h)],
   pack [(0, decFormat q), (4, q.chroma), (6, q.depth), (10, q.rowLog2), (16, unitRows_ q)], lo32 p.units, 0, 0, 0, 0, 0] ++
   map ++ List.replicate 31 0

/-- VCU_PICTURE_OUTPUT: the next picture in output order takes its buffer and its record (R348, R349). -/
def pictureOutput (s : State) (n : Nat) : State :=
  let x := sessAt s n
  match nextOut x with
  | none => s
  | some p =>
    match outBuffer s x p with
    | none => s
    | some k =>
      if !outputDue x || !x.cfg.decode then s
      else
        let h := sessHalf s x
        let o := (sessOutIn x h).getD {}
        let num := x.outputNumber
        let s1 := if x.cfg.compat then s
          else (sessHalves x).foldl (fun s h =>
            let o := (sessOutIn x h).getD {}
            writePic s x.cfg h (o.base + k * o.size * 4096) p) s
        let slots := if x.cfg.compat then (refOf x.cfg h).2 else o.recs
        let idx := num.toNat % max 1 slots
        let s2 := dramWrite s1 h (o.recBase + 256 * idx) (withCrc (picRecord n x.cfg p k num))
        let give := fun (g : Option Nat) (ms : List Mark) => match g with
          | some i => ms.modify i fun m => { m with hostHeld := true, number := num }
          | none => ms
        let s3 := modSess s2 n fun x => { x with
          dpb := x.dpb.map fun e => if e.decodeNumber = p.decodeNumber ∧ e.waits then { e with waits := false } else e
          outputNumber := num + 1, outSinceFlush := x.outSinceFlush + 1, stalled := false
          hostBufs := if x.cfg.compat then x.hostBufs else insertUp k x.hostBufs
          poolA := give p.poolA x.poolA, poolB := give p.poolB x.poolB }
        let s4 := settleDpb s3 n
        let s5 := if o.report then sessEvent s4 n 0x6005 0 num idx p.flags.toNat 0 else s4
        let s6 := if p.flags.getLsbD 0 then sessEvent s5 n 0x6006 1 num p.units p.flags.toNat 0 else s5
        countWait (settleFlush s6 n) n

/-- VCU_PICTURE_OUTPUT. -/
def execVcuPictureOutput (session : Nat) (s : State) : Host.Outcome State Fault Refusal :=
  act (.vcuPictureOutput session) s (pictureOutput s session)

/-- The decoder may finish an AU now: it waits for output (R348), for a pool buffer (R339) and for reference rows (R334). -/
def mayDecode (s : State) (n : Nat) : Bool :=
  let x := sessAt s n
  x.cfg.decode && (decide (x.st = .running) || decide (x.st = .draining)) && decide (x.bands = 0) &&
    (!outputDue x || (flushes x && !x.auMarks.isEmpty)) && islandRuns s (sessHalf s x) .vcu &&
    (!x.cfg.compat || (sessHalves x).all fun h => (freeMark (marksIn x h)).isSome)

/-- VCU_AU_DECODED: the decoder reads on, and ends an AU (R343 to R347). -/
def auDecoded (s : State) (n : Nat) (au : AuResult) : State :=
  let x := sessAt s n
  if !mayDecode s n || decide (readable x < au.read) || (au.starts.any fun o => decide (au.read ≤ o)) then s
  else
    let (chunks, marks) := feedChunks x.chunks au.read au.starts
    let s1 := modSessCounts (modSess s n fun x => { x with chunks, auMarks := x.auMarks ++ marks }) n fun k =>
      { k with syntaxErrors := satAdd k.syntaxErrors au.errors }
    let s2 := match au.ended, (sessAt s1 n).auMarks with
      | true, m :: rest => decodeOne (modSess s1 n fun x => { x with auMarks := rest }) n au m 0
      | _, _ => s1
    countWait (settleFlush (finishChunks (sessHalf s x) n chunks s2) n) n

/-- VCU_AU_DECODED (R345). -/
def execVcuAuDecoded (session : Nat) (au : AuResult) (s : State) : Host.Outcome State Fault Refusal :=
  act (.vcuAuDecoded session au) s (auDecoded s session au)

end Sys2Proof.Machine
end

