-- ==== Sys2Proof/Machine/VcuCmd.lean ====
section
/-! DEFINITION. The VCU_ commands, and what resets and the loss of the Mortar link do to sessions (R311 to R319, R330, R336,
R340 to R354). -/

namespace Sys2Proof.Machine

/-! Opening (R311 to R314, R331, R337). -/

/-- Parameters of VCU_OPEN_SESSION. -/
def sessCfgOf (c : Cmd) : SessCfg :=
  { decode := pb c 2 4, avc := pb c 2 5, half := BitVec.ofNat 2 (pf c 2 7 6), slices := pb c 2 8, compat := pb c 2 9
    hostInput := pb c 2 10, highTier := pb c 2 11, profile := pf c 2 14 12, level := pf c 2 23 16, width := pf c 3 15 0
    height := pf c 3 31 16, splitPos := pf c 4 15 0, ctx := pf c 4 20 16, tap := pf c 4 24 21, rateNum := (dw c 5).toNat
    rateDen := (dw c 6).toNat, gopLen := pf c 7 15 0, bFrames := pf c 7 17 16, numRef := pf c 7 20 18, markSei := pb c 7 21
    dpb := pf c 7 26 22, qpMin := pf c 8 5 0, qpMax := pf c 8 13 8, colour := BitVec.ofNat 8 (pf c 8 21 14), refA := pq c 9
    refASize := (dw c 11).toNat, refB := pq c 12, refBSize := (dw c 14).toNat }

/-- Halves of a session's parameters. -/
def cfgHalves (k : SessCfg) : List Half := (if k.half.getLsbD 0 then [.A] else []) ++ if k.half.getLsbD 1 then [.B] else []

/-- VCU_OPEN_SESSION. -/
def opVcuOpenSession (c : Cmd) (_h : Half) (s : State) : Reply × State :=
  let n := pf c 2 3 0
  let k := sessCfgOf c
  let hs := cfgHalves k
  let idle := fun (h : Half) (d : Nat) => !hs.contains h && decide (dw c d ≠ 0)
  let first := if hs.contains .A && !refsOk s k .A then 9 else 12
  match firstErr (rsv c [(2, 0xFF008000), (4, 0xFE000000), (7, 0xF8000000), (8, 0xFFC000C0)] ++
      [((k.decode && k.hostInput) || (decide (k.half ≠ 3) && k.slices) || (k.avc && k.highTier), badParam 0x03 2),
       (decide (k.half ≠ 3 ∧ k.splitPos ≠ 0), badParam 0x03 4), (idle .A 9, badParam 0x03 9), (idle .A 10, badParam 0x03 10),
       (idle .A 11, badParam 0x03 11), (idle .B 12, badParam 0x03 12), (idle .B 13, badParam 0x03 13), (idle .B 14, badParam 0x03 14)] ++
      bad [(2, decide (k.half = 0)), (4, !k.decode && !k.hostInput && decide (11 < k.tap)), (5, decide (k.rateNum = 0)),
        (6, decide (k.rateDen = 0)),
        (7, if k.decode then decide (k.dpb = 0 ∨ 16 < k.dpb) else decide (k.gopLen = 0 ∨ k.numRef = 0 ∨ 4 < k.numRef)),
        (8, !k.decode && (decide (51 < k.qpMin ∨ 51 < k.qpMax ∨ k.qpMax < k.qpMin) ||
          (k.hostInput && (decide (pf c 8 16 14 = 5) || decide (pf c 8 16 14 = 6) || decide (pf c 8 19 17 = 7)))))] ++
      [(!formatOk k, badParam 0x61 2), (!splitOk k, badParam 0x69 4), (hs.any fun h => !refsOk s k h, badParam 0x65 first),
       (decide ((sessAt s n).st ≠ .closed), wrongState 0x60)] ++ hs.flatMap (dramChecks s) ++
      [(hs.any fun h => !carries (k :: sessionsOf s h) h, err stNoMemory 0x62)]) with
  | some e => (e, s)
  | none =>
    let marks := fun (h : Half) => if k.compat && hs.contains h then List.replicate (refOf k h).2 ({} : Mark) else []
    let bufs := fun (h : Half) => if hs.contains h then poolList s k h else []
    (ok, modSess s n fun _ =>
      { st := .open_, cfg := k, bits := if k.profile = 0 then 8 else 10, vui := k.colour, poolA := marks .A, poolB := marks .B
        bufsA := bufs .A, bufsB := bufs .B })

/-! Output (R340, R348). -/

/-- The session is of the wrong direction for a command; a closed session fails on its state instead. -/
def wrongDir (s : State) (n : Nat) (decode : Bool) : Bool × Reply :=
  (decide ((sessAt s n).st ≠ .closed) && decide ((sessAt s n).cfg.decode ≠ decode), badParam 0x67 2)

/-- Output parameters of VCU_SET_OUTPUT. -/
def sessOutOf (c : Cmd) (decode : Bool) : SessOut :=
  { inDram := decode || pb c 2 4, report := pb c 2 5, base := pq c 3, size := (dw c 5).toNat, recs := pf c 6 6 0, recBase := pq c 7 }

/-- The rings of an encode session are valid (R340). -/
def encOutOk (s : State) (h : Half) (o : SessOut) : Bool :=
  let m := (half s h).mem
  decide (20 ≤ o.size ∧ o.size ≤ 34 ∧ 4 ≤ o.recs ∧ o.recs ≤ 16) && o.base % 4096 = 0 && o.recBase % 4096 = 0 &&
    !overlap o.base (2 ^ o.size) o.recBase (64 * 2 ^ o.recs) &&
    (!o.inDram || (backedRange m o.base (2 ^ o.size) && backedRange m o.recBase (64 * 2 ^ o.recs)))

/-- The output ring of a decode session in a half is valid (R348, R349). -/
def decOutOk (s : State) (k : SessCfg) (h : Half) (o : SessOut) : Bool :=
  let m := (half s h).mem
  if k.compat then
    decide (o.base = 0 ∧ o.recs = 0) && o.recBase % 4096 = 0 && backedRange m o.recBase (256 * (refOf k h).2)
  else
    decide (2 ≤ o.recs ∧ o.recs ≤ 64) && o.base % 4096 = 0 && o.recBase % 4096 = 0 && decide (poolBytes k h ≤ o.size * 4096) &&
      backedRange m o.base (o.recs * o.size * 4096) && backedRange m o.recBase (256 * o.recs) &&
      !overlap o.base (o.recs * o.size * 4096) o.recBase (256 * o.recs)

/-- VCU_SET_OUTPUT. -/
def opVcuSetOutput (c : Cmd) (h : Half) (s : State) : Reply × State :=
  let n := pf c 2 3 0
  let x := sessAt s n
  let k := x.cfg
  let open_ := decide (x.st ≠ .closed)
  let named := if k.decode ∧ k.half = 3 then halfOfCode (pf c 2 7 6) else some h
  let hf := named.getD h
  let o := sessOutOf c k.decode
  let valid := if k.decode then decOutOk s k hf o else encOutOk s hf o
  match firstErr (rsv c [(2, 0xFFFFFF00), (6, 0xFFFFFF80), (9, 0xFFFFFFFF)] ++
      [(open_ && named.isNone, badValue 2), (open_ && !valid, badParam 0x64 3), sessState s n [.open_]] ++
      if o.inDram then dramChecks s hf else []) with
  | some e => (e, s)
  | none =>
    let s1 := modSess s n fun x => if hf = .A then { x with outA := some o } else { x with outB := some o }
    let s2 := if k.decode then
        modSess s1 n fun x => { x with
          st := if (sessHalves x).all fun h => (sessOutIn x h).isSome then .running else x.st }
      else modSess s1 n fun x => { x with dataPos := 0, recPos := 0, dataHead := 0, recHead := 0, stalled := false }
    (ok, s2)

/-! Rate, start, stop (R315 to R317, R320, R330, R352). -/

/-- VCU_SET_RATE. -/
def opVcuSetRate (c : Cmd) (h : Half) (s : State) : Reply × State :=
  let n := pf c 2 3 0
  let r := rateOf c
  match firstErr (rsv c [(2, 0xFFFFFF00)] ++
      bad [(2, decide (3 < r.mode)), (6, decide (r.initFull = 0 ∨ 100 < r.initFull ∨ 51 < r.qpI ∨ 51 < r.qpP ∨ 51 < r.qpB))] ++
      [wrongDir s n false, (decide ((sessAt s n).st ≠ .closed) && !rateOk (sessAt s n).cfg r, badParam 0x66 3),
       sessState s n [.open_, .starting, .running, .stopping]]) with
  | some e => (e, s)
  | none => (.deferred 1, stage s c .vcuSetRate h (.vcu n))

/-- The source tap is invalid for the session (R317). -/
def tapInvalid (s : State) (x : Session) : Bool :=
  let k := x.cfg
  let z := ctxAt s k.ctx
  let t := tget z.taps k.tap
  let h := sessHalf s x
  decide (z.st = .closed) || decide (tapCount z ≤ k.tap) || !tapFormatOk k t.cfg.format ||
    decide (t.cfg.ow ≠ k.width ∨ t.cfg.oh ≠ k.height) || decide (ringCount t (halvesOf z) < k.bFrames + 3) ||
    (if isSplit x then !z.span || decide (outSplit z t.cfg ≠ k.splitPos)
     else !(halvesOf z).contains h || (z.span && decide ((partOf z t.cfg (otherHalf h)).2 ≠ 0)))

/-- The picture description of a tap's settings, as VCU_OPEN_SESSION packs it (R322). -/
def tapVui (t : TapCfg) : BitVec 8 :=
  BitVec.ofNat 8 (t.gamut + 8 * t.tf + 64 * b2n t.ycc + 128 * b2n t.full)

/-- VCU_START. -/
def opVcuStart (c : Cmd) (h : Half) (s : State) : Reply × State :=
  let n := pf c 2 3 0
  let x := sessAt s n
  let k := x.cfg
  match firstErr (rsv c [(2, 0xFFFFFFF0)] ++ [wrongDir s n false,
      (decide (x.st ≠ .closed) && !splitOk k, badParam 0x69 2),
      (decide (x.st ≠ .closed) && !k.hostInput && tapInvalid s x, badParam 0x63 2), sessState s n [.open_],
      ((encOut s x).isNone || (rateSoon s n).isNone, wrongState 0x60)]) with
  | some e => (e, s)
  | none =>
    let t := (tget (ctxAt s k.ctx).taps k.tap).cfg
    let s1 := modSess s n fun x => { x with
      st := .starting, lastIdr := none, lastTime := none, plan := [], times := [], bands := 0, skipping := false, skippedBefore := 0
      lastPic := none
      bits := if k.hostInput then x.bits else if t.format = 0x7 then 8 else 10
      vui := if k.hostInput then k.colour else tapVui t }
    (.deferred 1, stage s1 c .vcuStart h (.vcu n))

/-- VCU_STOP: the pictures held are still coded; with none held, the stream ends where it stands. -/
def opVcuStop (c : Cmd) (h : Half) (s : State) : Reply × State :=
  let n := pf c 2 3 0
  let x := sessAt s n
  match firstErr (rsv c [(2, 0xFFFFFFF0)] ++ [wrongDir s n false, sessState s n [.running]]) with
  | some e => (e, s)
  | none =>
    if x.held.isEmpty && x.coding.isNone then
      let s1 := (appendAu s n (eosBytes x.cfg.avc)).2
      (.deferred 1, stage (modSess s1 n fun x => { x with st := .open_ }) c .vcuStop h
        (.now (x.lastCoded.getD noPoint) (sessStream s x)))
    else (.deferred 1, stage (modSess s n fun x => { x with st := .stopping }) c .vcuStop h (.vcuLast n))

/-- VCU_REQUEST_IRAP. -/
def opVcuRequestIrap (c : Cmd) (h : Half) (s : State) : Reply × State :=
  let n := pf c 2 3 0
  match firstErr (rsv c [(2, 0xFFFFFFF0)] ++ [wrongDir s n false, sessState s n [.starting, .running]]) with
  | some e => (e, s)
  | none => (.deferred 1, stage s c .vcuRequestIrap h (.vcuIrap n))

/-! Closing and stopping (R315, R336, R350). -/

/-- A staged change waits for session `n`. -/
def ofSess (n : Nat) (x : Staged) : Bool := decide (x.key = .vcu n) || decide (x.key = .vcuIrap n) || decide (x.key = .vcuLast n)

/-- Release every tap buffer that a session holds. -/
def releaseTaps (s : State) (n : Nat) : State :=
  let x := sessAt s n
  (x.held ++ (x.coding.map (·.pic)).toList).foldl (fun s p => releaseTap s n p) s

/-- A session closes: its holds go, and what was staged for it is withdrawn. -/
def closeSess (s : State) (n : Nat) : State :=
  modSess (withdraw (releaseTaps s n) (ofSess n)) n fun _ => {}

/-- VCU_CLOSE_SESSION. -/
def opVcuCloseSession (c : Cmd) (_h : Half) (s : State) : Reply × State :=
  let n := pf c 2 3 0
  let x := sessAt s n
  let may := decide (x.st = .open_) || (x.cfg.decode && decide (x.st = .running) && x.chunks.isEmpty)
  match firstErr (rsv c [(2, 0xFFFFFFF0)] ++ [(!may, wrongState 0x60)]) with
  | some e => (e, s)
  | none => (ok, closeSess s n)

/-- Commands in flight that a session carries out. -/
def sessCmds (x : Session) : List Cmd :=
  (x.held ++ (x.coding.map (·.pic)).toList).filterMap (·.cmd) ++ x.chunks.map (·.cmd) ++ x.flush.toList

/-- A stopped session's marks: nothing is a reference or waits. -/
def idleMarks (ms : List Mark) : List Mark := ms.map fun m => settleMark { m with ref := 0, outputPending := false }

/-- A split session stops with its commands completing with a status; it returns to OPEN (R336). -/
def vcuSplitStopped (s : State) (n : Nat) (status : BitVec 16) (cause : Nat) : State :=
  let x := sessAt s n
  if !isSplit x || decide (x.st = .closed) then s
  else if x.st = .open_ then s
  else
    let h := sessHalf s x
    let mine := s.staged.filter (ofSess n)
    let s1 := (sessCmds x).foldl (fun s c => complete s c h status 0 0xFFFF 0 0 0)
      (releaseTaps { s with staged := s.staged.filter fun z => !ofSess n z } n)
    let s2 := mine.foldl (fun s z => reportEffect s z.exec { withdrawn z with status }) s1
    let s3 := modSess s2 n fun x => { x with
      st := .open_, held := [], coding := none, plan := [], times := [], bands := 0, chunks := [], flush := none, flushChunks := 0
      ending := false, auMarks := [], dpb := [], cvs := 0, seq := {}, discarding := false, dropRasl := false
      poolA := idleMarks x.poolA, poolB := idleMarks x.poolB
      outA := if x.cfg.decode then none else x.outA, outB := if x.cfg.decode then none else x.outB }
    sessEvent s3 n 0x6008 2 (x.lastCoded.getD noPoint) cause 0 0

/-- Every split session stops. -/
def vcuSplitsStop (s : State) (status : BitVec 16) (cause : Nat) : State :=
  (List.range 16).foldl (fun s n => vcuSplitStopped s n status cause) s

/-! Island resets (R351). -/

/-- The picture that an island reset interrupts in a decode session: concealed in full, with ISLAND_RESET. -/
def concealWhole (s : State) (n : Nat) : State :=
  let x := sessAt s n
  match x.auMarks with
  | [] => s
  | m :: _ =>
    if x.cvs = 0 then modSess s n fun x => { x with auMarks := [] }
    else
      let (k, s1) := fresh s
      let q := x.seq
      let (cw, ch) := chromaSize q
      let p : AuPic :=
        { poc := Int.ofNat (Config.freeNat k)
          keep := (x.dpb.filter fun d => decide (d.ref ≠ 0)).map fun d => (d.poc, decide (d.ref = 2))
          luma := List.replicate (q.codedW * q.codedH) 0, chroma := List.replicate (cw * ch) 0
          missing := List.range (unitCols_ q * unitRows_ q) }
      producePic (modSess s1 n fun x => { x with auMarks := [] }) n {} m false p 0x10

/-- A VCU island reset in half `h`, for session `n`: an encoded picture is coded again; a decoded one is concealed, and the
chunks being read complete with ISLAND_RESET. -/
def sessIslandReset (h : Half) (s : State) (n : Nat) : State :=
  let x := sessAt s n
  if !sessIn x h then s
  else if x.cfg.decode then
    let at_ := sessHalf s x
    let s1 := x.chunks.foldl (fun s c =>
      complete s c.cmd at_ stIslandReset 0 0xFFFF (BitVec.ofNat 32 c.auAt) (BitVec.ofNat 32 c.aus) 0) s
    let s2 := concealWhole (modSess s1 n fun x => { x with chunks := [], flushChunks := 0 }) n
    settleFlush s2 n
  else modSess s n fun x => { x with
    coding := x.coding.map fun c => { c with partA := none, partB := none, again := true } }

/-- A VCU island reset in half `h` (R351). -/
def vcuIslandReset (s : State) (h : Half) : State := (List.range 16).foldl (sessIslandReset h) s

/-! Pictures and chunks from the host (R319, R343, R353). -/

/-- A submitted picture's planes are aligned and lie in DRAM. -/
def planesBad (s : State) (k : SessCfg) (c : Cmd) (h : Half) (d : Nat) : Bool :=
  let m := (half s h).mem
  let rows := (partSize k h).2
  let pitch := (dw c 7).toNat
  decide (pq c d % 64 ≠ 0 ∨ pq c (d + 2) % 64 ≠ 0) || !backedRange m (pq c d) (pitch * rows) ||
    !backedRange m (pq c (d + 2)) (pitch * if is422 k then rows else rows / 2)

/-- VCU_SUBMIT_PICTURE: an unsplit session's picture is given by Y_A and C_A, in its half. -/
def opVcuSubmitPicture (c : Cmd) (h : Half) (s : State) : Reply × State :=
  let n := pf c 2 3 0
  let x := sessAt s n
  let k := x.cfg
  let open_ := decide (x.st ≠ .closed)
  let split := decide (k.half = 3)
  let num := BitVec.ofNat 64 (pq c 12)
  let stale := match x.lastPic with
    | some p => decide (num ≤ p)
    | none => false
  match firstErr (rsv c [(2, 0xFFFFFFC0)] ++
      [(open_ && !split && decide (dw c 8 ≠ 0 ∨ dw c 9 ≠ 0), badParam 0x03 8),
       (open_ && !split && decide (dw c 10 ≠ 0 ∨ dw c 11 ≠ 0), badParam 0x03 10)] ++
      bad [(7, decide ((dw c 7).toNat % 64 ≠ 0) || (open_ && decide ((dw c 7).toNat < (partSize k h).1 * sampleBytes k)))] ++
      [wrongDir s n false, (open_ && !k.hostInput, badParam 0x67 2),
       (open_ && planesBad s k c (if split then .A else h) 3, badValue 3), (open_ && split && planesBad s k c .B 8, badValue 8),
       (open_ && stale, badParam 0x6A 12), sessState s n [.starting, .running],
       (decide (k.bFrames + 2 ≤ heldCount x), err stBusy 0)]) with
  | some e => (e, s)
  | none =>
    let p : EncPic :=
      { f := num, cmd := some c, forceIdr := pb c 2 4, mark := if pb c 2 5 then some (BitVec.ofNat 64 (pq c 14)) else none }
    (.running, modSess s n fun x => { x with held := x.held ++ [p], lastPic := some num })

/-- VCU_DECODE_DATA. -/
def opVcuDecodeData (c : Cmd) (h : Half) (s : State) : Reply × State :=
  let n := pf c 2 3 0
  let len := pf c 5 23 0
  let lost := if pb c 2 6 then !backedRange (half s h).mem (pq c 3) len else !hostOk s (pq c 3) len
  match firstErr (rsv c [(2, 0xFFFFFF80), (5, 0xFF000000)] ++ bad [(5, decide (len = 0))] ++
      [wrongDir s n true, (pb c 2 6 && lost, badValue 3), sessState s n [.running, .draining],
       (lost, err stDataCorrupt 0x04)]) with
  | some e => (e, s)
  | none =>
    let k : Chunk :=
      { cmd := c, length := len, last := pb c 2 4, mark := if pb c 2 5 then some (BitVec.ofNat 64 (pq c 6)) else none }
    (.running, modSess s n fun x => { x with chunks := x.chunks ++ [k] })

/-- VCU_FLUSH. -/
def opVcuFlush (c : Cmd) (_h : Half) (s : State) : Reply × State :=
  let n := pf c 2 3 0
  match firstErr (rsv c [(2, 0xFFFFFFF0)] ++ [wrongDir s n true, sessState s n [.running]]) with
  | some e => (e, s)
  | none =>
    (.running, countWait (settleFlush (modSess s n fun x => { x with
      st := .draining, flush := some c, flushChunks := x.chunks.length }) n) n)

/-! Consumption and buffers (R342, R348). -/

/-- VCU_CONSUMED. -/
def opVcuConsumed (c : Cmd) (_h : Half) (s : State) : Reply × State :=
  let n := pf c 2 3 0
  let x := sessAt s n
  let dh := pq c 3
  let rh := x.recHead / 2 ^ 32 * 2 ^ 32 + (dw c 5).toNat
  let rh1 := if rh < x.recHead ∧ rh + 2 ^ 32 ≤ x.recPos then rh + 2 ^ 32 else rh
  match firstErr (rsv c [(2, 0xFFFFFFF0)] ++ [wrongDir s n false, sessState s n [.open_, .starting, .running, .stopping],
      (decide (dh < x.dataHead ∨ x.dataPos < dh ∨ rh1 < x.recHead ∨ x.recPos < rh1), wrongState 0x68)]) with
  | some e => (e, s)
  | none => (ok, modSess s n fun x => { x with dataHead := dh, recHead := rh1, stalled := false })

/-- VCU_PICTURE_BUFFER. -/
def opVcuPictureBuffer (c : Cmd) (h : Half) (s : State) : Reply × State :=
  let n := pf c 2 3 0
  let x := sessAt s n
  let k := pf c 2 9 4
  let named := if x.cfg.compat ∧ x.cfg.half = 3 then halfOfCode (pf c 2 11 10) else some h
  let hf := named.getD h
  let held := if x.cfg.compat then ((marksIn x hf).getD k {}).hostHeld else x.hostBufs.contains k
  match firstErr (rsv c [(2, 0xFFFFF000)] ++ [(named.isNone, badValue 2), wrongDir s n true,
      sessState s n [.open_, .running, .draining], (!held, wrongState 0x68)]) with
  | some e => (e, s)
  | none =>
    if x.cfg.compat then (ok, modMarks s n hf fun ms => ms.modify k fun m => settleMark { m with hostHeld := false })
    else (ok, modSess s n fun x => { x with hostBufs := x.hostBufs.filter fun b => decide (b ≠ k), stalled := false })

/-- A pool mark entry (R338). -/
def markWords (m : Mark) : List Word :=
  [pack [(0, m.ref.toNat), (2, b2n m.outputPending), (3, b2n m.hostHeld), (4, b2n m.concealed), (5, b2n m.inUse)],
   BitVec.ofInt 32 m.poc, lo32 m.number.toNat, hi32 m.number.toNat]

/-- VCU_GET_POOL: 32 entries, those beyond the pool at their reset values. -/
def opVcuGetPool (c : Cmd) (_h : Half) (s : State) : Reply × State :=
  let n := pf c 2 3 0
  let x := sessAt s n
  let hf := (halfOfCode (pf c 2 5 4)).getD .A
  match firstErr (rsv c [(2, 0xFFFFFFC0)] ++
      bad [(2, (halfOfCode (pf c 2 5 4)).isNone || (decide (x.st ≠ .closed) && !sessIn x hf)), (3, decide (pq c 3 % 32 ≠ 0))] ++
      [(decide (x.st = .closed), wrongState 0x60)]) with
  | some e => (e, s)
  | none =>
    let ms := marksIn x hf
    writeRecord s c (pq c 3) (dwordBytes ((List.range 32).flatMap fun i => markWords (ms.getD i {}))) ok

/-! Status (R354). -/

/-- SSTATE code. -/
def sessCode : SessState → Nat
  | .closed => 0
  | .open_ => 1
  | .starting => 2
  | .running => 3
  | .stopping => 4
  | .draining => 5

/-- The status record of a session in a half; LOAD and REF_PEAK are free values. -/
def sessRecord (s : State) (n : Nat) (h : Half) (k : Nat) : List Word :=
  let x := sessAt s n
  let q := if h = .A then x.cntA else x.cntB
  [pack [(0, n), (4, halfNum h), (6, sessCode x.st), (9, b2n x.cfg.decode)],
   BitVec.setWidth 32 (BitVec.setWidth 16 (Config.freeWord k)), lo32 q.pictures.toNat, hi32 q.pictures.toNat, q.skippedInput, q.exhausted,
   q.concealedPictures, q.droppedAus, q.syntaxErrors, q.outputStalls, Config.freeWord (k + 1),
   BitVec.ofNat 32 (min (q.mortarBytes / 1024) 0xFFFFFFFF), 0, 0, 0, 0]

/-- VCU_GET_STATUS. -/
def opVcuGetStatus (c : Cmd) (_h : Half) (s : State) : Reply × State :=
  let n := pf c 2 3 0
  let x := sessAt s n
  match firstErr (rsv c [(2, 0xFFFFFFF0)] ++ bad [(3, decide (pq c 3 % 32 ≠ 0))] ++ [(decide (x.st = .closed), wrongState 0x60)]) with
  | some e => (e, s)
  | none =>
    let k := s.sys.fresh
    let s1 := modDev s fun d => { d with fresh := d.fresh + 4 }
    writeRecord s1 c (pq c 3)
      (dwordBytes ((sessHalves x).flatMap fun h => sessRecord s n h (k + 2 * halfIdx h))) ok

/-! Aborts (R58). -/

/-- A host picture leaves the session: a group planned with it is planned anew. -/
def dropPicture (s : State) (n : Nat) (serial : Nat) : State :=
  let other := fun (p : EncPic) => decide ((p.cmd.map (·.serial)) ≠ some serial)
  modSess s n fun x =>
    let coded := x.coding.filter fun c => !other c.pic
    let free := fun (k : Option Nat) (ms : List Mark) => match k with
      | some k => ms.modify k fun m => settleMark { m with ref := 0 }
      | none => ms
    let marks := fun (g : Coding → Option Nat) (ms : List Mark) => free (coded.bind g) ms
    { x with
      held := x.held.filter other, plan := [], times := []
      coding := x.coding.filter fun c => other c.pic
      lastIdr := if (coded.map (·.idr)).getD false then none else x.lastIdr
      poolA := marks (·.poolA) x.poolA, poolB := marks (·.poolB) x.poolB }

/-- A running VCU command is aborted. -/
def abortVcu (op : Op) (c : Cmd) (s : State) : State :=
  let n := pf c 2 3 0
  match op with
  | .vcuSubmitPicture => settleStop (dropPicture s n c.serial) n
  | .vcuDecodeData => modSess s n fun x =>
      let i := (x.chunks.map (·.cmd.serial)).idxOf c.serial
      { x with chunks := x.chunks.filter fun k => decide (k.cmd.serial ≠ c.serial)
               flushChunks := if i < x.flushChunks then x.flushChunks - 1 else x.flushChunks }
  | .vcuFlush => modSess s n fun x => { x with flush := none, flushChunks := 0, st := if x.ending then .draining else .running }
  | _ => s

/-- A staged start or stop of a session is cancelled: the session stands as before it. -/
def cancelVcu (op : Op) (c : Cmd) (s : State) : State :=
  let n := pf c 2 3 0
  match op with
  | .vcuStart => modSess (releaseTaps s n) n fun x => if x.st = .starting then { x with st := .open_, held := [], plan := [], times := [] } else x
  | .vcuStop => modSess s n fun x => if x.st = .stopping then { x with st := .running } else x
  | _ => s

/-! Rows of the commands. -/

/-- VCU_OPEN_SESSION (R313). -/
def execVcuOpenSession (c : Cmd) (s : State) : Host.Outcome State Fault Refusal := submit (.vcuOpenSession c) .vcuOpenSession opVcuOpenSession c s

/-- VCU_SET_OUTPUT (R340). -/
def execVcuSetOutput (c : Cmd) (s : State) : Host.Outcome State Fault Refusal := submit (.vcuSetOutput c) .vcuSetOutput opVcuSetOutput c s

/-- VCU_SET_RATE (R330). -/
def execVcuSetRate (c : Cmd) (s : State) : Host.Outcome State Fault Refusal := submit (.vcuSetRate c) .vcuSetRate opVcuSetRate c s

/-- VCU_START (R316). -/
def execVcuStart (c : Cmd) (s : State) : Host.Outcome State Fault Refusal := submit (.vcuStart c) .vcuStart opVcuStart c s

/-- VCU_STOP (R352). -/
def execVcuStop (c : Cmd) (s : State) : Host.Outcome State Fault Refusal := submit (.vcuStop c) .vcuStop opVcuStop c s

/-- VCU_REQUEST_IRAP (R320). -/
def execVcuRequestIrap (c : Cmd) (s : State) : Host.Outcome State Fault Refusal := submit (.vcuRequestIrap c) .vcuRequestIrap opVcuRequestIrap c s

/-- VCU_CLOSE_SESSION (R315). -/
def execVcuCloseSession (c : Cmd) (s : State) : Host.Outcome State Fault Refusal := submit (.vcuCloseSession c) .vcuCloseSession opVcuCloseSession c s

/-- VCU_SUBMIT_PICTURE (R319). -/
def execVcuSubmitPicture (c : Cmd) (s : State) : Host.Outcome State Fault Refusal := submit (.vcuSubmitPicture c) .vcuSubmitPicture opVcuSubmitPicture c s

/-- VCU_DECODE_DATA (R343). -/
def execVcuDecodeData (c : Cmd) (s : State) : Host.Outcome State Fault Refusal := submit (.vcuDecodeData c) .vcuDecodeData opVcuDecodeData c s

/-- VCU_FLUSH (R353). -/
def execVcuFlush (c : Cmd) (s : State) : Host.Outcome State Fault Refusal := submit (.vcuFlush c) .vcuFlush opVcuFlush c s

/-- VCU_CONSUMED (R342). -/
def execVcuConsumed (c : Cmd) (s : State) : Host.Outcome State Fault Refusal := submit (.vcuConsumed c) .vcuConsumed opVcuConsumed c s

/-- VCU_PICTURE_BUFFER (R348). -/
def execVcuPictureBuffer (c : Cmd) (s : State) : Host.Outcome State Fault Refusal := submit (.vcuPictureBuffer c) .vcuPictureBuffer opVcuPictureBuffer c s

/-- VCU_GET_POOL (R338). -/
def execVcuGetPool (c : Cmd) (s : State) : Host.Outcome State Fault Refusal := submit (.vcuGetPool c) .vcuGetPool opVcuGetPool c s

/-- VCU_GET_STATUS (R354). -/
def execVcuGetStatus (c : Cmd) (s : State) : Host.Outcome State Fault Refusal := submit (.vcuGetStatus c) .vcuGetStatus opVcuGetStatus c s

end Sys2Proof.Machine
end

