-- ==== Sys2Proof/Machine/Abort.lean ====
section
/-! DEFINITION. DEV_ABORT, and what the stop of a running long command leaves (R58, R59, R114, R196, R305). -/

namespace Sys2Proof.Machine

/-- A running LUT load is aborted: it keeps the table it had. -/
def abortLut (c : Cmd) (s : State) : State :=
  let drop := fun (p : Pipe) => { p with loading := p.loading.filter fun l => decide (l.2.2.2 ≠ c.serial) }
  modPipe (modPipe s .A drop) .B drop

/-- A running measurement is aborted: its instance is IDLE again (R305). -/
def abortMeasure (c : Cmd) (s : State) : State :=
  let i := trimInst c
  if trimDom c ≤ 2 then modTrim (modTrim (dropAccum s i) 1 i idleTrim) 2 i idleTrim
  else modTrim s (trimDom c) i idleTrim

/-- A running firmware command is aborted: its flash job, check or swap goes (R541). -/
def abortFw (c : Cmd) (s : State) : State :=
  let mine := fun (x : Cmd) => decide (x.serial = c.serial)
  flashGo (modDev s fun d => { d with
    jobs := d.jobs.filter fun j => !mine j.cmd
    verifyCmd := d.verifyCmd.filter fun v => !mine v.1
    swap := d.swap.filter fun w => !mine w.cmd })

/-- A running PAIR_SWITCHOVER or PAIR_TAKEOVER is aborted: fetching goes on, and the claim is given up. -/
def abortPairCmd (c : Cmd) (s : State) : State :=
  if s.pair.cmd.map (·.serial) ≠ some c.serial then s
  else modPair s fun p => { p with
    cmd := none, draining := false, claim := 0, arbDriven := false, hostFenced := false
    st := if p.st = .takingOver then .linkLost else p.st }

/-- What a running long command of half `h` has begun stops, with the values it had before. -/
def abortWork (op : Op) (c : Cmd) (h : Half) (s : State) : State :=
  match opClass op with
  | 0 => abortFw c s
  | 1 => abortLink op c s
  | 2 => { s with reads := s.reads.filter fun r => decide (r.cmd.serial ≠ c.serial) }
  | 3 => abortAsh c h s
  | 4 => abortLut c s
  | 5 => abortMeasure c s
  | 6 => abortVcu op c s
  | 7 => abortMem op c h s
  | 8 => abortVf c s
  | 10 => abortPairCmd c s
  | _ => s

/-- Reason of an aborted long command (R58, R305). -/
def abortReason (op : Op) (c : Cmd) : BitVec 8 := if op = .trimMeasure ∧ trimDom c ≤ 2 then 0x5C else 0x08

/-- Staged entries of a submission. -/
def stagedOf (s : State) (serial : Nat) : List Staged := s.staged.filter fun x => decide (x.cmd.serial = serial)

/-- Staged entries that a boundary command puts down: one in each half of a span context for a slot setting, else one. -/
def stagedCount (s : State) (x : Staged) : Nat :=
  match x.key with
  | .epoch _ => if x.op = .pipeSetSlotTime then 1 else (halvesOf (ctxAt s (pf x.cmd 2 4 0))).length
  | _ => 1

/-- The staging unit has not latched the boundary in any part (R59). -/
def mayCancel (s : State) (x : Staged) : Bool :=
  match x.op with
  | .vfSetSource => vfMayCancel x
  | .linkRemapLane => ((linkAt s (pf x.cmd 2 4 0)).remap.map fun r => !r.applied && !r.restore) = some true
  | _ => decide ((stagedOf s x.cmd.serial).length = stagedCount s x)

/-- What a discarded change leaves of its object: the object stands as before the command. -/
def cancelWork (op : Op) (c : Cmd) (s : State) : State :=
  let n := pf c 2 5 0
  let x := pf c 2 4 0
  match op with
  | .qryStartStream => modStream s n fun y => if y.st = .starting then { y with st := .idle } else y
  | .qryStopStream => modStream s n fun y => if y.st = .stopping then
      { y with st := .capturing, stopAt := none, writing := y.writing.map fun w => { w with stop := false } } else y
  | .pipeStartContext => if (ctxAt s x).st = .starting then backToOpen s x else s
  | .pipeStopContext => modCtx s x fun y => if y.st = .stopping then { y with st := .running } else y
  | .trimCommit => (trimDomains c).foldl (fun s d =>
      modTrim s d (trimInst c) fun t => if t.st = .commitPending then { t with st := .staged } else t) s
  | .trimLoad => modTrim s (trimDom c) (trimInst c) fun t => { t with st := .idle, staged := none }
  | .linkRemapLane => modLink s x fun l => { l with remap := none, sensor := { l.sensor with remapValid := false } }
  | .vcuStart => cancelVcu op c s
  | .vcuStop => cancelVcu op c s
  | .vfSetSource => cancelVf c.serial s
  | _ => s

/-- The staged changes of a submission are discarded, and the effect report says so (R58). -/
def cancelStaged (s : State) (x : Staged) : State :=
  let s1 := { s with staged := s.staged.filter fun y => decide (y.cmd.serial ≠ x.cmd.serial) }
  reportEffect (cancelWork x.op x.cmd s1) x.exec (withdrawn x)

/-- The half that holds a command in flight. -/
def holderOf (f : Flight) : Half :=
  match f.st with
  | .readingBlock => f.cmd.recv
  | .held => f.cmd.recv
  | _ => f.exec

/-- A command that has not started completes with ABORTED (R58). -/
def abortWaiting (s : State) (f : Flight) : State :=
  let k := mkCompletion f.cmd f.exec stAborted 0x08 0xFFFF 0 0 0
  let k := if f.st = .readingBlock then { k with exec := 0 } else k
  reportLast s (holderOf f) k true

/-- A command in flight is withdrawn: the outcome code of R58, and the state. -/
def abortFlight (s : State) (f : Flight) : Nat × State :=
  let serial := f.cmd.serial
  match f.st with
  | .running =>
    match opLatency f.op with
    | .immediate => (3, s)
    | _ =>
      if isHeld s serial then (4, s)
      else (2, complete (abortWork f.op f.cmd f.exec s) f.cmd f.exec stAborted (abortReason f.op f.cmd) 0xFFFF 0 0 0)
  | .deferred =>
    match (stagedOf s serial).head? with
    | some x => if mayCancel s x then (1, cancelStaged s x) else (4, s)
    | none => (4, s)
  | _ => (0, abortWaiting s f)

/-- DEV_ABORT (R58). -/
def opDevAbort (c : Cmd) (h : Half) (s : State) : Reply × State :=
  let answer := fun (k : Nat) => if k ≤ 2 then okWith (BitVec.ofNat 32 k) 0 0 else
    .done stWrongState 0 0xFFFF (BitVec.ofNat 32 k) 0 0
  match firstErr (rsv c [(2, 0xFFFC0000)] ++ bad [(2, (halfOfCode (pf c 2 17 16)).isNone)]) with
  | some e => (e, s)
  | none =>
    match liveFlight s ((halfOfCode (pf c 2 17 16)).getD .A) (BitVec.ofNat 16 (pf c 2 15 0)) with
    | none => (answer 4, s)
    | some f =>
      if holderOf f ≠ h ∧ s.mortar.st = .down then (err stLinkDown 0, s)
      else
        let (k, t) := abortFlight s f
        (answer k, t)

/-- DEV_ABORT (R58). -/
def execDevAbort (c : Cmd) (s : State) : Host.Outcome State Fault Refusal := submit (.devAbort c) .devAbort opDevAbort c s

end Sys2Proof.Machine
end

