-- ==== Sys2Proof/Machine/Develop.lean ====
section
/-! DEFINITION. What a frame's last unit computes of a side: its sources, stages 1 to 9, and the black levels it leaves
(R207, R223 to R227, R239). -/

namespace Sys2Proof.Machine

/-! Pixels of a side. -/

/-- The pixels of a source in a frame's record, row by row; 0 where none is needed. -/
def pxGrid (s : State) (r : CtxFrame) (z : Source) : Array Nat :=
  let (w, ht, _) := srcGeom s z
  if r.quarry then
    let blocks := ((List.range (blockCount w ht)).map fun b =>
      ((r.decoded.find? fun d => decide (d.1 = z.stream ∧ d.2.1 = b)).map fun d => d.2.2.toArray).getD #[]).toArray
    ((List.range (w * ht)).map fun i =>
      (blocks.getD (i / w / 8 * blockCols w + i % w / 128) #[]).getD (i / w % 8 * blockW w (i % w / 128) + i % w % 128) 0).toArray
  else
    ((List.range ht).flatMap fun v =>
      ((r.lines.find? fun l => decide (l.1 = z.stream ∧ l.2.1 = v)).map fun l => l.2.2).getD (List.replicate w 0)).toArray

/-- The seam band that a frame's record holds, active row by active row (R223). -/
def bandGrid (x : Context) (r : CtxFrame) : Array Nat :=
  ((List.range x.ah).flatMap fun i =>
    ((r.band.find? fun b => decide (b.1 = x.ay + i)).map fun b => b.2.map (·.toNat)).getD (List.replicate 64 0)).toArray

/-- Signed 16-bit values in a half's DRAM. -/
def i16s (s : State) (h : Half) (addr n : Nat) : Array Int := (intsOf 2 n (dramRead s h addr (2 * n)).1).toArray

/-- A source of half `k` as the stages read it, with the settings latched for the frame (R210, R224). -/
def srcIn (s : State) (x : Context) (l : Latched) (k : Half) (z : Source) (px : Nat → Nat → Nat) : SrcIn :=
  let (w, ht, d) := srcGeom s z
  let corr := ((l.streams.find? fun p => decide (p.1 = z.stream)).map (·.2)).getD {}
  let dark := if corr.fpOn ∧ corr.darkAddr ≠ 0 then
      ((List.range ht).flatMap fun v => (i16s s k (corr.darkAddr + v * corr.darkPitch) w).toList).toArray
    else #[]
  let col := if corr.fpOn ∧ corr.colAddr ≠ 0 then i16s s k corr.colAddr w else #[]
  let row := if corr.fpOn ∧ corr.rowAddr ≠ 0 then i16s s k corr.rowAddr ht else #[]
  let es := match corr.mapCount with
    | some n => mapEntries s k corr.defectBase n corr.mapSecond
    | none => []
  let marks := if es.isEmpty then #[] else markMap w ht (stepOf x.cfa).toNat es
  { stream := z.stream, x := z.x, y := z.y, w, h := ht, depth := d, px, corr, lut := (corr.lut.getD []).toArray
    dark := fun u v => dark.getD (v * w + u) 0, col := fun u => col.getD u 0, row := fun v => row.getD v 0
    listed := fun u v => marks.getD (v * w + u) false
    black := ((l.black.find? fun p => decide (p.1 = z.stream)).map (·.2)).getD [0, 0, 0, 0] }

/-- Own sources of a half's side. -/
def ownSrcs (s : State) (x : Context) (h : Half) (r : CtxFrame) (l : Latched) : List SrcIn :=
  (sourcesOf x h).map fun z =>
    let g := pxGrid s r z
    let w := (srcGeom s z).1
    srcIn s x l h z fun u v => g.getD (v * w + u) 0

/-- The other half's sources as the seam band shows them (R223, R224). -/
def bandSrcs (s : State) (x : Context) (h : Half) (r : CtxFrame) (l : Latched) : List SrcIn :=
  if !x.span then []
  else
    let k := otherHalf h
    let g := bandGrid x r
    let b := bandStart x k
    ((sourcesOf x k).filter (inBand s x k)).map fun z => srcIn s x l k z fun u v =>
      if b ≤ z.x + u ∧ z.x + u < b + 64 ∧ x.ay ≤ z.y + v then g.getD ((z.y + v - x.ay) * 64 + (z.x + u - b)) 0 else 0

/-! Flags of source frames (R239). -/

/-- FLAGS of a source's frame: in its stored header, as ingest closed it, or so far (R138, R239). -/
def srcFlags (s : State) (r : CtxFrame) (z : Source) : Word :=
  let num := streamFrameOf z r.f
  let ring := ringOf s z.stream
  match storedFrame ring num with
  | some q => (dramDwords s ring.half (hdrAddr ring q.slot) 11).getD 10 0
  | none =>
    match r.srcFlags.find? fun p => decide (p.1 = z.stream) with
    | some p => p.2
    | none =>
      match (streamAt s z.stream).openFrame with
      | some o => if o.number = num then o.counts.flags else 0
      | none => 0

/-- The host mark of the reference source's frame now: in its stored header, in the frame being written or open, or as the
context noted it (R149, R278). -/
def markNow (s : State) (x : Context) (f : Count64) : Option Count64 :=
  match refSource s x with
  | none => none
  | some z =>
    let num := streamFrameOf z f
    let ring := ringOf s z.stream
    let st := streamAt s z.stream
    match storedFrame ring num with
    | some q =>
      let d := dramDwords s ring.half (hdrAddr ring q.slot) 11
      if bitOf (d.getD 10 0) 14 then some (BitVec.ofNat 64 (qword d 4)) else none
    | none =>
      match st.writing.find? fun w => decide (w.number = num) with
      | some w => w.mark
      | none =>
        if st.openFrame.map (·.number) = some num then st.openFrame.bind (·.mark)
        else match frameOf x (refHalf s x) f with
          | some r => r.mark
          | none => (latchedOf x f).bind (·.mark)

/-! Black levels (R227). -/

/-- Every optical-black row of a half's sources is at hand, or the frame's levels are. -/
def blackReady (s : State) (x : Context) (k : Half) (f : Count64) (l : Latched) : Bool :=
  (sourcesOf x k).all fun z =>
    let corr := ((l.streams.find? fun p => decide (p.1 = z.stream)).map (·.2)).getD {}
    decide (corr.obRows = 0) || (l.black.any fun p => decide (p.1 = z.stream)) ||
      match frameOf x k f with
      | some r => (List.range corr.obRows).all fun i =>
          decide ((srcGeom s z).2.1 ≤ corr.obFirst + i) ||
            (List.range (srcGeom s z).1).all fun u => (framePx s r z u (corr.obFirst + i)).isSome
      | none => false

/-- Black levels of a half's sources for a frame, once: measured, held or fixed; kept for the next frame (R227). -/
def ensureBlack (s : State) (n : Nat) (k : Half) (f : Count64) : State :=
  (sourcesOf (ctxAt s n) k).foldl (fun s z =>
    let x := ctxAt s n
    match latchedOf x f, frameOf x k f with
    | some l, some r =>
      if l.black.any fun p => decide (p.1 = z.stream) then s
      else
        let g := pxGrid s r z
        let w := (srcGeom s z).1
        let prev := ((ctxPart x k).black.find? fun p => decide (p.1 = z.stream)).map (·.2)
        let b := blackLevels (srcIn s x l k z fun u v => g.getD (v * w + u) 0) x.cfa prev (bitOf (srcFlags s r z) 2)
        let s1 := modCtx s n fun x => { x with latched := x.latched.map fun p =>
          if p.1 = f then (f, { p.2 with black := (z.stream, b) :: p.2.black }) else p }
        modPart s1 n k fun p => { p with black := (z.stream, b) :: p.black.filter fun q => decide (q.1 ≠ z.stream) }
    | _, _ => s) s

/-! Development. -/

/-- What the stages make of a side. -/
structure Developed where
  /-- stage 7 output -/
  m : Plane
  /-- stage 8 output -/
  d : Rgb
  /-- stage 9 output -/
  w : Rgb
  /-- dynamic defects -/
  dyn : Nat
  /-- pixels left unrepaired -/
  un : Nat
  /-- own sources -/
  own : List SrcIn

/-- The 3D LUT that a frame's colour names, in a half. -/
def lutOf (s : State) (h : Half) (k : Colour) : LutIn :=
  match tget (half s h).pipe.luts k.lutId with
  | some u => { n := if u.big then 65 else 33, nodes := u.nodes.toArray }
  | none => { n := 33, nodes := #[] }

/-- Stages 1 to 9 over a side (R225 to R253). -/
def develop (s : State) (x : Context) (h : Half) (r : CtxFrame) (l : Latched) : Developed :=
  let own := ownSrcs s x h r l
  let (c, w) := sideCols x h
  let (m, dyn, un) := mosaic (geoOf x) l.corr (own ++ bandSrcs s x h r l) c w
  let d := demosaic x.cfa l.colour.dmMode.toNat l.colour.dmFc m
  { m, d, w := workingPlanes l.colour (lutOf s h l.colour) d, dyn, un, own }

/-- What the statistics unit measures of a side (R285). -/
def sideSums (x : Context) (h : Half) (l : Latched) (d : Developed) : StatSums :=
  let (c, w) := sideCols x h
  let depth := ((d.own.head?).map (·.depth)).getD 16
  let code := fun (u v : Nat) =>
    match srcAt d.own u v with
    | some z => z.px (u - z.x) (v - z.y)
    | none => 0
  measureSide { geo := geoOf x, m := d.m, g := d.d.g, w := d.w, code, clipCode := statClipCode l.stat depth
                clipPost := statClipPost l.stat } c w

end Sys2Proof.Machine
end

