-- ==== Sys2Proof/Machine/Finish.lean ====
section
/-! DEFINITION. UNIT_FINISH: tap buffers and their records (R274 to R279), statistics records and content triggers (R287 to
R295), the end of a frame (R206, R221), and the other half's part in them. -/

namespace Sys2Proof.Machine

/-! Statistics records (R287 to R292). -/

/-- A statistics record about to be written. -/
structure StatRec where
  /-- frame, PFLAGS, mark, setup and sums -/
  own : StatOwn
  /-- MERGED -/
  merged : Bool := false
  /-- PARTIAL -/
  part : Bool := false

/-- The 252 bytes of a record's header before its CRC (R289). -/
def statHeader (s : State) (n : Nat) (x : Context) (seq : Nat) (r : StatRec) (t : StatSums) (last : Option StatLast) :
    List Byte :=
  let m := (r.own.mark.getD 0).toNat
  let (zx, zy) := zoneGrid (geoOf x)
  let prev := ((last.map (·.frame)).getD noPoint).toNat
  let held := (if r.own.stale then (last.map (·.frame)).getD noPoint else noPoint).toNat
  let cnt := fun (v : Nat) => BitVec.ofNat 32 (min v 0xFFFFFFFF)
  dwordBytes ([pack [(0, 0x57A7), (16, 1), (24, n), (29, (halfCode (refHalf s x)).toNat), (31, b2n r.merged)],
    pack [(0, refStream s x), (8, nchOf x.cfa), (11, b2n r.own.stale), (12, b2n last.isNone), (13, b2n r.part),
      (14, b2n r.own.mark.isSome)],
    lo32 r.own.f.toNat, hi32 r.own.f.toNat, lo32 seq, hi32 seq, lo32 m, hi32 m, lo32 prev, hi32 prev, r.own.pflags,
    pack [(0, zx), (8, zy)], lo32 t.pixels, hi32 t.pixels, lo32 held, hi32 held] ++
    ((List.range 4).map fun i => cnt (t.clipPre.getD i 0)) ++ ((List.range 3).map fun i => cnt (t.clipPost.getD i 0)) ++
    List.replicate 40 0)

/-- Changes of a record's zones that a content trigger counts (R294). -/
def trigCount (t : ContentTrig) (chg : List Int) : Nat :=
  let a := chg.toArray
  let hit := fun (v : Int) =>
    match t.polarity with
    | 0 => decide (Int.ofNat t.thresh ≤ Int.ofNat v.natAbs)
    | 1 => decide (Int.ofNat t.thresh ≤ v)
    | _ => decide (v ≤ - Int.ofNat t.thresh)
  let w := t.x1 + 1 - t.x0
  ((List.range (w * (t.y1 + 1 - t.y0))).filter fun i => hit (a.getD ((t.y0 + i / w) * 64 + t.x0 + i % w) 0)).length

/-- Content trigger `i` evaluates a record of its context (R294, R295). -/
def evalTrig (s : State) (n i : Nat) (f : Count64) (chg : List Int) : State :=
  let t := tget s.contentTrigs i
  if !t.enable || decide (t.ctx ≠ n) then s
  else
    let k := trigCount t chg
    let put := fun (t : ContentTrig) => { s with contentTrigs := tset s.contentTrigs i t }
    if k < t.countMin then put { t with run := 0, armed := true }
    else if t.armed = true ∧ t.persist ≤ t.run + 1 then
      let s1 := put { t with run := t.run + 1, armed := false }
      contentFires (ctxEvent s1 (refHalf s (ctxAt s n)) n 0x5002 1 f i k 0) i
    else put { t with run := t.run + 1 }

/-- Write the address of a record into its reference frame's header, while that is in the ring (R139, R290). -/
def linkHeader (s : State) (x : Context) (f : Count64) (addr : Nat) : State :=
  match refSource s x with
  | some z =>
    match storedFrame (ringOf s z.stream) (streamFrameOf z f) with
    | some q => patchHeader s z.stream q.slot fun b =>
        putAt (putAt b 40 (leBytes 4 (leNat ((b.drop 40).take 4) ||| 0x8000))) 96 (leBytes 8 addr)
    | none => s
  | none => s

/-- Write a context's record into its ring, and what follows it (R287 to R295, R304). -/
def writeStat (s : State) (n : Nat) (r : StatRec) (t : StatSums) : State :=
  let x := ctxAt s n
  let k := r.own.cfg
  let h := refHalf s x
  let seq := x.statSeq + 1
  let last := tget s.statLast n
  let means := zoneMeans t
  let z := zoneLums (nchOf x.cfa) means
  let chg := zoneChanges (geoOf x) (statFloor k) z (last.map (·.zones))
  let body := if r.own.stale then (last.map (·.body)).getD (List.replicate 98048 0) else statBody t means chg
  let hd := statHeader s n x seq.toNat r t last
  let crc := leBytes 4 (crc32c (hd ++ body.take 96256)).toNat
  let addr := statAddr k seq.toNat
  let s1 := dramWrite (modCtx s n fun x => { x with statSeq := seq }) h addr (hd ++ crc ++ body)
  let s2 := if r.own.stale then s1
    else { s1 with statLast := tset s1.statLast n (some { frame := r.own.f, zones := z, body }) }
  let s3 := if statHdr k then linkHeader s2 x r.own.f addr else s2
  let s4 := if r.own.stale ∨ last.isNone then s3
    else (List.range 16).foldl (fun s i => evalTrig s n i r.own.f chg) s3
  let rep := fld (statDw k 2) 8 7
  if rep = 1 ∨ (rep = 2 ∧ seq.toNat % 2 ^ fld (statDw k 2) 13 9 = 0) then
    ctxEvent s4 h n 0x5001 0 r.own.f seq.toNat ((seq.toNat - 1) % max 1 (statRecords k)) (b2n r.own.stale)
  else s4

/-- The lead writes a span frame's record from its own half alone (R291). -/
def statAlone (s : State) (n : Nat) (o : StatOwn) : State :=
  let s1 := modCtx s n fun x => { x with statOwn := x.statOwn.filter fun p => decide (p.f ≠ o.f) }
  ctxEvent (writeStat s1 n { own := o, part := true } (sumsOf o.sums)) (leadHalf s) n 0x5003 1 o.f 0 0 0

/-- Merge a span frame's sums once the lead has both halves' (R291). -/
def statMerge (s : State) (n : Nat) (f : Count64) : State :=
  let x := ctxAt s n
  match x.statOwn.find? fun o => decide (o.f = f), x.statPeer.find? fun p => decide (p.1 = f) with
  | some o, some p =>
    let s1 := modCtx s n fun x => { x with
      statOwn := x.statOwn.filter fun q => decide (q.f ≠ f), statPeer := x.statPeer.filter fun q => decide (q.1 ≠ f) }
    writeStat s1 n { own := o, merged := true } (mergeSums (sumsOf o.sums) (sumsOf p.2))
  | _, _ => s

/-- A side's sums are complete: a slice context's record is written; a span context's sums go to the lead (R291, R292). -/
def sideStats (s : State) (n : Nat) (h : Half) (o : StatOwn) (t : StatSums) : State :=
  let x := ctxAt s n
  if !x.span then writeStat s n { own := o } t
  else if h ≠ leadHalf s then tellPeer s h (.statPartial n o.f o.sums)
  else
    let s1 := modCtx s n fun x => { x with statOwn := x.statOwn ++ [o] }
    if mortarUp s || x.statPeer.any (fun p => decide (p.1 = o.f)) then statMerge s1 n o.f else statAlone s1 n o

/-- STAT_PARTIAL_RECEIVED (R291). -/
def execStatPartialReceived (at_ : Half) (s : State) : Host.Outcome State Fault Refusal :=
  act (.statPartialReceived at_) s (takeMsg s at_ 2 fun m =>
    match m with
    | .statPartial n f rec_ => some fun s =>
      if (ctxAt s n).span ∧ (ctxAt s n).st ≠ .closed then
        statMerge (modCtx s n fun x => { x with statPeer := x.statPeer ++ [(f, rec_)] }) n f
      else s
    | _ => none)

/-! Taps (R274 to R279). -/

/-- Write rows of bytes into a half's DRAM, a pitch apart. -/
def writeRows (s : State) (h : Half) (addr pitch : Nat) (rows : List (List Byte)) : State :=
  (rows.foldl (fun a row => (a.1 + pitch, dramWrite a.2 h a.1 row)) (addr, s)).2

/-- The 64-byte tap record (R278). -/
def tapRecordBytes (n t : Nat) (h : Half) (l : Latched) (w : TapWritten) (x0 cols clips : Nat) : List Byte :=
  let m := (w.mark.getD 0).toNat
  let hd := dwordBytes [pack [(0, 0x7A90), (16, t), (20, n), (25, (halfCode h).toNat), (27, b2n w.mark.isSome)],
    pack [(0, w.buf), (8, w.cfg.format)], lo32 w.f.toNat, hi32 w.f.toNat, lo32 w.seq.toNat, hi32 w.seq.toNat, lo32 m, hi32 m,
    w.pflags, pack [(0, x0), (16, cols)], pack [(0, w.cfg.ow), (16, w.cfg.oh)], BitVec.ofNat 32 (min clips 0xFFFFFFFF),
    pack [(0, l.colour.lutId), (4, b2n l.colour.lutOn), (5, w.cfg.tf), (8, w.cfg.gamut)], 0, 0]
  hd ++ leBytes 4 (crc32c hd).toNat

/-- A tap's buffer is READY in every half: the VCU and the viewfinder take their holds, and the tap reports (R277, R279). -/
def tapReady (s : State) (n t : Nat) (w : TapWritten) : State :=
  let s1 := vcuTapReady s n t w.buf w.f w.cfg w.split w.pflags w.mark
  let s2 := vfTapReady s1 n t w.buf w.f w.cfg w.split
  if w.cfg.report = 1 ∨ (w.cfg.report = 2 ∧ w.seq.toNat % 2 ^ w.cfg.reportLog2 = 0) then
    ctxEvent s2 (refHalf s (ctxAt s n)) n 0x4010 0 w.f (t + 256 * w.buf) w.pflags.toNat w.split
  else s2

/-- A half's part of a tap is written; the lead reports a span tap after both (R279). -/
def tapWritten (s : State) (n t : Nat) (h : Half) (w : TapWritten) : State :=
  let x := ctxAt s n
  let tap := tget x.taps t
  if !x.span then tapReady s n t w
  else if h ≠ leadHalf s then tellPeer s h (.tapWritten n t w.buf w.f)
  else if tap.peerWritten.contains (w.f, w.buf) then
    tapReady (modTap s n t fun z => { z with peerWritten := z.peerWritten.filter fun p => decide (p ≠ (w.f, w.buf)) }) n t w
  else modTap s n t fun z => { z with ownWritten := z.ownWritten ++ [w] }

/-- The other half has written its part of a span tap (R279). -/
def peerTapWritten (s : State) (n t buf : Nat) (f : Count64) : State :=
  let tap := tget (ctxAt s n).taps t
  match tap.ownWritten.find? fun w => decide (w.f = f ∧ w.buf = buf) with
  | some w =>
    tapReady (modTap s n t fun z => { z with ownWritten := z.ownWritten.filter fun v => !decide (v.f = f ∧ v.buf = buf) }) n t w
  | none => modTap s n t fun z => { z with peerWritten := z.peerWritten ++ [(f, buf)] }

/-- SPAN_TAP_WRITTEN_RECEIVED (R279). -/
def execSpanTapWrittenReceived (at_ : Half) (s : State) : Host.Outcome State Fault Refusal :=
  act (.spanTapWrittenReceived at_) s (takeMsg s at_ 0 fun m =>
    match m with
    | .tapWritten n t buf f => some fun s =>
      if (ctxAt s n).span ∧ (ctxAt s n).st ≠ .closed then peerTapWritten s n t buf f else s
    | _ => none)

/-- A tap writes its part of frame F, then its record (R258 to R278). -/
def finishTap (s : State) (n : Nat) (h : Half) (f : Count64) (l : Latched) (d : Developed) (pflags : Word)
    (mark : Option Count64) (t : Nat) : State :=
  let x := ctxAt s n
  let tap := tget x.taps t
  match l.bufs.getD t none, ringIn tap h with
  | some k, some ring =>
    let b := ring.bufs.getD k {}
    if b.st ≠ .writing ∨ b.frame ≠ f then s
    else
      let cfg := l.taps.getD t {}
      let (x0, cols) := partOf x cfg h
      let o : TapOut := if cols = 0 then { p0 := [], p1 := [], p2 := [], clips := 0 }
        else tapPart cfg l.colour.workGamut d.w x0 cols
      let base := ring.base + k * ring.stride * 4096
      let s1 := writeRows (writeRows (writeRows s h base ring.pitch0 o.p0) h (base + 64 * ring.plane1) ring.pitch1 o.p1)
        h (base + 64 * ring.plane2) ring.pitch1 o.p2
      let seq := (if h = .A then tap.cntA else tap.cntB).seq + 1
      let w : TapWritten := { f, buf := k, pflags, seq, split := outSplit x cfg, mark, cfg }
      let s2 := dramWrite s1 h (ring.recBase + 64 * k) (tapRecordBytes n t h l w x0 cols o.clips)
      let s3 := modTapHalf s2 n t h
        (modBuf k fun b => settleBuf { b with st := .ready, frame := f, seq, hostHold := cfg.hostHold, holdVia := 0 })
        fun c => { c with lastFrame := f, seq, clipFrames := if o.clips = 0 then c.clipFrames else satInc c.clipFrames }
      tapWritten s3 n t h w
  | _, _ => s

/-! The end of a side and of a frame (R206, R212, R221, R239). -/

/-- A source's Quarry frame has been released while it was being read (R221). -/
def frameReleased (s : State) (x : Context) (h : Half) (r : CtxFrame) : Bool := r.quarry && !sideStored s x h r.f

/-- PFLAGS of a side's frame (R239). -/
def sideFlags (s : State) (x : Context) (h : Half) (r : CtxFrame) (l : Latched) : Word :=
  let own := sourcesOf x h
  let bit := fun (b : Bool) (i : Nat) => BitVec.ofNat 32 (b2n b * 2 ^ i)
  let obOf := fun (z : Source) => ((l.streams.find? fun p => decide (p.1 = z.stream)).map (·.2.obRows)).getD 0
  r.pflags ||| l.pflags ||| bit x.quarry 0 ||| bit (own.any fun z => (srcFlags s r z &&& 0x1FFF) != 0) 2 |||
    bit (!r.corrupt.isEmpty || frameReleased s x h r) 3 ||| bit (l.streams.any fun p => p.2.mapCount.isNone) 4 |||
    bit (own.any fun z => decide (0 < obOf z) && bitOf (srcFlags s r z) 2) 5

/-- Report the corrupt blocks of each source frame, once (R192). -/
def reportCorrupt (s : State) (x : Context) (h : Half) (r : CtxFrame) : State :=
  (sourcesOf x h).foldl (fun s z =>
    let bad := (r.corrupt.filter fun b => decide (b.1 = z.stream)).map (·.2)
    match bad with
    | [] => s
    | b :: _ => event s h 0x3001 1 0x20 z.stream (streamFrameOf z r.f) bad.length b 0) s

/-- The frame has finished in every half of its context: it leaves, a stopping context goes back to OPEN, a play takes its
next turn (R206, R221). -/
def frameDone (s : State) (n : Nat) (f : Count64) : State :=
  let s1 := modCtx s n fun x => { x with latched := x.latched.filter fun p => decide (p.1 ≠ f) }
  let x := ctxAt s1 n
  if x.st = .stopping then (if x.latched.isEmpty then backToOpen s1 n else s1)
  else if x.play.isSome then playTurn (modCtx s1 n fun x => { x with played := x.played + 1 }) n
  else s1

/-- The last unit of frame F's side finishes in a half: taps and statistics are written (R206, R274, R288). -/
def finishSide (s : State) (n : Nat) (h : Half) (f : Count64) : State :=
  let x0 := ctxAt s n
  let s0 := (halvesOf x0).foldl (fun s k => ensureBlack s n k f) s
  let x := ctxAt s0 n
  match frameOf x h f, latchedOf x f with
  | some r, some l =>
    let d := develop s0 x h r l
    let pflags := sideFlags s0 x h r l
    let mark := markNow s0 x f
    let s1 := reportCorrupt s0 x h r
    let lost := frameReleased s0 x h r
    let s2 := modCounts s1 n h fun c => { c with
      dynDefects := satAdd c.dynDefects d.dyn, unrepaired := satAdd c.unrepaired d.un, framesDone := satInc c.framesDone
      lastFrame := f, sourceLost := if lost then satInc c.sourceLost else c.sourceLost }
    let s3 := modCtx (eraseFrame s2 n h f) n fun x => { x with latched := x.latched.map fun p =>
      if p.1 = f then (f, { p.2 with mark, done := p.2.done ||| halfCode h }) else p }
    let s4 := (List.range 12).foldl (fun s t => finishTap s n h f l d pflags mark t) s3
    let s5 := if l.stat.enable then
        let t := sideSums x h l d
        sideStats s4 n h { f, pflags, mark, stale := staleFrame s0 x f, cfg := l.stat, sums := sumsBytes t } t
      else s4
    if (halvesOf x).all fun k => ((((latchedOf (ctxAt s5 n) f).map (·.done)).getD 3) &&& halfCode k) != 0 then frameDone s5 n f
    else s5
  | _, _ => s0

/-- The running unit's data are all at hand: a Quarry frame's blocks are decoded, its band rows have come, and black levels
are known (R212, R223, R224). -/
def unitDone (s : State) (h : Half) (x : Context) (r : CtxFrame) (u : RunUnit) : Bool :=
  let a := (half s h).ash
  let busy := (a.pipeWaiting.any (servesFrame u.ctx u.f)) || a.dec.toList.any fun t => (t.map (servesFrame u.ctx u.f)).getD false
  (!r.quarry || (!busy && (!isSeamUnit x h u.k || bandComplete x r))) &&
    match latchedOf x u.f with
    | some l => decide (u.k + 1 < unitCount x h) || (halvesOf x).all fun k => blackReady s x k u.f l
    | none => false

/-- UNIT_FINISH: the running unit completes (R208, R213). -/
def unitFinish (s : State) (h : Half) : State :=
  match (half s h).pipe.running with
  | none => s
  | some u =>
    let x := ctxAt s u.ctx
    match frameOf x h u.f with
    | none => s
    | some r =>
      if !islandRuns s h .pipeline || !unitDone s h x r u then s
      else
        let s1 := modFrame (modPipe s h fun p => { p with running := none }) u.ctx h u.f fun r => { r with
          unitsDone := u.k + 1, rowsDone := 0 }
        if u.k + 1 < unitCount x h then s1 else finishSide s1 u.ctx h u.f

/-- UNIT_FINISH (R208). -/
def execUnitFinish (h : Half) (s : State) : Host.Outcome State Fault Refusal := act (.unitFinish h) s (unitFinish s h)

end Sys2Proof.Machine
end

