-- ==== Sys2Proof/Machine/Loss.lean ====
section
/-! DEFINITION. The end of a Mortar training attempt, and what the loss of the link does: commands placed across it, span
contexts, split sessions, aperture reads (R20 to R23, R291, R336, R464, R545). -/

namespace Sys2Proof.Machine

/-! Commands that one half received and placed in the other (R545, R546). -/

/-- The receiving half reports a command whose outcome it cannot learn: its first completion, or after an OK_DEFERRED the
effect with BOUNDARY 0 (R545, R546). -/
def reportLost (s0 : State) (f : Flight) (status : BitVec 16) : State :=
  let c := f.cmd
  let s := modPair s0 fun p => { p with held := p.held.filter fun r => decide (heldSerial r ≠ c.serial) }
  if !f.firstDone then deliver s (mkCompletion c f.exec status 0 0xFFFF 0 0 0)
  else
    let r : EffectReport :=
      { recv := c.recv, sq := c.sq, tag := c.tag, opcode := BitVec.ofNat 16 (opCode f.op), status, exec := halfCode f.exec
        notify := c.notify, serial := c.serial }
    let s1 := raise s c.recv (effectEvent c.recv r)
    if c.notify then
      deliver s1 { recv := c.recv, sq := c.sq, tag := c.tag, status, exec := halfCode f.exec, effect := true, notify := true
                   serial := c.serial }
    else s1

/-- The commands that one half received and placed in the other, not dropped. -/
def crossFlights (s : State) : List Flight := s.flights.filter fun f => decide (f.exec ≠ f.cmd.recv) && !f.dropped

/-- The message is this forwarded command. -/
def isCommandMsg (serial : Nat) : Msg → Bool
  | .command f => decide (f.cmd.serial = serial)
  | _ => false

/-- The executing half holds a command: it has taken it, or the whole message has arrived. -/
def reached (s : State) (f : Flight) : Bool :=
  match f.st with
  | .held => false
  | .readingBlock => false
  | .forwarded => (tget (dirFrom s.mortar f.cmd.recv).rx 0).any (isCommandMsg f.cmd.serial)
  | _ => true

/-- One command is accounted for as the link goes DOWN: the receiving half reports LINK_DOWN, and its tag is free; the
executing half carries on with what it holds (R545). -/
def linkDownFlight (s : State) (f : Flight) : State :=
  let s1 := reportLost s f stLinkDown
  if reached s f then
    let left := ((flightOf s1 f.cmd.serial).map (·.slots)).getD 0
    releaseSlots (modFlight s1 f.cmd.serial fun x => { x with dropped := true, orphan := true, slots := 0 }) f.cmd.recv f.cq left
  else retire s1 f.cmd.serial

/-- A command of the management port that was forwarded completes with LINK_DOWN (R70). -/
def portLinkDown (s : State) : State :=
  match s.mgmt.forwarded with
  | some c =>
    portComplete { s with mgmt := { s.mgmt with forwarded := none, waiting := false } }
      (mkCompletion c (otherHalf (leadHalf s)) stLinkDown 0 0xFFFF 0 0 0)
  | none => s

/-! Units that use the link (R21, R291, R336). -/

/-- A span context stops admitting: records that wait for the other half's sums are written alone, and frames in progress,
whose other side cannot come, are given up (R21, R291). -/
def spanStops (s : State) (n : Nat) : State :=
  let x := ctxAt s n
  if !x.span || decide (x.st = .closed) then s
  else
    let s1 := x.statOwn.foldl (fun s o => statAlone s n o) s
    let s2 := (x.latched.map (·.1)).foldl (fun s f =>
      dropFrame ((halvesOf x).foldl (fun s h => giveUp s h n f) s) n f) s1
    let s3 := modCtx s2 n fun x => { x with
      taps := x.taps.map fun t => { t with ownWritten := [], peerWritten := [] }
      ha := { x.ha with held := true }, hb := { x.hb with held := true } }
    if x.st = .stopping then backToOpen s3 n else s3

/-- Firings that wait for the other half are forgotten. -/
def firingsEnd (s : State) : State := { s with rules := s.rules.map fun r => { r with latch := [], await := false } }

/-- An outstanding BAR2 read of the other half's DRAM returns all ones with EP set (R21, R399). -/
def aperEnds (s : State) (h : Half) : State :=
  match (half s h).ep.aperRead with
  | some (_, n) => bar2Answer s h (List.replicate n 0xFF) true
  | none => s

/-- What is queued or in transit in a direction goes; what has arrived stays (R21). -/
def dirDown (d : MortarDir) : MortarDir :=
  { d with
    queue := Vector.replicate 6 [], partSent := Vector.replicate 6 0, replayBuf := [], replayLeft := 0, wire := []
    expSeq := d.nextSeq, fails := 0, discarding := false, wrrLeft := Vector.replicate 6 0, ctrlWindow := []
    credits := #v[32 - tget d.rxFlits 0, 128 - tget d.rxFlits 1, 32 - tget d.rxFlits 2, 64 - tget d.rxFlits 3,
      32 - tget d.rxFlits 4, 64 - tget d.rxFlits 5] }

/-- The link goes DOWN (R21, R545). -/
def mortarGoesDown (s : State) : State :=
  let fs := crossFlights s
  let s1 := { s with mortar := { s.mortar with st := .down, attempting := false, attempts := 0, backoff := 25000, downCycles := 0 } }
  let s2 := mortarEvent s1 0x0012 2 fun s _ => s.mortar.cause
  let s3 := fs.foldl linkDownFlight s2
  let s4 := { s3 with mortar := { s3.mortar with ab := dirDown s3.mortar.ab, ba := dirDown s3.mortar.ba } }
  let s5 := vcuSplitsStop ((List.range 32).foldl spanStops (portLinkDown s4)) stLinkDown 0
  selfFault (aperEnds (aperEnds (firingsEnd s5) .A) .B) 3

/-- The boot ROM of a half that has been reset runs, and the link trains as at power-on (R547). -/
def bootRomsRun (s : State) : State :=
  if s.mortar.st = .reset ∧ 3 ≤ s.sys.bootStep then
    let up := fun (x : HalfSys) => if x.inReset then { x with inReset := false, bootRom := true } else x
    let s1 := modSys (modSys s .A up) .B up
    { s1 with mortar := { s1.mortar with st := .training, attempts := 0, cause := 2 } }
  else s

/-- A training attempt of the link ends (R20 to R22, R543). -/
def mortarTrained (s0 : State) (ok : Bool) (downCycles : Nat) : State :=
  let s := bootRomsRun s0
  let m := s.mortar
  let up := { m with st := .active, attempts := 0, ab := dirResumed m.ab, ba := dirResumed m.ba }
  match m.st with
  | .retrain | .training =>
    if ok then { s with mortar := up }
    else if m.attempts + 1 < 3 then { s with mortar := { m with attempts := m.attempts + 1 } }
    else mortarGoesDown s
  | .down =>
    if !m.attempting then s
    else if ok then
      mortarEvent { s with mortar := { up with attempting := false, backoff := 0, downCycles := 0 } } 0x0013 0
        fun _ _ => min downCycles 0xFFFFFFFF
    else { s with mortar := { m with attempting := false, backoff := nextBackoff m.backoff, downCycles } }
  | _ => s

/-- MORTAR_TRAINING_ATTEMPT_DONE (R21). -/
def execMortarTrainingAttemptDone (ok : Bool) (downCycles : Nat) (s : State) : Host.Outcome State Fault Refusal :=
  act (.mortarTrainingAttemptDone ok downCycles) s (mortarTrained s ok downCycles)

end Sys2Proof.Machine
end

