-- ==== Sys2Proof/Machine/Islands.lean ====
section
/-! DEFINITION. The clock islands: their wakes and their entries into power states, the shedding of islands for temperature,
and automatic island resets (R7, R26, R27, R131, R240, R351, R389, R407 to R409, R505, R550). -/

namespace Sys2Proof.Machine

/-! Counters that go with their island (R7, R484). -/

/-- Links with lanes in quad `q` of a half. -/
def quadLinks (s : State) (h : Half) (q : Nat) : List Nat :=
  (List.range 32).filter fun n => (cfgLanes (linkAt s n).cfg).any fun d => decide (d / 4 = 12 * halfIdx h + q)

/-- Counters of an ingest quad: its links, its lanes, and the streams of its links. -/
def zeroIngest (s : State) (h : Half) (q : Nat) : State :=
  let ls := quadLinks s h q
  let s1 := ls.foldl (fun s n => { modLink s n clearLink with rx := tmod s.rx n fun r => { r with unmapped := 0 } }) s
  let s2 := (List.range 4).foldl (fun s i => modLane s (48 * halfIdx h + 4 * q + i) clearLane) s1
  { s2 with streams := s2.streams.map fun x =>
      if (x.bind.map fun b => ls.contains b.link) = some true then { x with counts := {} } else x }

/-- Counters of the Ashlar island (R200). -/
def zeroAshlar (s : State) (h : Half) : State :=
  modAsh s h fun a => { a with
    queuePeak := 0, overloadEntries := 0, encBlocks := 0, noGainBlocks := 0, decBlocks := 0, decCorrupt := 0 }

/-- Counts of a tap in a half, with those that go with the island at 0 (R284). -/
def zeroTap (c : TapCounts) : TapCounts := { c with skipped := 0, reclaimed := 0, clipFrames := 0 }

/-- Counts of a context in a half, with those that go with the island at 0 (R243). -/
def zeroCtx (c : CtxCounts) : CtxCounts := { dynDefects := c.dynDefects, lastFrame := c.lastFrame }

/-- Counters of the pipeline island. -/
def zeroPipeline (s : State) (h : Half) : State :=
  { s with ctxs := s.ctxs.map fun x =>
      match h with
      | .A => { x with ha := { x.ha with counts := zeroCtx x.ha.counts }
                       taps := x.taps.map fun t => { t with cntA := zeroTap t.cntA } }
      | .B => { x with hb := { x.hb with counts := zeroCtx x.hb.counts }
                       taps := x.taps.map fun t => { t with cntB := zeroTap t.cntB } } }

/-- Counters of the VCU island (R354). -/
def zeroVcu (s : State) (h : Half) : State :=
  (List.range 16).foldl (fun s n => modSessCnt s n h fun _ => {}) s

/-- The counters of an island go to 0 as it resets (R7); those of audio are kept (R446). -/
def zeroCounters (s : State) (h : Half) : IslandId → State
  | .ingest q => zeroIngest s h q
  | .ashlar => zeroAshlar s h
  | .pipeline => zeroPipeline s h
  | .vcu => zeroVcu s h
  | .viewfinder => vfZero s h
  | _ => s

/-- An island is switched off: its counters go to 0 (R7, R446). -/
def switchOff (s : State) (h : Half) (i : IslandId) : State :=
  let s1 := modIsland s h i fun x => { x with pstate := .off }
  if i = .audio then audIslandOff s1 h else zeroCounters s1 h i

/-! What firmware restores as an island returns (R240, R281, R408, R429). -/

/-- LUT_IDs loaded in a half, as a bit mask. -/
def lutMask (p : Pipe) : Nat :=
  (List.range 16).foldl (fun m i => if (tget p.luts i).isSome then m + 2 ^ i else m) 0

/-- The LUT bank of a half is loaded again from the source regions, and each context that uses it is told (R281). -/
def reloadLuts (s : State) (h : Half) : State :=
  let mask := lutMask (half s h).pipe
  let again := fun (l : Lut) =>
    { l with nodes := (numsOf 8 (lutNodes l.big) (dramRead s h l.src (8 * lutNodes l.big)).1).map nodeOf }
  let s1 := modPipe s h fun p => { p with luts := p.luts.map fun l => l.map again }
  if mask = 0 then s
  else (List.range 32).foldl (fun s n =>
    if ctxIn (ctxAt s n) h && (ctxAt s n).colour.lutOn then ctxEvent s h n 0x4012 0 noPoint mask (halfNum h) 0 else s) s1

/-- Firmware restores what an island lost while it was off or reset. -/
def restoreIsland (s : State) (h : Half) : IslandId → State
  | .pipeline => reloadLuts s h
  | _ => s

/-! Wakes and power states (R26, R407 to R409). -/

/-- The islands whose power states firmware chooses from budgets and holds, the quads and the DRAM controller. -/
def wakes : IslandId → Bool
  | .pcie => false
  | .mortar => false
  | .aon => false
  | _ => true

/-- The island, or the DRAM behind it, is in a low-power state. -/
def asleep (s : State) (h : Half) (i : IslandId) : Bool :=
  decide ((islandAt s h i).pstate ≠ .on) || (decide (i = .dram) && decide ((half s h).mem.pstate ≠ 0))

/-- ISLAND_WAKE_REQUEST: a request reaches an island in a low-power state: it is held, and the island starts to wake (R26).
An island shed for temperature does not wake (R505). -/
def wakeRequest (s : State) (h : Half) (i : IslandId) : State :=
  if !wakes i || !asleep s h i || (islandAt s h i).resetting || shedIsland s h i || (half s h).sys.inReset then s
  else modIsland s h i fun x => { x with waking := true, heldReqs := x.heldReqs + 1 }

/-- ISLAND_WAKE_REQUEST (R26). -/
def execIslandWakeRequest (h : Half) (i : IslandId) (s : State) : Host.Outcome State Fault Refusal :=
  act (.islandWakeRequest h i) s (wakeRequest s h i)

/-- ISLAND_WAKE_DONE: the island is on, and the held requests are delivered (R26). -/
def wakeDone (s : State) (h : Half) (i : IslandId) : State :=
  let x := islandAt s h i
  if !x.waking then s
  else
    let s1 := islandOn s h i
    let s2 := if i = .dram then
        countWake (modMem s1 h fun m => { m with pstate := 0 }) h (half s h).mem.pstate.toNat
      else s1
    if x.pstate = .off then restoreIsland s2 h i else s2

/-- ISLAND_WAKE_DONE (R26). -/
def execIslandWakeDone (h : Half) (i : IslandId) (s : State) : Host.Outcome State Fault Refusal :=
  act (.islandWakeDone h i) s (wakeDone s h i)

/-- Work of the island is under way (R408). -/
def islandBusy (s : State) (h : Half) : IslandId → Bool
  | .ashlar =>
    let a := (half s h).ash
    !a.waiting.isEmpty || a.enc.toList.any (·.isSome) || a.dec.toList.any (·.isSome) || !a.pipeWaiting.isEmpty ||
      !a.decJobs.isEmpty || a.jobs.toList.any fun j => (j.bind (·.cmd)).isSome
  | .pipeline => (half s h).pipe.running.isSome
  | .vcu => s.sessions.toList.any fun x => sessIn x h && (x.coding.isSome || !x.chunks.isEmpty)
  | .viewfinder => (outsOf h).any fun o => decide ((outAt s o).phase ≠ .idle) || !(outAt s o).jobs.isEmpty
  | .dram => (half s h).mem.chans.toList.any fun c =>
      [c.sub0, c.sub1].any fun b => !b.readQ.isEmpty || !b.writeQ.isEmpty || !b.work.isEmpty
  | .keystone => s.flights.any fun f => decide (f.exec = h) && decide (f.st = .running)
  | .fabric => s.flights.any fun f => decide (f.exec = h) && decide (f.st = .running)
  | _ => false

/-- ISLAND_STATE_ENTRY: an idle island goes to the deepest state that its budget and the holds allow; a quad with no enabled
link goes off (R407, R408). -/
def stateEntry (s : State) (h : Half) (i : IslandId) : State :=
  let x := islandAt s h i
  if x.resetting || x.waking || islandBusy s h i || shedIsland s h i || (half s h).sys.inReset then s
  else match i with
    | .ingest q =>
      if (quadLinks s h q).any (fun n => decide ((linkAt s n).st ≠ .disabled)) then s else switchOff s h i
    | .dram =>
      let c := dramChoice s h
      if (half s h).mem.pstate.toNat < c ∧ (half s h).mem.freq.isNone then
        modMem s h fun m => { m with pstate := BitVec.ofNat 4 c }
      else s
    | _ =>
      match islandDomain i with
      | none => s
      | some d =>
        let c := domainChoice s h d
        if c ≤ pstateCode x.pstate then s
        else if c = 3 then switchOff s h i
        else modIsland s h i fun x => { x with pstate := pstateOf c }

/-- ISLAND_STATE_ENTRY (R407). -/
def execIslandStateEntry (h : Half) (i : IslandId) (s : State) : Host.Outcome State Fault Refusal :=
  act (.islandStateEntry h i) s (stateEntry s h i)

/-! Shedding (R505). -/

/-- Island of a SHED_MASK bit. -/
def shedTarget (k : Nat) : IslandId := if k = 0 then .vcu else if k = 1 then .viewfinder else if k = 2 then .pipeline else .ashlar

/-- A session that codes a tap gives up the pictures it holds, and counts them as skipped; its next picture is an IDR. -/
def sessShed (h : Half) (s : State) (n : Nat) : State :=
  let x := sessAt s n
  if !sessIn x h || x.cfg.decode then s
  else if x.cfg.hostInput then
    modSess s n fun x => { x with lastIdr := none, plan := [], times := []
                                  coding := none, held := (x.coding.map (·.pic)).toList ++ x.held }
  else
    let ps := (x.coding.map (·.pic)).toList ++ x.held
    let s1 := ps.foldl (fun s p => skipInput s n p.f 0) (releaseTaps s n)
    modSess s1 n fun x => { x with held := [], coding := none, plan := [], times := [], lastIdr := none }

/-- Capture blocks that the Ashlar unit of a half holds are stored raw (R131, R505). -/
def storeWaiting (s : State) (bs : List BlockJob) : State :=
  bs.foldl (fun s b => match b.stream with
    | some n => stageBlock s n b.frame b.block (packPixels (depthBits b.depth) b.px) .overload
    | none => s) s

/-- Capture blocks in the encode engines of a half. -/
def engineBlocks (a : Ashlar) : List BlockJob := (a.enc.toList.filterMap id).filter fun b => b.stream.isSome

/-- What an island had in hand as it is shed. -/
def shedWork (s : State) (h : Half) (k : Nat) : State :=
  match k with
  | 0 => (List.range 16).foldl (sessShed h) s
  | 1 => vfCut s h
  | 2 => pipelineLost s h
  | _ =>
    let a := (half s h).ash
    let s1 := modAsh s h fun a => { a with
      waiting := [], enc := a.enc.map fun b => b.filter fun b => b.stream.isNone }
    storeWaiting s1 (engineBlocks a ++ a.waiting)

/-- An event of shedding: the island, whether it goes off, and T_MAX. -/
def shedEvent (s : State) (h : Half) (k : Nat) (off : Bool) : State :=
  event s h 0x0035 2 0x71 (halfIdx h) noPoint k (b2n off) ((half s h).sys.tMax % 2 ^ 32).toNat

/-- Switch an island off for temperature (R505, R464). -/
def shedOne (s : State) (h : Half) (k : Nat) : State :=
  let s1 := modSys s h fun x => { x with
    shed := x.shed ||| BitVec.ofNat 4 (2 ^ k), shedOrder := x.shedOrder ++ [k], sheds := satInc x.sheds, sinceShed := 0 }
  let s2 := shedEvent (switchOff (shedWork s1 h k) h (shedTarget k)) h k true
  selfFault s2 1

/-- Switch an island on again: it is restored as after an island reset (R505). -/
def unshedOne (s : State) (h : Half) (k : Nat) : State :=
  let s1 := modSys s h fun x => { x with
    shed := x.shed &&& BitVec.ofNat 4 (15 - 2 ^ k), shedOrder := x.shedOrder.filter fun j => decide (j ≠ k), sinceShed := 0 }
  let s2 := zeroCounters (islandOn s1 h (shedTarget k)) h (shedTarget k)
  shedEvent (restoreIsland s2 h (shedTarget k)) h k false

/-! Automatic island resets (R27). -/

/-- Staged changes of which the state is lost: each effect is reported with BOUNDARY 0 and a status (R27, R546). -/
def stagedLost (s : State) (p : Staged → Bool) (status : BitVec 16) : State :=
  (s.staged.filter p).foldl (fun s x =>
    if x.op = .trimMeasure then s else reportEffect s x.exec { withdrawn x with status })
    { s with staged := s.staged.filter fun x => !p x }

/-- An instance loses its staged values and its run (R308, R388). -/
def trimLost (t : TrimInst) : TrimInst :=
  { t with st := .idle, staged := none, cmd := none, autoCommit := false, checked := false }

/-- An ingest quad faults: the frames of its links are closed with ISLAND_RESET, and the links start again from DETECT
(R111, R131). -/
def ingestFault (s : State) (h : Half) (q : Nat) : State :=
  let ls := quadLinks s h q
  let s1 := (List.range 64).foldl (fun s n =>
    if ((streamAt s n).bind.map fun b => ls.contains b.link) = some true ∧ (streamAt s n).openFrame.isSome then
      let (k, s1) := fresh s
      closeFrame s1 n 0x810 (Config.freeNat k)
    else s) s
  let s2 := { s1 with rx := Vector.ofFn fun i => if ls.contains i.val then { tget s1.rx i.val with pkt := none } else tget s1.rx i.val }
  restartQuadLinks s2 (12 * halfIdx h + q)

/-- A finished block in a staging buffer of the engines is lost (R131). -/
def loseStaged (w : WFrame) : WFrame :=
  { w with staged := w.staged.map fun b =>
      match b.2.2 with
      | .coded => (b.1, [], .lost)
      | .noGain => (b.1, [], .lost)
      | _ => b }

/-- Streams whose ring lies in a half. -/
def ringStreams (s : State) (h : Half) : List Nat :=
  (List.range 64).filter fun n => decide ((streamAt s n).ring.map (·.half) = some h)

/-- Running host jobs of a half complete with ISLAND_RESET (R196). -/
def jobsReset (s : State) (h : Half) : State :=
  let a := (half s h).ash
  let s1 := modAsh s h fun a => { a with
    jobs := a.jobs.map fun j => j.filter fun j => j.cmd.isNone, decJobs := [] }
  let s2 := (a.jobs.toList.filterMap id).foldl (fun s j => encDone s h j stIslandReset) s1
  a.decJobs.foldl (fun s j =>
    complete s j.cmd h stIslandReset 0 0xFFFF (BitVec.ofNat 32 j.decoded) (BitVec.ofNat 32 j.padded) (BitVec.ofNat 32 j.corrupt)) s2

/-- The Ashlar island of a half faults: blocks in its engines and staging buffers are lost, waiting blocks are stored raw, its
jobs end, and frames fed by its decoders are abandoned (R131, R196, R201, R550). -/
def ashlarFault (s : State) (h : Half) : State :=
  let a := (half s h).ash
  let s1 := modAsh s h fun a => { a with
    waiting := [], enc := Vector.replicate 12 none, dec := Vector.replicate 4 none, pipeWaiting := [], overload := false }
  let s2 := (ringStreams s1 h).foldl (fun s n => modStream s n fun x => { x with writing := x.writing.map loseStaged }) s1
  let s3 := (engineBlocks a).foldl (fun s b => match b.stream with
    | some n => stageBlock s n b.frame b.block [] .lost
    | none => s) s2
  let s4 := storeWaiting s3 a.waiting
  let s5 := (ringStreams s4 h).foldl (fun s n =>
    placeBlocks s n (((streamAt s n).writing.map fun w => w.staged.length).sum + 1)) s4
  decodersLost (dropJobs (jobsReset s5 h) h 1) h

/-- A channel as its controller faults: queued writes poison their bursts, and its sweep and staged values go (R388, R389). -/
def chanFault (m : HalfMem) (k : Nat) : HalfMem :=
  let c := tget m.chans k
  let writes := ((c.sub0.writeQ ++ c.sub1.writeQ).map fun q => q.burst / 64)
  let drop := fun (b : SubChan) => { b with
    readQ := [], writeQ := [], draining := false, work := b.work.filter fun x => decide (x ≠ .sweep) }
  { writes.foldl poisonBurst m with
    chans := tmod m.chans k fun c => { c with
      sub0 := drop c.sub0, sub1 := drop c.sub1, sweep := none, stagedSet := none, commitWait := 0 } }

/-- A change staged for a clearing of a DRAM channel of a half. -/
def ofDramHalf (h : Half) (x : Staged) : Bool :=
  match x.key with
  | .clearing 4 i => decide (halfOf i 8 = h)
  | _ => false

/-- Commands that a DRAM controller's sweeps and trim runs carry out, each once. -/
def sweepCmds (s : State) (h : Half) : List Cmd :=
  let cs := (half s h).mem.chans.toList.filterMap (fun c => c.sweep.bind (·.cmd)) ++
    (List.range 8).filterMap fun k => (trimAt s 4 (devChan h k)).cmd
  cs.foldl (fun l c => if l.any fun d => decide (d.serial = c.serial) then l else l ++ [c]) []

/-- The DRAM controller island of a half faults (R389). -/
def dramFault (s : State) (h : Half) : State :=
  let cmds := sweepCmds s h
  let s1 := modMem s h fun m => { (List.range 8).foldl chanFault m with lostFrames := [] }
  let s2 := (List.range 8).foldl (fun s k => modTrim s 4 (devChan h k) trimLost) s1
  let s3 := cmds.foldl (fun s c => complete s c h stIslandReset 0 0xFFFF 0 0 0) (stagedLost s2 (ofDramHalf h) stIslandReset)
  (ringStreams s3 h).foldl (fun s n => modStream s n fun x => { x with
    writing := x.writing.map fun w => { w with wflags := w.wflags ||| 0x800 } }) s3

/-- The DRAM controller island of a half is back: the frames not stored are reported, a record for the half and one for each
stream (R389; DESIGN CHOICE 61). -/
def dramBack (s : State) (h : Half) : State :=
  let l := (half s h).mem.lostFrames
  let s1 := modMem s h fun m => { m with lostFrames := [] }
  let s2 := event s1 h 0x700E 3 0x71 (halfIdx h) noPoint l.length 0 0
  l.foldl (fun s e => event s h 0x700E 3 0x20 e.1 e.2.1 (lo32 e.2.2.toNat).toNat (hi32 e.2.2.toNat).toNat 0) s2

/-- A running command works on the island. -/
def onIsland (s : State) (h : Half) (i : IslandId) (f : Flight) : Bool :=
  decide (f.exec = h) && decide (f.st = .running) && !isHeld s f.cmd.serial && decide (opLatency f.op = .long) &&
    match i with
    | .ingest q => decide (opClass f.op = 1) && (quadLinks s h q).contains (pf f.cmd 2 4 0)
    | .pipeline => decide (opClass f.op = 4)
    | .dram => decide (opClass f.op = 7)
    | _ => false

/-- A running command whose island resets ends with ISLAND_RESET (R60); a link it was enabling trains on by itself. -/
def cmdReset (s : State) (f : Flight) : State :=
  let s1 := match f.op with
    | .linkEnable => modLink s (pf f.cmd 2 4 0) fun l => { l with enableCmd := none }
    | _ => abortWork f.op f.cmd f.exec s
  complete s1 f.cmd f.exec stIslandReset 0 0xFFFF 0 0 0

/-- What an island loses as it faults. -/
def faultWork (s : State) (h : Half) : IslandId → State
  | .ingest q => ingestFault s h q
  | .ashlar => ashlarFault s h
  | .pipeline => pipelineLost s h
  | .dram => dramFault s h
  | .viewfinder => vfIslandReset s h
  | .audio => audIslandFault s h
  | _ => s

/-- The fault of an island is a self-reported fault of a pair (R464). -/
def pairFaults : IslandId → Bool
  | .ingest _ => true
  | .ashlar => true
  | .dram => true
  | _ => false

/-- An automatic reset of an island starts (R27). -/
def islandFaults (s : State) (h : Half) (i : IslandId) : State :=
  if (islandAt s h i).resetting || decide ((islandAt s h i).pstate = .off) || (half s h).sys.inReset then s
  else
    let s1 := (s.flights.filter (onIsland s h i)).foldl cmdReset (modIsland s h i fun _ => { resetting := true })
    let s2 := zeroCounters (faultWork s1 h i) h i
    if pairFaults i then selfFault s2 0 else s2

/-- Code of an island in DEV_ISLAND_RESET, and its quad (R509). -/
def islandCode : IslandId → Option (Nat × Nat)
  | .ingest q => some (1, q)
  | .ashlar => some (2, 0)
  | .pipeline => some (3, 0)
  | .vcu => some (4, 0)
  | .dram => some (5, 0)
  | .viewfinder => some (6, 0)
  | .audio => some (7, 0)
  | _ => none

/-- What firmware does as an island returns from its reset (R240, R351, R389, R429, R447). -/
def resetWork (s : State) (h : Half) (cycles : Nat) : IslandId → State
  | .pipeline => reloadLuts s h
  | .vcu => vcuIslandReset s h
  | .dram => dramBack s h
  | .viewfinder => vfRestarted s h
  | .audio => audIslandDone s h cycles
  | _ => s

/-- ISLAND_RESET_DONE: the island is back after `cycles` AON cycles (R27, R509). -/
def islandBack (s : State) (h : Half) (i : IslandId) (cycles : Nat) : State :=
  if !(islandAt s h i).resetting then s
  else
    let s1 := resetWork (modIsland s h i fun _ => {}) h cycles i
    match islandCode i with
    | some (code, q) =>
      let quad := match i with
        | .ingest _ => 12 * halfIdx h + q
        | _ => 0
      event (modSys s1 h fun x => { x with islandResets := satInc x.islandResets }) h 0x0031 2 0x71 (halfIdx h) noPoint code quad
        (min cycles 0xFFFFFFFF)
    | none => s1

/-- ISLAND_RESET_DONE (R27). -/
def execIslandResetDone (h : Half) (i : IslandId) (cycles : Nat) (s : State) : Host.Outcome State Fault Refusal :=
  act (.islandResetDone h i cycles) s (islandBack s h i cycles)

end Sys2Proof.Machine
end

