-- ==== Sys2Proof/Machine/Reset.lean ====
section
/-! DEFINITION. The resets of the device and what each leaves: FLR, PERST, half reset, warm reset, power-on (R68, R395, R403,
R478 to R484, R546, R547). -/

namespace Sys2Proof.Machine

/-! Commands in flight (R61, R68, R546). -/

/-- The reports of a submission that wait for the mirror are forgotten. -/
def forgetHeld (s : State) (serial : Nat) : State :=
  modPair s fun p => { p with held := p.held.filter fun r => decide (heldSerial r ≠ serial) }

/-- The mirror hears that nothing more of a mirrored command will be posted (R456). -/
def tellDropped (s : State) (f : Flight) : State := if f.mirrored then tell s (.posted f.cmd.recv f.cmd.tag true) else s

/-- A command leaves flight without a report. -/
def dropFlight (s : State) (f : Flight) : State :=
  forgetHeld { tellDropped s f with flights := s.flights.filter fun x => !isFlight f.cmd.serial x } f.cmd.serial

/-- A command goes on, but its reports have no ring to go to. -/
def muteFlight (s : State) (f : Flight) : State :=
  forgetHeld (modFlight (tellDropped s f) f.cmd.serial fun x => { x with dropped := true, slots := 0 }) f.cmd.serial

/-- A command received through a half whose rings go: one that has not started or runs here ends, a staged change and a
command of the other half go on (R68). -/
def flrFlight (h : Half) (s : State) (f : Flight) : State :=
  if f.cmd.recv ≠ h ∨ f.dropped ∨ f.silent then s
  else match f.st with
    | .readingBlock => dropFlight s f
    | .held => dropFlight s f
    | .forwarded => muteFlight s f
    | .deferred => muteFlight s f
    | .fetched => if f.exec = h then dropFlight s f else muteFlight s f
    | .running =>
      if f.exec ≠ h then muteFlight s f
      else if isHeld s f.cmd.serial ∨ opLatency f.op ≠ .long then dropFlight s f
      else dropFlight (abortWork f.op f.cmd h s) f

/-! What the host sees of a half (R36, R63, R281, R401, R402). -/

/-- Rings, event mask and arbitration of a half at their reset values; the event log is kept (R36, R63, R65, R14). -/
def cmdCleared (c : HalfCmd) : HalfCmd := { log := c.log, nextSeq := c.nextSeq }

/-- The endpoint after FLR: the PERST ball, the link, its counters and its ASPM settings stay (R412, R484). -/
def epFlr (p : Endpoint) : Endpoint :=
  { p with
    d3hot := false, pmeEn := false, pmeSent := false, msixEnable := false, msixMask := false, msix := Vector.replicate 128 {}
    winBase := 0, peer := false, sizeLog2 := 28, poisonReads := 0, heldCompletions := [], aperRead := none }

/-- The endpoint after PERST or DL_Down: the link is down and its counters are lost (R395, R484). -/
def epPerst (p : Endpoint) : Endpoint :=
  { epFlr p with
    gen := 0, width := 0, l0pWidth := 0, flit := false, lstate := 0, recoveries := 0, corrected := 0, l1Entries := 0
    aspmL1 := false, l11 := false, l12 := false, l0p := false, ltr := none }

/-- A host hold taken through a half's rings goes (R281). -/
def viaDropped (h : Half) (b : TapBuf) : TapBuf :=
  let left := b.holdVia &&& ~~~ halfCode h
  if b.holdVia = 0 then b else settleBuf { b with hostHold := b.hostHold && decide (left ≠ 0), holdVia := left }

/-- Host holds on tap buffers taken through a half's rings are released (R281). -/
def hostHoldsDropped (s : State) (h : Half) : State :=
  let ring := fun (r : TapRing) => { r with bufs := r.bufs.map (viaDropped h) }
  { s with ctxs := s.ctxs.map fun x => { x with taps := x.taps.map fun t => { t with
      ringA := t.ringA.map ring, ringB := t.ringB.map ring } } }

/-- What FLR and PERST of a half clear beside its endpoint (R484). -/
def hostGone (s : State) (h : Half) (f : Endpoint → Endpoint) : State :=
  let s1 := modEp (modCmd (s.flights.foldl (flrFlight h) s) h cmdCleared) h f
  dropJobs (hostHoldsDropped s1 h) h 0

/-- The half, or a wider part of the device, is in reset: a narrower reset has no effect (R482). -/
def inWider (s : State) (h : Half) : Bool := (half s h).sys.inReset || decide (s.sys.bootStep = 1)

/-- FLR: the half's function and its host-facing state (R68, R478). -/
def flr (s : State) (h : Half) : State :=
  if inWider s h || !(half s h).ep.perstHigh then s else hostGone s h epFlr

/-- FLR (R68). -/
def execFlr (h : Half) (s : State) : Host.Outcome State Fault Refusal := act (.flr h) s (flr s h)

/-- The half's link goes down with the effect of a PERST; the loss of both ports is a self-reported fault (R395, R464). -/
def portDown (s : State) (h : Half) : State :=
  let s1 := hostGone s h epPerst
  if s1.a.ep.gen = 0 ∧ s1.b.ep.gen = 0 then selfFault s1 4 else s1

/-- PERST_ASSERT: through a wider reset the ball holds the endpoint only (R482). -/
def perstAssert (s : State) (h : Half) : State :=
  let s1 := modEp s h fun p => { p with perstHigh := false }
  if !(half s h).ep.perstHigh then s
  else if inWider s h then modEp s1 h epPerst
  else portDown s1 h

/-- PERST_ASSERT (R478). -/
def execPerstAssert (h : Half) (s : State) : Host.Outcome State Fault Refusal := act (.perstAssert h) s (perstAssert s h)

/-- PERST_RELEASE (R478, R403). -/
def execPerstRelease (h : Half) (s : State) : Host.Outcome State Fault Refusal :=
  act (.perstRelease h) s (modEp s h fun p => { p with perstHigh := true, everReleased := true })

/-- PCIE_DL_DOWN: an established link leaves DL_Active (R395). -/
def dlDown (s : State) (h : Half) : State := if (half s h).ep.gen = 0 then s else portDown s h

/-- PCIE_DL_DOWN (R395). -/
def execPcieDlDown (h : Half) (s : State) : Host.Outcome State Fault Refusal := act (.pcieDlDown h) s (dlDown s h)

/-! State of a half that its resets keep (R308, R388, R484). -/

/-- DRAM of a half through a half reset or a warm reset: held in self-refresh once it has been trained; sweeps, staged values,
frequency changes and queues are lost (R388). -/
def memHeld (trained : Bool) (m : HalfMem) : HalfMem :=
  let ends := fun (b : SubChan) => { b with readQ := [], writeQ := [], draining := false, work := [], banks := [] }
  { m with
    selfRefresh := trained, freq := none, hold := false, pstate := 0, lostFrames := []
    chans := m.chans.map fun c => { c with
      sweep := none, sparing := none, stagedSet := none, commitWait := 0, sub0 := ends c.sub0, sub1 := ends c.sub1
      rank := c.rank.map fun r => { hot := r.hot, limited := r.limited }
      debtPeak := 0, topRefresh := 0, rmwWrites := 0, fwdReads := 0 } }

/-- Health counters of a half that a reset keeps, with the cause and kind of this one; readings, limits and derived settings
start anew (R484, R485, R508). -/
def sysReset (cause : BitVec 4) (kind : BitVec 2) (x : HalfSys) : HalfSys :=
  { railLow := x.railLow, lastReset := cause, dips := x.dips, throttleEntries := x.throttleEntries, sheds := x.sheds
    warmResets := x.warmResets, halfResets := x.halfResets, islandResets := x.islandResets, watchdogs := x.watchdogs
    inReset := true, bootRom := false, resetKind := kind }

/-- A half as a half reset or a warm reset leaves it. -/
def halfCleared (cause : BitVec 4) (kind : BitVec 2) (x : HalfState) : HalfState :=
  { cmd := cmdCleared x.cmd, ep := epPerst x.ep
    ident := { x.ident with cmdReady := false, bootStage := 0 }
    mem := memHeld (x.mem.selfRefresh || x.ident.memReady) x.mem
    sys := sysReset cause kind x.sys }

/-- A trim instance through a half reset or a warm reset: committed values stay; those of domain 1 are no longer in force
(R308). -/
def trimKept (d : Nat) (t : TrimInst) : TrimInst :=
  let u := trimLost t
  if d = 1 then { u with retainedOnly := u.committed.isSome } else u

/-- A stream through a half reset or a warm reset: its frame counters only (R128, R154). -/
def streamKept (x : Stream) : Stream := { frame := x.frame, carried := x.carried }

/-- The pairing state through a half reset or a warm reset: configuration, role, EPOCH and counts stay, and the device rejoins
when the pair link returns (R467, R477). -/
def pairKept (p : Pair) : Pair :=
  { st := p.st, role := p.role, enable := p.enable, roleRequest := p.roleRequest, faultMask := p.faultMask, hbMiss := p.hbMiss
    pairId := p.pairId, epoch := p.epoch, takeovers := p.takeovers, replayed := p.replayed, lost := p.lost
    sameDram := p.sameDram, compatible := p.compatible, fenceCause := p.fenceCause }

/-! Half reset (R478, R481, R546, R547). -/

/-- A command in flight as half `h` resets (R546). -/
def resetFlight (h : Half) (s : State) (f : Flight) : State :=
  if f.silent then (if f.exec = h then dropFlight s f else s)
  else if f.cmd.recv = h then
    match f.st with
    | .readingBlock => dropFlight s f
    | .held => dropFlight s f
    | .forwarded => dropFlight s f
    | _ => if f.exec = h then dropFlight s f else muteFlight s f
  else if f.exec ≠ h then s
  else if f.dropped then dropFlight s f
  else match f.st with
    | .readingBlock => s
    | .held => s
    | _ => retire (reportLost s f stIslandReset) f.cmd.serial

/-- The management port as half `h` resets: lost with the lead; a command it has forwarded there completes (R70, R484). -/
def portReset (s : State) (h : Half) : State :=
  if h = leadHalf s then { s with mgmt := {} }
  else match s.mgmt.forwarded with
    | some c => portComplete { s with mgmt := { s.mgmt with forwarded := none, waiting := false } } (mkCompletion c h stIslandReset 0 0xFFFF 0 0 0)
    | none => s

/-- A session of the half closes; a split one stops first, and says so where the lead resets (R336, R350). -/
def sessReset (h : Half) (s : State) (n : Nat) : State :=
  let x := sessAt s n
  if !sessIn x h then s
  else if !isSplit x then closeSess s n
  else
    let gone := fun (x : Session) => { x with held := [], coding := none, chunks := [], flush := none }
    if h = leadHalf s then closeSess (vcuSplitStopped (modSess s n gone) n stIslandReset 1) n
    else
      let s1 := (sessCmds x).foldl (fun s c => complete s c (leadHalf s) stIslandReset 0 0xFFFF 0 0 0) (modSess s n gone)
      closeSess (stagedLost s1 (ofSess n) stIslandReset) n

/-- A context that occupies the half closes (R240). -/
def ctxReset (h : Half) (s : State) (n : Nat) : State :=
  if !ctxIn (ctxAt s n) h then s
  else
    let s1 := closeCtx (stagedLost s (ofCtx n) stIslandReset) n
    { s1 with contentTrigs := s1.contentTrigs.map fun t => if t.ctx = n then {} else t }

/-- A LUT load that the other half carries out too ends with ISLAND_RESET. -/
def loadReset (h : Half) (s : State) (serial : Nat) : State :=
  let o := otherHalf h
  match flightOf s serial with
  | some f =>
    complete (modPipe s o fun p => { p with loading := p.loading.filter fun l => decide (l.2.2.2 ≠ serial) }) f.cmd o
      stIslandReset 0 0xFFFF 0 0 0
  | none => s

/-- Streams bound in a half. -/
def boundIn (s : State) (h : Half) (n : Nat) : Bool := decide (streamHalf s n = some h)

/-- The trim service as a half resets. -/
def trimReset (s : State) (h : Half) : State :=
  let inst := fun (d : Nat) (t : TrimInst) (mine : Bool) => if mine then trimKept d t else t
  let k := halfIdx h
  { s with trim := { s.trim with
      d1 := Vector.ofFn fun i => inst 1 (tget s.trim.d1 i.val) (boundIn s h i.val)
      d2 := Vector.ofFn fun i => inst 2 (tget s.trim.d2 i.val) (boundIn s h i.val)
      d3 := Vector.ofFn fun i => inst 3 (tget s.trim.d3 i.val) (decide (i.val / 16 = k))
      d4 := Vector.ofFn fun i => inst 4 (tget s.trim.d4 i.val) (decide (i.val / 8 = k))
      d5 := Vector.ofFn fun i => inst 5 (tget s.trim.d5 i.val) (decide (i.val = k))
      accums := s.trim.accums.filter fun a => !boundIn s h a.1 } }

/-- Streams, rules, corrections, links and quads of the half return to their power-on values (R111, R154, R240). -/
def objectsReset (s : State) (h : Half) : State :=
  let k := halfIdx h
  { s with
    rules := s.rules.map fun r => if r.defined ∧ boundIn s h r.lead = true then {} else r
    corrs := Vector.ofFn fun i => if boundIn s h i.val then {} else tget s.corrs i.val
    streams := s.streams.map fun x => if x.bind.map (fun b => halfOf b.link 16) = some h then streamKept x else x
    reads := s.reads.filter fun r => decide (r.half ≠ h)
    links := Vector.ofFn fun i => if i.val / 16 = k then {} else tget s.links i.val
    rx := Vector.ofFn fun i => if i.val / 16 = k then {} else tget s.rx i.val
    lanes := Vector.ofFn fun i => if i.val / 48 = k then {} else tget s.lanes i.val
    quads := Vector.ofFn fun i => if i.val / 12 = k then 0 else tget s.quads i.val }

/-- Flash work of the half ends; a live swap needs both halves (R473, R541). -/
def flashReset (s : State) (h : Half) : State :=
  let s1 := match s.sys.swap with
    | some w => if w.cmd.port || (flightOf s w.cmd.serial).isSome then complete s w.cmd w.half stIslandReset 0 0xFFFF 0 0 0 else s
    | none => s
  flashGo (modDev s1 fun d => { d with
    swap := none, jobs := d.jobs.filter fun j => decide (j.half ≠ h), verifyCmd := d.verifyCmd.filter fun v => decide (v.2 ≠ h)
    verified := d.verified &&& ~~~ halfCode h })

/-- The pair as a half of this device resets: reports that waited for the mirror go out, and the pair link is to form anew. -/
def pairReset (s : State) : State :=
  let s1 := releaseHeld s fun _ => true
  let s2 := match s1.pair.cmd with
    | some c => if (flightOf s1 c.serial).isSome then complete s1 c (cmdHalf s1 c) stIslandReset 0 0xFFFF 0 0 0 else s1
    | none => s1
  { s2 with
    pair := pairKept s2.pair
    flights := s2.flights.map fun f => { f with awaitsAck := false, mirrored := false } }

/-- Everything of half `h` that its half reset clears (R484). -/
def halfResetWork (s : State) (h : Half) (cause : BitVec 4) : State :=
  let o := otherHalf h
  let loads := (half s h).pipe.loading.map (·.2.2.2)
  let s1 := s.flights.foldl (resetFlight h) s
  let s2 := modCmd { s1 with staged := s1.staged.filter fun x => decide (x.exec ≠ h) } h cmdCleared
  let s3 := (List.range 32).foldl (ctxReset h) ((List.range 16).foldl (sessReset h) (portReset s2 h))
  let s4 := loads.foldl (loadReset h) s3
  let s5 := flashReset (audHalfReset (vfHalfReset (dropJobs s4 h 0) h) h) h
  let s6 := objectsReset (trimReset s5 h) h
  let s7 := modHalf s6 h (halfCleared cause 1)
  let s8 := modSys s7 h fun x => { x with halfResets := satInc x.halfResets }
  let s9 := aperEnds (firingsEnd { s8 with mortar := { cause := 2 } }) o
  if s.pair.enable then pairReset s9 else s9

/-! Warm reset and power-on (R478, R479, R484, R488). -/

/-- The device as a warm reset leaves it: AON keeps its share, DRAM is held in self-refresh, and everything else is at its
power-on value (R484). -/
def warmReset (s : State) (cause : BitVec 4) : State :=
  let cleared := fun (x : HalfState) =>
    let y := halfCleared cause 2 x
    { y with sys := { y.sys with warmResets := satInc y.sys.warmResets } }
  { a := cleared s.a
    b := cleared s.b
    mortar := { cause := 2 }
    streams := s.streams.map streamKept
    trim := {
      d1 := s.trim.d1.map (trimKept 1), d2 := s.trim.d2.map (trimKept 2), d3 := s.trim.d3.map (trimKept 3)
      d4 := s.trim.d4.map (trimKept 4), d5 := s.trim.d5.map (trimKept 5) }
    pair := pairKept s.pair
    sys := { s.sys with
      bootStep := 1, verified := 0, failed := 0, bootMisses := 0, selfRead := false, jobs := [], verifyCmd := []
      swap := none, devReset := [], trigOut := 0 }
    nextSerial := s.nextSerial
    hostMem := s.hostMem
    hostBad := s.hostBad
    pending := s.pending }

/-- Rails and clocks are in order: the boot ROMs of both halves run, and the Mortar link trains (R488 steps 2 and 3). -/
def bootGo (s : State) : State :=
  if s.sys.bootStep = 1 ∧ s.sys.warmHeld = false ∧ s.sys.sysClkLost = false ∧ s.a.sys.railLow = 0 ∧ s.b.sys.railLow = 0 then
    let up := fun (x : HalfSys) => { x with inReset := false, bootRom := true }
    let s1 := modSys (modSys s .A up) .B up
    { s1 with
      mortar := { s1.mortar with st := .training, attempts := 0, cause := 2 }
      sys := { s1.sys with bootStep := 3, bootBank := s1.sys.selBank } }
  else s

/-- The device as power-on leaves it, with the straps sampled: only flash is kept (R484, R493). Pins and rails are at the levels
they have. -/
def powerOn (s : State) (halfId pairId : Bool) : State :=
  let fresh := fun (x : HalfState) =>
    let e : Endpoint := { perstHigh := x.ep.perstHigh, everReleased := x.ep.perstHigh }
    let y : HalfSys := { railLow := x.sys.railLow &&& 0xFF }
    ({ ep := e, sys := y } : HalfState)
  { a := fresh s.a
    b := fresh s.b
    sys := {
      halfId, flash := s.sys.flash, saved := s.sys.saved, selSeq := s.sys.selSeq, selBank := s.sys.selBank
      selPersisted := s.sys.selPersisted, warmHeld := s.sys.warmHeld, trigIn := s.sys.trigIn, fresh := s.sys.fresh }
    pair := { pairId }
    nextSerial := s.nextSerial
    hostMem := s.hostMem
    hostBad := s.hostBad
    pending := s.pending }

/-- A half reset is asked for: none while the half or the device is in reset; a second one within 1 ms of the other half's is
a warm reset, which while that half is still in reset its time decides (R482). -/
def halfReset (s : State) (h : Half) (cause : BitVec 4) : State :=
  if inWider s h then s
  else
    let o := otherHalf h
    if (half s o).sys.inReset then
      let (k, s1) := fresh s
      if Config.freeBool k then bootGo (warmReset s1 7) else halfResetWork s1 h cause
    else halfResetWork s h cause

/-- A warm reset is asked for: it supersedes any narrower reset (R482). -/
def warmStart (s : State) (cause : BitVec 4) : State := bootGo (warmReset s cause)

/-- POWER_ON: the power-on reset is released, and boot goes on once every rail is in order (R488). -/
def execPowerOn (halfId pairId : Bool) (s : State) : Host.Outcome State Fault Refusal :=
  .next (withQueueOf s (bootGo (powerOn s halfId pairId)))

/-- WARM_RESET_N_ASSERT: the device stays in reset while the ball is low (R479). -/
def execWarmResetNAssert (s : State) : Host.Outcome State Fault Refusal :=
  actIf true s (if s.sys.warmHeld then s else warmReset (modDev s fun d => { d with warmHeld := true }) 2)

/-- WARM_RESET_N_RELEASE: the boot sequence runs (R479). -/
def execWarmResetNRelease (s : State) : Host.Outcome State Fault Refusal :=
  actIf true s (bootGo (modDev s fun d => { d with warmHeld := false }))

/-- KEYSTONE_FAULT: always a half reset (R481). -/
def execKeystoneFault (h : Half) (s : State) : Host.Outcome State Fault Refusal := actIf true s (halfReset s h 3)

/-- DEV_WATCHDOG: logged and counted, then a half reset (R481). -/
def watchdog (s : State) (h : Half) : State :=
  if inWider s h then s
  else
    let s1 := event s h 0x0036 3 0x71 (halfIdx h) noPoint 0 0 0
    halfReset (modSys s1 h fun x => { x with watchdogs := satInc x.watchdogs }) h 4

/-- DEV_WATCHDOG (R481). -/
def execDevWatchdog (h : Half) (s : State) : Host.Outcome State Fault Refusal := actIf true s (watchdog s h)

/-- ISLAND_FAULT: Keystone and fabric reset the half, the PCIe island takes its link down, and every other island that has an
automatic reset resets alone (R27, R395, R481). -/
def islandFault (s : State) (h : Half) : IslandId → State
  | .keystone => halfReset s h 3
  | .fabric => halfReset s h 3
  | .pcie => dlDown s h
  | .mortar => s
  | .aon => s
  | i => islandFaults s h i

/-- ISLAND_FAULT (R27). -/
def execIslandFault (h : Half) (i : IslandId) (s : State) : Host.Outcome State Fault Refusal :=
  act (.islandFault h i) s (islandFault s h i)

/-! DEV_RESET (R480, R507). -/

/-- DEV_RESET: the reset follows 1,000 AON cycles after its completion. -/
def opDevReset (c : Cmd) (_h : Half) (s : State) : Reply × State :=
  match firstErr (rsv c [(2, 0xFFFFFFFC)] ++ bad [(2, decide (pf c 2 1 0 = 3))]) with
  | some e => (e, s)
  | none => (ok, modDev s fun d => { d with devReset := d.devReset ++ [BitVec.ofNat 2 (pf c 2 1 0)] })

/-- DEV_RESET_DELAY_EXPIRY: the oldest reset that waits takes effect (R480). -/
def delayExpiry (s : State) : State :=
  match s.sys.devReset with
  | [] => s
  | k :: t =>
    let s1 := modDev s fun d => { d with devReset := t }
    if k = 0 then warmStart s1 1 else halfReset s1 (if k = 1 then .A else .B) 1

/-- DEV_RESET_DELAY_EXPIRY (R480). -/
def execDevResetDelayExpiry (s : State) : Host.Outcome State Fault Refusal := actIf true s (delayExpiry s)

/-- DEV_RESET (R480). -/
def execDevReset (c : Cmd) (s : State) : Host.Outcome State Fault Refusal := submit (.devReset c) .devReset opDevReset c s

end Sys2Proof.Machine
end

