-- ==== Sys2Proof/Machine/Boot.lean ====
section
/-! DEFINITION. Boot from flash: the checks of an image, the fall back to the other bank, the start of firmware, and the boot
watchdog (R485 to R490). -/

namespace Sys2Proof.Machine

/-- Cause in DEV_BOOT_FALLBACK of an image that is not valid; 0 for a valid one (R487, R509). -/
def imageCause (img : ImageCheck) : Nat :=
  if !img.key || !img.sig then 1 else if !img.digest then 2 else if !img.secver then 4 else 0

/-- Bit of a flash bank. -/
def bankBit (b : Bool) : BitVec 2 := if b then 2 else 1

/-- Both halves stay in the boot ROM (R489). -/
def bootStuck (s : State) : State :=
  let stay := fun (i : Ident) => { i with cmdReady := false, bootStage := 0 }
  modDev (modIdent (modIdent s .A stay) .B stay) fun d => { d with bootStep := 9 }

/-- The boot bank fails: the other bank boots from step 4, or, once both have failed, the device stays in the boot ROM
(R489). -/
def bankFails (s : State) (cause : Nat) : State :=
  let d := s.sys
  let s1 := event s (leadHalf s) 0x0037 2 0x71 (halfIdx (leadHalf s)) noPoint (b2n d.bootBank) cause 0
  let again := fun (i : Ident) => { i with cmdReady := false, bootStage := 0 }
  let rom := fun (x : HalfSys) => { x with bootRom := true }
  let failed := d.failed ||| bankBit d.bootBank
  let s2 := modDev s1 fun d => { d with failed, verified := 0 }
  if failed = 3 then bootStuck s2
  else
    modDev (modSys (modSys (modIdent (modIdent s2 .A again) .B again) .A rom) .B rom) fun d => { d with bootBank := !d.bootBank }

/-- The whole device boots. -/
def deviceBoots (s : State) : Bool := decide (s.sys.bootStep = 3)

/-- Half `h`'s boot ROM runs after a reset of that half alone. -/
def halfBoots (s : State) (h : Half) : Bool := decide (s.sys.bootStep = 8) && (half s h).sys.bootRom

/-- The boot ROM of half `h` has the header and resident part at hand: the lead reads the flash; the other half gets them over
the Mortar link once the lead has checked them, or reads the flash itself (R481, R488). -/
def imageAtHand (s : State) (h : Half) : Bool :=
  if halfBoots s h then decide (s.mortar.st = .active) || decide (s.mortar.st = .idle) || decide (s.mortar.st = .down)
  else deviceBoots s && (decide (h = leadHalf s) ||
    ((s.sys.verified &&& halfCode (leadHalf s) != 0) &&
      (decide (s.mortar.st = .active) || decide (s.mortar.st = .idle) || s.sys.selfRead)))

/-- The image is valid in half `h`: BOOT_STAGE 1, and firmware starts once both halves have it (R488 steps 5 and 6). -/
def imageGood (s : State) (h : Half) : State :=
  let v := s.sys.verified ||| halfCode h
  let s1 := modDev (modIdent s h fun i => { i with bootStage := 1 }) fun d => { d with verified := v }
  let begin := fun (s : State) (h : Half) => modIdent s h fun i => { i with bootStage := 2 }
  if halfBoots s h then begin s1 h
  else if v = 3 then begin (begin s1 .A) .B
  else s1

/-- BOOT_IMAGE_VERIFIED: a half's boot ROM has checked header and resident part. An image that one resetting half refuses
leaves that half in its boot ROM: both halves always run one image (R489). -/
def imageVerified (s : State) (h : Half) (img : ImageCheck) : State :=
  if (half s h).sys.inReset || decide ((half s h).ident.bootStage ≠ 0) || !imageAtHand s h then s
  else if imageCause img = 0 then imageGood s h
  else if halfBoots s h then s
  else bankFails s (imageCause img)

/-- BOOT_IMAGE_VERIFIED (R488). -/
def execBootImageVerified (h : Half) (img : ImageCheck) (s : State) : Host.Outcome State Fault Refusal :=
  actIf true s (imageVerified s h img)

/-! Readings (R485, R502). -/

/-- Highest reading of the sensors that are not STALE, and its sensor; the lowest-numbered of equal ones. -/
def hottestOf (t : Vector (Int × Bool) 12) : Option (Int × Nat) :=
  (List.range 12).foldl (fun b i =>
    let x := tget t i
    if x.2 then b
    else match b with
      | some (m, k) => if m < x.1 then some (x.1, i) else some (m, k)
      | none => some (x.1, i)) none

/-- Readings of a half with its domain-5 offsets applied (R297, R502), 0 before its first commit. -/
def takeReadings (s : State) (h : Half) (temps : List Int) (rails : List Nat) : HalfSys → HalfSys :=
  let offs := match (trimAt s 5 (halfIdx h)).committed with
    | some (.telemetry t v) => (t, v)
    | _ => ([], [])
  fun x =>
    let t : Vector (Int × Bool) 12 := Vector.ofFn fun i => (temps.getD i.val 0 + offs.1.getD i.val 0, false)
    let r : Vector (Nat × Bool) 8 := Vector.ofFn fun i => (((rails.getD i.val 0 : Int) + offs.2.getD i.val 0).toNat, false)
    { x with temp := t, rail := r, tMax := ((hottestOf t).map (·.1)).getD x.tMax
             hottest := BitVec.ofNat 4 (((hottestOf t).map (·.2)).getD x.hottest.toNat) }

/-- The AVS target: the lowest passing voltage in 5 mV steps, plus 15 mV, within 650 to 800 mV (R497). -/
def avsTarget (lowest : Nat) : Nat := max 650 (min 800 ((lowest + 4) / 5 * 5 + 15))

/-- First island of SHED_MASK that is on, in the order VCU, viewfinder, pipeline, Ashlar (R505). -/
def nextShed (x : HalfSys) : Option Nat :=
  (List.range 4).find? fun k => x.shedMask.getLsbD k && !x.shed.getLsbD k

/-- Throttle step, shed mask, guard and AVS target as firmware derives them from fresh readings (R485; DESIGN CHOICE 62). -/
def derive (x : HalfSys) (vcore : Nat) : HalfSys :=
  let k := if 16 * (x.shedAt : Int) ≤ x.tMax then nextShed x else none
  { x with
    step := if 16 * (x.throttleAt : Int) ≤ x.tMax then 1 else 0
    shed := (k.map fun k => BitVec.ofNat 4 (2 ^ k)).getD 0, shedOrder := k.toList
    guard := decide (x.railLow ≠ 0), vcore := avsTarget vcore, sinceStep := 0, sinceShed := 0 }

/-- BOOT_FIRMWARE_LOADED: the loadable parts match their digests, and firmware sets CMD_READY; or the bank fails (R488
steps 6 and 7, R485, R489). -/
def firmwareLoaded (s : State) (h : Half) (img : ImageInfo) (env : BootEnv) : State :=
  if (half s h).ident.bootStage ≠ 2 then s
  else if !img.partsOk then
    if deviceBoots s then bankFails s 2 else modIdent s h fun i => { i with bootStage := 0 }
  else
    let s1 := modIdent s h fun i => { i with
      cmdReady := true, bootStage := 3, fwMajor := img.major, fwMinor := img.minor, fwPatch := img.patch, fwBank := s.sys.bootBank }
    let s2 := modSys s1 h fun x => derive (takeReadings s h env.temps env.rails { x with bootRom := false }) env.vcore
    let s3 := (half s2 h).sys.shedOrder.foldl (fun s k => modIsland s h (shedTarget k) fun i => { i with pstate := .off }) s2
    let x := (half s h).sys
    let s4 := event s3 h 0x0030 0 0x71 (halfIdx h) noPoint x.resetKind.toNat x.lastReset.toNat (min env.cycles 0xFFFFFFFF)
    let done := s4.a.ident.cmdReady && s4.b.ident.cmdReady
    if deviceBoots s4 && done then modDev s4 fun d => { d with bootStep := 8, verified := 0 } else s4

/-- BOOT_FIRMWARE_LOADED (R488). -/
def execBootFirmwareLoaded (h : Half) (img : ImageInfo) (env : BootEnv) (s : State) : Host.Outcome State Fault Refusal :=
  actIf true s (firmwareLoaded s h img env)

/-- A half's firmware has started and not set CMD_READY. -/
def starting (s : State) (h : Half) : Bool := decide ((half s h).ident.bootStage = 2)

/-- BOOT_WATCHDOG_EXPIRY: the boot ROM starts again once with the other bank; after a second miss the device stays in the boot
ROM (R490). A half that boots alone stays in its boot ROM. -/
def bootExpiry (s : State) : State :=
  if deviceBoots s then
    if !(starting s .A || starting s .B) then s
    else if 0 < s.sys.bootMisses then bootStuck s
    else bankFails (modDev s fun d => { d with bootMisses := d.bootMisses + 1 }) 3
  else [Half.A, .B].foldl (fun s h =>
    if halfBoots s h && starting s h then modIdent s h fun i => { i with bootStage := 0 } else s) s

/-- BOOT_WATCHDOG_EXPIRY (R490). -/
def execBootWatchdogExpiry (s : State) : Host.Outcome State Fault Refusal := actIf true s (bootExpiry s)

/-- QSPI_SELF_READ_TIMEOUT: with the Mortar link not ACTIVE, the other half's boot ROM reads the flash itself (R488). -/
def execQspiSelfReadTimeout (s : State) : Host.Outcome State Fault Refusal :=
  actIf true s
    (if deviceBoots s && !(decide (s.mortar.st = .active) || decide (s.mortar.st = .idle)) then
      modDev s fun d => { d with selfRead := true }
    else s)

end Sys2Proof.Machine
end

