-- ==== Sys2Proof/Machine/Firmware.lean ====
section
/-! DEFINITION. The flash banks, the live swap and the training area's writes: the firmware commands and what their flash work
ends in (R472, R473, R486, R541). -/

namespace Sys2Proof.Machine

/-- Flash address of a bank (R486). -/
def bankBase (b : Bool) : Nat := if b then 0x02000000 else 0x01000000

/-- The bank that the half's running image did not come from (R472). -/
def idleBank (s : State) (h : Half) : Bool := !(half s h).ident.fwBank

/-- Bytes in 4 KiB pieces from a flash address on; the number given bounds them. -/
def flashPieces : Nat → Nat → List Byte → List (Nat × List Byte)
  | 0, _, _ => []
  | n + 1, a, bs => if bs.isEmpty then [] else (a, bs.take 4096) :: flashPieces n (a + 4096) (bs.drop 4096)

/-- Note what the checks have found of a bank. -/
def markBank (s : State) (b : Bool) (mark : BitVec 2) : State :=
  modDev s fun d => { d with banks := tset d.banks (b2n b) { mark } }

/-- Bytes that DEV_FW_STAGE takes: from the port's data buffer, or from host memory. -/
def stageBytes (s : State) (c : Cmd) : Option (List Byte) :=
  let n := pf c 4 24 0
  if pb c 2 0 then some ((List.range n).map fun i => s.mgmt.buf.getD i 0) else hostRead s (pq c 5) n

/-- A flash job is queued behind the others. -/
def queueJob (s : State) (j : FlashJob) : State := flashGo (modDev s fun d => { d with jobs := d.jobs ++ [j] })

/-- DEV_FW_STAGE (R472). -/
def opDevFwStage (c : Cmd) (h : Half) (s : State) : Reply × State :=
  let port := pb c 2 0
  let n := pf c 4 24 0
  let off := (dw c 3).toNat
  let b := idleBank s h
  match firstErr (rsv c [(2, 0xFFFFFFFE), (4, 0xFE000000)] ++
      bad [(2, (half s h).sys.bootRom && !port), (3, decide (off % 4096 ≠ 0)), (4, decide (n = 0 ∨ 2 ^ 24 < n + off)),
        (4, port && decide (4096 < n)), (5, if port then decide (pq c 5 ≠ 0) else decide (pq c 5 % 4 ≠ 0))]) with
  | some r => (r, s)
  | none =>
    match stageBytes s c with
    | none => (err stDataCorrupt 0x04, s)
    | some bs =>
      (.running, queueJob (markBank s b 0)
        { cmd := c, op := .devFwStage, half := h, pieces := flashPieces 4096 (bankBase b + off) bs })

/-- DEV_FW_VERIFY: the check of the staged image starts (R472). -/
def opDevFwVerify (c : Cmd) (h : Half) (s : State) : Reply × State :=
  (.running, modDev s fun d => { d with verifyCmd := d.verifyCmd ++ [(c, h)] })

/-- IMAGE_CHECK_DONE: the bank is marked valid, or invalid with DATA_CORRUPT and reason 0xA9 (R472). -/
def imageChecked (s : State) (img : ImageCheck) : State :=
  match s.sys.verifyCmd with
  | [] => s
  | (c, h) :: t =>
    let good := decide (imageCause img = 0)
    let s1 := markBank (modDev s fun d => { d with verifyCmd := t }) (idleBank s h) (if good then 1 else 2)
    if good then completeOk s1 c h 0 0 0 else complete s1 c h stDataCorrupt 0xA9 0xFFFF 0 0 0

/-- IMAGE_CHECK_DONE (R472). -/
def execImageCheckDone (img : ImageCheck) (s : State) : Host.Outcome State Fault Refusal := actIf true s (imageChecked s img)

/-- Flash address of the selector copy that the next write goes to: the copies are written alternately (R486). -/
def selectorCopy (s : State) : Nat := if ((s.sys.selSeq.map (·.toNat)).getD 1) % 2 = 1 then 0x8000 else 0

/-- The job that writes the boot selector for the bank not in use (R486). -/
def selectorJob (s : State) (c : Cmd) (h : Half) (res0 : Word) : FlashJob :=
  { cmd := c, op := .devFwActivate, half := h, res0, bank := idleBank s h, pieces := [(selectorCopy s, [])] }

/-- A STAGE region of a live swap: 4 KiB aligned, backed in its half's DRAM (R473). -/
def stageOk (s : State) (h : Half) (a : Nat) : Bool := decide (a % 4096 = 0) && backedRange (half s h).mem a (2 ^ 24)

/-- DEV_FW_ACTIVATE (R473). Whether the running image can hand its state to the new one is read from the image. -/
def opDevFwActivate (c : Cmd) (h : Half) (s : State) : Reply × State :=
  let next := pb c 2 0
  let memory := if next then [] else
    dramChecks s .A ++ dramChecks s .B ++ [(!mortarUp s, err stLinkDown 0), (s.sys.swap.isSome, err stBusy 0)]
  let unknown := decide ((tget s.sys.banks (b2n (idleBank s h))).mark ≠ 1)
  let (k, s1) := fresh s
  match firstErr (rsv c [(2, 0xFFFFFFFC)] ++
      bad [(3, if next then decide (pq c 3 ≠ 0) else decide (pq c 3 % 4096 ≠ 0)),
        (5, if next then decide (pq c 5 ≠ 0) else decide (pq c 5 % 4096 ≠ 0))] ++
      [(unknown, wrongState 0xA9)] ++ memory ++
      bad [(3, !next && !stageOk s .A (pq c 3)), (5, !next && !stageOk s .B (pq c 5))] ++
      [(!next && ((half s h).sys.bootRom || Config.freeBool k), wrongState 0xAA)]) with
  | some r => (r, s)
  | none =>
    if next then (.running, queueJob s (selectorJob s c h 0))
    else
      (.running, modDev s1 fun d => { d with
        swap := some { cmd := c, half := h, persist := pb c 2 1, stageA := pq c 3, stageB := pq c 5, step := 1 } })

/-- FW_STAGE_COPY_DONE: the image stands in the STAGE regions, and SWAP is set; or its digest there does not match, which ends the
swap as a failed check does (R473 steps 1 and 2). -/
def stageCopied (s : State) (ok : Bool) : State :=
  match s.sys.swap with
  | some w =>
    let h := w.half
    if w.step ≠ 1 then s
    else if ok then
      let image := s.sys.flash.readBytes flashDefault (bankBase (idleBank s h)) (2 ^ 24)
      let s1 := dramWrite (dramWrite s .A w.stageA image) .B w.stageB image
      modPair (modSwap s1 fun w => { w with step := 2 }) fun p => { p with swap := true }
    else complete (modDev s fun d => { d with swap := none }) w.cmd h stDataCorrupt 0xA9 0xFFFF 0 0 0
  | none => s

/-- FW_STAGE_COPY_DONE (R473). -/
def execFwStageCopyDone (ok : Bool) (s : State) : Host.Outcome State Fault Refusal := actIf true s (stageCopied s ok)

/-- A trim commit is due (R473 step 2). -/
def commitDue (s : State) : Bool := s.staged.any isTrimEntry

/-- FW_SWAP_CLEARING: firmware of both halves runs and no trim commit is due; fetching stops, and each half counts the clearing
(R50, R473 steps 2 and 3). -/
def swapClearing (s : State) : State :=
  match s.sys.swap with
  | some w =>
    if w.step = 2 ∧ s.a.ident.cmdReady = true ∧ s.b.ident.cmdReady = true ∧ commitDue s = false then
      countClearing (countClearing (modSwap s fun w => { w with step := 3 }) .A) .B
    else s
  | none => s

/-- FW_SWAP_CLEARING (R473). -/
def execFwSwapClearing (s : State) : Host.Outcome State Fault Refusal := actIf true s (swapClearing s)

/-- The reports of the clearing go out (R473 step 6). -/
def swapReports (s : State) (w : LiveSwap) : State :=
  let s1 := w.posts.foldl (fun s p => postTo s p.1 p.2) s
  pushOverflow (pushOverflow (w.events.foldl (fun s e => ringEvent s e.1 e.2) s1) .A) .B

/-- FW_SWAP_DONE: the new image runs, reports go out and fetching goes on; with PERSIST the boot selector is written before the
command completes (R473 steps 5 to 7). -/
def swapDone (s : State) (img : ImageInfo) (cycles : Nat) : State :=
  match s.sys.swap with
  | some w =>
    if w.step ≠ 3 then s
    else
      let h := w.half
      let b := idleBank s h
      let new := fun (i : Ident) => { i with fwMajor := img.major, fwMinor := img.minor, fwPatch := img.patch, fwBank := b }
      let job := selectorJob s w.cmd h (BitVec.ofNat 32 cycles)
      let s1 := modPair (modDev s fun d => { d with swap := none }) fun p => { p with swap := false }
      let s2 := modIdent (modIdent (swapReports s1 w) .A new) .B new
      if w.persist then queueJob s2 job else completeOk s2 w.cmd h (BitVec.ofNat 32 cycles) 0 0
  | none => s

/-- FW_SWAP_DONE (R473). -/
def execFwSwapDone (img : ImageInfo) (cycles : Nat) (s : State) : Host.Outcome State Fault Refusal :=
  actIf true s (swapDone s img cycles)

/-! Flash work (R375, R486, R541). -/

/-- What a verified piece leaves: its bytes; the selector, or the training area. -/
def pieceWritten (s : State) (j : FlashJob) (a : Nat) (bs : List Byte) : State :=
  match j.op with
  | .devFwActivate =>
    modDev s fun d => { d with
      selSeq := some (((d.selSeq).getD 0) + 1), selBank := j.bank, selPersisted := !pb j.cmd 2 0 }
  | .memSaveTraining => modDev s fun d => { d with saved := tset d.saved (halfIdx j.half) j.training }
  | _ => modDev s fun d => { d with flash := d.flash.writeBytes flashDefault a bs }

/-- What a piece that fails read-back leaves: its sector is invalid (R541). -/
def pieceFailed (s : State) (j : FlashJob) (a : Nat) : State :=
  match j.op with
  | .devFwActivate => s
  | .memSaveTraining => modDev s fun d => { d with saved := tset d.saved (halfIdx j.half) none }
  | _ =>
    let (k, s1) := fresh s
    modDev s1 fun d => { d with flash := d.flash.scramble a 4096 k }

/-- QSPI_PROGRAM_DONE: the piece being programmed ends and is read back (R541). -/
def programDone (s : State) (ok : Bool) : State :=
  match s.sys.jobs with
  | [] => s
  | j :: t =>
    match j.busy, j.pieces with
    | true, (a, bs) :: rest =>
      if ok then
        let s1 := pieceWritten s j a bs
        if rest.isEmpty then
          flashGo (completeOk (modDev s1 fun d => { d with jobs := t }) j.cmd j.half j.res0 0 0)
        else flashGo (modDev s1 fun d => { d with jobs := { j with pieces := rest, busy := false } :: t })
      else
        flashGo (complete (modDev (pieceFailed s j a) fun d => { d with jobs := t }) j.cmd j.half stHwFault 0xB4 0xFFFF 0 0 0)
    | _, _ => s

/-- QSPI_PROGRAM_DONE (R541). -/
def execQspiProgramDone (ok : Bool) (s : State) : Host.Outcome State Fault Refusal := actIf true s (programDone s ok)

/-! Commands. -/

/-- Checks of a status command whose record is 64 bytes at a 32-byte aligned address (R476's table). -/
def recordChecks (c : Cmd) : List (Bool × Reply) :=
  rsv c [(2, 0xFFFFFFFF)] ++ bad [(3, decide (pq c 3 % 32 ≠ 0)), (3, c.port && decide (pq c 3 ≠ 0))]

/-- DEV_FW_GET_STATUS: a record of 64 bytes, whose contents the spec does not give (R472). -/
def opDevFwGetStatus (c : Cmd) (_h : Half) (s : State) : Reply × State :=
  match firstErr (recordChecks c) with
  | some r => (r, s)
  | none =>
    let (k, s1) := fresh s
    writeRecord s1 c (pq c 3) ((List.range 64).map (Config.freeByte k)) ok


/-! Rows of the commands. -/

/-- DEV_FW_STAGE (R472). -/
def execDevFwStage (c : Cmd) (s : State) : Host.Outcome State Fault Refusal := submit (.devFwStage c) .devFwStage opDevFwStage c s

/-- DEV_FW_VERIFY (R472). -/
def execDevFwVerify (c : Cmd) (s : State) : Host.Outcome State Fault Refusal := submit (.devFwVerify c) .devFwVerify opDevFwVerify c s

/-- DEV_FW_ACTIVATE (R473). -/
def execDevFwActivate (c : Cmd) (s : State) : Host.Outcome State Fault Refusal := submit (.devFwActivate c) .devFwActivate opDevFwActivate c s

/-- DEV_FW_GET_STATUS (R472). -/
def execDevFwGetStatus (c : Cmd) (s : State) : Host.Outcome State Fault Refusal := submit (.devFwGetStatus c) .devFwGetStatus opDevFwGetStatus c s

end Sys2Proof.Machine
end

