-- ==== Sys2Proof/Machine/LinkRows.lean ====
section
/-! DEFINITION. Rows of the sensor links that may end a link's traffic: the frames they cut short (R131), and the trim
domain that a retrain measures (R297, R300). -/

namespace Sys2Proof.Machine

/-- The link carries traffic, or returns to it at its speed. -/
def inTraffic (l : Link) : Bool :=
  decide (l.st = .active) || decide (l.st = .idle) || decide (l.st = .exit) || decide (l.st = .retrain)

/-- Links that have left traffic abort the domain-3 run they were in (DESIGN CHOICE 60). -/
def trimGuard (before s : State) : State :=
  (List.range 32).foldl (fun s n =>
    if inTraffic (linkAt before n) && !inTraffic (linkAt s n) then
      modTrim (abortRun s 3 n (if (linkAt s n).st = .disabled then 0x22 else 0)) 3 n fun t => { t with checked := false }
    else s) s

/-- What follows a change of link states: frames are closed, domain-3 runs end (R131). -/
def linkAfter (before s : State) : State := trimGuard before (linkGuard before s)

/-- The codes of a link's lanes are as they were. -/
def restoreCodes (before s : State) (n : Nat) : State :=
  (devs (linkAt s n)).foldl (fun s d =>
    modLane s d fun x => { x with eqTrained := (laneAt before d).eqTrained, eqNow := (laneAt before d).eqNow }) s

/-- The eyes and codes that a link's lanes now hold. -/
def eyesNow (s : State) (n : Nat) : List EyeResult :=
  (devs (linkAt s n)).map fun d =>
    let x := laneAt s d
    { code := x.eqTrained, w := x.eyeW, h := x.eyeH }

/-- A retrain at a clearing has ended: a domain-3 run is checked, the codes it measured wait for their commit, and pending
values commit at the clearing (R297 to R300). -/
def eqClearing (before s : State) (n : Nat) : State :=
  let t := trimAt s 3 n
  let s1 := if t.st = .measuring then
      let s0 := restoreCodes before s n
      modTrim (eyesMeasured s0 n (eqCodes s0 n) (eyesNow s n)) 3 n fun t => { t with checked := false }
    else if t.checked then modTrim (restoreCodes before s n) 3 n fun t => { t with checked := false }
    else s
  commitClearing s1 3 n

/-- The clearing that `s` made since `before` is a link's retrain (R103). -/
def madeRetrain (before s : State) (n : Nat) : Bool :=
  decide ((linkAt s n).st = .active) &&
    decide ((half s (halfOf n 16)).mem.clearings ≠ (half before (halfOf n 16)).mem.clearings)

/-- The state after a row that may end a retrain of link `n`. -/
def afterRetrain (before s : State) (n : Nat) : State :=
  linkAfter before (if madeRetrain before s n then eqClearing before s n else s)

/-- LINK_RETRAIN_DONE (R101, R103). -/
def linkRetrainDone (s : State) (n : Nat) (sweeps : List (List EyeResult)) (cycles : Nat) : State :=
  if (linkAt s n).st = .retrain then afterRetrain s (retrainDone s n sweeps cycles) n else s

/-- A wander that schedules a retrain starts a run of domain 3 (R98, R297). -/
def wanderRun (before s : State) (n : Nat) : State :=
  let l := linkAt s n
  if l.pendingRetrain.isSome && decide (l.pendingRetrain ≠ (linkAt before n).pendingRetrain) &&
      decide ((trimAt s 3 n).st = .idle) then
    beginRun s 3 n none true
  else s

/-! Rows. -/

/-- SIGNAL_ENERGY_DETECTED (R93). -/
def execSignalEnergyDetected (link : Nat) (s : State) : Host.Outcome State Fault Refusal :=
  act (.signalEnergyDetected link) s (linkAfter s (energyDetected s link))

/-- SIGNAL_ENERGY_LOST: energy is lost between step 2 and ACTIVE (R91). -/
def execSignalEnergyLost (link : Nat) (s : State) : Host.Outcome State Fault Refusal :=
  let st := (linkAt s link).st
  act (.signalEnergyLost link) s (if st = .cap ∨ st = .train then linkLost s link true else s)

/-- CAP_BLOCK (R86). -/
def execCapBlock (lane : Nat) (payload : BitVec 56) (s : State) : Host.Outcome State Fault Refusal :=
  act (.capBlock lane payload) s (capArrives s lane payload)

/-- LOCK_STAGE_DONE (R95). -/
def execLockStageDone (lane : Nat) (sweep : List EyeResult) (s : State) : Host.Outcome State Fault Refusal :=
  act (.lockStageDone lane sweep) s (lockDone s lane sweep)

/-- LOCK_STAGE_TIMEOUT (R88). -/
def execLockStageTimeout (lane : Nat) (s : State) : Host.Outcome State Fault Refusal :=
  act (.lockStageTimeout lane) s (stageTimeout s lane)

/-- PRBS_STAGE_DONE (R89). -/
def execPrbsStageDone (link : Nat) (errors : List Nat) (cycles : Nat) (s : State) : Host.Outcome State Fault Refusal :=
  act (.prbsStageDone link errors cycles) s (prbsDone s link errors cycles)

/-- CAP_ROUND_TIMEOUT (R92): a CSI-2 link has no such round (R83). -/
def execCapRoundTimeout (link : Nat) (s : State) : Host.Outcome State Fault Refusal :=
  act (.capRoundTimeout link) s (if isCsi s (linkAt s link) then s else capTimeout s link)

/-- PSL_BLOCK (R77). -/
def execPslBlock (lane : Nat) (hdr : BitVec 2) (payload : BitVec 64) (s : State) : Host.Outcome State Fault Refusal :=
  act (.pslBlock lane hdr payload) s (pslBlock s lane hdr payload)

/-- ALIGN (R81). -/
def execAlign (link : Nat) (blocks : List AlignBlock) (s : State) : Host.Outcome State Fault Refusal :=
  act (.align link blocks) s (linkAfter s (alignBlocks s link blocks))

/-- TRAIN (R103). -/
def execTrain (link : Nat) (s : State) : Host.Outcome State Fault Refusal :=
  act (.train link) s (linkAfter s (trainArrives s link))

/-- ACTIVE_SIGNAL_LOSS (R94). -/
def execActiveSignalLoss (link : Nat) (s : State) : Host.Outcome State Fault Refusal :=
  act (.activeSignalLoss link) s
    (if (linkAt s link).st = .active then
      linkAfter s (linkLost s link false)
    else s)

/-- EQ_TRACK_EVAL (R96). -/
def execEqTrackEval (lane : Nat) (below now above : EyeResult) (density : Nat) (s : State) :
    Host.Outcome State Fault Refusal :=
  act (.eqTrackEval lane below now above density) s
    (match linkOf s lane with
    | some n => wanderRun s (trackEval (trimAt s 3 n).auto s lane below now above density) n
    | none => s)

/-- REMAP_DONE_READ (R107). -/
def execRemapDoneRead (link : Nat) (done : Bool) (s : State) : Host.Outcome State Fault Refusal :=
  act (.remapDoneRead link done) s (remapRead s link done)

/-- SPARE_RETRAIN_DONE (R108). -/
def execSpareRetrainDone (link : Nat) (sweep : List EyeResult) (s : State) : Host.Outcome State Fault Refusal :=
  act (.spareRetrainDone link sweep) s (afterRetrain s (spareDone s link sweep) link)

/-- LINK_RETRAIN_DONE (R103). -/
def execLinkRetrainDone (link : Nat) (sweeps : List (List EyeResult)) (cycles : Nat) (s : State) :
    Host.Outcome State Fault Refusal :=
  act (.linkRetrainDone link sweeps cycles) s (linkRetrainDone s link sweeps cycles)

/-! Commands. -/

/-- LINK_DISABLE (R114, R131). -/
def opLinkStop (c : Cmd) (h : Half) (s : State) : Reply × State :=
  let r := opLinkDisable c h s
  (r.1, linkAfter s r.2)

/-- LINK_RETRAIN (R103, R116, R131). -/
def opLinkRetrainNow (c : Cmd) (h : Half) (s : State) : Reply × State :=
  let r := opLinkRetrain c h s
  (r.1, linkAfter s r.2)

/-- LINK_SET_EQ (R96, R98): with FORCE it supersedes staged values of domain 3 (R307). -/
def opLinkSetCode (c : Cmd) (h : Half) (s : State) : Reply × State :=
  let r := opLinkSetEq c h s
  match linkOf s (pf c 2 6 0) with
  | some n => (r.1, if r.1 = ok ∧ pb c 3 4 = true then discardTrim r.2 3 n 2 else r.2)
  | none => r

/-- LINK_DISABLE (R114). -/
def execLinkDisable (c : Cmd) (s : State) : Host.Outcome State Fault Refusal := submit (.linkDisable c) .linkDisable opLinkStop c s

/-- LINK_RETRAIN (R116). -/
def execLinkRetrain (c : Cmd) (s : State) : Host.Outcome State Fault Refusal := submit (.linkRetrain c) .linkRetrain opLinkRetrainNow c s

/-- LINK_SET_EQ (R116). -/
def execLinkSetEq (c : Cmd) (s : State) : Host.Outcome State Fault Refusal := submit (.linkSetEq c) .linkSetEq opLinkSetCode c s

end Sys2Proof.Machine
end

