-- ==== Sys2Proof/Machine/PairCmd.lean ====
section
/-! DEFINITION. The pair's states, heartbeats and claims, and the PAIR_ commands (R452 to R471, R476, R477). What a mirror does
with records, and the takeover, are in Machine/Pair.lean. -/

namespace Sys2Proof.Machine

/-! Events and reports. -/

/-- Raise a pair event of this device; its OBJECT_ID is PAIR_ID. -/
def pairEvent (s : State) (code : BitVec 16) (sev : BitVec 2) (d0 d1 d2 : Nat) : State :=
  event s (leadHalf s) code sev 0xA0 (b2n s.pair.pairId) noPoint d0 d1 d2

/-- The active has no mirror any more: coverage is 0, and nothing waits for an acknowledgement (R456, R468). -/
def noMirror (s : State) : State :=
  let s1 := modPair s fun p => { p with hasMirror := false, coverage := 0, coveredFrom := Vector.replicate 64 noPoint }
  releaseHeld { s1 with flights := s1.flights.map fun f => { f with awaitsAck := false } } fun _ => true

/-- What a mirror holds of the active's decisions is forgotten; admissions are no longer gated. -/
def forgetActive (p : Pair) : Pair :=
  { p with
    tags := [], gating := false, admits := [], effects := [], trims := [], firings := [], fired := [], out := []
    coverage := 0, coveredFrom := Vector.replicate 64 noPoint }

/-! The fence, the claim and its loss (R463, R466, R467). -/

/-- A command in flight of a deposed device is abandoned: what it runs or has staged goes, and nothing is reported (R467). -/
def abandonFlight (s : State) (f : Flight) : State :=
  let s1 := match f.st with
    | .running => if opLatency f.op = .long then abortWork f.op f.cmd f.exec s else s
    | .deferred =>
      if (stagedOf s f.cmd.serial).isEmpty then s
      else cancelWork f.op f.cmd { s with staged := s.staged.filter fun x => decide (x.cmd.serial ≠ f.cmd.serial) }
    | _ => s
  retire (forgetHeld s1 f.cmd.serial) f.cmd.serial

/-- The device becomes DEPOSED: it fences itself, and its commands in flight are abandoned (R466, R467). -/
def depose (s : State) (seen : Word) : State :=
  let s1 := fence s 0
  let s2 := s1.flights.foldl abandonFlight s1
  let s3 := modPair s2 fun p => { forgetActive p with
    st := .deposed, role := 0, claim := 0, arbDriven := false, claimSpoiled := false, hostFenced := false, cmd := none
    draining := false, hasMirror := false }
  pairEvent s3 0xA007 3 seen.toNat 0 0

/-- A mirror declares: the claim begins with its wait (R466, R469). -/
def declare (s : State) (cause : Nat) (epoch : Word) (hostFenced : Bool) : State :=
  modPair s fun p => { p with
    st := .takingOver, claim := 1, claimSpoiled := false, claimCause := cause, claimEpoch := epoch, hostFenced }

/-! Forming (R454). -/

/-- The device is the active of a pair that has just formed. -/
def becomeActive (s : State) (epoch : Word) : State :=
  let s1 := modPair s fun p => { forgetActive p with
    st := .paired, role := 1, epoch, formed := true, hasMirror := true, own := true, pulses := true, claim := 0, hbMissed := 0 }
  pairEvent s1 0xA001 0 1 epoch.toNat 0

/-- The device is the mirror of a pair that has just formed: it waits for the snapshot. -/
def becomeMirror (s : State) (epoch : Word) : State :=
  let s1 := modPair s fun p => { forgetActive p with
    st := .syncing, role := 2, epoch, formed := true, hasMirror := false, own := false, pulses := false, claim := 0, hbMissed := 0 }
  pairEvent s1 0xA001 0 2 epoch.toNat 0

/-- Larger of two EPOCH values. -/
def maxEpoch (a b : Word) : Word := if a.toNat < b.toNat then b else a

/-- Pairing is enabled, both ports have trained and the peer's heartbeat has been seen: the pair forms (R454). -/
def tryForm (s : State) : State :=
  let p := s.pair
  let e := maxEpoch p.epoch p.peerEpoch
  if !p.enable || decide (p.portsUp ≠ 3) || !p.peerSeen || p.formed || decide (p.claim ≠ 0) then s
  else if p.peerRole = 1 then becomeMirror s e
  else if p.roleRequest = 2 ∨ p.pulseSeen = true then becomeMirror s (e + 1)
  else if p.peerRequest = 1 then
    modPair s fun p => { p with epoch := e, claim := 1, claimSpoiled := false, claimEpoch := e + 1, formed := true }
  else becomeActive s (e + 1)

/-- PAIR_PORT_TRAINED: the port of a half has trained, and carries what the peer is (R454, R458, R474). -/
def portTrained (s : State) (h : Half) (request : BitVec 2) (epoch : Word) (active sameDram compatible : Bool) : State :=
  tryForm (modPair s fun p => { p with
    portsUp := p.portsUp ||| halfCode h, peerRequest := request, peerEpoch := epoch, sameDram, compatible
    peerRole := if active then 1 else p.peerRole })

/-- PAIR_PORT_TRAINED (R454). -/
def execPairPortTrained (h : Half) (peerRequest : BitVec 2) (peerEpoch : Word) (peerActive sameDram compatible : Bool)
    (s : State) : Host.Outcome State Fault Refusal :=
  actIf true s (portTrained s h peerRequest peerEpoch peerActive sameDram compatible)

/-! Heartbeats (R462 to R465, R468). -/

/-- HEARTBEAT_SEND: the device's liveness count as its firmware has advanced it goes out, with the records before it (R462,
R463). -/
def heartbeatSent (s : State) (live : Word) : State :=
  if !s.pair.enable || decide (s.pair.portsUp = 0) then s
  else modPair s fun p => { p with
    out := [], liveSent := live, stall := if live = p.liveSent then p.stall + 1 else 0 }

/-- HEARTBEAT_SEND (R462). -/
def execHeartbeatSend (live : Word) (s : State) : Host.Outcome State Fault Refusal := actIf true s (heartbeatSent s live)

/-- LIVENESS_FENCE: the own liveness count has stood still for four periods (R463). -/
def execLivenessFence (s : State) : Host.Outcome State Fault Refusal :=
  actIf true s (if s.pair.enable && !s.pair.fenced && decide (4 ≤ s.pair.stall) then fence s 0 else s)

/-- What a heartbeat says of the peer is noted (R462). -/
def noteBeat (p : Pair) (b : Heartbeat) : Pair :=
  let good := !p.peerSeen || decide (b.live ≠ p.peerLive)
  { p with
    peerSeen := true, peerRole := b.role, peerEpoch := b.epoch, peerLive := b.live, peerFenced := b.fenced
    hbGood := p.hbGood || good, hbSwap := p.hbSwap || b.swap, hbMissed := if good then 0 else p.hbMissed }

/-- What an active does at a heartbeat: a mirror has joined, and its coverage is shown (R455, R477). -/
def beatOfMirror (p : Pair) (b : Heartbeat) : Pair :=
  if b.role = 2 ∧ b.deposed = false then
    { p with
      hasMirror := true, coverage := b.coverage, coveredFrom := Vector.replicate 64 b.coveredFrom
      st := if p.st = .linkLost then .paired else p.st }
  else p

/-- What a mirror does at a heartbeat of the active: it follows its EPOCH, and syncs anew after LINK_LOST (R455). -/
def beatOfActive (p : Pair) (b : Heartbeat) : Pair :=
  { p with
    epoch := if b.role = 1 then maxEpoch p.epoch b.epoch else p.epoch
    st := if p.st = .linkLost then .syncing else p.st }

/-- HEARTBEAT_RECEIVED (R455, R462, R464, R466, R467, R471). -/
def beat (s : State) (b : Heartbeat) : State :=
  if !s.pair.enable then s
  else
    let good := !s.pair.peerSeen || decide (b.live ≠ s.pair.peerLive)
    let s1 := modPair s fun p => noteBeat p b
    let p := s1.pair
    if !p.formed then tryForm s1
    else if (decide (p.role = 1) || decide (p.claim ≠ 0)) && decide (p.epoch.toNat < b.epoch.toNat) then depose s1 b.epoch
    else if p.role = 2 ∧ (p.st = .paired ∨ p.st = .linkLost) ∧ b.fenced = true ∧ 2 ≤ b.cause then
      declare s1 b.cause (p.epoch + 1) false
    else if p.role = 1 ∧ p.fenced = false then modPair s1 fun p => if good then beatOfMirror p b else p
    else if p.role = 2 then modPair s1 fun p => if good then beatOfActive p b else p
    else if p.st = .deposed ∧ p.fenced = true ∧ b.role = 1 then
      modPair s1 fun p => { p with st := .syncing, role := 2, epoch := maxEpoch p.epoch b.epoch, formed := true }
    else s1

/-- HEARTBEAT_RECEIVED (R462). -/
def execHeartbeatReceived (hb : Heartbeat) (s : State) : Host.Outcome State Fault Refusal := actIf true s (beat s hb)

/-- A saturating count of missed periods. -/
def satMissed (m : BitVec 4) : BitVec 4 := if m = 15 then 15 else m + 1

/-- Periods of kept firings, older by one; those of the last 8 periods stay (R469). -/
def agedFirings (l : List (Nat × Nat × Count64)) : List (Nat × Nat × Count64) :=
  (l.map fun e => (e.1, e.2.1 + 1, e.2.2)).filter fun e => decide (e.2.1 < 8)

/-- HB_MISS periods have been missed (R465, R468). -/
def missedOut (s : State) : State :=
  let p := s.pair
  if p.role = 2 ∧ p.st = .paired then
    if p.pulseSeen then pairEvent (modPair s fun p => { p with st := .linkLost }) 0xA002 2 p.hbMissed.toNat 0 0
    else declare s 0 (p.epoch + 1) false
  else if p.role = 1 ∧ p.hasMirror = true then pairEvent (noMirror s) 0xA003 2 0 0 0
  else s

/-- HEARTBEAT_PERIOD_END: the period counts as good or missed, or with SWAP for up to 24 periods not at all (R462). -/
def periodEnd (s : State) : State :=
  let p := s.pair
  if !p.enable || !p.formed || !p.peerSeen then s
  else
    let skip := p.hbSwap && decide (p.swapPeriods < 24)
    let missed := if skip then p.hbMissed else if p.hbGood then 0 else satMissed p.hbMissed
    let s1 := modPair s fun p => { p with
      hbMissed := missed, swapPeriods := if p.hbSwap then p.swapPeriods + b2n skip else 0 }
    let s2 := if !skip && !p.hbGood && decide (p.hbMiss ≤ missed.toNat) then missedOut s1 else s1
    modPair s2 fun p => { p with
      hbGood := false, hbSwap := false, pulseSeen := false, firings := agedFirings p.firings, fired := agedFirings p.fired }

/-- HEARTBEAT_PERIOD_END (R462). -/
def execHeartbeatPeriodEnd (s : State) : Host.Outcome State Fault Refusal := actIf true s (periodEnd s)

/-! PAIR_ARB (R465, R466). -/

/-- PAIR_ARB_PULSE: a pulse of the active; the other device sees it (R465). -/
def execPairArbPulse (s : State) : Host.Outcome State Fault Refusal :=
  actIf true s (if s.pair.pulses then s else modPair s fun p => { p with pulseSeen := true })

/-- PAIR_ARB_LOW_SEEN: the wire is low without this device driving it; `long` = for more than 4 us, else without an active
pulse shape (R466). -/
def arbLow (s : State) (long : Bool) : State :=
  let p := s.pair
  if p.arbDriven then s
  else if long && (decide (p.role = 1) || decide (p.claim ≠ 0)) then depose s p.epoch
  else if p.claim = 1 ∧ long = false then modPair s fun p => { p with claimSpoiled := true }
  else s

/-- PAIR_ARB_LOW_SEEN (R466). -/
def execPairArbLowSeen (long : Bool) (s : State) : Host.Outcome State Fault Refusal := actIf true s (arbLow s long)

/-- CLAIM_WAIT_END: the claimant drives the wire low, unless it has seen it low (R466). -/
def claimWaited (s : State) : State :=
  if s.pair.claim ≠ 1 then s
  else if s.pair.claimSpoiled then depose s s.pair.epoch
  else modPair s fun p => { p with claim := 2, arbDriven := true }

/-- CLAIM_WAIT_END (R466). -/
def execClaimWaitEnd (s : State) : Host.Outcome State Fault Refusal := actIf true s (claimWaited s)

/-- SWITCHOVER_DRAIN_END: PAIR_SWITCHOVER completes, and the active fences itself (R471). -/
def drainEnd (s : State) : State :=
  match s.pair.draining, s.pair.cmd with
  | true, some c =>
    fence (modPair (completeOk s c (cmdHalf s c) 0 0 0) fun p => { p with draining := false, cmd := none }) 2
  | _, _ => s

/-- SWITCHOVER_DRAIN_END (R471). -/
def execSwitchoverDrainEnd (s : State) : Host.Outcome State Fault Refusal := actIf true s (drainEnd s)

/-- PAIR_LINK_REPLAY_REQUEST: a port replays flits (R453). -/
def execPairLinkReplayRequest (h : Half) (s : State) : Host.Outcome State Fault Refusal :=
  actIf true s
    (if s.pair.portsUp &&& halfCode h = 0 then s else modPair s fun p => { p with linkReplays := satInc p.linkReplays })

/-! Commands (R454, R458, R471, R474, R476, R477). -/

/-- PAIR_CONFIGURE (R454, R476). -/
def opPairConfigure (c : Cmd) (_h : Half) (s : State) : Reply × State :=
  let on := pb c 2 0
  let role := pf c 2 2 1
  let miss := pf c 2 11 8
  match firstErr (rsv c [(2, 0xFFFFF000)] ++
      bad [(2, on && (decide (role = 0) || decide (role = 3))), (2, decide (0 < miss ∧ miss < 4))] ++
      [(on && !s.pair.sameDram, wrongState 0xA2), (on && !s.pair.compatible, wrongState 0xA6)]) with
  | some r => (r, s)
  | none =>
    let s1 := modPair s fun p => { p with
      enable := on, roleRequest := BitVec.ofNat 2 role, faultMask := BitVec.ofNat 5 (pf c 2 7 3)
      hbMiss := if miss = 0 then 8 else miss }
    if on then (ok, tryForm s1)
    else
      (ok, modPair (noMirror s1) fun p => { forgetActive p with
        st := .unpaired, role := 0, formed := false, peerSeen := false, own := false, pulses := false, claim := 0
        arbDriven := false, hbMissed := 0, stall := 0 })

/-- State code (R455). -/
def pairCode : PairState → Nat
  | .unpaired => 0
  | .syncing => 1
  | .paired => 2
  | .linkLost => 3
  | .takingOver => 4
  | .deposed => 5

/-- Lowest COVERED_FROM of the covered streams. -/
def lowestCovered (p : Pair) : Nat :=
  (List.range 64).foldl (fun a i => if p.coverage.getLsbD i then min a (tget p.coveredFrom i).toNat else a) noPoint.toNat

/-- The pair status record (R477). -/
def pairRecord (p : Pair) : List Word :=
  [pack [(0, pairCode p.st), (3, p.role.toNat), (5, b2n p.pairId), (6, b2n p.fenced), (7, b2n p.peerFenced),
      (8, p.hbMissed.toNat)],
   p.epoch, lo32 p.coverage.toNat, hi32 p.coverage.toNat, lo32 (lowestCovered p), hi32 (lowestCovered p), p.mirrorLag,
   pack [(0, p.tags.length % 2 ^ 16), (16, p.takeovers.toNat)], p.replayed, p.lost, p.linkReplays, 0, 0, 0, 0, 0]

/-- PAIR_GET_STATUS (R455, R477). -/
def opPairGetStatus (c : Cmd) (_h : Half) (s : State) : Reply × State :=
  match firstErr (recordChecks c) with
  | some r => (r, s)
  | none => writeRecord s c (pq c 3) (dwordBytes (pairRecord s.pair)) ok

/-- PAIR_SWITCHOVER: fetching stops, and running commands may finish until the drain time ends (R471, R476). -/
def opPairSwitchover (c : Cmd) (_h : Half) (s : State) : Reply × State :=
  match firstErr (rsv c [(2, 0xFFFFFF00)] ++ [(!pairUp s || s.pair.draining || s.pair.fenced, wrongState 0xA0)]) with
  | some r => (r, s)
  | none => (.running, modPair s fun p => { p with draining := true, cmd := some c })

/-- PAIR_TAKEOVER: a mirror declares at once (R476). -/
def opPairTakeover (c : Cmd) (_h : Half) (s : State) : Reply × State :=
  let p := s.pair
  match firstErr (rsv c [(2, 0xFFFFFFFE)] ++
      [(!(decide (p.role = 2) && (decide (p.st = .paired) || decide (p.st = .linkLost))), wrongState 0xA0),
        (decide ((dw c 3).toNat ≤ p.epoch.toNat), wrongState 0xA3)]) with
  | some r => (r, s)
  | none => (.running, modPair (declare s 1 (dw c 3) (pb c 2 0)) fun p => { p with cmd := some c })


/-! Rows of the commands. -/

/-- PAIR_CONFIGURE (R454). -/
def execPairConfigure (c : Cmd) (s : State) : Host.Outcome State Fault Refusal := submit (.pairConfigure c) .pairConfigure opPairConfigure c s

/-- PAIR_GET_STATUS (R455). -/
def execPairGetStatus (c : Cmd) (s : State) : Host.Outcome State Fault Refusal := submit (.pairGetStatus c) .pairGetStatus opPairGetStatus c s

/-- PAIR_SWITCHOVER (R471). -/
def execPairSwitchover (c : Cmd) (s : State) : Host.Outcome State Fault Refusal := submit (.pairSwitchover c) .pairSwitchover opPairSwitchover c s

/-- PAIR_TAKEOVER (R476). -/
def execPairTakeover (c : Cmd) (s : State) : Host.Outcome State Fault Refusal := submit (.pairTakeover c) .pairTakeover opPairTakeover c s

end Sys2Proof.Machine
end

