-- ==== Sys2Proof/Machine/Supply.lean ====
section
/-! DEFINITION. Supplies and the guard, reference clocks, AVS and PMBus, the thermal sensors with throttling and shedding, and
the commands on health and thermal limits (R494 to R509). -/

namespace Sys2Proof.Machine

/-! Supply monitors (R499 to R501). -/

/-- A rail of half `h` crosses below its warning level: counted, logged, and the guard begins; with the reset level reached the
record says so (R500, R501, R509). -/
def supplyDip (s : State) (h : Half) (rail mv : Nat) (reached : Bool) : State :=
  let low := (half s h).sys.railLow.getLsbD rail
  let s1 := modSys s h fun x => { x with
    railLow := x.railLow ||| BitVec.ofNat 9 (2 ^ rail), guard := true, dips := if low then x.dips else satInc x.dips }
  selfFault (event s1 h 0x0032 1 0x71 (halfIdx h) noPoint rail mv (b2n reached)) 2

/-- DEV_SUPPLY_DIP: a crossing, so of a rail that was not in warning (R500). -/
def execDevSupplyDip (h : Half) (rail mv : Nat) (s : State) : Host.Outcome State Fault Refusal :=
  actIf (decide (rail < 9)) s (if (half s h).sys.railLow.getLsbD rail then s else supplyDip s h rail mv false)

/-- RAIL_ABOVE_WARNING: the rail has returned; boot waits for every rail (R488, R500). -/
def railAbove (s : State) (h : Half) (rail : Nat) : State :=
  bootGo (modSys s h fun x => { x with railLow := x.railLow &&& ~~~ BitVec.ofNat 9 (2 ^ rail) })

/-- RAIL_ABOVE_WARNING (R500). -/
def execRailAboveWarning (h : Half) (rail : Nat) (s : State) : Host.Outcome State Fault Refusal :=
  actIf (decide (rail < 9)) s (railAbove s h rail)

/-- DEV_GUARD_END: no rail of the half is in warning: a deferred AVS lowering is made, and flash writes go on (R497, R500). -/
def guardEnd (s : State) (h : Half) (cycles : Nat) : State :=
  let x := (half s h).sys
  if !x.guard || decide (x.railLow ≠ 0) then s
  else
    let s1 := modSys s h fun x => { x with guard := false, vcore := x.deferred.getD x.vcore, deferred := none }
    flashGo (event s1 h 0x0033 0 0x71 (halfIdx h) noPoint (min cycles 0xFFFFFFFF) 0 0)

/-- DEV_GUARD_END (R500). -/
def execDevGuardEnd (h : Half) (cycles : Nat) (s : State) : Host.Outcome State Fault Refusal :=
  actIf true s (guardEnd s h cycles)

/-- The half's lanes lose their reference or their supply: every PSL link loses lock, and the pair port goes down (R91, R94,
R495, R499). -/
def lanesLost (s : State) (h : Half) : State :=
  let s1 := (List.range 32).foldl (fun s n =>
    let l := linkAt s n
    if halfOf n 16 ≠ h ∨ isCsi s l = true then s
    else match l.st with
      | .cap => linkLost s n true
      | .train => linkLost s n true
      | .active => linkLost s n false
      | .idle => linkLost s n false
      | .exit => linkLost s n false
      | .retrain => linkLost s n false
      | _ => s) s
  modPair (linkAfter s s1) fun p => { p with portsUp := p.portsUp &&& ~~~ halfCode h }

/-- The half's DRAM has lost its supply: it stands as at power-on (R499, R501). -/
def dramLost (s : State) (h : Half) : State :=
  modIdent (modMem s h fun m => { clearings := m.clearings }) h fun i => { i with memReady := false }

/-- SUPPLY_RESET_LEVEL: the action of the table of supply monitors, after the guard has begun (R501). -/
def resetLevel (s : State) (h : Half) (rail mv : Nat) : State :=
  let s1 := supplyDip s h rail mv true
  match rail with
  | 2 => lanesLost s1 h
  | 3 => lanesLost s1 h
  | 4 => dramLost (halfReset s1 h 5) h
  | 5 => dlDown s1 h
  | 6 => dlDown s1 h
  | 7 => warmStart s1 5
  | 8 => powerOn s1 s1.sys.halfId s1.pair.pairId
  | _ => halfReset s1 h 5

/-- SUPPLY_RESET_LEVEL (R501). -/
def execSupplyResetLevel (h : Half) (rail mv : Nat) (s : State) : Host.Outcome State Fault Refusal :=
  actIf (decide (rail < 9)) s (resetLevel s h rail mv)

/-! Reference clocks (R495). -/

/-- A clock's loss is logged (R509). -/
def clockEvent (s : State) (h : Half) (sev : BitVec 2) (which : Nat) : State :=
  event s h 0x0039 sev 0x71 (halfIdx h) noPoint which 0 0

/-- DEV_CLOCK_LOSS: SYS_CLK is a warm reset held until it runs; a lane reference takes links and pair port; a PCIe reference
takes the port; with AUD_MCLK gone the audio PLL goes on from SYS_CLK. -/
def clockLost (s : State) : ClockId → State
  | .sysClk =>
    if s.sys.sysClkLost then s
    else warmReset (modDev (clockEvent s (leadHalf s) 3 1) fun d => { d with sysClkLost := true }) 6
  | .lane h => lanesLost (clockEvent s h 1 2) h
  | .pcie h => dlDown (clockEvent s h 1 3) h
  | .audMclk => clockEvent s (leadHalf s) 1 4

/-- DEV_CLOCK_LOSS (R495). -/
def execDevClockLoss (clk : ClockId) (s : State) : Host.Outcome State Fault Refusal := actIf true s (clockLost s clk)

/-- SYS_CLK_RESTORED: SYS_CLK has run for 25,000 AON cycles, and the reset it held ends (R495). -/
def execSysClkRestored (s : State) : Host.Outcome State Fault Refusal :=
  actIf true s (bootGo (modDev s fun d => { d with sysClkLost := false }))

/-! AVS and PMBus (R496 to R498). -/

/-- Firmware of the half runs. -/
def fwRuns (s : State) (h : Half) : Bool := (half s h).ident.cmdReady && !(half s h).sys.inReset

/-- The regulator of a half does not answer: after the third time in a row the half holds its clocks and target (R498). -/
def avsMissed (s : State) (h : Half) : State :=
  let n := (half s h).sys.avsMisses + 1
  let s1 := modSys s h fun x => { x with avsMisses := n }
  if n < 3 then s1
  else event (modSys s1 h fun x => { x with avsFault := true }) h 0x0038 2 0x71 (halfIdx h) noPoint 1 0 0

/-- The target follows the monitors; while a guard is in force a lowering waits for its end (R497). -/
def avsSet (target : Nat) (x : HalfSys) : HalfSys :=
  if x.guard ∧ target < x.vcore then { x with deferred := some target } else { x with vcore := target, deferred := none }

/-- AVS_MONITOR_READ (R497, R498). -/
def avsRead (s : State) (h : Half) (r : AvsRead) : State :=
  if !fwRuns s h || (half s h).sys.avsFault then s
  else if !r.answered then avsMissed s h
  else modSys s h fun x => avsSet (avsTarget r.lowest) { x with avsMisses := 0, icore := r.icore }

/-- AVS_MONITOR_READ (R497). -/
def execAvsMonitorRead (h : Half) (r : AvsRead) (s : State) : Host.Outcome State Fault Refusal := actIf true s (avsRead s h r)

/-- AVS_RETRY: the first valid answer clears AVS_FAULT (R498). -/
def execAvsRetry (h : Half) (answered : Bool) (s : State) : Host.Outcome State Fault Refusal :=
  actIf true s
    (if answered && fwRuns s h && (half s h).sys.avsFault then modSys s h fun x => { x with avsFault := false, avsMisses := 0 }
    else s)

/-- PMBUS_TELEMETRY_POLL: the lead reads telemetry from up to eight regulators (R496). -/
def execPmbusTelemetryPoll (values : List Word) (s : State) : Host.Outcome State Fault Refusal :=
  actIf (decide (values.length = 8)) s
    (if fwRuns s (leadHalf s) then modSys s (leadHalf s) fun x => { x with pmbus := Vector.ofFn fun i => values.getD i.val 0 }
    else s)

/-- PMB_ALERT: the lead reads STATUS_WORD from each regulator and logs the first that is not 0 (R496, R509). -/
def execPmbAlert (status : List Word) (s : State) : Host.Outcome State Fault Refusal :=
  let h := leadHalf s
  actIf (decide (status.length = 8)) s
    (if fwRuns s h then
      event s h 0x0038 2 0x71 (halfIdx h) noPoint 2 ((status.find? fun w => decide (w ≠ 0)).getD 0).toNat 0
    else s)

/-! Thermal sensors (R502 to R506). -/

/-- A domain-5 commit that waits is made between two readings, which is a clearing (R50, R297). -/
def telemetryClearing (s : State) (h : Half) : State :=
  let i := halfIdx h
  if (s.staged.any fun x => decide (x.key = .clearing 5 i)) && !(half s h).sys.guard then commitClearing (countClearing s h) 5 i
  else s

/-- Sensors, and after them rails, that a run of domain 5 is calibrating: one at a time, in an order the spec does not give. -/
def calibrating (s : State) (h : Half) : Option Nat × State :=
  if (trimAt s 5 (halfIdx h)).st = .measuring then
    let (k, s1) := fresh s
    (some (Config.freeNat k % 20), s1)
  else (none, s)

/-- The reading of a sensor or rail being calibrated holds its last value and is STALE (R304). -/
def holdStale (old : HalfSys) (k : Option Nat) (x : HalfSys) : HalfSys :=
  match k with
  | none => x
  | some k =>
    let t := if k < 12 then tset x.temp k ((tget old.temp k).1, true) else x.temp
    let r := if k < 12 then x.rail else tset x.rail (k - 12) ((tget old.rail (k - 12)).1, true)
    { x with temp := t, rail := r, tMax := ((hottestOf t).map (·.1)).getD old.tMax
             hottest := BitVec.ofNat 4 (((hottestOf t).map (·.2)).getD old.hottest.toNat) }

/-- Readings since the last changes, and runs of cool readings (R503, R505). -/
def countReadings (x : HalfSys) : HalfSys :=
  { x with
    sinceStep := min 10 (x.sinceStep + 1), sinceShed := min 10 (x.sinceShed + 1)
    coolReadings := if x.tMax < 16 * ((x.throttleAt : Int) - 3) then x.coolReadings + 1 else 0
    unshedReadings := if x.tMax < 16 * ((x.shedAt : Int) - 4) then x.unshedReadings + 1 else 0 }

/-- The throttle step changes (R503, R509). -/
def setStep (s : State) (h : Half) (k : Nat) : State :=
  let x := (half s h).sys
  let s1 := modSys s h fun x => { x with
    step := BitVec.ofNat 3 k, sinceStep := 0
    throttleEntries := if x.step = 0 then satInc x.throttleEntries else x.throttleEntries }
  event s1 h 0x0034 1 0x71 (halfIdx h) noPoint k (x.tMax % 2 ^ 32).toNat x.hottest.toNat

/-- The step after a reading; with AVS_FAULT the half holds its clocks (R498, R503). -/
def throttle (s : State) (h : Half) : State :=
  let x := (half s h).sys
  let k := x.step.toNat
  if x.avsFault ∨ x.sinceStep < 10 then s
  else if 16 * (x.throttleAt : Int) ≤ x.tMax ∧ k < 5 then setStep s h (k + 1)
  else if 0 < k ∧ 100 ≤ x.coolReadings then setStep s h (k - 1)
  else s

/-- Shedding after a reading: the next island goes off, or the last one shed returns (R505). -/
def shedding (s : State) (h : Half) : State :=
  let x := (half s h).sys
  if x.sinceShed < 10 then s
  else if 16 * (x.shedAt : Int) ≤ x.tMax then
    match nextShed x with
    | some k => shedOne s h k
    | none => s
  else if 1000 ≤ x.unshedReadings then
    match x.shedOrder.getLast? with
    | some k => unshedOne s h k
    | none => s
  else s

/-- THERMAL_READING: every sensor and rail of the half is read (R502, R503, R505). -/
def thermalRead (s0 : State) (h : Half) (temps : List Int) (rails : List Nat) : State :=
  if !fwRuns s0 h then s0
  else
    let (k, s) := calibrating (telemetryClearing s0 h) h
    let old := (half s h).sys
    shedding (throttle (modSys s h fun x => countReadings (holdStale old k (takeReadings s h temps rails x))) h) h

/-- THERMAL_READING (R503). -/
def execThermalReading (h : Half) (temps : List Int) (rails : List Nat) (s : State) : Host.Outcome State Fault Refusal :=
  actIf (decide (temps.length = 12 ∧ rails.length = 8)) s (thermalRead s h temps rails)

/-- THERMTRIP: every clock stops and the outputs go to high impedance until power-on (R506). -/
def execThermtrip (_h : Half) (sensor : Nat) (s : State) : Host.Outcome State Fault Refusal :=
  actIf (decide (sensor < 12)) s (modDev s fun d => { d with tripped := true })

/-! Commands (R507, R508). -/

/-- The health record (R508). -/
def healthRecord (s : State) (h : Half) : List Word :=
  let x := (half s h).sys
  [pack [(0, (halfCode h).toNat), (2, b2n x.guard), (3, x.step.toNat), (6, x.shed.toNat), (10, x.hottest.toNat),
     (14, b2n x.avsFault)],
   pack [(0, pattern 16 x.tMax), (16, x.vcore)], BitVec.setWidth 32 x.icore, BitVec.setWidth 32 x.lastReset] ++
  (x.temp.toList.map fun t => pack [(0, pattern 16 t.1), (16, b2n t.2)]) ++
  ((List.range 8).map fun i =>
    let r := tget x.rail i
    pack [(0, r.1 % 2 ^ 16), (16, b2n r.2), (17, b2n (x.railLow.getLsbD i))]) ++
  [x.dips, pack [(0, x.throttleEntries.toNat), (16, x.sheds.toNat)],
   pack [(0, x.warmResets.toNat), (8, x.halfResets.toNat), (16, x.islandResets.toNat), (24, x.watchdogs.toNat)], 0, 0, 0, 0, 0]

/-- DEV_GET_HEALTH (R508). -/
def opDevGetHealth (c : Cmd) (h : Half) (s : State) : Reply × State :=
  match firstErr (halfRecordChecks c h s), halfOfCode (pf c 2 1 0) with
  | some r, _ => (r, s)
  | none, some k => writeRecord s c (pq c 3) (dwordBytes (healthRecord s k)) ok
  | none, none => (badValue 2, s)

/-- DEV_SET_THERMAL (R507). -/
def opDevSetThermal (c : Cmd) (h : Half) (s : State) : Reply × State :=
  let t := if pf c 2 6 0 = 0 then 100 else pf c 2 6 0
  let d := if pf c 2 14 8 = 0 then 112 else pf c 2 14 8
  let halves := pf c 2 21 20
  let far := ([Half.A, .B].filter fun k => decide (k ≠ h)).any fun k => (dw c 2).getLsbD (20 + halfIdx k)
  match firstErr (rsv c [(2, 0xFFC08080)] ++
      [(decide (t < 85 ∨ 100 < t ∨ d < t + 4 ∨ 112 < d ∨ halves = 0), errAt stBadParam 0xB0 2),
       (far && !mortarUp s, err stLinkDown 0)]) with
  | some r => (r, s)
  | none =>
    let f := fun (k : Half) (s : State) => if (dw c 2).getLsbD (20 + halfIdx k) then
      modSys s k fun x => { x with throttleAt := t, shedAt := d, shedMask := BitVec.ofNat 4 (pf c 2 19 16) } else s
    (ok, f .B (f .A s))

/-- DEV_GET_HEALTH (R508). -/
def execDevGetHealth (c : Cmd) (s : State) : Host.Outcome State Fault Refusal :=
  submit (.devGetHealth c) .devGetHealth opDevGetHealth c s

/-- DEV_SET_THERMAL (R507). -/
def execDevSetThermal (c : Cmd) (s : State) : Host.Outcome State Fault Refusal :=
  submit (.devSetThermal c) .devSetThermal opDevSetThermal c s

end Sys2Proof.Machine
end

