-- ==== Sys2Proof/Machine/Run.lean ====
section
/-! DEFINITION. From a fetched entry to the start of its command: the entry checks, parameter blocks, placement, forwarding,
arbitration, the management port's commands, and the DEV_ commands of the protocol (R31 to R33, R43 to R54, R65, R66, R70 to
R72, R546). -/

namespace Sys2Proof.Machine

/-! The DEV_ commands of the protocol (R65, R66, R72). -/

/-- DEV_NOP (R72). -/
def opDevNop (_c : Cmd) (_h : Half) (s : State) : Reply × State := (ok, s)

/-- DEV_SET_EVENT_MASK (R65). -/
def opDevSetEventMask (c : Cmd) (h : Half) (s : State) : Reply × State :=
  match firstErr (rsv c [(2, 0xFFFFE000), (3, 0xFFFFFFFC)]) with
  | some r => (r, s)
  | none => (ok, modCmd s h fun x => { x with
      classEnable := BitVec.ofNat 13 (pf c 2 12 0), minSeverity := BitVec.ofNat 2 (pf c 3 1 0) })

/-- Records that DEV_READ_EVENT_LOG copies, by their distance below the newest (R66). -/
def logFrom (x : HalfCmd) (first : Word) (count : Nat) : List EventRec :=
  let n := x.log.length
  let d := (x.nextSeq - 1 - first).toNat
  if n = 0 ∨ 2 ^ 31 ≤ d then []
  else (x.log.drop (if d < n then n - 1 - d else 0)).take count

/-- Oldest SEQ in the log; 0 for an empty one (R66). -/
def oldestSeq (x : HalfCmd) : Word := if x.log.isEmpty then 0 else x.nextSeq - BitVec.ofNat 32 x.log.length

/-- DEV_READ_EVENT_LOG (R66, R72). -/
def opDevReadEventLog (c : Cmd) (h : Half) (s : State) : Reply × State :=
  let count := pf c 5 10 0
  match firstErr (rsv c [(5, 0xFFFFF800)] ++
      bad [(2, if c.port then decide (dw c 2 ≠ 0) else decide (pq c 2 % 32 ≠ 0)), (3, c.port && decide (dw c 3 ≠ 0)),
        (5, decide (count = 0 ∨ 1024 < count))]) with
  | some r => (r, s)
  | none =>
    let x := (half s h).cmd
    let recs := logFrom x (dw c 4) (if c.port then min count 128 else count)
    let answer := okWith (BitVec.ofNat 32 recs.length) (oldestSeq x) (x.nextSeq - 1)
    if recs.isEmpty then (answer, s)
    else writeRecord s c (pq c 2) ((recs.map fun e => eventBytes e false).flatten) answer

/-- The meaning of every opcode. -/
def runOp : Op → Meaning
  | .devNop => opDevNop
  | .devAbort => opDevAbort
  | .devSetEventMask => opDevSetEventMask
  | .devReadEventLog => opDevReadEventLog
  | .devFwStage => opDevFwStage
  | .devFwVerify => opDevFwVerify
  | .devFwActivate => opDevFwActivate
  | .devFwGetStatus => opDevFwGetStatus
  | .devReset => opDevReset
  | .devGetHealth => opDevGetHealth
  | .devSetThermal => opDevSetThermal
  | .linkSetQuadMode => opLinkSetQuadMode
  | .linkConfigure => opLinkConfigure
  | .linkEnable => opLinkEnable
  | .linkDisable => opLinkStop
  | .linkRetrain => opLinkRetrainNow
  | .linkGetStatus => opLinkGetStatus
  | .linkClearCounters => opLinkClearCounters
  | .linkSetPolicy => opLinkSetPolicy
  | .linkRemapLane => opLinkRemapLane
  | .linkSetEq => opLinkSetCode
  | .linkPrbsCheck => opLinkPrbsCheck
  | .qryMapStream => opQryMapStream
  | .qryConfigureStream => opQryConfigureStream
  | .qryConfigureRing => opQryConfigureRing
  | .qryStartStream => opQryStartStream
  | .qryStopStream => opQryStopStream
  | .qrySetTriggerRule => opQrySetTriggerRule
  | .qryArm => opQryArm
  | .qryTrigger => opQryTrigger
  | .qryRead => opQryRead
  | .qryGetSegments => opQryGetSegments
  | .qryRelease => opQryRelease
  | .qrySetHostMark => opQrySetHostMark
  | .qryGetStatus => opQryGetStatus
  | .qrySetReporting => opQrySetReporting
  | .qryLocate => opQryLocate
  | .ashEncode => opAshEncode
  | .ashDecode => opAshDecode
  | .ashContinue => opAshContinue
  | .ashDropJob => opAshDropJob
  | .ashGetStatus => opAshGetStatus
  | .pipeOpenContext => opPipeOpenContext
  | .pipeSetSource => opPipeSetSource
  | .pipeStartContext => opPipeStartContext
  | .pipeStopContext => opPipeStopContext
  | .pipeCloseContext => opPipeCloseContext
  | .pipeSetSlotMask => opPipeSetSlotMask
  | .pipeSetPriority => opPipeSetPriority
  | .pipeSetSlotTime => opPipeSetSlotTime
  | .pipeGetContextStatus => opPipeGetContextStatus
  | .pipeSetStreamCorr => opPipeSetStreamCorr
  | .pipeSetContextCorr => opPipeSetContextCorr
  | .pipeSetColour => opPipeSetColour
  | .pipeLoadLut => opPipeLoadLut
  | .pipeSetTap => opPipeSetTap
  | .pipeSetTapRing => opPipeSetTapRing
  | .pipeTapBuffer => opPipeTapBuffer
  | .pipeGetTapStatus => opPipeGetTapStatus
  | .statConfigure => opStatConfigure
  | .statSetContentTrigger => opStatSetContentTrigger
  | .statRead => opStatRead
  | .trimSetPolicy => opTrimSetPolicy
  | .trimMeasure => opTrimMeasure
  | .trimCommit => opTrimCommit
  | .trimLoad => opTrimLoad
  | .trimRead => opTrimRead
  | .vcuOpenSession => opVcuOpenSession
  | .vcuSetOutput => opVcuSetOutput
  | .vcuSetRate => opVcuSetRate
  | .vcuStart => opVcuStart
  | .vcuStop => opVcuStop
  | .vcuRequestIrap => opVcuRequestIrap
  | .vcuCloseSession => opVcuCloseSession
  | .vcuSubmitPicture => opVcuSubmitPicture
  | .vcuDecodeData => opVcuDecodeData
  | .vcuFlush => opVcuFlush
  | .vcuConsumed => opVcuConsumed
  | .vcuPictureBuffer => opVcuPictureBuffer
  | .vcuGetPool => opVcuGetPool
  | .vcuGetStatus => opVcuGetStatus
  | .memGetStatus => opMemGetStatus
  | .memSetRegion => opMemSetRegion
  | .memSetPolicy => opMemSetPolicy
  | .memTrain => opMemTrain
  | .memSetFreq => opMemSetFreq
  | .memReadTiming => opMemReadTiming
  | .memRepair => opMemRepair
  | .memSaveTraining => opMemSaveTraining
  | .memInjectError => opMemInjectError
  | .vfSetSource => opVfSetSource
  | .vfConfigureOutput => opVfConfigureOutput
  | .vfPanelSequence => opVfPanelSequence
  | .vfSetCheck => opVfSetCheck
  | .vfResume => opVfResume
  | .vfGetStatus => opVfGetStatus
  | .audConfigure => opAudConfigure
  | .audStart => opAudStart
  | .audStop => opAudStop
  | .audAdvance => opAudAdvance
  | .audSetLatch => opAudSetLatch
  | .audGetStatus => opAudGetStatus
  | .pairConfigure => opPairConfigure
  | .pairGetStatus => opPairGetStatus
  | .pairSwitchover => opPairSwitchover
  | .pairTakeover => opPairTakeover
  | .pwrSetWakeBudget => opPwrSetWakeBudget
  | .pwrGetState => opPwrGetState
  | .hostGetLinkStatus => opHostGetLinkStatus

/-- A placed command starts in half `h`: a mirror refuses what only the active may carry out (R461). -/
def startCmd (s : State) (op : Op) (c : Cmd) (h : Half) : State :=
  if mirrorRefuses s op c then finish s c h (wrongState 0xA1) else start op (runOp op) c h s

/-! Entries (R43 to R49). -/

/-- A submission entry as a command. -/
def parseEntry (h : Half) (n : Nat) (ws : List Word) : Cmd :=
  let w0 := ws.getD 0 0
  let w1 := ws.getD 1 0
  let indirect := bitOf w0 16
  { recv := h, sq := BitVec.ofNat 5 n, tag := BitVec.ofNat 16 (fld w1 15 0), fence := bitOf w0 17, notify := bitOf w0 18
    storeRaw := bitOf w0 19, chain := bitOf w0 20, indirect, target := BitVec.ofNat 4 (fld w1 19 16)
    priority := BitVec.ofNat 4 (fld w1 23 20)
    params := (ws.drop 2).take (if indirect then 3 else min 14 (fld w1 31 24)) }

/-- Check 5 on the entry: PARAM_DWORDS, and for an indirect entry the block's length (R44, R45). -/
def lengthChecks (op : Op) (c : Cmd) (dwords : Nat) : List (Bool × Reply) :=
  if c.indirect then
    let n := (dw c 4).toNat
    [(decide (dwords ≠ 3), errAt stBadLength 0 1),
     (decide (n = 0 ∨ 65536 < n ∨ n % 4 ≠ 0) || !paramCountOk op (n / 4), errAt stBadLength 0 4),
     (decide (pq c 2 % 4 ≠ 0), badValue 2)]
  else [(decide (14 < dwords) || !paramCountOk op dwords, errAt stBadLength 0 1)]

/-- Check 4: the flags (R43, R193). -/
def flagChecks (op : Op) (c : Cmd) (w0 : Word) : List (Bool × Reply) :=
  [((c.storeRaw && !storeRawOk op) || decide (fld w0 31 21 ≠ 0), errAt stBadParam 0x02 0)]

/-- A command in flight that has passed checks 1 to 6 is placed, and travels to its half; a mirror hears of it first (R32,
R456, R461, R545, R546). -/
def placeFlight (s : State) (c : Cmd) (op : Op) : State :=
  match placeOf op c s with
  | none => reject s c badTarget
  | some h =>
    let s1 := modFlight s c.serial fun f => { f with cmd := c, exec := h, st := .fetched }
    if h ≠ c.recv ∧ s.mortar.st = .down then
      retire (deliver s1 (mkCompletion c h stLinkDown 0 0xFFFF 0 0 0)) c.serial
    else
      let s2 := if mirrorRefuses s op c then s1 else acceptFlight s1 c op
      let s3 := modFlight s2 c.serial fun f => { f with awaitsAck := f.mirrored }
      if h = c.recv then s3
      else if !(half s h).ident.cmdReady then modFlight s3 c.serial fun f => { f with st := .held }
      else
        let s4 := modFlight s3 c.serial fun f => { f with st := .forwarded }
        match flightOf s4 c.serial with
        | some f => mortarQueue s4 c.recv (.command f)
        | none => s4

/-- An entry arrives: checks 1 to 5, then its placement, or the read of its parameter block (R47 to R49). -/
def enterEntry (s0 : State) (c0 : Cmd) (ws : List Word) (slots : Nat) : State :=
  let r := sqAt s0 c0.recv c0.sq.toNat
  let cq := r.cqId.toNat
  let w0 := ws.getD 0 0
  let c := numbered s0 { c0 with order := r.fetchCount }
  let s := modSq (numberTaken s0) c.recv c.sq.toNat fun r => { r with fetchCount := r.fetchCount + 1, lastOutcome := none }
  let enter := fun (op : Op) =>
    modFlight (enterFlight s c op c.recv slots cq) c.serial fun f => { f with st := .readingBlock, predOutcome := r.lastOutcome }
  match firstErr (tagChecks s c) with
  | some e => reject (enter .devNop) c e
  | none =>
    match opOfCode (fld w0 15 0) with
    | none => reject (enter .devNop) c (errAt stBadOpcode 0 0)
    | some op =>
      match firstErr (flagChecks op c w0 ++ lengthChecks op c (fld (ws.getD 1 0) 31 24)) with
      | some e => reject (enter op) c e
      | none => if c.indirect then enter op else placeFlight (enter op) c op

/-- ENTRY_READ_DONE: the oldest entry being fetched from a ring arrives (R49). -/
def entryArrives (s : State) (h : Half) (n : Nat) : State :=
  match (sqAt s h n).fetching with
  | [] => s
  | (slots, ws) :: rest =>
    if inSwap s then s
    else enterEntry (modSq s h n fun r => { r with fetching := rest }) (parseEntry h n ws) ws slots

/-- ENTRY_READ_DONE (R49). -/
def execEntryReadDone (h : Half) (n : Nat) (s : State) : Host.Outcome State Fault Refusal :=
  act (.entryReadDone h n) s (entryArrives s h n)

/-- PARAM_BLOCK_READ_DONE: the block of a command is read, or cannot be (R44, R544). -/
def blockArrives (s : State) (h : Half) (tag : BitVec 16) : State :=
  match liveFlight s h tag with
  | some f =>
    if f.st ≠ .readingBlock ∨ s.pair.fenced = true ∨ inSwap s = true then s
    else
      let n := (dw f.cmd 4).toNat
      match hostRead s (pq f.cmd 2) n with
      | none => reject s f.cmd (err stDataCorrupt 0x04)
      | some bs => placeFlight s { f.cmd with params := bytesDwords (n / 4) bs } f.op
  | none => s

/-- PARAM_BLOCK_READ_DONE (R544). -/
def execParamBlockReadDone (h : Half) (tag : BitVec 16) (s : State) : Host.Outcome State Fault Refusal :=
  actIf true s (blockArrives s h tag)

/-! Arbitration (R51 to R53). -/

/-- Number of a competitor: half A rings 0 to 31, then half B rings. -/
def rivalIdx (f : Flight) : Nat := 32 * halfIdx f.cmd.recv + f.cmd.sq.toNat

/-- The flight is a fetched command of competitor `k` that has still to start in half `h`, or may yet be placed there. -/
def mayStart (h : Half) (k : Nat) (f : Flight) : Bool :=
  decide (rivalIdx f = k) && !f.silent &&
    match f.st with
    | .readingBlock => !f.dropped
    | .fetched => decide (f.exec = h)
    | .held => decide (f.exec = h)
    | .forwarded => decide (f.exec = h)
    | _ => false

/-- Oldest unstarted command of competitor `k` in half `h`. -/
def rivalHead (s : State) (h : Half) (k : Nat) : Option Flight := s.flights.find? (mayStart h k)

/-- An earlier command of the same ring is still in flight (R52). -/
def earlierLeft (s : State) (f : Flight) : Bool :=
  (s.flights.takeWhile fun x => !isFlight f.cmd.serial x).any fun x => decide (rivalIdx x = rivalIdx f) && !x.dropped && !x.silent

/-- The command may start now: its ACCEPT is acknowledged, and its FENCE and CHAIN conditions are met (R52, R53, R456). -/
def startable (s : State) (f : Flight) : Bool :=
  decide (f.st = .fetched) && !f.awaitsAck && !(f.cmd.fence && earlierLeft s f) && !(f.cmd.chain && f.predOutcome.isNone)

/-- Competitors that can start, in the turn of round robin: after the one that started last (R51). -/
def rivals (s : State) (h : Half) : List (Nat × Flight) :=
  let last := (((half s h).cmd.lastStart).map fun x => 32 * halfIdx x.1 + x.2).getD 63
  ((List.range 64).map fun i => (last + 1 + i) % 64).filterMap fun k =>
    match rivalHead s h k with
    | some f => if startable s f then some (k, f) else none
    | none => none

/-- The competitor that takes the next start: one passed over 64 times, else the first of the highest priority (R51). -/
def chooseRival (s : State) (h : Half) : Option (Nat × Flight) :=
  let rs := rivals s h
  let top := rs.foldl (fun a r => max a r.2.cmd.priority.toNat) 0
  match rs.find? fun r => decide (64 ≤ tget (half s h).cmd.passed r.1) with
  | some r => some r
  | none => rs.find? fun r => decide (r.2.cmd.priority.toNat = top)

/-- The arbitration notes who started and who was passed over. -/
def noteStart (s : State) (h : Half) (k : Nat) : State :=
  let others := (rivals s h).map (·.1)
  modCmd s h fun c => { c with
    lastStart := some (halfOfIdx (k / 32), k % 32)
    passed := Vector.ofFn fun i =>
      if i.val = k then 0 else if others.contains i.val then tget c.passed i.val + 1 else tget c.passed i.val }

/-- The command that arbitration chose starts, or is skipped by a failed CHAIN (R53). -/
def startChosen (s : State) (h : Half) (f : Flight) : State :=
  if f.cmd.chain ∧ f.predOutcome = some false then finish s f.cmd h (err stAborted 0x07) else startCmd s f.op f.cmd h

/-- COMMAND_START: the next command of half `h` starts; none while its firmware is not ready, stands still in a live swap, or
has stopped for a switchover or a fence (R51, R463, R471, R473, R546). -/
def commandStart (s : State) (h : Half) : State :=
  if !(half s h).ident.cmdReady || inSwap s || s.pair.draining || s.pair.fenced then s
  else match chooseRival s h with
    | some (k, f) => startChosen (noteStart s h k) h f
    | none => s

/-- COMMAND_START (R51). -/
def execCommandStart (h : Half) (s : State) : Host.Outcome State Fault Refusal := actIf true s (commandStart s h)

/-! Forwarding (R31, R545, R546). -/

/-- The message's last report of its command. -/
def isFinal (c : Completion) : Bool := c.effect || decide (c.status ≠ stOkDeferred)

/-- FORWARDED_COMMAND_RECEIVED: the oldest message to half `at_` is a command; one whose receiving half has dropped it is
ignored, and a command of the management port starts (R31, R70). -/
def commandArrives (s : State) (at_ : Half) : State :=
  match mortarHead s at_ 0 with
  | some (.command f) =>
    let s1 := mortarTake s at_ 0
    if f.cmd.port then startCmd s1 f.op f.cmd at_
    else modFlight s1 f.cmd.serial fun x => if x.st = .forwarded then { x with st := .fetched } else x
  | _ => s

/-- FORWARDED_COMMAND_RECEIVED (R31). -/
def execForwardedCommandReceived (at_ : Half) (s : State) : Host.Outcome State Fault Refusal :=
  actIf true s (commandArrives s at_)

/-- FORWARDED_REPORT_RECEIVED: the oldest message to half `at_` is a completion or an effect report (R31). -/
def reportArrives (s : State) (at_ : Half) : State :=
  match mortarHead s at_ 0 with
  | some (.completion _ c) =>
    let s1 := mortarTake s at_ 0
    if c.serial = 0 then
      if s1.mgmt.forwarded.isSome then
        portComplete { s1 with mgmt := { s1.mgmt with forwarded := none, waiting := false } } c
      else s1
    else
      let s2 := deliver s1 c
      if isFinal c then retire s2 c.serial else s2
  | some (.effect _ r) => deliverEffect (mortarTake s at_ 0) r
  | _ => s

/-- FORWARDED_REPORT_RECEIVED (R31). -/
def execForwardedReportReceived (at_ : Half) (s : State) : Host.Outcome State Fault Refusal :=
  actIf true s (reportArrives s at_)

/-- A command that waits for half `h` is forwarded to it. -/
def forwardHeld (h : Half) (s : State) (f : Flight) : State :=
  if f.st = .held ∧ f.exec = h then
    let g := { f with st := .forwarded }
    mortarQueue (modFlight s f.cmd.serial fun _ => g) f.cmd.recv (.command g)
  else s

/-- The port's command that waits for half `h` is forwarded to it. -/
def forwardPort (s : State) (h : Half) : State :=
  match s.mgmt.waiting, s.mgmt.forwarded with
  | true, some c =>
    if h = leadHalf s then s
    else mortarQueue { s with mgmt := { s.mgmt with waiting := false } } (leadHalf s)
      (.command { cmd := c, op := (opOfCode c.order).getD .devNop, exec := h, st := .forwarded })
  | _, _ => s

/-- PEER_COMMAND_READY: half `h` is command-ready again, and the other half forwards what it holds (R546). -/
def peerReady (s : State) (h : Half) : State :=
  if !(half s h).ident.cmdReady || !mortarUp s then s else forwardPort (s.flights.foldl (forwardHeld h) s) h

/-- PEER_COMMAND_READY (R546). -/
def execPeerCommandReady (h : Half) (s : State) : Host.Outcome State Fault Refusal := actIf true s (peerReady s h)

/-! The management port (R70 to R72). -/

/-- Opcodes of the management port, by whether the boot ROM serves it (R72). -/
def portAccepts (rom : Bool) : Op → Bool
  | .devNop | .devGetHealth | .devFwStage | .devFwVerify | .devFwActivate | .devFwGetStatus => true
  | .devReadEventLog | .pairGetStatus => !rom
  | _ => false

/-- Checks 3 to 5 on a port entry: an opcode of the port, no INDIRECT (R70, R72). -/
def portChecks (op : Op) (c : Cmd) (w0 w1 : Word) (rom : Bool) : List (Bool × Reply) :=
  [(!portAccepts rom op, errAt stBadOpcode 0x05 0), (c.indirect, errAt stBadParam 0x02 0)] ++ flagChecks op c w0 ++
    lengthChecks op c (fld w1 31 24)

/-- A port command is placed: it starts in the lead, or is forwarded. The command's number in its ring, which the port does not
use, holds its opcode on the way. -/
def portPlace (s : State) (op : Op) (c : Cmd) : State :=
  let s1 := { s with mgmt := { s.mgmt with running := true } }
  match placeOf op c s with
  | none => portComplete s1 { mkCompletion c .A stBadTarget 0 1 0 0 0 with exec := 0 }
  | some h =>
    if h = c.recv then startCmd s1 op c h
    else if s.mortar.st = .down then portComplete s1 (mkCompletion c h stLinkDown 0 0xFFFF 0 0 0)
    else
      let x := { c with order := opCode op }
      let waits := !(half s h).ident.cmdReady
      let s2 := { s1 with mgmt := { s1.mgmt with forwarded := some x, waiting := waits } }
      if waits then s2 else mortarQueue s2 c.recv (.command { cmd := x, op, exec := h, st := .forwarded })

/-- WRITE_ENTRY: one command at a time (R70). -/
def portEntry (s : State) (ws : List Word) : State :=
  if !portServed s || portBusy s then s
  else
    let lead := leadHalf s
    let w0 := ws.getD 0 0
    let c := { parseEntry lead 0 ws with port := true }
    let refuse := fun (r : Reply) => match r with
      | .done st rs pi r0 r1 r2 => portComplete s { mkCompletion c lead st rs pi r0 r1 r2 with exec := 0 }
      | _ => s
    match opOfCode (fld w0 15 0) with
    | none => refuse (errAt stBadOpcode 0 0)
    | some op =>
      match firstErr (portChecks op c w0 (ws.getD 1 0) (half s lead).sys.bootRom) with
      | some r => refuse r
      | none => portPlace s op c

/-- WRITE_ENTRY (R70). -/
def execWriteEntry (dwords : List Word) (s : State) : Host.Outcome State Fault Refusal :=
  actIf (decide (dwords.length = 16)) s (portEntry s dwords)


/-! Rows of the commands. -/

/-- DEV_NOP (R72). -/
def execDevNop (c : Cmd) (s : State) : Host.Outcome State Fault Refusal := submit (.devNop c) .devNop opDevNop c s

/-- DEV_SET_EVENT_MASK (R65). -/
def execDevSetEventMask (c : Cmd) (s : State) : Host.Outcome State Fault Refusal := submit (.devSetEventMask c) .devSetEventMask opDevSetEventMask c s

/-- DEV_READ_EVENT_LOG (R66). -/
def execDevReadEventLog (c : Cmd) (s : State) : Host.Outcome State Fault Refusal := submit (.devReadEventLog c) .devReadEventLog opDevReadEventLog c s

end Sys2Proof.Machine
end

