-- ==== Sys2Proof/Machine/Pair.lean ====
section
/-! DEFINITION. What a mirror does with the records of the active, what the active does with acknowledgements, and the takeover
(R456 to R460, R469, R470). -/

namespace Sys2Proof.Machine

/-! The tag table (R456). -/

/-- The tag of the table with this receiving half and TAG. -/
def isTag (recv : Half) (tag : BitVec 16) (t : PairTag) : Bool := decide (t.cmd.recv = recv) && decide (t.cmd.tag = tag)

/-- The state with a tag of the table changed. -/
def modTag (s : State) (recv : Half) (tag : BitVec 16) (f : PairTag → PairTag) : State :=
  modPair s fun p => { p with tags := p.tags.map fun t => if isTag recv tag t then f t else t }

/-- A tag leaves the table. -/
def dropTag (s : State) (recv : Half) (tag : BitVec 16) : State :=
  modPair s fun p => { p with tags := p.tags.filter fun t => !isTag recv tag t }

/-- The mirror has the active's configuration and takes its records as they come (R456, R459). -/
def takesRecords (s : State) : Bool := decide (s.pair.role = 2) && decide (s.pair.st = .paired)

/-- Do `f` with the host-memory tables of a record in place, which the mirror never reads itself (R456). -/
def withTables (s : State) (tables : List (Nat × List Byte)) (f : State → State) : State :=
  let saved := tables.map fun t => (t.1, s.hostMem.readBytes hostDefault t.1 t.2.length)
  let t := f { s with hostMem := hostStores s.hostMem tables, hostBad := [] }
  { t with hostMem := hostStores t.hostMem saved, hostBad := s.hostBad }

/-- Carry a command out for the active: nothing of it is reported here (R461). -/
def runSilent (s0 : State) (t : PairTag) (h : Half) : State :=
  let c := numbered s0 t.cmd
  let s := modTag (numberTaken s0) t.cmd.recv t.cmd.tag fun x => { x with cmd := c, ran := true }
  let s1 := modFlight (enterFlight s c t.op h 0 0) c.serial fun f => { f with silent := true, dropped := true }
  withTables s1 t.tables (start t.op (runOp t.op) c h)

/-- ACCEPT: input regions are copied, and the tag enters the table (R456, R458). -/
def recAccept (s : State) (r : AcceptRec) : State :=
  let s1 := r.regions.foldl (fun s x => dramWrite s x.1 x.2.1 x.2.2) s
  modPair s1 fun p => { p with
    tags := p.tags.filter (fun t => !isTag r.cmd.recv r.cmd.tag t) ++
      [{ cmd := { r.cmd with serial := 0 }, op := r.op, tables := r.tables }] }

/-- APPLY: the outcome is recorded, and a mirrored command that succeeded makes the same changes here (R456, R461). -/
def recApply (s : State) (k : Completion) : State :=
  let s1 := modTag s k.recv k.tag fun t => { t with apply := some k }
  match s1.pair.tags.find? (isTag k.recv k.tag) with
  | some t =>
    let good := decide (k.status = stOk) || decide (k.status = stOkDeferred)
    if good && !t.ran && !activeOnly t.op t.cmd && !deviceLocal t.op t.cmd then
      runSilent s1 t ((halfOfCode k.exec.toNat).getD (leadHalf s1))
    else s1
  | none => s1

/-- POSTED: a completion has reached the host; after the final one the tag leaves the table (R456). -/
def recPosted (s : State) (recv : Half) (tag : BitVec 16) (final : Bool) : State :=
  if final then dropTag s recv tag else modTag s recv tag fun t => { t with posted := true }

/-- STAGE (R456). -/
def recStage (s : State) (recv : Half) (tag : BitVec 16) : State := modTag s recv tag fun t => { t with staged := true }

/-- A staged change that the active has withdrawn goes here too. -/
def unstageSilent (s : State) (t : PairTag) : State :=
  let mine := fun (x : Staged) => decide (x.cmd.serial = t.cmd.serial)
  if !t.ran || !(s.staged.any mine) then s
  else retire (cancelWork t.op t.cmd { s with staged := s.staged.filter fun x => !mine x }) t.cmd.serial

/-- EFFECT: the active's effect point of a staged change; one without NOTIFY has then made its final report (R456, R457). -/
def recEffect (s : State) (recv : Half) (tag : BitVec 16) (point : Count64) : State :=
  match s.pair.tags.find? (isTag recv tag) with
  | none => s
  | some t =>
    let s1 :=
      if point = noPoint then unstageSilent s t
      else if isSilent s t.cmd.serial then modPair s fun p => { p with effects := p.effects ++ [(recv, tag, point)] }
      else s
    if t.posted ∧ t.cmd.notify = false then dropTag s1 recv tag else s1

/-- ADMIT: the frame may be admitted here; `cycles` is the largest delay so far (R457, R477). -/
def recAdmit (s : State) (ctx : Nat) (h : Half) (f : Count64) : State :=
  modPair s fun p => { p with admits := p.admits ++ [(ctx, h, f)] }

/-! Frames, segments, trims (R456, R460). -/

/-- A stream's coverage changes; the first covered frame is COVERED_FROM (R459, R460). -/
def setCover (s : State) (n : Nat) (on : Bool) (f : Count64) : State :=
  if s.pair.coverage.getLsbD n = on then s
  else
    let bit := BitVec.ofNat 64 (2 ^ n)
    let s1 := modPair s fun p => { p with
      coverage := if on then p.coverage ||| bit else p.coverage &&& ~~~bit
      coveredFrom := tset p.coveredFrom n (if on then f else noPoint) }
    streamEvent s1 n 0xA006 1 f (b2n on) 0 0

/-- FRAME: the mirror's frame of the same SENSOR_FN takes the active's number and mark; a frame that this device does not
hold uncovers the stream (R460). -/
def recFrame (s : State) (n : Nat) (fn : Word) (number : Count64) (mark : Option Count64) : State :=
  let x := streamAt s n
  let mine := fun (w : WFrame) => decide (w.carried = fn) && w.given.isNone
  match x.writing.find? mine with
  | some w =>
    let s1 := modStream s n fun x => { x with
      frame := if x.frame = some w.number then some number else x.frame
      writing := x.writing.map fun v => if v.number = w.number then { v with given := some (number, mark) } else v }
    setCover s1 n true number
  | none => if x.st = .capturing ∨ x.st = .halted then setCover s n false number else s

/-- MIRROR_FRAME_TIMEOUT: no FRAME record within 1 ms of the close: the frame takes this device's own count (R460). -/
def frameTimeout (s : State) (n : Nat) : State :=
  let x := streamAt s n
  if s.pair.role ≠ 2 then s
  else match x.writing.find? fun w => w.closed && w.given.isNone with
    | some w =>
      let number := (x.lastStored.map (· + 1)).getD w.number
      setCover (modStream s n fun x => { x with
        writing := x.writing.map fun v => if v.number = w.number then { v with given := some (number, w.mark) } else v })
        n false number
    | none => s

/-- TRIGGER and SEGMENT records: the same segment decisions by frame number (R456, R469). -/
def recSegment (s : State) : SegRec → State
  | .trigger k t =>
    let own := s.pair.firings.any fun e => decide (e.1 = k)
    let s1 := modPair s fun p =>
      if own then { p with firings := p.firings.eraseIdx (p.firings.findIdx fun e => decide (e.1 = k)) }
      else { p with fired := p.fired ++ [(k, 0, t)] }
    applyFiring s1 k t
  | .freeze n last =>
    match (ringOf s n).segs.find? fun g => decide (g.st ≠ .frozen) && g.frames.any fun f => decide (f.number = last) with
    | some g => freezeSeg s n g.number false
    | none => s
  | .release n number =>
    match (frozenSegs (ringOf s n)).find? fun g => decide (g.number = number) with
    | some g => releaseSeg s n g 0
    | none => s

/-- TRIM: arrays and maps are written at the same addresses, and the values wait for their frame (R456). -/
def recTrim (s : State) (r : TrimRec) : State :=
  let h := trimHalf s r.dom r.stream
  modPair (r.data.foldl (fun s x => dramWrite s h x.1 x.2) s) fun p => { p with trims := p.trims ++ [r] }

/-- What a mirror does with a record. -/
def applyRec (s : State) : MirrorRec → State
  | .accept r => recAccept s r
  | .apply k => recApply s k
  | .posted recv tag final => recPosted s recv tag final
  | .stage recv tag => recStage s recv tag
  | .effect recv tag point _ => recEffect s recv tag point
  | .admitted ctx h f => recAdmit s ctx h f
  | .frame n fn number mark => recFrame s n fn number mark
  | .segment r => recSegment s r
  | .trim r => recTrim s r

/-- A record arrives at a device; one that is no mirror with the active's configuration does nothing with it. -/
def record (s : State) (r : MirrorRec) : State := if takesRecords s then applyRec s r else s

/-- ACCEPT (R456). -/
def execAccept (r : AcceptRec) (s : State) : Host.Outcome State Fault Refusal := actIf true s (record s (.accept r))

/-- APPLY (R456). -/
def execApply (c : Completion) (s : State) : Host.Outcome State Fault Refusal := actIf true s (record s (.apply c))

/-- POSTED (R456). -/
def execPosted (recv : Half) (tag : BitVec 16) (final : Bool) (s : State) : Host.Outcome State Fault Refusal :=
  actIf true s (record s (.posted recv tag final))

/-- STAGE (R456). -/
def execStage (recv : Half) (tag : BitVec 16) (s : State) : Host.Outcome State Fault Refusal :=
  actIf true s (record s (.stage recv tag))

/-- EFFECT (R456). -/
def execEffect (recv : Half) (tag : BitVec 16) (point : Count64) (stream : Nat) (s : State) :
    Host.Outcome State Fault Refusal :=
  actIf (decide (stream < 64)) s (record s (.effect recv tag point stream))

/-- ADMIT: `cycles` is the largest admission delay of the last 2^24 cycles, as this device measures it (R457, R477). -/
def execAdmitFrame (ctx : Nat) (h : Half) (f : Count64) (cycles : Nat) (s : State) : Host.Outcome State Fault Refusal :=
  actIf (decide (ctx < 32)) s
    (if takesRecords s then modPair (record s (.admitted ctx h f)) fun p => { p with mirrorLag := BitVec.ofNat 32 cycles } else s)

/-- FRAME (R460). -/
def execFrame (stream : Nat) (sensorFn : Word) (number : Count64) (mark : Option Count64) (s : State) :
    Host.Outcome State Fault Refusal :=
  actIf (decide (stream < 64)) s (record s (.frame stream sensorFn number mark))

/-- SEGMENT (R456). -/
def execSegment (r : SegRec) (s : State) : Host.Outcome State Fault Refusal := actIf r.valid s (record s (.segment r))

/-- TRIM (R456). -/
def execTrim (r : TrimRec) (s : State) : Host.Outcome State Fault Refusal :=
  actIf r.valid s (record s (.trim r))

/-- MIRROR_FRAME_TIMEOUT (R460). -/
def execMirrorFrameTimeout (stream : Nat) (s : State) : Host.Outcome State Fault Refusal :=
  actIf (decide (stream < 64)) s (frameTimeout s stream)

/-- SNAPSHOT_APPLIED: the snapshot, as the records that bring this device to the active's configuration and tag table, is
applied; the mirror is PAIRED and its admissions are gated (R455, R457, R459). -/
def snapshot (s : State) (recs : List MirrorRec) : State :=
  if s.pair.role ≠ 2 ∨ s.pair.st ≠ .syncing then s
  else
    let s1 := modPair s fun p => { forgetActive p with st := .paired, gating := true }
    recs.foldl applyRec s1

/-- SNAPSHOT_APPLIED (R459). -/
def execSnapshotApplied (recs : List MirrorRec) (s : State) : Host.Outcome State Fault Refusal :=
  actIf true s (snapshot s recs)

/-! Acknowledgements (R456). -/

/-- MIRROR_ACK_RECEIVED: a command whose ACCEPT is acknowledged may start; else its reports that wait go out. -/
def ackArrives (s : State) (recv : Half) (tag : BitVec 16) : State :=
  match liveFlight s recv tag with
  | some f =>
    if f.awaitsAck then modFlight s f.cmd.serial fun f => { f with awaitsAck := false }
    else releaseHeld s fun r => decide (heldSerial r = f.cmd.serial)
  | none => s

/-- MIRROR_ACK_RECEIVED (R456). -/
def execMirrorAckReceived (recv : Half) (tag : BitVec 16) (s : State) : Host.Outcome State Fault Refusal :=
  actIf true s (ackArrives s recv tag)

/-! Takeover (R469, R470). -/

/-- Completion ring paired with the same submission ring number in the same half (R470). -/
def tagRing (s : State) (c : Cmd) : Nat := (sqAt s c.recv c.sq.toNat).cqId.toNat

/-- A command of the old active is carried out, once more or for the first time: its first completion is REPLAYED (R470). -/
def carryAgain (s0 : State) (t : PairTag) : State :=
  let c := numbered s0 t.cmd
  let s := numberTaken s0
  let h := (placeOf t.op c s).getD (leadHalf s)
  let s1 := modFlight (enterFlight s c t.op h 0 (tagRing s c)) c.serial fun f => { f with replay := true }
  withTables s1 t.tables (start t.op (runOp t.op) c h)

/-- The outcome of a command cannot be known (R470). -/
def tagLost (s : State) (t : PairTag) : State :=
  let k := mkCompletion t.cmd ((placeOf t.op t.cmd s).getD (leadHalf s)) stLost 0xA7 0xFFFF 0 0 0
  tagOutcome s (tagRing s t.cmd) k stLost

/-- Commands whose effect outside the device is unknown once they have begun it (R470). -/
def outsideWork : Op → Bool
  | .vfPanelSequence | .linkEnable | .linkRetrain | .linkPrbsCheck | .linkRemapLane => true
  | _ => false

/-- A command without an APPLY record: whether the old active had begun it, or its work outside, is not known here. -/
def tagUnknown (s0 : State) (t : PairTag) : State :=
  let (k, s) := fresh s0
  let begun := Config.freeBool k
  if !begun then carryAgain s t
  else if outsideWork t.op then tagLost s t
  else if activeOnly t.op t.cmd && !s.pair.peerFenced && !s.pair.hostFenced then tagLost s t
  else carryAgain s t

/-- A staged change stays staged, and reports from now on; a first completion not yet posted is REPLAYED (R470). -/
def tagStaged (s : State) (t : PairTag) (k : Completion) : State :=
  let s1 := modFlight s t.cmd.serial fun f => { f with
    silent := false, dropped := false, replay := !t.posted, firstDone := t.posted, cq := tagRing s t.cmd }
  if t.posted then s1 else deliver s1 { k with serial := t.cmd.serial }

/-- The outcome of one tag of the table (R470). -/
def reportTag (s : State) (t : PairTag) : State :=
  match t.apply with
  | none => tagUnknown s t
  | some k =>
    if t.staged ∧ (flightOf s t.cmd.serial).isSome = true then tagStaged s t k
    else if t.posted then s
    else tagOutcome s (tagRing s t.cmd) (replayed k) k.status

/-- Firings of the device's own sources that no TRIGGER record matched are applied with their own T (R469 step 3). -/
def ownFirings (s : State) : State :=
  s.pair.firings.foldl (fun s e => applyFiring s e.1 e.2.2) (modPair s fun p => { p with firings := [], fired := [] })

/-- Viewfinder outputs in RUN 1 go to RUN 2, with a full push due (R419, R469 step 4). -/
def outputsOn (s : State) : State :=
  let newest := newestSource s
  { s with outs := s.outs.map fun y =>
      if y.cfg.run = 1 then { y with cfg := { y.cfg with run := 2 }, fullDue := true, src := newest, divCount := 0 } else y }

/-- The steps of the takeover, in order (R469). -/
def takeover (s : State) (cycles : Nat) : State :=
  let p := s.pair
  let s1 := modPair s fun p => { p with epoch := p.claimEpoch, pulses := true, claim := 0, gating := false, admits := [], effects := [] }
  let s2 := ownFirings s1
  let s3 := outputsOn (modPair s2 fun p => { p with own := true, role := 1, st := .paired, hasMirror := false, hbMissed := 0 })
  let s4 := p.tags.foldl reportTag (modPair s3 fun p => { p with tags := [] })
  let s5 := modPair s4 fun p => { p with
    takeovers := satInc p.takeovers, coverage := 0, coveredFrom := Vector.replicate 64 noPoint, hostFenced := false, cmd := none }
  let s6 := pairEvent s5 0xA004 3 p.claimCause p.claimEpoch.toNat cycles
  match p.cmd with
  | some c => completeOk s6 c (cmdHalf s6 c) 0 0 0
  | none => s6

/-- CLAIM_DRIVE_END: the claimant releases the wire; high, the claim is won, and low, it is lost (R466, R469). -/
def claimEnds (s : State) (high : Bool) (cycles : Nat) : State :=
  if s.pair.claim ≠ 2 then s
  else
    let s1 := modPair s fun p => { p with arbDriven := false }
    if !high then depose s1 s1.pair.epoch
    else if s1.pair.st = .takingOver then takeover s1 cycles
    else becomeActive s1 s1.pair.claimEpoch

/-- CLAIM_DRIVE_END (R466). -/
def execClaimDriveEnd (high : Bool) (cycles : Nat) (s : State) : Host.Outcome State Fault Refusal :=
  actIf true s (claimEnds s high cycles)

end Sys2Proof.Machine
end

