-- ==== Sys2Proof/Machine/Dispatch.lean ====
section
/-! DEFINITION. The dispatch: one arm per row of the table, each one direct call of that row's meaning. -/

namespace Sys2Proof.Machine

def exec (i : Instr) (s : State) : Host.Outcome State Fault Refusal :=
  match i with
  | .devNop c => Sys2Proof.Machine.execDevNop c s
  | .devAbort c => Sys2Proof.Machine.execDevAbort c s
  | .devSetEventMask c => Sys2Proof.Machine.execDevSetEventMask c s
  | .devReadEventLog c => Sys2Proof.Machine.execDevReadEventLog c s
  | .devFwStage c => Sys2Proof.Machine.execDevFwStage c s
  | .devFwVerify c => Sys2Proof.Machine.execDevFwVerify c s
  | .devFwActivate c => Sys2Proof.Machine.execDevFwActivate c s
  | .devFwGetStatus c => Sys2Proof.Machine.execDevFwGetStatus c s
  | .devReset c => Sys2Proof.Machine.execDevReset c s
  | .devGetHealth c => Sys2Proof.Machine.execDevGetHealth c s
  | .devSetThermal c => Sys2Proof.Machine.execDevSetThermal c s
  | .linkSetQuadMode c => Sys2Proof.Machine.execLinkSetQuadMode c s
  | .linkConfigure c => Sys2Proof.Machine.execLinkConfigure c s
  | .linkEnable c => Sys2Proof.Machine.execLinkEnable c s
  | .linkDisable c => Sys2Proof.Machine.execLinkDisable c s
  | .linkRetrain c => Sys2Proof.Machine.execLinkRetrain c s
  | .linkGetStatus c => Sys2Proof.Machine.execLinkGetStatus c s
  | .linkClearCounters c => Sys2Proof.Machine.execLinkClearCounters c s
  | .linkSetPolicy c => Sys2Proof.Machine.execLinkSetPolicy c s
  | .linkRemapLane c => Sys2Proof.Machine.execLinkRemapLane c s
  | .linkSetEq c => Sys2Proof.Machine.execLinkSetEq c s
  | .linkPrbsCheck c => Sys2Proof.Machine.execLinkPrbsCheck c s
  | .qryMapStream c => Sys2Proof.Machine.execQryMapStream c s
  | .qryConfigureStream c => Sys2Proof.Machine.execQryConfigureStream c s
  | .qryConfigureRing c => Sys2Proof.Machine.execQryConfigureRing c s
  | .qryStartStream c => Sys2Proof.Machine.execQryStartStream c s
  | .qryStopStream c => Sys2Proof.Machine.execQryStopStream c s
  | .qrySetTriggerRule c => Sys2Proof.Machine.execQrySetTriggerRule c s
  | .qryArm c => Sys2Proof.Machine.execQryArm c s
  | .qryTrigger c => Sys2Proof.Machine.execQryTrigger c s
  | .qryRead c => Sys2Proof.Machine.execQryRead c s
  | .qryGetSegments c => Sys2Proof.Machine.execQryGetSegments c s
  | .qryRelease c => Sys2Proof.Machine.execQryRelease c s
  | .qrySetHostMark c => Sys2Proof.Machine.execQrySetHostMark c s
  | .qryGetStatus c => Sys2Proof.Machine.execQryGetStatus c s
  | .qrySetReporting c => Sys2Proof.Machine.execQrySetReporting c s
  | .qryLocate c => Sys2Proof.Machine.execQryLocate c s
  | .ashEncode c => Sys2Proof.Machine.execAshEncode c s
  | .ashDecode c => Sys2Proof.Machine.execAshDecode c s
  | .ashContinue c => Sys2Proof.Machine.execAshContinue c s
  | .ashDropJob c => Sys2Proof.Machine.execAshDropJob c s
  | .ashGetStatus c => Sys2Proof.Machine.execAshGetStatus c s
  | .pipeOpenContext c => Sys2Proof.Machine.execPipeOpenContext c s
  | .pipeSetSource c => Sys2Proof.Machine.execPipeSetSource c s
  | .pipeStartContext c => Sys2Proof.Machine.execPipeStartContext c s
  | .pipeStopContext c => Sys2Proof.Machine.execPipeStopContext c s
  | .pipeCloseContext c => Sys2Proof.Machine.execPipeCloseContext c s
  | .pipeSetSlotMask c => Sys2Proof.Machine.execPipeSetSlotMask c s
  | .pipeSetPriority c => Sys2Proof.Machine.execPipeSetPriority c s
  | .pipeSetSlotTime c => Sys2Proof.Machine.execPipeSetSlotTime c s
  | .pipeGetContextStatus c => Sys2Proof.Machine.execPipeGetContextStatus c s
  | .pipeSetStreamCorr c => Sys2Proof.Machine.execPipeSetStreamCorr c s
  | .pipeSetContextCorr c => Sys2Proof.Machine.execPipeSetContextCorr c s
  | .pipeSetColour c => Sys2Proof.Machine.execPipeSetColour c s
  | .pipeLoadLut c => Sys2Proof.Machine.execPipeLoadLut c s
  | .pipeSetTap c => Sys2Proof.Machine.execPipeSetTap c s
  | .pipeSetTapRing c => Sys2Proof.Machine.execPipeSetTapRing c s
  | .pipeTapBuffer c => Sys2Proof.Machine.execPipeTapBuffer c s
  | .pipeGetTapStatus c => Sys2Proof.Machine.execPipeGetTapStatus c s
  | .statConfigure c => Sys2Proof.Machine.execStatConfigure c s
  | .statSetContentTrigger c => Sys2Proof.Machine.execStatSetContentTrigger c s
  | .statRead c => Sys2Proof.Machine.execStatRead c s
  | .trimSetPolicy c => Sys2Proof.Machine.execTrimSetPolicy c s
  | .trimMeasure c => Sys2Proof.Machine.execTrimMeasure c s
  | .trimCommit c => Sys2Proof.Machine.execTrimCommit c s
  | .trimLoad c => Sys2Proof.Machine.execTrimLoad c s
  | .trimRead c => Sys2Proof.Machine.execTrimRead c s
  | .vcuOpenSession c => Sys2Proof.Machine.execVcuOpenSession c s
  | .vcuSetOutput c => Sys2Proof.Machine.execVcuSetOutput c s
  | .vcuSetRate c => Sys2Proof.Machine.execVcuSetRate c s
  | .vcuStart c => Sys2Proof.Machine.execVcuStart c s
  | .vcuStop c => Sys2Proof.Machine.execVcuStop c s
  | .vcuRequestIrap c => Sys2Proof.Machine.execVcuRequestIrap c s
  | .vcuCloseSession c => Sys2Proof.Machine.execVcuCloseSession c s
  | .vcuSubmitPicture c => Sys2Proof.Machine.execVcuSubmitPicture c s
  | .vcuDecodeData c => Sys2Proof.Machine.execVcuDecodeData c s
  | .vcuFlush c => Sys2Proof.Machine.execVcuFlush c s
  | .vcuConsumed c => Sys2Proof.Machine.execVcuConsumed c s
  | .vcuPictureBuffer c => Sys2Proof.Machine.execVcuPictureBuffer c s
  | .vcuGetPool c => Sys2Proof.Machine.execVcuGetPool c s
  | .vcuGetStatus c => Sys2Proof.Machine.execVcuGetStatus c s
  | .memGetStatus c => Sys2Proof.Machine.execMemGetStatus c s
  | .memSetRegion c => Sys2Proof.Machine.execMemSetRegion c s
  | .memSetPolicy c => Sys2Proof.Machine.execMemSetPolicy c s
  | .memTrain c => Sys2Proof.Machine.execMemTrain c s
  | .memSetFreq c => Sys2Proof.Machine.execMemSetFreq c s
  | .memReadTiming c => Sys2Proof.Machine.execMemReadTiming c s
  | .memRepair c => Sys2Proof.Machine.execMemRepair c s
  | .memSaveTraining c => Sys2Proof.Machine.execMemSaveTraining c s
  | .memInjectError c => Sys2Proof.Machine.execMemInjectError c s
  | .vfSetSource c => Sys2Proof.Machine.execVfSetSource c s
  | .vfConfigureOutput c => Sys2Proof.Machine.execVfConfigureOutput c s
  | .vfPanelSequence c => Sys2Proof.Machine.execVfPanelSequence c s
  | .vfSetCheck c => Sys2Proof.Machine.execVfSetCheck c s
  | .vfResume c => Sys2Proof.Machine.execVfResume c s
  | .vfGetStatus c => Sys2Proof.Machine.execVfGetStatus c s
  | .audConfigure c => Sys2Proof.Machine.execAudConfigure c s
  | .audStart c => Sys2Proof.Machine.execAudStart c s
  | .audStop c => Sys2Proof.Machine.execAudStop c s
  | .audAdvance c => Sys2Proof.Machine.execAudAdvance c s
  | .audSetLatch c => Sys2Proof.Machine.execAudSetLatch c s
  | .audGetStatus c => Sys2Proof.Machine.execAudGetStatus c s
  | .pairConfigure c => Sys2Proof.Machine.execPairConfigure c s
  | .pairGetStatus c => Sys2Proof.Machine.execPairGetStatus c s
  | .pairSwitchover c => Sys2Proof.Machine.execPairSwitchover c s
  | .pairTakeover c => Sys2Proof.Machine.execPairTakeover c s
  | .pwrSetWakeBudget c => Sys2Proof.Machine.execPwrSetWakeBudget c s
  | .pwrGetState c => Sys2Proof.Machine.execPwrGetState c s
  | .hostGetLinkStatus c => Sys2Proof.Machine.execHostGetLinkStatus c s
  | .writeEntry dwords => Sys2Proof.Machine.execWriteEntry dwords s
  | .readCompletion => Sys2Proof.Machine.execReadCompletion s
  | .readEvent => Sys2Proof.Machine.execReadEvent s
  | .writeData bytes => Sys2Proof.Machine.execWriteData bytes s
  | .readData n => Sys2Proof.Machine.execReadData n s
  | .readStatus => Sys2Proof.Machine.execReadStatus s
  | .sqTailDoorbell h n value env => Sys2Proof.Machine.execSqTailDoorbell h n value env s
  | .cqHeadDoorbell h n value => Sys2Proof.Machine.execCqHeadDoorbell h n value s
  | .headDb h value => Sys2Proof.Machine.execHeadDb h value s
  | .sqEnable h n value => Sys2Proof.Machine.execSqEnable h n value s
  | .sqDisable h n value => Sys2Proof.Machine.execSqDisable h n value s
  | .cqEnable h n value => Sys2Proof.Machine.execCqEnable h n value s
  | .cqDisable h n value => Sys2Proof.Machine.execCqDisable h n value s
  | .eventRingEnable h value => Sys2Proof.Machine.execEventRingEnable h value s
  | .eventRingDisable h value => Sys2Proof.Machine.execEventRingDisable h value s
  | .msixMaskWrite h w => Sys2Proof.Machine.execMsixMaskWrite h w s
  | .dStateWrite h d3 pmeEn => Sys2Proof.Machine.execDStateWrite h d3 pmeEn s
  | .registerWrite h w => Sys2Proof.Machine.execRegisterWrite h w s
  | .bar2Read h offset len => Sys2Proof.Machine.execBar2Read h offset len s
  | .bar2Write h offset bytes => Sys2Proof.Machine.execBar2Write h offset bytes s
  | .quiesced h n => Sys2Proof.Machine.execQuiesced h n s
  | .entryFetch h n => Sys2Proof.Machine.execEntryFetch h n s
  | .entryReadDone h n => Sys2Proof.Machine.execEntryReadDone h n s
  | .paramBlockReadDone h tag => Sys2Proof.Machine.execParamBlockReadDone h tag s
  | .commandStart h => Sys2Proof.Machine.execCommandStart h s
  | .coalDelayExpiry h n => Sys2Proof.Machine.execCoalDelayExpiry h n s
  | .mortarFlitSend from_ => Sys2Proof.Machine.execMortarFlitSend from_ s
  | .mortarFlitReceived at_ crcOk => Sys2Proof.Machine.execMortarFlitReceived at_ crcOk s
  | .mortarReplayRequest at_ seq => Sys2Proof.Machine.execMortarReplayRequest at_ seq s
  | .mortarFlitAck at_ seq => Sys2Proof.Machine.execMortarFlitAck at_ seq s
  | .mortarUnackTimeout at_ => Sys2Proof.Machine.execMortarUnackTimeout at_ s
  | .mortarTrainingAttemptDone ok downCycles => Sys2Proof.Machine.execMortarTrainingAttemptDone ok downCycles s
  | .mortarBackoffExpiry => Sys2Proof.Machine.execMortarBackoffExpiry s
  | .mortarIdleEntry => Sys2Proof.Machine.execMortarIdleEntry s
  | .forwardedCommandReceived at_ => Sys2Proof.Machine.execForwardedCommandReceived at_ s
  | .forwardedReportReceived at_ => Sys2Proof.Machine.execForwardedReportReceived at_ s
  | .peerCommandReady h => Sys2Proof.Machine.execPeerCommandReady h s
  | .aperRequestReceived at_ => Sys2Proof.Machine.execAperRequestReceived at_ s
  | .islandWakeRequest h isl => Sys2Proof.Machine.execIslandWakeRequest h isl s
  | .islandWakeDone h isl => Sys2Proof.Machine.execIslandWakeDone h isl s
  | .islandStateEntry h isl => Sys2Proof.Machine.execIslandStateEntry h isl s
  | .islandFault h isl => Sys2Proof.Machine.execIslandFault h isl s
  | .islandResetDone h isl cycles => Sys2Proof.Machine.execIslandResetDone h isl cycles s
  | .trigInEdge h ball rising => Sys2Proof.Machine.execTrigInEdge h ball rising s
  | .triggerTReceived at_ => Sys2Proof.Machine.execTriggerTReceived at_ s
  | .triggerHoldoffEnd rule => Sys2Proof.Machine.execTriggerHoldoffEnd rule s
  | .trigOutPulseEnd ball => Sys2Proof.Machine.execTrigOutPulseEnd ball s
  | .signalEnergyDetected link => Sys2Proof.Machine.execSignalEnergyDetected link s
  | .signalEnergyLost link => Sys2Proof.Machine.execSignalEnergyLost link s
  | .capBlock lane payload => Sys2Proof.Machine.execCapBlock lane payload s
  | .applied link => Sys2Proof.Machine.execApplied link s
  | .lockStageDone lane sweep => Sys2Proof.Machine.execLockStageDone lane sweep s
  | .lockStageTimeout lane => Sys2Proof.Machine.execLockStageTimeout lane s
  | .prbsStageDone link errors cycles => Sys2Proof.Machine.execPrbsStageDone link errors cycles s
  | .capRoundTimeout link => Sys2Proof.Machine.execCapRoundTimeout link s
  | .linkBackoffExpiry link => Sys2Proof.Machine.execLinkBackoffExpiry link s
  | .pslBlock lane hdr payload => Sys2Proof.Machine.execPslBlock lane hdr payload s
  | .align link blocks => Sys2Proof.Machine.execAlign link blocks s
  | .eidle link => Sys2Proof.Machine.execEidle link s
  | .train link => Sys2Proof.Machine.execTrain link s
  | .linkRetrainDone link sweeps cycles => Sys2Proof.Machine.execLinkRetrainDone link sweeps cycles s
  | .activeSignalLoss link => Sys2Proof.Machine.execActiveSignalLoss link s
  | .eqTrackEval lane below now above density => Sys2Proof.Machine.execEqTrackEval lane below now above density s
  | .remapDoneRead link done => Sys2Proof.Machine.execRemapDoneRead link done s
  | .spareRetrainDone link sweep => Sys2Proof.Machine.execSpareRetrainDone link sweep s
  | .csi2ClockLp11 link => Sys2Proof.Machine.execCsi2ClockLp11 link s
  | .csi2ShortPacket link vc dt value period => Sys2Proof.Machine.execCsi2ShortPacket link vc dt value period s
  | .csi2LongPacket link vc dt bytes crcOk => Sys2Proof.Machine.execCsi2LongPacket link vc dt bytes crcOk s
  | .frameStart link block period => Sys2Proof.Machine.execFrameStart link block period s
  | .lineHeader link block => Sys2Proof.Machine.execLineHeader link block s
  | .pslDataBlock link payload => Sys2Proof.Machine.execPslDataBlock link payload s
  | .lineCrc link block => Sys2Proof.Machine.execLineCrc link block s
  | .frameEnd link block period => Sys2Proof.Machine.execFrameEnd link block period s
  | .lineGapWatchdogExpiry stream period => Sys2Proof.Machine.execLineGapWatchdogExpiry stream period s
  | .frameCloseWrite stream => Sys2Proof.Machine.execFrameCloseWrite stream s
  | .qryProgress stream => Sys2Proof.Machine.execQryProgress stream s
  | .encoderTakeBlock h => Sys2Proof.Machine.execEncoderTakeBlock h s
  | .blockEncoded h engine => Sys2Proof.Machine.execBlockEncoded h engine s
  | .decoderTakeBlock h => Sys2Proof.Machine.execDecoderTakeBlock h s
  | .blockDecoded h engine => Sys2Proof.Machine.execBlockDecoded h engine s
  | .slotPointerAdvance h => Sys2Proof.Machine.execSlotPointerAdvance h s
  | .unitAdmit h => Sys2Proof.Machine.execUnitAdmit h s
  | .unitFinish h => Sys2Proof.Machine.execUnitFinish h s
  | .seamBandRowReceived at_ => Sys2Proof.Machine.execSeamBandRowReceived at_ s
  | .spanSideClosedReceived at_ => Sys2Proof.Machine.execSpanSideClosedReceived at_ s
  | .spanFallbackNotice at_ => Sys2Proof.Machine.execSpanFallbackNotice at_ s
  | .spanTapWrittenReceived at_ => Sys2Proof.Machine.execSpanTapWrittenReceived at_ s
  | .statPartialReceived at_ => Sys2Proof.Machine.execStatPartialReceived at_ s
  | .trimMeasurementDone dom inst r => Sys2Proof.Machine.execTrimMeasurementDone dom inst r s
  | .telemetryCalPeriod h => Sys2Proof.Machine.execTelemetryCalPeriod h s
  | .vcuPictureStart session => Sys2Proof.Machine.execVcuPictureStart session s
  | .vcuPictureCoded session h part => Sys2Proof.Machine.execVcuPictureCoded session h part s
  | .vcuSubstreamReceived at_ => Sys2Proof.Machine.execVcuSubstreamReceived at_ s
  | .vcuRefBandReceived at_ => Sys2Proof.Machine.execVcuRefBandReceived at_ s
  | .vcuAuDecoded session au => Sys2Proof.Machine.execVcuAuDecoded session au s
  | .vcuPictureOutput session => Sys2Proof.Machine.execVcuPictureOutput session s
  | .dramRequestAccept h r => Sys2Proof.Machine.execDramRequestAccept h r s
  | .dramCommandIssue h chan sub err => Sys2Proof.Machine.execDramCommandIssue h chan sub err s
  | .refreshIssue h chan rank cycles => Sys2Proof.Machine.execRefreshIssue h chan rank cycles s
  | .refreshDebtLimit h chan rank => Sys2Proof.Machine.execRefreshDebtLimit h chan rank s
  | .mr4Poll h chan rank temp cycles => Sys2Proof.Machine.execMr4Poll h chan rank temp cycles s
  | .clearingFound h chan sub r => Sys2Proof.Machine.execClearingFound h chan sub r s
  | .clearingMade h chan sub r => Sys2Proof.Machine.execClearingMade h chan sub r s
  | .retrainSample h chan samples => Sys2Proof.Machine.execRetrainSample h chan samples s
  | .patrolScrubRead h chan err => Sys2Proof.Machine.execPatrolScrubRead h chan err s
  | .memScrubPass h chan => Sys2Proof.Machine.execMemScrubPass h chan s
  | .rankSpareCopyDone h chan => Sys2Proof.Machine.execRankSpareCopyDone h chan s
  | .dramInitDone h chan => Sys2Proof.Machine.execDramInitDone h chan s
  | .dramTrainingDone h chans => Sys2Proof.Machine.execDramTrainingDone h chans s
  | .powerDownEntry h chan rank => Sys2Proof.Machine.execPowerDownEntry h chan rank s
  | .memFreqChanged h set trained => Sys2Proof.Machine.execMemFreqChanged h set trained s
  | .pcieDlDown h => Sys2Proof.Machine.execPcieDlDown h s
  | .hostLinkChange h gen width flit => Sys2Proof.Machine.execHostLinkChange h gen width flit s
  | .flr h => Sys2Proof.Machine.execFlr h s
  | .perstAssert h => Sys2Proof.Machine.execPerstAssert h s
  | .perstRelease h => Sys2Proof.Machine.execPerstRelease h s
  | .aspmL1Entry h => Sys2Proof.Machine.execAspmL1Entry h s
  | .l0pEval h need => Sys2Proof.Machine.execL0pEval h need s
  | .teEdge output => Sys2Proof.Machine.execTeEdge output s
  | .vfTeLost output => Sys2Proof.Machine.execVfTeLost output s
  | .vfRenderDone output => Sys2Proof.Machine.execVfRenderDone output s
  | .vfPushDone output => Sys2Proof.Machine.execVfPushDone output s
  | .vfSourceArmed output => Sys2Proof.Machine.execVfSourceArmed output s
  | .vfPeerFrameSend h => Sys2Proof.Machine.execVfPeerFrameSend h s
  | .vfPeerFrameReceived at_ => Sys2Proof.Machine.execVfPeerFrameReceived at_ s
  | .vfLinkRestartDone output => Sys2Proof.Machine.execVfLinkRestartDone output s
  | .audioFrame port left right timing => Sys2Proof.Machine.execAudioFrame port left right timing s
  | .clockStop port => Sys2Proof.Machine.execClockStop port s
  | .rateChange port hz gap => Sys2Proof.Machine.execRateChange port hz gap s
  | .remoteLatch at_ phases => Sys2Proof.Machine.execRemoteLatch at_ phases s
  | .heartbeatSend live => Sys2Proof.Machine.execHeartbeatSend live s
  | .heartbeatReceived hb => Sys2Proof.Machine.execHeartbeatReceived hb s
  | .heartbeatPeriodEnd => Sys2Proof.Machine.execHeartbeatPeriodEnd s
  | .livenessFence => Sys2Proof.Machine.execLivenessFence s
  | .pairArbPulse => Sys2Proof.Machine.execPairArbPulse s
  | .pairArbLowSeen long => Sys2Proof.Machine.execPairArbLowSeen long s
  | .claimWaitEnd => Sys2Proof.Machine.execClaimWaitEnd s
  | .claimDriveEnd high cycles => Sys2Proof.Machine.execClaimDriveEnd high cycles s
  | .pairPortTrained half peerRequest peerEpoch peerActive sameDram compatible => Sys2Proof.Machine.execPairPortTrained half peerRequest peerEpoch peerActive sameDram compatible s
  | .accept r => Sys2Proof.Machine.execAccept r s
  | .apply c => Sys2Proof.Machine.execApply c s
  | .posted recv tag final => Sys2Proof.Machine.execPosted recv tag final s
  | .stage recv tag => Sys2Proof.Machine.execStage recv tag s
  | .effect recv tag point stream => Sys2Proof.Machine.execEffect recv tag point stream s
  | .admitFrame ctx h f cycles => Sys2Proof.Machine.execAdmitFrame ctx h f cycles s
  | .frame stream sensorFn number mark => Sys2Proof.Machine.execFrame stream sensorFn number mark s
  | .segment r => Sys2Proof.Machine.execSegment r s
  | .trim r => Sys2Proof.Machine.execTrim r s
  | .mirrorAckReceived recv tag => Sys2Proof.Machine.execMirrorAckReceived recv tag s
  | .snapshotApplied recs => Sys2Proof.Machine.execSnapshotApplied recs s
  | .mirrorFrameTimeout stream => Sys2Proof.Machine.execMirrorFrameTimeout stream s
  | .switchoverDrainEnd => Sys2Proof.Machine.execSwitchoverDrainEnd s
  | .fwStageCopyDone ok => Sys2Proof.Machine.execFwStageCopyDone ok s
  | .fwSwapClearing => Sys2Proof.Machine.execFwSwapClearing s
  | .fwSwapDone img cycles => Sys2Proof.Machine.execFwSwapDone img cycles s
  | .powerOn halfId pairId => Sys2Proof.Machine.execPowerOn halfId pairId s
  | .warmResetNAssert => Sys2Proof.Machine.execWarmResetNAssert s
  | .warmResetNRelease => Sys2Proof.Machine.execWarmResetNRelease s
  | .devResetDelayExpiry => Sys2Proof.Machine.execDevResetDelayExpiry s
  | .devWatchdog h => Sys2Proof.Machine.execDevWatchdog h s
  | .keystoneFault h => Sys2Proof.Machine.execKeystoneFault h s
  | .bootImageVerified h img => Sys2Proof.Machine.execBootImageVerified h img s
  | .bootFirmwareLoaded h img env => Sys2Proof.Machine.execBootFirmwareLoaded h img env s
  | .bootWatchdogExpiry => Sys2Proof.Machine.execBootWatchdogExpiry s
  | .devClockLoss clk => Sys2Proof.Machine.execDevClockLoss clk s
  | .sysClkRestored => Sys2Proof.Machine.execSysClkRestored s
  | .avsMonitorRead h r => Sys2Proof.Machine.execAvsMonitorRead h r s
  | .avsRetry h answered => Sys2Proof.Machine.execAvsRetry h answered s
  | .pmbusTelemetryPoll values => Sys2Proof.Machine.execPmbusTelemetryPoll values s
  | .pmbAlert status => Sys2Proof.Machine.execPmbAlert status s
  | .devSupplyDip h rail mv => Sys2Proof.Machine.execDevSupplyDip h rail mv s
  | .devGuardEnd h cycles => Sys2Proof.Machine.execDevGuardEnd h cycles s
  | .supplyResetLevel h rail mv => Sys2Proof.Machine.execSupplyResetLevel h rail mv s
  | .thermalReading h temps rails => Sys2Proof.Machine.execThermalReading h temps rails s
  | .thermtrip h sensor => Sys2Proof.Machine.execThermtrip h sensor s
  | .railAboveWarning h rail => Sys2Proof.Machine.execRailAboveWarning h rail s
  | .qspiSelfReadTimeout => Sys2Proof.Machine.execQspiSelfReadTimeout s
  | .skewCalibration link => Sys2Proof.Machine.execSkewCalibration link s
  | .unitRowProcessed h => Sys2Proof.Machine.execUnitRowProcessed h s
  | .pairLinkReplayRequest h => Sys2Proof.Machine.execPairLinkReplayRequest h s
  | .prbsCheckDone link errors => Sys2Proof.Machine.execPrbsCheckDone link errors s
  | .lutLoadDone h => Sys2Proof.Machine.execLutLoadDone h s
  | .qryReadRecordCopied recv tag => Sys2Proof.Machine.execQryReadRecordCopied recv tag s
  | .qspiProgramDone ok => Sys2Proof.Machine.execQspiProgramDone ok s
  | .imageCheckDone img => Sys2Proof.Machine.execImageCheckDone img s
  | .panelSequenceDelayExpiry output => Sys2Proof.Machine.execPanelSequenceDelayExpiry output s

end Sys2Proof.Machine
end

