-- ==== Sys2Proof/Safety.lean ====
section
/-! DEFINITION. What counts as a safe run of the block: every command that waits names objects that the device has, so that no
step stops; and what a claim means by a command that is accepted and answers. -/

namespace Sys2Proof.Safety

open Sys2Proof.Machine

/-- Every command that waits is well formed. -/
def QueueWf (s : State) : Prop := ∀ i ∈ s.pending, i.wf = true

/-- A step does not stop: it answers a next state. -/
def Goes (s : State) : Prop := ∃ t, step s = .next t

/-- Steps that one after the other answer next states. -/
def Runs : Nat → State → State → Prop
  | 0, s, t => t = s
  | k + 1, s, t => ∃ u, step s = .next u ∧ Runs k u t

/-- A submitted command passes checks 1 to 7 (R49), is placed in half `h` (R32), which it can reach and whose unit is not in an
automatic reset (R27, R545), and is not one that a mirror leaves to the active (R461). -/
def accepted (op : Op) (c : Cmd) (h : Half) (s : State) : Bool :=
  !s.sys.tripped && (firstErr (tagChecks s (submitted s c) ++ shapeChecks op (submitted s c))).isNone &&
    decide (placeOf op c s = some h) && !mirrorRefuses s op (submitted s c) &&
    (decide (h = c.recv) || (s.mortar.st != .down && (half s h).ident.cmdReady)) && !islandResets op c h s

/-- The state in which an accepted command's meaning starts: it has its number and is in flight, a mirror has heard of it, and
its unit is awake (R26, R46, R456). -/
def started (op : Op) (c : Cmd) (h : Half) (s : State) : State :=
  begun op (submitted s c) h (entered op (submitted s c) h (numberTaken s))

/-- The row `i` of opcode `op` completes: it answers a next state, in which `f` has changed what the command found as it
started, and its answer `r` has been posted from half `h` (R60). -/
def Answers (i : Instr) (op : Op) (c : Cmd) (h : Half) (s : State) (f : State → State) (r : Reply) : Prop :=
  exec i s = .next (withQueueOf s (finish (f (started op c h s)) (submitted s c) h r))

/-- A row that names objects of the device arrives at a device that has not tripped (R506). -/
def ready (i : Instr) (s : State) : Bool := i.wf && !s.sys.tripped

/-- The row `i` completes in `s`: it answers the next state `t`, with the commands that waited still waiting. -/
def Acts (i : Instr) (s t : State) : Prop := exec i s = .next (withQueueOf s t)

/-- The state after bytes have been written to host memory (R41). -/
def storeHost (a : Nat) (bs : List Byte) (s : State) : State :=
  { s with hostMem := s.hostMem.writeBytes hostDefault a bs }

/-- The buffer of a status command takes its record: a device that is not fenced writes `n` bytes there, and no access of that
range fails on PCIe (R41, R463). -/
def bufferOk (s : State) (a n : Nat) : Bool := !s.pair.fenced && hostOk s a n

/-- The row of the table that submits command `c` with this opcode. -/
def rowOf : Op → Cmd → Instr
  | .devNop, c => .devNop c
  | .devAbort, c => .devAbort c
  | .devSetEventMask, c => .devSetEventMask c
  | .devReadEventLog, c => .devReadEventLog c
  | .devFwStage, c => .devFwStage c
  | .devFwVerify, c => .devFwVerify c
  | .devFwActivate, c => .devFwActivate c
  | .devFwGetStatus, c => .devFwGetStatus c
  | .devReset, c => .devReset c
  | .devGetHealth, c => .devGetHealth c
  | .devSetThermal, c => .devSetThermal c
  | .linkSetQuadMode, c => .linkSetQuadMode c
  | .linkConfigure, c => .linkConfigure c
  | .linkEnable, c => .linkEnable c
  | .linkDisable, c => .linkDisable c
  | .linkRetrain, c => .linkRetrain c
  | .linkGetStatus, c => .linkGetStatus c
  | .linkClearCounters, c => .linkClearCounters c
  | .linkSetPolicy, c => .linkSetPolicy c
  | .linkRemapLane, c => .linkRemapLane c
  | .linkSetEq, c => .linkSetEq c
  | .linkPrbsCheck, c => .linkPrbsCheck c
  | .qryMapStream, c => .qryMapStream c
  | .qryConfigureStream, c => .qryConfigureStream c
  | .qryConfigureRing, c => .qryConfigureRing c
  | .qryStartStream, c => .qryStartStream c
  | .qryStopStream, c => .qryStopStream c
  | .qrySetTriggerRule, c => .qrySetTriggerRule c
  | .qryArm, c => .qryArm c
  | .qryTrigger, c => .qryTrigger c
  | .qryRead, c => .qryRead c
  | .qryGetSegments, c => .qryGetSegments c
  | .qryRelease, c => .qryRelease c
  | .qrySetHostMark, c => .qrySetHostMark c
  | .qryGetStatus, c => .qryGetStatus c
  | .qrySetReporting, c => .qrySetReporting c
  | .qryLocate, c => .qryLocate c
  | .ashEncode, c => .ashEncode c
  | .ashDecode, c => .ashDecode c
  | .ashContinue, c => .ashContinue c
  | .ashDropJob, c => .ashDropJob c
  | .ashGetStatus, c => .ashGetStatus c
  | .pipeOpenContext, c => .pipeOpenContext c
  | .pipeSetSource, c => .pipeSetSource c
  | .pipeStartContext, c => .pipeStartContext c
  | .pipeStopContext, c => .pipeStopContext c
  | .pipeCloseContext, c => .pipeCloseContext c
  | .pipeSetSlotMask, c => .pipeSetSlotMask c
  | .pipeSetPriority, c => .pipeSetPriority c
  | .pipeSetSlotTime, c => .pipeSetSlotTime c
  | .pipeGetContextStatus, c => .pipeGetContextStatus c
  | .pipeSetStreamCorr, c => .pipeSetStreamCorr c
  | .pipeSetContextCorr, c => .pipeSetContextCorr c
  | .pipeSetColour, c => .pipeSetColour c
  | .pipeLoadLut, c => .pipeLoadLut c
  | .pipeSetTap, c => .pipeSetTap c
  | .pipeSetTapRing, c => .pipeSetTapRing c
  | .pipeTapBuffer, c => .pipeTapBuffer c
  | .pipeGetTapStatus, c => .pipeGetTapStatus c
  | .statConfigure, c => .statConfigure c
  | .statSetContentTrigger, c => .statSetContentTrigger c
  | .statRead, c => .statRead c
  | .trimSetPolicy, c => .trimSetPolicy c
  | .trimMeasure, c => .trimMeasure c
  | .trimCommit, c => .trimCommit c
  | .trimLoad, c => .trimLoad c
  | .trimRead, c => .trimRead c
  | .vcuOpenSession, c => .vcuOpenSession c
  | .vcuSetOutput, c => .vcuSetOutput c
  | .vcuSetRate, c => .vcuSetRate c
  | .vcuStart, c => .vcuStart c
  | .vcuStop, c => .vcuStop c
  | .vcuRequestIrap, c => .vcuRequestIrap c
  | .vcuCloseSession, c => .vcuCloseSession c
  | .vcuSubmitPicture, c => .vcuSubmitPicture c
  | .vcuDecodeData, c => .vcuDecodeData c
  | .vcuFlush, c => .vcuFlush c
  | .vcuConsumed, c => .vcuConsumed c
  | .vcuPictureBuffer, c => .vcuPictureBuffer c
  | .vcuGetPool, c => .vcuGetPool c
  | .vcuGetStatus, c => .vcuGetStatus c
  | .memGetStatus, c => .memGetStatus c
  | .memSetRegion, c => .memSetRegion c
  | .memSetPolicy, c => .memSetPolicy c
  | .memTrain, c => .memTrain c
  | .memSetFreq, c => .memSetFreq c
  | .memReadTiming, c => .memReadTiming c
  | .memRepair, c => .memRepair c
  | .memSaveTraining, c => .memSaveTraining c
  | .memInjectError, c => .memInjectError c
  | .vfSetSource, c => .vfSetSource c
  | .vfConfigureOutput, c => .vfConfigureOutput c
  | .vfPanelSequence, c => .vfPanelSequence c
  | .vfSetCheck, c => .vfSetCheck c
  | .vfResume, c => .vfResume c
  | .vfGetStatus, c => .vfGetStatus c
  | .audConfigure, c => .audConfigure c
  | .audStart, c => .audStart c
  | .audStop, c => .audStop c
  | .audAdvance, c => .audAdvance c
  | .audSetLatch, c => .audSetLatch c
  | .audGetStatus, c => .audGetStatus c
  | .pairConfigure, c => .pairConfigure c
  | .pairGetStatus, c => .pairGetStatus c
  | .pairSwitchover, c => .pairSwitchover c
  | .pairTakeover, c => .pairTakeover c
  | .pwrSetWakeBudget, c => .pwrSetWakeBudget c
  | .pwrGetState, c => .pwrGetState c
  | .hostGetLinkStatus, c => .hostGetLinkStatus c

/-- What a half keeps of its state but for its rings and logs, its endpoint, FAULT, its wake counts and its islands. -/
def halfFrame (x : HalfState) : HalfState :=
  { x with
    cmd := {}
    ep := {}
    ident := { x.ident with fault := false }
    power := { x.power with wakes := 0 }
    islands := Vector.replicate 21 {} }

/-- The state but for what the command path works on: the rings, logs and endpoint of each half, the Mortar link's traffic, the
commands in flight, the management port, host memory, and the records and reports that a pair keeps back. Two states with the
same frame agree in every unit of the device: links, streams, Quarry, Ashlar, pipeline, statistics, trim, VCU, DRAM, viewfinder,
audio, flash. -/
def unitFrame (s : State) : State :=
  { s with
    a := halfFrame s.a
    b := halfFrame s.b
    mortar := {}
    flights := []
    nextSerial := 0
    mgmt := {}
    hostMem := {}
    hostBad := []
    pair := { s.pair with out := [], held := [], lost := 0, replayed := 0 }
    sys := { s.sys with swap := none } }

/-- Commands in flight other than the submission of this number, but for what CHAIN successors note of a completion (R53). -/
def othersInFlight (n : Nat) (s : State) : List Flight :=
  (s.flights.filter fun f => decide (f.cmd.serial ≠ n)).map fun f => { f with predOutcome := none }

/-- The device has tripped, no power-on waits, and it is as `s0` is but for the queue (R506). -/
def TrippedAs (s0 s : State) : Prop :=
  s.sys.tripped = true ∧ (∀ x y, Instr.powerOn x y ∉ s.pending) ∧ s = { s0 with pending := s.pending }

/-- The event log of a half holds at most 1,024 records, and their SEQ run on to the newest (R63, R66). -/
def LogWf (x : HalfCmd) : Prop :=
  x.log.length ≤ 1024 ∧
    ∀ i e, x.log[i]? = some e → e.seq = x.nextSeq - BitVec.ofNat 32 (x.log.length - i)

/-- The memories are in their canonical form. -/
def MemoriesCanonical (s : State) : Prop :=
  s.hostMem.wf hostDefault = true ∧ s.sys.flash.wf flashDefault = true ∧ ∀ h, (half s h).mem.mem.wf dramDefault = true

end Sys2Proof.Safety
end

