-- ==== Sys2Proof/Certificates/Slice0/Obligations.lean ====
section
/-! DEFINITION. The statements about the model, for the provers. -/

open Sys2Proof Sys2Proof.Machine Sys2Proof.Safety

/-! Every row of the table completes: it answers the next state that its rules give. The rows of the opcodes are stated by what
the meaning changes in the state in which the command has started, and by its answer. -/

/-- The DEV_ opcodes complete (R58, R65, R66, R72, R472, R473, R480, R507, R508). Whether the running image can hand its state
to the staged one, and the contents of the firmware record, are free values (log entries 3 and 70). -/
def Obligations.DevCommandsComplete : Prop :=
  (∀ (c : Cmd) (h : Half) (s : State), accepted .devNop c h s = true → Answers (.devNop c) .devNop c h s id ok) ∧
  -- DEV_ABORT of a command that is not in flight has outcome 4; else it reports what `abortFlight` says of that command
  (∀ (c : Cmd) (h k : Half) (s : State), accepted .devAbort c h s = true → dw c 2 &&& 0xFFFC0000 = 0 →
    halfOfCode (pf c 2 17 16) = some k →
    (liveFlight (started .devAbort c h s) k (BitVec.ofNat 16 (pf c 2 15 0)) = none →
      Answers (.devAbort c) .devAbort c h s id (.done stWrongState 0 0xFFFF 4 0 0)) ∧
    (∀ (f : Flight) (o : Nat) (t : State), liveFlight (started .devAbort c h s) k (BitVec.ofNat 16 (pf c 2 15 0)) = some f →
      (holderOf f = h ∨ s.mortar.st ≠ .down) → abortFlight (started .devAbort c h s) f = (o, t) →
      Answers (.devAbort c) .devAbort c h s (fun _ => t)
        (if o ≤ 2 then okWith (BitVec.ofNat 32 o) 0 0 else .done stWrongState 0 0xFFFF (BitVec.ofNat 32 o) 0 0))) ∧
  (∀ (c : Cmd) (h : Half) (s : State), accepted .devSetEventMask c h s = true → dw c 2 &&& 0xFFFFE000 = 0 →
    dw c 3 &&& 0xFFFFFFFC = 0 →
    Answers (.devSetEventMask c) .devSetEventMask c h s
      (fun u => modCmd u h fun x => { x with
        classEnable := BitVec.ofNat 13 (pf c 2 12 0), minSeverity := BitVec.ofNat 2 (pf c 3 1 0) }) ok) ∧
  (∀ (c : Cmd) (h : Half) (s : State) (es : List EventRec) (bs : List Byte), accepted .devReadEventLog c h s = true →
    dw c 5 &&& 0xFFFFF800 = 0 → pq c 2 % 32 = 0 → 0 < pf c 5 10 0 → pf c 5 10 0 ≤ 1024 →
    es = logFrom (half s h).cmd (dw c 4) (pf c 5 10 0) → bs = (es.map fun e => eventBytes e false).flatten →
    bufferOk s (pq c 2) bs.length = true →
    Answers (.devReadEventLog c) .devReadEventLog c h s (fun u => if es.isEmpty then u else storeHost (pq c 2) bs u)
      (okWith (BitVec.ofNat 32 es.length) (oldestSeq (half s h).cmd) ((half s h).cmd.nextSeq - 1))) ∧
  (∀ (c : Cmd) (h : Half) (s : State) (bs : List Byte), accepted .devFwStage c h s = true → dw c 2 &&& 0xFFFFFFFE = 0 →
    dw c 4 &&& 0xFE000000 = 0 → ((half s h).sys.bootRom = true → pb c 2 0 = true) → (dw c 3).toNat % 4096 = 0 →
    0 < pf c 4 24 0 → pf c 4 24 0 + (dw c 3).toNat ≤ 2 ^ 24 →
    (if pb c 2 0 then pf c 4 24 0 ≤ 4096 ∧ pq c 5 = 0 else pq c 5 % 4 = 0) → stageBytes s c = some bs →
    Answers (.devFwStage c) .devFwStage c h s
      (fun u => queueJob (markBank u (idleBank s h) 0)
        { cmd := submitted s c, op := .devFwStage, half := h,
          pieces := flashPieces 4096 (bankBase (idleBank s h) + (dw c 3).toNat) bs }) .running) ∧
  (∀ (c : Cmd) (h : Half) (s : State), accepted .devFwVerify c h s = true →
    Answers (.devFwVerify c) .devFwVerify c h s
      (fun u => modDev u fun d => { d with verifyCmd := d.verifyCmd ++ [(submitted s c, h)] }) .running) ∧
  (∀ (c : Cmd) (h : Half) (s : State), accepted .devFwActivate c h s = true → dw c 2 &&& 0xFFFFFFFC = 0 →
    (tget s.sys.banks (b2n (idleBank s h))).mark = 1 →
    (pb c 2 0 = true → pq c 3 = 0 → pq c 5 = 0 →
      Answers (.devFwActivate c) .devFwActivate c h s
        (fun u => queueJob u (selectorJob s (submitted s c) h 0)) .running) ∧
    (pb c 2 0 = false → firstErr (dramChecks s .A ++ dramChecks s .B) = none → mortarUp s = true → s.sys.swap = none →
      stageOk s .A (pq c 3) = true → stageOk s .B (pq c 5) = true → (half s h).sys.bootRom = false →
      Answers (.devFwActivate c) .devFwActivate c h s
        (fun u => if Config.freeBool s.sys.fresh then u else
          modDev u fun d => { d with
            fresh := d.fresh + 1
            swap := some { cmd := submitted s c, half := h, persist := pb c 2 1, stageA := pq c 3, stageB := pq c 5,
                           step := 1 } })
        (if Config.freeBool s.sys.fresh then wrongState 0xAA else .running))) ∧
  (∀ (c : Cmd) (h : Half) (s : State), accepted .devFwGetStatus c h s = true → dw c 2 = 0 → pq c 3 % 32 = 0 →
    bufferOk s (pq c 3) 64 = true →
    Answers (.devFwGetStatus c) .devFwGetStatus c h s
      (fun u => storeHost (pq c 3) ((List.range 64).map (Config.freeByte s.sys.fresh))
        (modDev u fun d => { d with fresh := d.fresh + 1 })) ok) ∧
  (∀ (c : Cmd) (h : Half) (s : State), accepted .devReset c h s = true → dw c 2 &&& 0xFFFFFFFC = 0 → pf c 2 1 0 ≠ 3 →
    Answers (.devReset c) .devReset c h s
      (fun u => modDev u fun d => { d with devReset := d.devReset ++ [BitVec.ofNat 2 (pf c 2 1 0)] }) ok) ∧
  (∀ (c : Cmd) (h k : Half) (s : State) (bs : List Byte), accepted .devGetHealth c h s = true →
    dw c 2 &&& 0xFFFFFFFC = 0 → halfOfCode (pf c 2 1 0) = some k → pq c 3 % 32 = 0 → (k = h ∨ mortarUp s = true) →
    bs = dwordBytes (healthRecord s k) → bufferOk s (pq c 3) bs.length = true →
    Answers (.devGetHealth c) .devGetHealth c h s (storeHost (pq c 3) bs) ok) ∧
  (∀ (c : Cmd) (h : Half) (s : State) (t d : Nat), accepted .devSetThermal c h s = true → dw c 2 &&& 0xFFC08080 = 0 →
    t = (if pf c 2 6 0 = 0 then 100 else pf c 2 6 0) → d = (if pf c 2 14 8 = 0 then 112 else pf c 2 14 8) →
    85 ≤ t → t ≤ 100 → t + 4 ≤ d → d ≤ 112 → pf c 2 21 20 ≠ 0 → mortarUp s = true →
    Answers (.devSetThermal c) .devSetThermal c h s
      (fun u =>
        let set := fun (k : Half) (u : State) => if (dw c 2).getLsbD (20 + halfIdx k) then
          modSys u k fun x => { x with throttleAt := t, shedAt := d, shedMask := BitVec.ofNat 4 (pf c 2 19 16) } else u
        set .B (set .A u)) ok)

/-- The LINK_ opcodes complete (R75, R87, R98, R99, R103, R107, R110, R112 to R117). -/
def Obligations.LinkCommandsComplete : Prop :=
  (∀ (c : Cmd) (h : Half) (s : State), accepted .linkSetQuadMode c h s = true → dw c 2 &&& 0xFFFFFCE0 = 0 → pf c 2 4 0 < 24 →
    (∀ l ∈ s.links.toList, l.st = .disabled ∨ ∀ d ∈ cfgLanes l.cfg, d / 4 ≠ pf c 2 4 0) →
    Answers (.linkSetQuadMode c) .linkSetQuadMode c h s
      (fun u => { u with quads := tset u.quads (pf c 2 4 0) (BitVec.ofNat 2 (pf c 2 9 8)) }) ok) ∧
  (∀ (c : Cmd) (h : Half) (s : State) (n mode : Nat), accepted .linkConfigure c h s = true → dw c 2 &&& 0x80E080E0 = 0 →
    dw c 3 &&& 0xF804E000 = 0 → dw c 4 &&& 0xE000FFF0 = 0 → n = pf c 2 4 0 →
    mode = (tget s.quads ((linkCfgOf c).firstLane.toNat / 4)).toNat → lanesOk s n (linkCfgOf c) = true →
    (mode ≠ 3 → (linkCfgOf c).minSpeed.toNat ≤ (linkCfgOf c).maxSpeed.toNat ∧
      (linkCfgOf c).maxSpeed.toNat ∈ speedsOf mode ∧ (linkCfgOf c).minSpeed.toNat ∈ speedsOf mode) →
    (if mode = 3 then 80 ≤ (linkCfgOf c).csi2Rate.toNat ∧ (linkCfgOf c).csi2Rate.toNat ≤ 4500
      else (linkCfgOf c).csi2Rate = 0) →
    (linkAt s n).st = .disabled →
    Answers (.linkConfigure c) .linkConfigure c h s (fun u => modLink u n fun l => { l with cfg := linkCfgOf c }) ok) ∧
  (∀ (c : Cmd) (h : Half) (s : State) (n : Nat), accepted .linkEnable c h s = true → dw c 2 &&& 0xFFFFFFE0 = 0 →
    n = pf c 2 4 0 → (linkAt s n).st = .disabled → (linkAt s n).cfg.configured = true →
    Answers (.linkEnable c) .linkEnable c h s
      (fun u => startDetect ((cfgLanes (linkAt s n).cfg).foldl
        (fun u d => modIsland u (halfOf n 16) (.ingest (d / 4 % 12)) fun x => { x with pstate := .on })
        (modLink u n fun l => { l with
          enableCmd := some (submitted s c), lossCount := 0, rounds := 0 })) n) .running) ∧
  (∀ (c : Cmd) (h : Half) (s : State), accepted .linkDisable c h s = true → dw c 2 &&& 0xFFFFFFE0 = 0 →
    Answers (.linkDisable c) .linkDisable c h s (fun u => linkAfter u (disableLink u (pf c 2 4 0))) ok) ∧
  (∀ (c : Cmd) (h : Half) (s : State) (n : Nat), accepted .linkRetrain c h s = true → dw c 2 &&& 0xFFFFFCE0 = 0 →
    n = pf c 2 4 0 → isCsi s (linkAt s n) = false →
    (((linkAt s n).st = .down ∨ (linkAt s n).st = .silent ∨ pb c 2 8 = true ∧ (linkAt s n).st ≠ .disabled) →
      Answers (.linkRetrain c) .linkRetrain c h s
        (fun u => linkAfter u (startDetect
          (modLink (modLink u n fun l => { l with retrainCmds := l.retrainCmds ++ [submitted s c] }) n
            fun l => { l with lossCount := 0, rounds := 0 }) n)) .running) ∧
    ((linkAt s n).st = .active → pb c 2 8 = false →
      Answers (.linkRetrain c) .linkRetrain c h s
        (fun u =>
          let u1 := modLink u n fun l => { l with retrainCmds := l.retrainCmds ++ [submitted s c] }
          linkAfter u (if pb c 2 9 then scheduleRetrain u1 n (allLogical (linkAt s n))
            else startRetrainAtSpeed u1 n 4 (allLogical (linkAt s n)))) .running)) ∧
  (∀ (c : Cmd) (h : Half) (s : State) (bs : List Byte), accepted .linkGetStatus c h s = true → dw c 2 &&& 0xFFFFFFE0 = 0 →
    pq c 3 % 32 = 0 → bs = dwordBytes (linkRecords s (pf c 2 4 0)) → bufferOk s (pq c 3) bs.length = true →
    Answers (.linkGetStatus c) .linkGetStatus c h s (storeHost (pq c 3) bs) ok) ∧
  (∀ (c : Cmd) (h : Half) (s : State) (n : Nat), accepted .linkClearCounters c h s = true → dw c 2 &&& 0xFFFFFFE0 = 0 →
    n = pf c 2 4 0 →
    Answers (.linkClearCounters c) .linkClearCounters c h s
      (fun u => modLanes (modLink u n clearLink)
        (logicalLanes (linkAt s n) ++ cfgLanes (linkAt s n).cfg ++ devs (linkAt s n)) clearLane) ok) ∧
  (∀ (c : Cmd) (h : Half) (s : State) (n : Nat), accepted .linkSetPolicy c h s = true → dw c 2 &&& 0xFFFFFFE0 = 0 →
    dw c 3 &&& 0xFFFFFFE0 = 0 → n = pf c 2 4 0 →
    Answers (.linkSetPolicy c) .linkSetPolicy c h s
      (fun u => (devs (linkAt s n)).foldl (fun u d => checkFailing u n d false)
        (setIdleAllow (modLink u n fun l => { l with policy := {
          autoRetrain := pb c 3 0, autoSpare := pb c 3 1, allowHold := pb c 3 2, noIdle := pb c 3 3, trackOff := pb c 3 4 } })
          n)) ok) ∧
  (∀ (c : Cmd) (h : Half) (s : State) (n : Nat), accepted .linkRemapLane c h s = true → dw c 2 &&& 0xFFFFE0E0 = 0 →
    n = pf c 2 4 0 → ((linkAt s n).st = .active → pf c 2 12 8 < (linkAt s n).lanes.length) → canRemap s n = true →
    Answers (.linkRemapLane c) .linkRemapLane c h s
      (fun u => stage (armRemap u n (pf c 2 12 8) (some (submitted s c))) (submitted s c) .linkRemapLane h (.remap n))
      (.deferred 1)) ∧
  (∀ (c : Cmd) (h : Half) (s : State), accepted .linkSetEq c h s = true → dw c 2 &&& 0xFFFFFF80 = 0 →
    dw c 3 &&& 0xFFFFFFE0 = 0 → pf c 2 6 0 < 96 →
    Answers (.linkSetEq c) .linkSetEq c h s
      (fun u => modLane u (pf c 2 6 0) fun x => { x with eqNow := BitVec.ofNat 4 (pf c 3 3 0), eqForced := pb c 3 4 }) ok) ∧
  (∀ (c : Cmd) (h : Half) (s : State) (n : Nat), accepted .linkPrbsCheck c h s = true → dw c 2 &&& 0xFFFFFFE0 = 0 →
    dw c 3 &&& 0xFFFF0000 = 0 → n = pf c 2 4 0 → 20 ≤ pf c 3 15 0 → pf c 3 15 0 ≤ 40 → isCsi s (linkAt s n) = false →
    (linkAt s n).prbsCheck = none → ((linkAt s n).st = .active ∨ (linkAt s n).st = .down) →
    Answers (.linkPrbsCheck c) .linkPrbsCheck c h s
      (fun u => modLink u n fun l =>
        { sensorMode l 2 l.sensor.hold with prbsCheck := some (submitted s c, pf c 3 15 0) }) .running)

/-- The QRY_ opcodes complete (R125, R132, R134, R142, R144 to R146, R148 to R150, R152, R153, R155, R157 to R161). -/
def Obligations.QuarryCommandsComplete : Prop :=
  (∀ (c : Cmd) (h : Half) (s : State) (n link : Nat) (b : Binding), accepted .qryMapStream c h s = true →
    dw c 2 &&& 0x80F0E0C0 = 0 → n = pf c 2 5 0 → link = pf c 2 12 8 →
    b = { link, streamId := BitVec.ofNat 4 (pf c 2 19 16), csiDt := BitVec.ofNat 6 (pf c 2 29 24) } →
    pb c 2 30 = false → (isCsi s (linkAt s link) = false → b.csiDt = 0) → (streamAt s n).bind = none →
    boundStream s link b.streamId = none → streamBusy (streamAt s n) = false →
    Answers (.qryMapStream c) .qryMapStream c h s (fun u => modStream u n fun x => { x with bind := some b }) ok) ∧
  -- UNMAP names the pair that the stream is bound to; an open frame of a HALTED stream has been closed by then
  (∀ (c : Cmd) (h : Half) (s : State) (n : Nat) (b : Binding), accepted .qryMapStream c h s = true →
    dw c 2 &&& 0x80F0E0C0 = 0 → n = pf c 2 5 0 → pb c 2 30 = true → (streamAt s n).bind = some b → b.link = pf c 2 12 8 →
    b.streamId = BitVec.ofNat 4 (pf c 2 19 16) → streamBusy (streamAt s n) = false →
    Answers (.qryMapStream c) .qryMapStream c h s
      (fun u =>
        let u1 := if (streamAt s n).openFrame = none then u else closeFrame (fresh u).2 n 0x10 (Config.freeNat (fresh u).1)
        abortTrim (modStream u1 n fun x => { x with bind := none }) n) ok) ∧
  (∀ (c : Cmd) (h : Half) (s : State) (n : Nat) (g : StreamCfg), accepted .qryConfigureStream c h s = true →
    dw c 2 &&& 0xFF0000C0 = 0 → dw c 3 &&& 0xFFFC0000 = 0 → dw c 4 &&& 0xFFF80000 = 0 → n = pf c 2 5 0 → g = cfgOf c →
    0 < g.width → g.width ≤ 32768 → 0 < g.height → g.height ≤ 32768 → g.pad.toNat < 2 ^ depthBits g.depth →
    g.ashMode.toNat ≤ 5 → 1024 ≤ g.watchdog.toNat → streamBusy (streamAt s n) = false →
    (∀ r, (streamAt s n).ring = some r → entriesOf g ≤ r.stride ∧ holdsTwo r g = true) →
    Answers (.qryConfigureStream c) .qryConfigureStream c h s
      (fun u => modStream u n fun x => { x with
        cfg := some g, st := if x.ring.isSome then .idle else .unconfigured
        reporting := { x.reporting with periods := [], closedFrames := 0 } }) ok) ∧
  (∀ (c : Cmd) (h : Half) (s : State) (n : Nat) (g : StreamCfg) (r : Ring), accepted .qryConfigureRing c h s = true →
    dw c 2 &&& (if pb c 2 10 then 0xFF00F800 else 0xFFFFF800) = 0 → dw c 11 &&& 0xFF000000 = 0 →
    dw c 12 &&& 0xFFFFFFE0 = 0 → n = pf c 2 5 0 → (streamAt s n).cfg = some g → (streamAt s n).bind ≠ none →
    streamBusy (streamAt s n) = false → (∀ r0, (streamAt s n).ring = some r0 → frozenSegs r0 = []) →
    (pb c 2 8 = false → r = ringNamed s c h (entriesOf g) 0) →
    (pb c 2 8 = true → attachOk s c h n = true ∧ entriesOf g ≤ r.stride ∧
      r = ringNamed s c h ((dramDwords s h (pq c 3) 14).getD 9 0).toNat ((dramDwords s h (pq c 3) 14).getD 13 0)) →
    pf c 2 7 6 ≠ 3 → 2 ≤ pf c 11 23 0 → 4 ≤ r.slotsLog2 → r.slotsLog2 ≤ 24 →
    (pf c 2 7 6 = 1 → r.pre + r.post + 2 ≤ slotCount r) → (pf c 2 7 6 = 2 → 0 < r.post ∧ r.post + 1 ≤ slotCount r) →
    (readList s h (pq c 9) (pf c 11 23 0)).isSome = true → regionsOk s n r = true → (r.pin = true → pinOk s r = true) →
    holdsTwo r g = true → firstErr (dramChecks s h) = none →
    Answers (.qryConfigureRing c) .qryConfigureRing c h s
      (fun u =>
        let u1 := modStream u n fun x => { x with ring := some r, st := .idle, armed := false, oneshot := false, writing := [] }
        if pb c 2 8 then writeDesc (attachRing u1 n r) n
        else writeDesc (dramWrite u1 h (r.ctrlBase + 0x1000) (List.replicate (32 * 4096) 0)) n) ok) ∧
  (∀ (c : Cmd) (h : Half) (s : State) (n : Nat), accepted .qryStartStream c h s = true → dw c 2 &&& 0xFFFFFFC0 = 0 →
    n = pf c 2 5 0 → firstErr (dramChecks s h) = none → (streamAt s n).st = .idle → (streamAt s n).bind ≠ none →
    Answers (.qryStartStream c) .qryStartStream c h s
      (fun u => stage (modStream u n fun x => { x with st := .starting }) (submitted s c) .qryStartStream h (.streamStart n))
      (.deferred 1)) ∧
  (∀ (c : Cmd) (h : Half) (s : State) (n : Nat), accepted .qryStopStream c h s = true → dw c 2 &&& 0xFFFFFFC0 = 0 →
    n = pf c 2 5 0 →
    ((streamAt s n).st = .halted →
      Answers (.qryStopStream c) .qryStopStream c h s
        (fun u => stage (stopped u n) (submitted s c) .qryStopStream h (.now ((streamAt s n).lastStored.getD noPoint) n))
        (.deferred 1)) ∧
    ((streamAt s n).st = .capturing →
      Answers (.qryStopStream c) .qryStopStream c h s
        (fun u => stage (modStream u n fun x => { x with st := .stopping, stopAt := x.openFrame.map (·.number) })
          (submitted s c) .qryStopStream h (.streamEnd n)) (.deferred 1))) ∧
  (∀ (c : Cmd) (h : Half) (s : State) (m : BitVec 64), accepted .qrySetTriggerRule c h s = true →
    dw c 2 &&& 0xFFF0C0E0 = 0 → dw c 3 &&& 0xFE000000 = 0 → m = BitVec.ofNat 64 (pq c 4) →
    m.getLsbD (pf c 2 13 8) = true →
    Answers (.qrySetTriggerRule c) .qrySetTriggerRule c h s
      (fun u => modRule u (pf c 2 3 0) fun _ =>
        { defined := true, enable := pb c 2 4, lead := pf c 2 13 8, trigOut := BitVec.ofNat 4 (pf c 2 19 16)
          rise := BitVec.ofNat 4 (pf c 3 3 0), fall := BitVec.ofNat 4 (pf c 3 7 4), content := BitVec.ofNat 16 (pf c 3 23 8)
          command := pb c 3 24, streams := m, holdoff := (dw c 6).toNat }) ok) ∧
  (∀ (c : Cmd) (h : Half) (s : State) (n : Nat), accepted .qryArm c h s = true → dw c 2 &&& 0xFFFFFCC0 = 0 →
    n = pf c 2 5 0 → noRing s n = false →
    Answers (.qryArm c) .qryArm c h s
      (fun u => modStream u n fun x => { x with armed := pb c 2 8, oneshot := pb c 2 9 }) ok) ∧
  (∀ (c : Cmd) (h : Half) (s : State) (k : Nat), accepted .qryTrigger c h s = true → dw c 2 &&& 0xFFFFFFF0 = 0 →
    k = pf c 2 3 0 → anyArmed s (ruleAt s k) = true →
    Answers (.qryTrigger c) .qryTrigger c h s
      (fun u => if (ruleAt s k).enable && (ruleAt s k).command then ruleSource u k false else u) ok) ∧
  (∀ (c : Cmd) (h : Half) (s : State) (rd : QryRead), accepted .qryRead c h s = true → dw c 2 &&& 0xFFFFFFC0 = 0 →
    0 < (dw c 5).toNat → pq c 6 % 8 = 0 → firstErr (dramChecks s h) = none → noRing s (pf c 2 5 0) = false →
    rd = readNext s { cmd := submitted s c, half := h, next := BitVec.ofNat 64 (pq c 3), left := (dw c 5).toNat } →
    (readFits rd = true →
      Answers (.qryRead c) .qryRead c h s (fun u => { u with reads := u.reads ++ [rd] }) .running) ∧
    (readFits rd = false → Answers (.qryRead c) .qryRead c h s id (readReply rd stOutputExhausted 0))) ∧
  (∀ (c : Cmd) (h : Half) (s : State) (r : Ring) (bs : List Byte) (p : Bool), accepted .qryGetSegments c h s = true →
    dw c 2 &&& 0xFFFFFFC0 = 0 → dw c 3 &&& 0xFE000000 = 0 → 0 < pf c 3 24 12 → pf c 3 11 0 + pf c 3 24 12 ≤ 4096 →
    pq c 4 % 32 = 0 → firstErr (dramChecks s h) = none → (streamAt s (pf c 2 5 0)).ring = some r →
    dramRead s r.half (r.ctrlBase + 0x1000 + 32 * pf c 3 11 0) (32 * pf c 3 24 12) = (bs, p) →
    bufferOk s (pq c 4) bs.length = true →
    Answers (.qryGetSegments c) .qryGetSegments c h s (storeHost (pq c 4) bs) (if p then err stDataCorrupt 0x71 else ok)) ∧
  (∀ (c : Cmd) (h : Half) (s : State) (gs : List Segment), accepted .qryRelease c h s = true →
    dw c 2 &&& 0xFFFFFFC0 = 0 → firstErr (dramChecks s h) = none →
    (noRing s (pf c 2 5 0) = true → dw c 3 = 0xFFFFFFFF) →
    gs = (frozenSegs (ringOf s (pf c 2 5 0))).filter (fun g => decide (dw c 3 = 0xFFFFFFFF) || decide (g.number = dw c 3)) →
    (gs = [] → dw c 3 = 0xFFFFFFFF) →
    Answers (.qryRelease c) .qryRelease c h s (fun u => releaseAll u (pf c 2 5 0) gs) ok) ∧
  (∀ (c : Cmd) (h : Half) (s : State) (n : Nat), accepted .qrySetHostMark c h s = true → dw c 2 &&& 0xFFFFFCC0 = 0 →
    n = pf c 2 5 0 → firstErr (dramChecks s h) = none →
    -- MODE 0 marks one frame that is stored, being written, or still to come
    (pf c 2 9 8 = 0 → (markFrame s n (BitVec.ofNat 64 (pq c 5)) (BitVec.ofNat 64 (pq c 3))).1 = ok →
      Answers (.qrySetHostMark c) .qrySetHostMark c h s
        (fun u => (markFrame u n (BitVec.ofNat 64 (pq c 5)) (BitVec.ofNat 64 (pq c 3))).2) ok) ∧
    (pf c 2 9 8 = 1 →
      Answers (.qrySetHostMark c) .qrySetHostMark c h s
        (fun u => modStream u n fun x => { x with sticky := some (BitVec.ofNat 64 (pq c 3)) }) ok) ∧
    (pf c 2 9 8 = 2 →
      Answers (.qrySetHostMark c) .qrySetHostMark c h s (fun u => modStream u n fun x => { x with sticky := none }) ok)) ∧
  (∀ (c : Cmd) (h : Half) (s : State) (bs : List Byte), accepted .qryGetStatus c h s = true → dw c 2 &&& 0xFFFFFFC0 = 0 →
    pq c 3 % 32 = 0 → bs = dwordBytes (ringRecord s (pf c 2 5 0)) → bufferOk s (pq c 3) bs.length = true →
    Answers (.qryGetStatus c) .qryGetStatus c h s (storeHost (pq c 3) bs) ok) ∧
  (∀ (c : Cmd) (h : Half) (s : State) (n : Nat), accepted .qrySetReporting c h s = true → dw c 2 &&& 0xFFFE03C0 = 0 →
    n = pf c 2 5 0 → pf c 2 11 10 ≠ 3 → 10 ≤ pf c 2 16 12 → pf c 2 16 12 ≤ 24 →
    Answers (.qrySetReporting c) .qrySetReporting c h s
      (fun u => reportingMode (modStream u n fun x => { x with reporting := { x.reporting with
        report := BitVec.ofNat 2 (pf c 2 11 10), progressLog2 := pf c 2 16 12 } }) n) ok) ∧
  (∀ (c : Cmd) (h : Half) (s : State) (r : Ring) (f : Stored), accepted .qryLocate c h s = true →
    dw c 2 &&& 0xFFFFFFC0 = 0 → firstErr (dramChecks s h) = none → r = ringOf s (pf c 2 5 0) →
    storedFrame r (BitVec.ofNat 64 (pq c 3)) = some f →
    Answers (.qryLocate c) .qryLocate c h s id
      (okWith (lo32 (hdrAddr r f.slot)) (hi32 (hdrAddr r f.slot)) (BitVec.ofNat 32 f.slot)))

/-- The ASH_ opcodes complete (R186, R190, R194, R195, R197, R198, R200). -/
def Obligations.AshlarCommandsComplete : Prop :=
  (∀ (c : Cmd) (h : Half) (s : State) (k w hh row : Nat), accepted .ashEncode c h s = true → dw c 2 &&& 0xFFFFC0C0 = 0 →
    dw c 9 &&& 0xFF000000 = 0 → 1 ≤ pf c 2 12 10 → pf c 2 12 10 ≤ 5 → k = pf c 2 5 0 → w = pf c 3 15 0 → hh = pf c 3 31 16 →
    row = (if pb c 2 13 then 2 * w else rowBytes (depthBits (BitVec.ofNat 2 (pf c 2 9 8))) w) →
    0 < w → w ≤ 32768 → 0 < hh → hh ≤ 32768 → pq c 4 % 8 = 0 →
    backedRange (half s h).mem (pq c 4) ((hh - 1) * (dw c 6).toNat + row) = true → (dw c 6).toNat % 8 = 0 →
    row ≤ (dw c 6).toNat → 0 < pf c 9 23 0 → chainOk s h (pq c 7) (pf c 9 23 0) = true → pq c 10 % 8 = 0 →
    backedRange (half s h).mem (pq c 10) (8 * blockCount w hh) = true → firstErr (dramChecks s h) = none →
    tget (half s h).ash.jobs k = none →
    Answers (.ashEncode c) .ashEncode c h s
      (fun u => modAsh u h fun a => { a with
        jobs := tset a.jobs k (some
          { cmd := some (submitted s c), storeRaw := c.storeRaw, depth := BitVec.ofNat 2 (pf c 2 9 8)
            mode := BitVec.ofNat 3 (pf c 2 12 10), srcFmt := pb c 2 13, width := w, height := hh, src := pq c 4
            pitch := (dw c 6).toNat, chain := (readList s h (pq c 7) (pf c 9 23 0)).getD [], index := pq c 10
            order := (half s h).ash.nextOrder })
        nextOrder := a.nextOrder + 1 }) .running) ∧
  (∀ (c : Cmd) (h : Half) (s : State), accepted .ashDecode c h s = true → dw c 2 &&& 0x0000FFFC = 0 →
    c.params.length = (if pb c 2 0 then 9 else 7) →
    firstErr (if pb c 2 0 then frameChecks c h s else listChecks c h s) = none →
    Answers (.ashDecode c) .ashDecode c h s
      (fun u => modAsh u h fun a => { a with
        decJobs := a.decJobs ++ [
          { cmd := submitted s c
            total := if pb c 2 0 then (pf c 6 15 8 + 1) * (pf c 7 11 0 + 1) else pf c 5 20 0
            order := a.nextOrder }]
        nextOrder := a.nextOrder + 1 }) .running) ∧
  (∀ (c : Cmd) (h : Half) (s : State) (k : Nat) (j : EncJob), accepted .ashContinue c h s = true →
    dw c 2 &&& 0xFFFFFFC0 = 0 → dw c 5 &&& 0xFF000000 = 0 → k = pf c 2 5 0 → 0 < pf c 5 23 0 →
    chainOk s h (pq c 3) (pf c 5 23 0) = true → firstErr (dramChecks s h) = none →
    tget (half s h).ash.jobs k = some j → j.cmd = none → c.storeRaw = j.storeRaw →
    Answers (.ashContinue c) .ashContinue c h s
      (fun u => modAsh u h fun a => { a with
        jobs := tset a.jobs k (some { j with
          cmd := some (submitted s c), chain := j.chain ++ (readList s h (pq c 3) (pf c 5 23 0)).getD []
          order := a.nextOrder })
        nextOrder := a.nextOrder + 1 }) .running) ∧
  (∀ (c : Cmd) (h : Half) (s : State), accepted .ashDropJob c h s = true → dw c 2 &&& 0xFFFFFFC0 = 0 →
    suspended (half s h).ash (pf c 2 5 0) = true →
    Answers (.ashDropJob c) .ashDropJob c h s
      (fun u => modAsh u h fun a => { a with jobs := tset a.jobs (pf c 2 5 0) none }) ok) ∧
  (∀ (c : Cmd) (h : Half) (s : State) (bs : List Byte), accepted .ashGetStatus c h s = true → dw c 2 &&& 0xFFFFFFFE = 0 →
    pq c 3 % 32 = 0 → bs = dwordBytes (ashRecord (half s h).ash s.sys.fresh) → bufferOk s (pq c 3) bs.length = true →
    Answers (.ashGetStatus c) .ashGetStatus c h s
      (fun u =>
        let u1 := modDev u fun d => { d with fresh := d.fresh + 1 }
        storeHost (pq c 3) bs (if pb c 2 0 then
          modAsh u1 h fun a => { a with queuePeak := BitVec.ofNat 16 (min a.waiting.length 0xFFFF) } else u1)) ok)

/-- The PIPE_ opcodes of contexts complete (R202 to R206, R212, R217, R218, R223, R241). -/
def Obligations.ContextCommandsComplete : Prop :=
  (∀ (c : Cmd) (h : Half) (s : State) (n : Nat) (x : Context), accepted .pipeOpenContext c h s = true →
    dw c 2 &&& 0x8000 = 0 → dw c 6 &&& 0x8080 = 0 → n = pf c 2 4 0 → x = ctxNamed c → x.cfa ≤ 4 →
    (if x.span then pf c 2 7 6 = 0 ∧ seamOk x = true else (pf c 2 7 6 = 1 ∨ pf c 2 7 6 = 2) ∧ x.seamX = 0) →
    2 ≤ x.width → x.width ≤ 32768 → x.width % 2 = 0 → 2 ≤ x.height → x.height ≤ 32768 → x.height % 2 = 0 →
    activeOk x = true → shareOk x .A = true → shareOk x .B = true → 0 < x.divisor → (ctxAt s n).st = .closed →
    (∀ k ∈ halvesOf x, (openIn s k).length < 16 ∧
      (ctxPart x k).share + ((openIn s k).map fun y => (ctxPart y k).share).sum ≤ 64) →
    Answers (.pipeOpenContext c) .pipeOpenContext c h s (fun u => modCtx u n fun _ => x) ok) ∧
  (∀ (c : Cmd) (h own : Half) (s : State) (n : Nat) (x : Context) (z : Source), accepted .pipeSetSource c h s = true →
    dw c 2 &&& 0xFFFF8000 = 0 → n = pf c 2 4 0 → x = ctxAt s n → streamHalf s (pf c 2 13 8) = some own →
    own ∈ halvesOf x → x.st = .open_ →
    z = { stream := pf c 2 13 8, x := pf c 3 15 0, y := pf c 3 31 16, fnOffset := signed 32 (dw c 4).toNat } →
    (pb c 2 14 = false → (streamAt s (pf c 2 13 8)).cfg ≠ none ∧ (streamAt s (pf c 2 13 8)).st ≠ .unconfigured ∧
      placedOk s x own (pf c 2 7 5) z = true ∧ (pf c 2 7 5 = 0 → own = refHalf s x → z.fnOffset = 0)) →
    Answers (.pipeSetSource c) .pipeSetSource c h s
      (fun u => modPart u n own fun p => { p with
        sources := tset p.sources (pf c 2 7 5) (if pb c 2 14 then none else some z) }) ok) ∧
  (∀ (c : Cmd) (h : Half) (s : State) (n : Nat) (x : Context) (f : Count64) (play : Bool),
    accepted .pipeStartContext c h s = true → dw c 2 &&& 0xFFFFFFE0 = 0 → n = pf c 2 4 0 → x = ctxAt s n →
    f = BitVec.ofNat 64 (pq c 3) → play = decide (f ≠ noPoint) → (play = true → x.quarry = true) → x.st = .open_ →
    sourcesOk s x = true → (x.quarry = false → ∀ k ∈ halvesOf x, frameNeed s x k ≤ (ctxPart x k).share * 2 ^ 20) →
    Answers (.pipeStartContext c) .pipeStartContext c h s
      (fun u =>
        let u1 := modCtx u n fun y => { y with
          st := .starting, from_ := if play then none else some (firstFrame s y), play := if play then some f else none
          playLeft := if play ∧ (dw c 5).toNat ≠ 0 then some (dw c 5).toNat else none, played := 0, skipped := 0
          ha := { y.ha with held := false }, hb := { y.hb with held := false } }
        stage (if play then (halvesOf x).foldl (fun u k =>
            reportSide (modPart u n k fun p => { p with frames := insertFrame { f, quarry := true } p.frames }) n k f) u1
          else u1) (submitted s c) .pipeStartContext h (.contextFrame (refHalf s x) n)) (.deferred 1)) ∧
  (∀ (c : Cmd) (h : Half) (s : State) (n : Nat) (x : Context), accepted .pipeStopContext c h s = true →
    dw c 2 &&& 0xFFFFFFE0 = 0 → n = pf c 2 4 0 → x = ctxAt s n → x.st = .running →
    Answers (.pipeStopContext c) .pipeStopContext c h s
      (fun u => if x.latched.isEmpty then
          stage (backToOpen u n) (submitted s c) .pipeStopContext h
            (.now (ctxPart x (refHalf s x)).counts.lastFrame (refStream s x))
        else stage (modCtx u n fun y => { y with st := .stopping }) (submitted s c) .pipeStopContext h
          (.contextFrame (refHalf s x) n)) (.deferred 1)) ∧
  (∀ (c : Cmd) (h : Half) (s : State) (n : Nat), accepted .pipeCloseContext c h s = true → dw c 2 &&& 0xFFFFFFE0 = 0 →
    n = pf c 2 4 0 → (ctxAt s n).st = .open_ →
    Answers (.pipeCloseContext c) .pipeCloseContext c h s (fun u => closeCtx u n) ok) ∧
  (∀ (c : Cmd) (h : Half) (s : State) (n : Nat), accepted .pipeSetSlotMask c h s = true → dw c 2 &&& 0xFFFFFFE0 = 0 →
    n = pf c 2 4 0 → (ctxAt s n).st ≠ .closed →
    Answers (.pipeSetSlotMask c) .pipeSetSlotMask c h s
      (fun u => (halvesOf (ctxAt s n)).foldl (fun u k => stage u (submitted s c) .pipeSetSlotMask h (.epoch k)) u)
      (.deferred 2)) ∧
  (∀ (c : Cmd) (h : Half) (s : State) (n : Nat), accepted .pipeSetPriority c h s = true → dw c 2 &&& 0xFFFFF8E0 = 0 →
    n = pf c 2 4 0 → (ctxAt s n).st ≠ .closed →
    Answers (.pipeSetPriority c) .pipeSetPriority c h s
      (fun u => (halvesOf (ctxAt s n)).foldl (fun u k => stage u (submitted s c) .pipeSetPriority h (.epoch k)) u)
      (.deferred 2)) ∧
  (∀ (c : Cmd) (h : Half) (s : State), accepted .pipeSetSlotTime c h s = true → dw c 2 &&& 0xFC = 0 →
    halfOfCode (pf c 2 1 0) = some h → 1200 ≤ pf c 2 31 8 →
    Answers (.pipeSetSlotTime c) .pipeSetSlotTime c h s
      (fun u => stage u (submitted s c) .pipeSetSlotTime h (.epoch h)) (.deferred 2)) ∧
  (∀ (c : Cmd) (h : Half) (s : State) (n : Nat) (bs : List Byte), accepted .pipeGetContextStatus c h s = true →
    dw c 2 &&& 0xFFFFFFE0 = 0 → n = pf c 2 4 0 → pq c 3 % 32 = 0 → (ctxAt s n).st ≠ .closed →
    bs = dwordBytes (ctxRecords s n (halvesOf (ctxAt s n))).1 → bufferOk s (pq c 3) bs.length = true →
    Answers (.pipeGetContextStatus c) .pipeGetContextStatus c h s
      (fun u => storeHost (pq c 3) bs (modDev u fun d => { d with fresh := d.fresh + (halvesOf (ctxAt s n)).length })) ok)

/-- The PIPE_ opcodes of corrections, colour, taps and tables complete (R226 to R242, R245 to R256, R258 to R283). -/
def Obligations.PictureCommandsComplete : Prop :=
  (∀ (c : Cmd) (h : Half) (s : State) (n : Nat) (g : StreamCfg) (lut xt : List Byte),
    accepted .pipeSetStreamCorr c h s = true → dw c 2 &&& 0xFFC0C0C0 = 0 → n = pf c 2 5 0 → (streamAt s n).bind ≠ none →
    (streamAt s n).cfg = some g →
    (pb c 2 8 = true → pq c 3 % 4096 = 0 ∧ ∀ v ∈ numsOf 4 4096 lut, v < 2 ^ 24) →
    readTable s (pb c 2 8) (pq c 3) 16384 = some lut →
    (pb c 2 9 = true → dw c 5 &&& 0xF8000000 = 0 ∧ dw c 6 &&& 0xFF000000 = 0 ∧ dw c 7 &&& 0xFF000000 = 0 ∧
      dw c 8 &&& 0xFF000000 = 0 ∧ dw c 9 &&& 0xFF000000 = 0 ∧ pf c 5 22 16 ≤ 64 ∧ pf c 5 26 23 ≤ 8) →
    (pb c 2 10 = true → pq c 12 % 8 = 0) → readTable s (pb c 2 10) (pq c 12) 200 = some xt →
    (pb c 2 11 = true → dw c 14 &&& 0xFF00FE00 = 0 ∧ pf c 14 8 0 ≤ 256) →
    (pb c 2 12 = true → dw c 18 &&& 0xFFFF0000 = 0 ∧ (dw c 17).toNat % 64 = 0 ∧
      misplaced (half s h).mem true (pq c 15) 64 ((g.height - 1) * (dw c 17).toNat + 2 * g.width) = false ∧
      misplaced (half s h).mem true (pq c 19) 64 (2 * g.width) = false ∧
      misplaced (half s h).mem true (pq c 21) 64 (2 * g.height) = false) →
    (pb c 2 13 = true → dw c 25 &&& 0xFF000000 = 0 ∧ dw c 26 &&& 0xFFFFFC00 = 0 ∧
      misplaced (half s h).mem false (pq c 23) 4096 (2 ^ 25) = false) →
    (pb c 2 12 = true ∨ pb c 2 13 = true → firstErr (dramChecks s h) = none) →
    Answers (.pipeSetStreamCorr c) .pipeSetStreamCorr c h s
      (fun u =>
        let u1 := if pb c 2 9 || pb c 2 12 then discardTrim u 1 n 0 else u
        stage (if pb c 2 13 then discardTrim u1 2 n 0 else u1) (submitted s c) .pipeSetStreamCorr h (.streamAdmit n)
          (lut ++ xt)) (.deferred 1)) ∧
  (∀ (c : Cmd) (h : Half) (s : State) (n : Nat) (sh : List Byte), accepted .pipeSetContextCorr c h s = true →
    dw c 2 &&& 0xFFF8F8E0 = 0 → n = pf c 2 4 0 → (ctxAt s n).st ≠ .closed → (pb c 2 8 = true → pq c 3 % 8 = 0) →
    readTable s (pb c 2 8) (pq c 3) 17160 = some sh →
    (pb c 2 10 = true → dw c 9 &&& 0xFFFE0000 = 0 ∧ 0 < pf c 9 7 0 ∧ pf c 9 16 8 ≤ 256) →
    Answers (.pipeSetContextCorr c) .pipeSetContextCorr c h s
      (fun u => stage u (submitted s c) .pipeSetContextCorr h (.contextFrame (refHalf s (ctxAt s n)) n) sh) (.deferred 1)) ∧
  (∀ (c : Cmd) (h : Half) (s : State) (n : Nat) (mt sh : List Byte), accepted .pipeSetColour c h s = true →
    dw c 2 &&& 0xFF8080E0 = 0 → dw c 3 &&& 0xFFFFFE00 = 0 → n = pf c 2 4 0 → (ctxAt s n).st ≠ .closed →
    (pb c 2 8 = true → pf c 2 13 12 ≤ 1 ∧ pf c 3 8 0 ≤ 256) → (pb c 2 11 = true → pf c 2 22 20 ≤ 4) →
    (pb c 2 9 = true → pq c 4 % 4 = 0 ∧ matrixOk (intsOf 4 9 mt) (intsOf 4 3 (mt.drop 36)) = true) →
    readTable s (pb c 2 9) (pq c 4) 48 = some mt →
    (pb c 2 10 = true → pq c 6 % 4 = 0 ∧ (∀ v ∈ numsOf 2 12288 sh, v ≤ 0x8000) ∧
      (pb c 2 14 = true → lutUsable s (ctxAt s n) (pf c 2 19 16) = true)) →
    readTable s (pb c 2 10) (pq c 6) 24576 = some sh →
    Answers (.pipeSetColour c) .pipeSetColour c h s
      (fun u => stage u (submitted s c) .pipeSetColour h (.contextFrame (refHalf s (ctxAt s n)) n) (mt ++ sh))
      (.deferred 1)) ∧
  (∀ (c : Cmd) (h : Half) (s : State) (len : Nat), accepted .pipeLoadLut c h s = true → dw c 2 &&& 0xFFFFFF80 = 0 →
    lutHalves c ≠ [] → (pb c 2 4 = true → pf c 2 3 0 % 4 = 0) → len = 8 * lutNodes (pb c 2 4) →
    (∀ k ∈ lutHalves c, misplaced (half s k).mem false (lutSrc c k) 4096 len = false ∧ firstErr (dramChecks s k) = none ∧
      (∀ v ∈ numsOf 8 (lutNodes (pb c 2 4)) (dramRead s k (lutSrc c k) len).1, v < 2 ^ 63) ∧
      ∀ id ∈ overwritten (half s k).pipe (pf c 2 3 0) (pb c 2 4), lutReferenced s k id = false) →
    Answers (.pipeLoadLut c) .pipeLoadLut c h s
      (fun u => (lutHalves c).foldl (fun u k => modPipe u k fun p => { p with
        loading := p.loading ++ [(pf c 2 3 0, pb c 2 4, lutSrc c k, (submitted s c).serial)] }) u) .running) ∧
  (∀ (c : Cmd) (h : Half) (s : State) (n t : Nat) (blk : List Byte) (k : TapCfg), accepted .pipeSetTap c h s = true →
    dw c 6 &&& 0xFFFF0000 = 0 → n = pf c 2 4 0 → t = pf c 2 8 5 → (ctxAt s n).st ≠ .closed → readCustom s c = some blk →
    k = tapCfgOf c blk → k.gamut ≠ 5 → k.gamut ≠ 6 → k.tf ≠ 7 → k.filter ≠ 3 → k.report ≠ 3 → k.reportLog2 ≤ 20 →
    1 ≤ k.cw → k.cw ≤ 32768 → 1 ≤ k.ch → k.ch ≤ 32768 → 2 ≤ k.ow → k.ow ≤ 32768 → 2 ≤ k.oh → k.oh ≤ 32768 →
    (k.tf = 3 → k.tfParam ≤ 10000) → (k.tf ≠ 3 → k.tf ≠ 4 → k.tfParam = 0) →
    (if k.gamut = 7 ∨ k.tf = 6 ∨ k.filter = 2 then pq c 7 % 64 = 0 else pq c 7 = 0) →
    t < tapCount (ctxAt s n) → roleOk (ctxAt s n) t k = true → cropOk (ctxAt s n) k = true → customOk k = true →
    (k.enable = true → ringsOk (ctxAt s n) (tget (ctxAt s n).taps t) k = true) →
    Answers (.pipeSetTap c) .pipeSetTap c h s
      (fun u => stage u (submitted s c) .pipeSetTap h (.contextFrame (refHalf s (ctxAt s n)) n) blk) (.deferred 1)) ∧
  (∀ (c : Cmd) (h hf : Half) (s : State) (n t : Nat) (r : TapRing), accepted .pipeSetTapRing c h s = true →
    dw c 2 &&& 0xFFFC0000 = 0 → n = pf c 2 4 0 → t = pf c 2 8 5 → halfOfCode (pf c 2 10 9) = some hf → r = tapRingNamed c →
    2 ≤ r.count → r.count ≤ 64 → (ctxAt s n).st ≠ .closed → t < tapCount (ctxAt s n) → hf ∈ halvesOf (ctxAt s n) →
    r.base % 4096 = 0 → r.recBase % 4096 = 0 → r.pitch0 % 64 = 0 → r.pitch1 % 64 = 0 → 0 < r.stride →
    (∀ z ∈ tapRegions r, backedRange (half s hf).mem z.1 z.2 = true) → disjoint (tapRegions r) = true →
    apart (tapRegions r) (otherRegions s hf 64 ++ tapRingsIn s hf n t ++ statRingsIn s hf 32) = true →
    firstErr (dramChecks s hf) = none → tapEnabled s n t = false → tapHeld (tget (ctxAt s n).taps t) = false →
    Answers (.pipeSetTapRing c) .pipeSetTapRing c h s
      (fun u => modTap u n t fun z => if hf = .A then { z with ringA := some r } else { z with ringB := some r }) ok) ∧
  -- OP 0 holds the newest complete buffer, OP 1 that of a frame, OP 2 releases a held one
  (∀ (c : Cmd) (h : Half) (s : State) (n t k : Nat) (tap : Tap) (b : TapBuf), accepted .pipeTapBuffer c h s = true →
    dw c 2 &&& 0xFFFE0000 = 0 → n = pf c 2 4 0 → t = pf c 2 8 5 → (ctxAt s n).st ≠ .closed → t < tapCount (ctxAt s n) →
    tap = tget (ctxAt s n).taps t → b = bufInfo (ctxAt s n) tap k →
    (pf c 2 10 9 = 0 ∧ newestBuf (ctxAt s n) tap = some k ∨
     pf c 2 10 9 = 1 ∧ c.params.length = 3 ∧ (List.range (ringCount tap (halvesOf (ctxAt s n)))).find?
       (fun j => bufReady (ctxAt s n) tap j && decide ((bufInfo (ctxAt s n) tap j).frame = BitVec.ofNat 64 (pq c 3))) = some k ∨
     pf c 2 10 9 = 2 ∧ k = pf c 2 16 11 ∧ b.hostHold = true) →
    Answers (.pipeTapBuffer c) .pipeTapBuffer c h s
      (fun u => modHolds u n t k fun b =>
        if pf c 2 10 9 = 2 then { b with hostHold := false, holdVia := 0 }
        else { b with hostHold := true, holdVia := b.holdVia ||| halfCode c.recv })
      (okWith (BitVec.ofNat 32 k) (lo32 b.frame.toNat) (hi32 b.frame.toNat))) ∧
  (∀ (c : Cmd) (h : Half) (s : State) (n t : Nat) (bs : List Byte), accepted .pipeGetTapStatus c h s = true →
    dw c 2 &&& 0xFFFFFE00 = 0 → pq c 3 % 32 = 0 → n = pf c 2 4 0 → t = pf c 2 8 5 → (ctxAt s n).st ≠ .closed →
    t < tapCount (ctxAt s n) → bs = dwordBytes ((halvesOf (ctxAt s n)).flatMap (tapRecord s n t)) →
    bufferOk s (pq c 3) bs.length = true →
    Answers (.pipeGetTapStatus c) .pipeGetTapStatus c h s (storeHost (pq c 3) bs) ok)

/-- The STAT_ and TRIM_ opcodes complete (R288, R290, R293 to R297, R300, R301, R305 to R310). Which domains and instance a
TRIM_ command names is read from its dword 2 (R297). -/
def Obligations.StatAndTrimCommandsComplete : Prop :=
  (∀ (c : Cmd) (h hf : Half) (s : State) (n : Nat), accepted .statConfigure c h s = true → dw c 2 &&& 0xFFFFC000 = 0 →
    dw c 6 &&& 0xFF000000 = 0 → dw c 7 &&& 0xFF000000 = 0 → n = pf c 2 4 0 → (ctxAt s n).st ≠ .closed →
    hf = refHalf s (ctxAt s n) → pf c 2 8 7 ≠ 3 → pf c 2 13 9 ≤ 20 → 2 ≤ pf c 3 15 0 → pf c 3 15 0 ≤ 4096 →
    clipCodeOk s (ctxAt s n) (pf c 3 31 16) = true → pq c 4 % 4096 = 0 →
    backedRange (half s hf).mem (pq c 4) (98304 * pf c 3 15 0) = true →
    apart [(pq c 4, 98304 * pf c 3 15 0)] (otherRegions s hf 64 ++ tapRingsIn s hf 32 0) = true →
    (pb c 2 5 = true → pb c 2 6 = true → hdrTaken s n = false) → firstErr (dramChecks s hf) = none →
    Answers (.statConfigure c) .statConfigure c h s
      (fun u => stage u (submitted s c) .statConfigure h (.contextFrame hf n)) (.deferred 1)) ∧
  (∀ (c : Cmd) (h : Half) (s : State) (n zx zy x0 x1 y0 y1 : Nat), accepted .statSetContentTrigger c h s = true →
    dw c 2 &&& 0xFFFFE080 = 0 → dw c 3 &&& 0xC0C0C0C0 = 0 → dw c 4 &&& 0xF0000000 = 0 → dw c 5 &&& 0xFFFFFF00 = 0 →
    n = pf c 2 12 8 → (zx, zy) = zoneGrid (geoOf (ctxAt s n)) → x0 = pf c 3 5 0 → x1 = pf c 3 13 8 → y0 = pf c 3 21 16 →
    y1 = pf c 3 29 24 → pf c 2 6 5 ≠ 3 → 0 < pf c 4 15 0 → pf c 4 15 0 ≤ 32767 → 0 < pf c 5 7 0 → x0 ≤ x1 → y0 ≤ y1 →
    x1 < zx → y1 < zy → 0 < pf c 4 27 16 → pf c 4 27 16 ≤ (x1 + 1 - x0) * (y1 + 1 - y0) →
    (ctxAt s n).stat.enable = true →
    Answers (.statSetContentTrigger c) .statSetContentTrigger c h s
      (fun u =>
        let t : ContentTrig :=
          { enable := pb c 2 4, ctx := n, polarity := pf c 2 6 5, x0, x1, y0, y1, thresh := pf c 4 15 0
            countMin := pf c 4 27 16, persist := pf c 5 7 0, armed := true, run := 0 }
        { u with contentTrigs := tset u.contentTrigs (pf c 2 3 0) t }) ok) ∧
  (∀ (c : Cmd) (h : Half) (s : State) (n q : Nat) (bs : List Byte) (p : Bool), accepted .statRead c h s = true →
    dw c 2 &&& 0xFFFFFFC0 = 0 → pq c 5 % 32 = 0 → n = pf c 2 4 0 → (ctxAt s n).st ≠ .closed →
    firstErr (dramChecks s (refHalf s (ctxAt s n))) = none →
    statFind s n (if pb c 2 5 then none else some (pq c 3)) = some q →
    dramRead s (refHalf s (ctxAt s n)) (statAddr (ctxAt s n).stat q) 98304 = (bs, p) →
    bufferOk s (pq c 5) bs.length = true →
    Answers (.statRead c) .statRead c h s (storeHost (pq c 5) bs) (if p then err stDataCorrupt 0x71 else ok)) ∧
  (∀ (c : Cmd) (h : Half) (s : State), accepted .trimSetPolicy c h s = true →
    dw c 2 &&& (if trimDom c ≤ 2 then 0xF000FFE0 else 0xE000FFE0) = 0 → (trimDom c ≤ 3 → dw c 6 = 0) →
    trimDomains c ≠ [] → trimInst c < trimCount (trimDom c) →
    Answers (.trimSetPolicy c) .trimSetPolicy c h s
      (fun u => (trimDomains c).foldl (fun u d => modTrim u d (trimInst c) fun t => { t with
        l0 := if dw c 3 = 0 then none else some (dw c 3), l1 := if dw c 4 = 0 then none else some (dw c 4)
        l2 := if dw c 5 = 0 then none else some (dw c 5), auto := pb c 2 28, period := dw c 6 }) u) ok) ∧
  (∀ (c : Cmd) (h : Half) (s : State) (i : Nat), accepted .trimMeasure c h s = true → dw c 2 &&& 0x8000FFE0 = 0 →
    trimDomains c ≠ [] → i = trimInst c → i < trimCount (trimDom c) → trimBusy s c = false →
    (∀ g : StreamCfg, trimDom c ≤ 2 → c.params.length = 13 → dw c 3 &&& 0xFFFFFE00 = 0 → dw c 13 &&& 0xFF000000 = 0 →
      dw c 14 &&& 0xFFFFFF00 = 0 → 0 < pf c 3 8 0 → pf c 3 8 0 ≤ 256 → (streamAt s i).cfg = some g →
      (streamAt s i).bind ≠ none → (dw c 8).toNat % 64 = 0 → 2 * g.width ≤ (dw c 8).toNat →
      firstErr (trimRegions c h s) = none → firstErr (dramChecks s h) = none →
      Answers (.trimMeasure c) .trimMeasure c h s
        (fun u => modTrimS ((trimDomains c).foldl (fun u d => beginRun u d i (some (submitted s c)) (pb c 2 28)) u)
          fun t => { t with
            accums := t.accums ++ [(i, {
              cmd := submitted s c, domains := BitVec.ofNat 2 (pf c 2 4 0), n := pf c 3 8 0
              start := (streamAt s i).frame.map fun k => k + 1 })]
            taken := t.taken.filter fun p => decide (p.1 ≠ i) }) .running) ∧
    (3 ≤ trimDom c → c.params.length = 1 →
      (trimDom c = 3 → isCsi s (linkAt s i) = false ∧ (linkAt s i).st = .active) →
      (trimDom c = 4 → usable (chanAt s (halfOf i 8) (i % 8)) = true) →
      Answers (.trimMeasure c) .trimMeasure c h s
        (fun u =>
          let u1 := beginRun u (trimDom c) i (some (submitted s c)) (pb c 2 28)
          if trimDom c = 3 then scheduleRetrain u1 i (allLogical (linkAt s i)) else u1) .running)) ∧
  (∀ (c : Cmd) (h : Half) (s : State) (ready : List Nat), accepted .trimCommit c h s = true → dw c 2 &&& 0xF000FFE0 = 0 →
    trimDomains c ≠ [] → trimInst c < trimCount (trimDom c) →
    ready = (trimDomains c).filter (fun d => decide ((trimAt s d (trimInst c)).st = .staged)) → ready ≠ [] →
    Answers (.trimCommit c) .trimCommit c h s
      (fun u => stage (ready.foldl (fun u d => modTrim u d (trimInst c) fun t => { t with st := .commitPending }) u)
        (submitted s c) .trimCommit (trimHalf s (trimDom c) (trimInst c)) (trimKey (trimDom c) (trimInst c))
        (ready.map (BitVec.ofNat 8))) (.deferred (trimBoundary (trimDom c)))) ∧
  -- TRIM_LOAD of the values kept from before
  (∀ (c : Cmd) (h : Half) (s t : State) (d i : Nat) (v : TrimVals) (r : Reply), accepted .trimLoad c h s = true →
    dw c 2 &&& 0xC000FFE0 = 0 → d = trimDom c → trimDomains c = [d] → i = trimInst c → i < trimCount d → d ≠ 3 → d ≠ 4 →
    pb c 2 28 = true → (trimAt s d i).committed = some v →
    (d ≤ 2 → (streamAt s i).bind ≠ none ∧ (streamAt s i).cfg ≠ none ∧ (trimAt s d i).geom = geomOf s i) →
    trimBusy s c = false → (d = 2 → firstErr (dramChecks s (trimHalf s 2 i)) = none) →
    loadVals (started .trimLoad c h s) (submitted s c) d i v [] = (r, t) →
    Answers (.trimLoad c) .trimLoad c h s (fun _ => t) r) ∧
  -- TRIM_LOAD of a record in host memory
  (∀ (c : Cmd) (h : Half) (s t : State) (d i cnt : Nat) (hd tail b : List Byte) (r : Reply), accepted .trimLoad c h s = true →
    dw c 2 &&& 0xC000FFE0 = 0 → d = trimDom c → trimDomains c = [d] → i = trimInst c → i < trimCount d → d ≠ 3 → d ≠ 4 →
    pb c 2 28 = false → pq c 3 % 32 = 0 → hostRead s (pq c 3) (64 + bodyBytes d) = some hd → b = hd.drop 64 →
    leNat ((hd.drop 28).take 4) = bodyBytes d → cnt = (if d = 2 then leNat ((b.drop 8).take 4) else 0) →
    hostRead s (pq c 3 + 80) (4 * min cnt 4194305) = some tail →
    arraysOk (half s (trimHalf s d i)).mem ((streamAt s i).cfg.getD {}) (valsOfBody d b) = true →
    (d ≤ 2 → (streamAt s i).bind ≠ none ∧ (streamAt s i).cfg ≠ none) → trimBusy s c = false →
    (d = 2 → firstErr (dramChecks s (trimHalf s 2 i)) = none) →
    loadVals (started .trimLoad c h s) (submitted s c) d i (valsOfBody d b) (numsOf 4 cnt tail) = (r, t) →
    Answers (.trimLoad c) .trimLoad c h s (fun _ => t) r) ∧
  (∀ (c : Cmd) (h : Half) (s : State) (d i : Nat) (v now : TrimVals) (bs body : List Byte), accepted .trimRead c h s = true →
    dw c 2 &&& 0xE000FFE0 = 0 → d = trimDom c → trimDomains c = [d] → i = trimInst c → i < trimCount d → pq c 3 % 32 = 0 →
    now = (if d = 4 then valsInForce s d i else (trimAt s d i).committed.getD (valsInForce s d i)) →
    (if pb c 2 28 then (trimAt s d i).staged = some v else v = now) → body = valsBytes (trimSet s d i) v →
    bs = trimHeader s d i body.length ++ body → bufferOk s (pq c 3) bs.length = true →
    Answers (.trimRead c) .trimRead c h s (storeHost (pq c 3) bs) ok)

/-- The VCU_ opcodes of sessions and encoding complete (R311 to R317, R326, R330, R331, R337, R340). -/
def Obligations.EncodeCommandsComplete : Prop :=
  (∀ (c : Cmd) (h : Half) (s : State) (n : Nat) (k : SessCfg), accepted .vcuOpenSession c h s = true →
    dw c 2 &&& 0xFF008000 = 0 → dw c 4 &&& 0xFE000000 = 0 → dw c 7 &&& 0xF8000000 = 0 → dw c 8 &&& 0xFFC000C0 = 0 →
    n = pf c 2 3 0 → k = sessCfgOf c → (k.decode = true → k.hostInput = false) → (k.half ≠ 3 → k.slices = false) →
    (k.avc = true → k.highTier = false) → (k.half ≠ 3 → k.splitPos = 0) → k.half ≠ 0 →
    (.A ∉ cfgHalves k → dw c 9 = 0 ∧ dw c 10 = 0 ∧ dw c 11 = 0) →
    (.B ∉ cfgHalves k → dw c 12 = 0 ∧ dw c 13 = 0 ∧ dw c 14 = 0) →
    (k.decode = false → k.hostInput = false → k.tap ≤ 11) → 0 < k.rateNum → 0 < k.rateDen →
    (if k.decode then 0 < k.dpb ∧ k.dpb ≤ 16 else 0 < k.gopLen ∧ 0 < k.numRef ∧ k.numRef ≤ 4) →
    (k.decode = false → k.qpMin ≤ k.qpMax ∧ k.qpMax ≤ 51 ∧
      (k.hostInput = true → pf c 8 16 14 ≠ 5 ∧ pf c 8 16 14 ≠ 6 ∧ pf c 8 19 17 ≠ 7)) →
    formatOk k = true → splitOk k = true → (sessAt s n).st = .closed →
    (∀ i ∈ cfgHalves k, refsOk s k i = true ∧ firstErr (dramChecks s i) = none ∧ carries (k :: sessionsOf s i) i = true) →
    Answers (.vcuOpenSession c) .vcuOpenSession c h s
      (fun u => modSess u n fun _ =>
        { st := .open_, cfg := k, bits := if k.profile = 0 then 8 else 10, vui := k.colour
          poolA := if k.compat && (cfgHalves k).contains .A then List.replicate (refOf k .A).2 {} else []
          poolB := if k.compat && (cfgHalves k).contains .B then List.replicate (refOf k .B).2 {} else []
          bufsA := if (cfgHalves k).contains .A then poolList s k .A else []
          bufsB := if (cfgHalves k).contains .B then poolList s k .B else [] }) ok) ∧
  (∀ (c : Cmd) (h hf : Half) (s : State) (n : Nat) (k : SessCfg) (o : SessOut), accepted .vcuSetOutput c h s = true →
    dw c 2 &&& 0xFFFFFF00 = 0 → dw c 6 &&& 0xFFFFFF80 = 0 → dw c 9 = 0 → n = pf c 2 3 0 → k = (sessAt s n).cfg →
    (sessAt s n).st = .open_ → (if k.decode ∧ k.half = 3 then halfOfCode (pf c 2 7 6) = some hf else hf = h) →
    o = sessOutOf c k.decode → (if k.decode then decOutOk s k hf o else encOutOk s hf o) = true →
    (o.inDram = true → firstErr (dramChecks s hf) = none) →
    Answers (.vcuSetOutput c) .vcuSetOutput c h s
      (fun u =>
        let u1 := modSess u n fun x => if hf = .A then { x with outA := some o } else { x with outB := some o }
        if k.decode then modSess u1 n fun x => { x with
            st := if (sessHalves x).all fun i => (sessOutIn x i).isSome then .running else x.st }
        else modSess u1 n fun x => { x with dataPos := 0, recPos := 0, dataHead := 0, recHead := 0, stalled := false })
      ok) ∧
  (∀ (c : Cmd) (h : Half) (s : State) (n : Nat) (r : RateCfg), accepted .vcuSetRate c h s = true →
    dw c 2 &&& 0xFFFFFF00 = 0 → n = pf c 2 3 0 → r = rateOf c → r.mode ≤ 3 → 0 < r.initFull → r.initFull ≤ 100 →
    r.qpI ≤ 51 → r.qpP ≤ 51 → r.qpB ≤ 51 → (sessAt s n).cfg.decode = false → rateOk (sessAt s n).cfg r = true →
    (sessAt s n).st ∈ ([.open_, .starting, .running, .stopping] : List SessState) →
    Answers (.vcuSetRate c) .vcuSetRate c h s (fun u => stage u (submitted s c) .vcuSetRate h (.vcu n)) (.deferred 1)) ∧
  (∀ (c : Cmd) (h : Half) (s : State) (n : Nat) (k : SessCfg) (t : TapCfg), accepted .vcuStart c h s = true →
    dw c 2 &&& 0xFFFFFFF0 = 0 → n = pf c 2 3 0 → k = (sessAt s n).cfg → k.decode = false → splitOk k = true →
    (k.hostInput = false → tapInvalid s (sessAt s n) = false) → (sessAt s n).st = .open_ →
    encOut s (sessAt s n) ≠ none → rateSoon s n ≠ none → t = (tget (ctxAt s k.ctx).taps k.tap).cfg →
    Answers (.vcuStart c) .vcuStart c h s
      (fun u => stage (modSess u n fun x => { x with
        st := .starting, lastIdr := none, lastTime := none, plan := [], times := [], bands := 0, skipping := false
        skippedBefore := 0, lastPic := none
        bits := if k.hostInput then x.bits else if t.format = 0x7 then 8 else 10
        vui := if k.hostInput then k.colour else tapVui t }) (submitted s c) .vcuStart h (.vcu n)) (.deferred 1)) ∧
  (∀ (c : Cmd) (h : Half) (s : State) (n : Nat) (x : Session), accepted .vcuStop c h s = true → dw c 2 &&& 0xFFFFFFF0 = 0 →
    n = pf c 2 3 0 → x = sessAt s n → x.cfg.decode = false → x.st = .running →
    Answers (.vcuStop c) .vcuStop c h s
      (fun u => if x.held.isEmpty && x.coding.isNone then
          stage (modSess (appendAu u n (eosBytes x.cfg.avc)).2 n fun x => { x with st := .open_ }) (submitted s c) .vcuStop h
            (.now (x.lastCoded.getD noPoint) (sessStream s x))
        else stage (modSess u n fun x => { x with st := .stopping }) (submitted s c) .vcuStop h (.vcuLast n))
      (.deferred 1)) ∧
  (∀ (c : Cmd) (h : Half) (s : State) (n : Nat), accepted .vcuRequestIrap c h s = true → dw c 2 &&& 0xFFFFFFF0 = 0 →
    n = pf c 2 3 0 → (sessAt s n).cfg.decode = false → ((sessAt s n).st = .starting ∨ (sessAt s n).st = .running) →
    Answers (.vcuRequestIrap c) .vcuRequestIrap c h s (fun u => stage u (submitted s c) .vcuRequestIrap h (.vcuIrap n))
      (.deferred 1)) ∧
  (∀ (c : Cmd) (h : Half) (s : State) (n : Nat), accepted .vcuCloseSession c h s = true → dw c 2 &&& 0xFFFFFFF0 = 0 →
    n = pf c 2 3 0 → ((sessAt s n).st = .open_ ∨
      (sessAt s n).cfg.decode = true ∧ (sessAt s n).st = .running ∧ (sessAt s n).chunks = []) →
    Answers (.vcuCloseSession c) .vcuCloseSession c h s (fun u => closeSess u n) ok) ∧
  (∀ (c : Cmd) (h : Half) (s : State) (n : Nat) (x : Session) (num : Count64), accepted .vcuSubmitPicture c h s = true →
    dw c 2 &&& 0xFFFFFFC0 = 0 → n = pf c 2 3 0 → x = sessAt s n → num = BitVec.ofNat 64 (pq c 12) → x.cfg.decode = false →
    x.cfg.hostInput = true → (x.cfg.half ≠ 3 → dw c 8 = 0 ∧ dw c 9 = 0 ∧ dw c 10 = 0 ∧ dw c 11 = 0) →
    (dw c 7).toNat % 64 = 0 → (partSize x.cfg h).1 * sampleBytes x.cfg ≤ (dw c 7).toNat →
    planesBad s x.cfg c (if x.cfg.half = 3 then .A else h) 3 = false →
    (x.cfg.half = 3 → planesBad s x.cfg c .B 8 = false) → (∀ p, x.lastPic = some p → p < num) →
    (x.st = .starting ∨ x.st = .running) → heldCount x < x.cfg.bFrames + 2 →
    Answers (.vcuSubmitPicture c) .vcuSubmitPicture c h s
      (fun u => modSess u n fun y => { y with
        lastPic := some num
        held := y.held ++ [{ f := num, cmd := some (submitted s c), forceIdr := pb c 2 4,
                             mark := if pb c 2 5 then some (BitVec.ofNat 64 (pq c 14)) else none }] }) .running) ∧
  (∀ (c : Cmd) (h : Half) (s : State) (n dh rh : Nat) (x : Session), accepted .vcuConsumed c h s = true →
    dw c 2 &&& 0xFFFFFFF0 = 0 → n = pf c 2 3 0 → x = sessAt s n → x.cfg.decode = false → x.st ≠ .closed → x.st ≠ .draining →
    dh = pq c 3 → rh % 2 ^ 32 = (dw c 5).toNat → x.recHead ≤ rh → rh ≤ x.recPos → x.recPos < x.recHead + 2 ^ 32 →
    x.dataHead ≤ dh → dh ≤ x.dataPos →
    Answers (.vcuConsumed c) .vcuConsumed c h s
      (fun u => modSess u n fun x => { x with dataHead := dh, recHead := rh, stalled := false }) ok)

/-- The VCU_ opcodes of decoding and status complete (R315, R344, R348 to R354). -/
def Obligations.DecodeCommandsComplete : Prop :=
  (∀ (c : Cmd) (h : Half) (s : State) (n : Nat), accepted .vcuDecodeData c h s = true → dw c 2 &&& 0xFFFFFF80 = 0 →
    dw c 5 &&& 0xFF000000 = 0 → n = pf c 2 3 0 → 0 < pf c 5 23 0 → (sessAt s n).cfg.decode = true →
    ((sessAt s n).st = .running ∨ (sessAt s n).st = .draining) →
    (if pb c 2 6 then backedRange (half s h).mem (pq c 3) (pf c 5 23 0) else hostOk s (pq c 3) (pf c 5 23 0)) = true →
    Answers (.vcuDecodeData c) .vcuDecodeData c h s
      (fun u => modSess u n fun x => { x with chunks := x.chunks ++ [
        { cmd := submitted s c, length := pf c 5 23 0, last := pb c 2 4,
          mark := if pb c 2 5 then some (BitVec.ofNat 64 (pq c 6)) else none }] }) .running) ∧
  (∀ (c : Cmd) (h : Half) (s : State) (n : Nat), accepted .vcuFlush c h s = true → dw c 2 &&& 0xFFFFFFF0 = 0 →
    n = pf c 2 3 0 → (sessAt s n).cfg.decode = true → (sessAt s n).st = .running →
    Answers (.vcuFlush c) .vcuFlush c h s
      (fun u => countWait (settleFlush (modSess u n fun x => { x with
        st := .draining, flush := some (submitted s c), flushChunks := x.chunks.length }) n) n) .running) ∧
  (∀ (c : Cmd) (h hf : Half) (s : State) (n k : Nat) (x : Session), accepted .vcuPictureBuffer c h s = true →
    dw c 2 &&& 0xFFFFF000 = 0 → n = pf c 2 3 0 → k = pf c 2 9 4 → x = sessAt s n → x.cfg.decode = true →
    (x.st = .open_ ∨ x.st = .running ∨ x.st = .draining) →
    (if x.cfg.compat ∧ x.cfg.half = 3 then halfOfCode (pf c 2 11 10) = some hf else hf = h) →
    (if x.cfg.compat then ((marksIn x hf).getD k {}).hostHeld else x.hostBufs.contains k) = true →
    Answers (.vcuPictureBuffer c) .vcuPictureBuffer c h s
      (fun u => if x.cfg.compat then modMarks u n hf fun ms => ms.modify k fun m => settleMark { m with hostHeld := false }
        else modSess u n fun x => { x with hostBufs := x.hostBufs.filter fun b => decide (b ≠ k), stalled := false }) ok) ∧
  (∀ (c : Cmd) (h hf : Half) (s : State) (n : Nat) (bs : List Byte), accepted .vcuGetPool c h s = true →
    dw c 2 &&& 0xFFFFFFC0 = 0 → n = pf c 2 3 0 → halfOfCode (pf c 2 5 4) = some hf → (sessAt s n).st ≠ .closed →
    sessIn (sessAt s n) hf = true → pq c 3 % 32 = 0 →
    bs = dwordBytes ((List.range 32).flatMap fun i => markWords ((marksIn (sessAt s n) hf).getD i {})) →
    bufferOk s (pq c 3) bs.length = true →
    Answers (.vcuGetPool c) .vcuGetPool c h s (storeHost (pq c 3) bs) ok) ∧
  (∀ (c : Cmd) (h : Half) (s : State) (n : Nat) (bs : List Byte), accepted .vcuGetStatus c h s = true →
    dw c 2 &&& 0xFFFFFFF0 = 0 → n = pf c 2 3 0 → (sessAt s n).st ≠ .closed → pq c 3 % 32 = 0 →
    bs = dwordBytes ((sessHalves (sessAt s n)).flatMap fun i => sessRecord s n i (s.sys.fresh + 2 * halfIdx i)) →
    bufferOk s (pq c 3) bs.length = true →
    Answers (.vcuGetStatus c) .vcuGetStatus c h s
      (fun u => storeHost (pq c 3) bs (modDev u fun d => { d with fresh := d.fresh + 4 })) ok)


/-- The MEM_ opcodes complete (R358, R361, R372, R375, R378, R381, R386, R387, R390 to R392). Which bits of bytes in error an
injected error flips is a free value, and so is TEMP_MAX of a channel's record (log entry 3). -/
def Obligations.MemCommandsComplete : Prop :=
  (∀ (c : Cmd) (h : Half) (s : State) (bs : List Byte), accepted .memGetStatus c h s = true → dw c 2 &&& 0xFFFFFFE0 = 0 →
    pq c 3 % 32 = 0 → bs = dwordBytes (chanRecord (half (hubsRead s h (namedChan c)) h).mem h (namedChan c)) →
    bufferOk s (pq c 3) bs.length = true →
    Answers (.memGetStatus c) .memGetStatus c h s
      (fun u => storeHost (pq c 3) bs (if pb c 2 4 then
        modChan (hubsRead u h (namedChan c)) h (namedChan c) fun x => { x with
          debtPeak := 0, topRefresh := 0, rmwWrites := 0, fwdReads := 0 }
        else hubsRead u h (namedChan c))) ok) ∧
  (∀ (c : Cmd) (h : Half) (s : State) (m m1 : HalfMem) (r : MemRegion) (k n : Nat), accepted .memSetRegion c h s = true →
    dw c 2 &&& 0xFFFF8000 = 0 → dw c 3 &&& 0xFFFF0000 = 0 → dw c 4 &&& 0xFFFF0000 = 0 → m = (half s h).mem → k = pf c 2 2 0 →
    r = { enable := pb c 2 3, base := pf c 3 15 0, size := pf c 4 15 0, mask := BitVec.ofNat 8 (pf c 2 11 4), order := BitVec.ofNat 2 (pf c 2 13 12) } →
    n = (maskChans r.mask).length → m1 = { m with regions := tset m.regions k r } →
    n = 1 ∨ n = 2 ∨ n = 4 ∨ n = 8 → (∀ j ∈ maskChans r.mask, usable (tget m.chans j) = true) →
    0 < r.size → r.size ≤ 2048 → r.size % n = 0 →
    (r.enable = true → ∀ j < 8, j ≠ k →
      overlap (regionRange (tget m.regions j)).1 (regionRange (tget m.regions j)).2 (regionRange r).1 (regionRange r).2 = false) →
    (r.enable = true → ∀ j < 8, cbase m1 8 j ≤ usableGib (tget m.chans j)) → firstErr (dramChecks s h) = none →
    pb c 2 14 = true →
    (∀ y ∈ structures s h, overlap (regionRange (tget m.regions k)).1 (regionRange (tget m.regions k)).2 y.1 y.2 = false ∧
      overlap (regionRange r).1 (regionRange r).2 y.1 y.2 = false) →
    Answers (.memSetRegion c) .memSetRegion c h s
      (fun u => scrambleRanges h (changedRanges m m1) (modMem u h fun _ => m1)) ok) ∧
  (∀ (c : Cmd) (h : Half) (s : State), accepted .memSetPolicy c h s = true → dw c 2 &&& 0xFFFFF000 = 0 →
    dw c 3 &&& 0xFF000000 = 0 → dw c 4 &&& 0xFFFF0000 = 0 → pf c 2 6 5 ≠ 3 → pf c 3 7 0 ≤ 168 →
    firstErr (dramChecks s h) = none → (pb c 2 4 = false → usable (chanAt s h (namedChan c)) = true) →
    Answers (.memSetPolicy c) .memSetPolicy c h s
      (fun u => (if pb c 2 4 then usableChans (half s h).mem else [namedChan c]).foldl (setPolicy h {
        page := BitVec.ofNat 2 (pf c 2 6 5), refMode := pb c 2 7, autoRepair := pb c 2 8, autoSpare := pb c 2 9
        spareReserve := pb c 2 10, track := pb c 2 11, scrubHours := if pf c 3 7 0 = 0 then 24 else pf c 3 7 0
        ceThreshold := if pf c 3 23 8 = 0 then 64 else pf c 3 23 8
        spareRate := if pf c 4 15 0 = 0 then 2000 else pf c 4 15 0 }) u) ok) ∧
  (∀ (c : Cmd) (h : Half) (s : State) (ks : List Nat), accepted .memTrain c h s = true → dw c 2 &&& 0xFFFFFFE0 = 0 →
    firstErr (dramChecks s h) = none → (pb c 2 4 = false → usable (chanAt s h (namedChan c)) = true) →
    ks = (if pb c 2 4 then usableChans (half s h).mem else [namedChan c]) → (∀ k ∈ ks, (chanAt s h k).sweep = none) →
    Answers (.memTrain c) .memTrain c h s
      (fun u => ks.foldl (fun u k => modChan u h k fun x => { x with
        sweep := some { cmd := some (submitted s c) }
        sub0 := { x.sub0 with work := x.sub0.work ++ [.sweep] }
        sub1 := { x.sub1 with work := x.sub1.work ++ [.sweep] } }) u) .running) ∧
  (∀ (c : Cmd) (h : Half) (s : State), accepted .memSetFreq c h s = true → dw c 2 &&& 0xFFFFFFF8 = 0 →
    firstErr (dramChecks s h) = none → (setTrained (half s h).mem (pf c 2 1 0) = true ∨ quietHalf s h = true) →
    (half s h).mem.freq = none →
    Answers (.memSetFreq c) .memSetFreq c h s
      (fun u => modMem u h fun m => { m with freq := some { cmd := some (submitted s c), newSet := pf c 2 1 0 } }) .running) ∧
  (∀ (c : Cmd) (h : Half) (s : State) (r : TimingRec) (bs : List Byte), accepted .memReadTiming c h s = true →
    dw c 2 &&& 0xFFFFFE00 = 0 → pq c 3 % 32 = 0 →
    r = tget (tget (if pb c 2 8 then (chanAt s h (pf c 2 3 0 % 8)).base else (chanAt s h (pf c 2 3 0 % 8)).sets) (pf c 2 5 4))
      (pf c 2 7 6) →
    bs = timingBytes (pf c 2 5 4) (pf c 2 7 6) r → bufferOk s (pq c 3) bs.length = true →
    Answers (.memReadTiming c) .memReadTiming c h s (storeHost (pq c 3) bs) ok) ∧
  (∀ (c : Cmd) (h : Half) (s : State) (k r : Nat), accepted .memRepair c h s = true → k = namedChan c → r = pf c 2 7 6 →
    r < mapRanks (chanAt s h k) → firstErr (dramChecks s h) = none → usable (chanAt s h k) = true →
    (pb c 2 4 = false → dw c 2 &&& 0xFFFFE000 = 0 → dw c 3 &&& 0xFFFE0000 = 0 → pf c 3 16 0 < bankRows (chanAt s h k) →
      Answers (.memRepair c) .memRepair c h s
        (fun u => modSubAt u h k (pb c 2 5) fun b => { b with
          work := b.work ++ [.repair r (pf c 2 10 8) (pf c 2 12 11) (pf c 3 16 0) (some (submitted s c))] }) .running) ∧
    (pb c 2 4 = true → dw c 2 &&& 0xFFFFFF20 = 0 → dw c 3 = 0 → hasSpare (chanAt s h k) = true →
      (chanAt s h k).spared = none → (chanAt s h k).sparing = none →
      Answers (.memRepair c) .memRepair c h s
        (fun u => modChan u h k fun y => { y with sparing := some (r, some (submitted s c)) }) .running)) ∧
  (∀ (c : Cmd) (h : Half) (s : State), accepted .memSaveTraining c h s = true → dw c 2 = 0 → anyTrained (half s h).mem = true →
    Answers (.memSaveTraining c) .memSaveTraining c h s
      (fun u => flashGo (modDev u fun d => { d with jobs := d.jobs ++ [{
        cmd := submitted s c, op := .memSaveTraining, half := h
        pieces := [(0x03000000 + 0x00400000 * halfIdx h, [])], training := some (savedOf (half s h).mem) }] })) .running) ∧
  (∀ (c : Cmd) (h : Half) (s : State), accepted .memInjectError c h s = true → dw c 2 &&& 0xFFFFFFC0 = 0 → pf c 2 1 0 ≠ 3 →
    pf c 2 5 2 ≤ 9 → pq c 3 % 64 = 0 → firstErr (dramChecks s h) = none → backed (half s h).mem (pq c 3) = true →
    Answers (.memInjectError c) .memInjectError c h s
      (fun u => modMem (fresh u).2 h fun m => injectBurst m (pq c 3) (pf c 2 1 0) (pf c 2 5 2) (fresh u).1) ok)

/-- The VF_ opcodes complete (R415, R418, R423 to R427, R430). A source that no output in RUN 2 has to latch is in force at
once; the others latch it at their next tearing-effect edge. -/
def Obligations.ViewfinderCommandsComplete : Prop :=
  (∀ (c : Cmd) (h : Half) (s : State) (z : VfSource), accepted .vfSetSource c h s = true →
    z = sourceIn c s.a.vf.serials →
    (z.host = true → dw c 2 &&& 0xFFFFC3FE = 0 ∧ firstErr (dramChecks s z.half) = none) →
    (z.host = false → dw c 2 &&& 0xFFFFFC00 = 0 ∧ dw c 3 = 0 ∧ dw c 4 = 0 ∧ dw c 5 = 0 ∧ dw c 6 = 0) →
    sourceOk s c z = true → peerOk s z .A = true → peerOk s z .B = true → (vfRuns s (otherHalf h) = true → mortarUp s = true) →
    (runningOuts s = [] →
      Answers (.vfSetSource c) .vfSetSource c h s
        (fun u =>
          let u1 := modVfe u .A fun e => { e with serials := e.serials + 1 }
          let u2 := { u1 with vfSrc := some z, outs := u1.outs.map fun x => { x with src := some z } }
          stage (holdPicture (releaseVf (releaseVf u2 .A) .B) z) (submitted s c) .vfSetSource h (.now noPoint 0))
        (.deferred 4)) ∧
    (runningOuts s ≠ [] →
      Answers (.vfSetSource c) .vfSetSource c h s
        (fun u =>
          let u1 := modVfe u .A fun e => { e with serials := e.serials + 1 }
          let u2 := (runningOuts s).foldl
            (fun u o => modOut u o fun x => { x with staged := x.staged ++ [{ src := z, cmd := submitted s c }] }) u1
          stage (holdPicture u2 z) (submitted s c) .vfSetSource h .te (progressBytes {
            part := ((runningOuts s).map (2 ^ ·)).sum, done := 0, first := 0, last := 0, count := 0 }))
        (.deferred 4))) ∧
  (∀ (c : Cmd) (h : Half) (s : State) (k : VfCfg), accepted .vfConfigureOutput c h s = true → dw c 2 &&& 0xF0000000 = 0 →
    dw c 8 &&& 0xFF000000 = 0 → dw c 11 &&& 0xFFFFF800 = 0 → k = vfCfgIn c → k.run ≠ 3 →
    k.lanes = 1 ∨ k.lanes = 2 ∨ k.lanes = 4 → 0 < k.teDiv → 80 ≤ k.mbps → k.mbps ≤ 2500 → 0 < k.maxPkt → k.maxPkt ≤ 1024 →
    16 ≤ k.panelW → k.panelW ≤ 3840 → 16 ≤ k.panelH → k.panelH ≤ 3840 → k.panelW * k.panelH ≤ 8294400 → 0 < k.outW →
    0 < k.outH → k.outX + k.outW ≤ k.panelW → k.outY + k.outH ≤ k.panelH → k.srcX % 2 = 0 → k.srcY % 2 = 0 →
    vfCropOk s k = true → firstErr (dramChecks s h) = none → k.renderBase % 4096 = 0 →
    backedRange (half s h).mem k.renderBase (renderPitch k * k.panelH) = true → (k.run = 2 → peerMissing s h = false) →
    Answers (.vfConfigureOutput c) .vfConfigureOutput c h s
      (fun u => pump (modOut u (pf c 2 1 0) fun x => { x with
        jobs := x.jobs ++ [.config (submitted s c) k]
        phase := if x.phase = .rendering then .idle else x.phase
        frame := if x.phase = .rendering then none else x.frame }) (pf c 2 1 0)) .running) ∧
  (∀ (c : Cmd) (h : Half) (s : State) (o : Nat), accepted .vfPanelSequence c h s = true → dw c 2 &&& 0xFFFFFE00 = 0 →
    o = pf c 2 1 0 → 0 < pf c 2 8 2 → pf c 2 8 2 ≤ 64 → pq c 3 % 8 = 0 → (outAt s o).cfg.run ≠ 0 →
    (∀ pkts, readSeq s (pf c 2 8 2) (pq c 3) [] = .ok pkts →
      Answers (.vfPanelSequence c) .vfPanelSequence c h s
        (fun u => pump (modOut u o fun x => { x with jobs := x.jobs ++ [.sequence (submitted s c) pkts] }) o) .running) ∧
    (readSeq s (pf c 2 8 2) (pq c 3) [] = .error .invalid →
      Answers (.vfPanelSequence c) .vfPanelSequence c h s id (badParam 0x83 3))) ∧
  (∀ (c : Cmd) (h : Half) (s : State) (o : Nat), accepted .vfSetCheck c h s = true → dw c 2 &&& 0xFFFFFF00 = 0 →
    o = pf c 2 1 0 → 0 < pf c 4 15 0 → 0 < pf c 4 31 16 → pf c 3 15 0 + pf c 4 15 0 ≤ (outAt s o).cfg.panelW →
    pf c 3 31 16 + pf c 4 31 16 ≤ (outAt s o).cfg.panelH →
    Answers (.vfSetCheck c) .vfSetCheck c h s
      (fun u => modOut u o fun z => { z with checks := tmod z.checks (pf c 2 4 2) fun q =>
        { enable := pb c 2 5, freeze := pb c 2 6, learn := pb c 2 7, x := pf c 3 15 0, y := pf c 3 31 16, w := pf c 4 15 0
          h := pf c 4 31 16, expected := dw c 5, lastCrc := q.lastCrc } }) ok) ∧
  (∀ (c : Cmd) (h : Half) (s : State), accepted .vfResume c h s = true → dw c 2 &&& 0xFFFFFFFC = 0 →
    (outAt s (pf c 2 1 0)).frozen = true →
    Answers (.vfResume c) .vfResume c h s
      (fun u => modOut u (pf c 2 1 0) fun x => { x with frozen := false, fullDue := true }) ok) ∧
  (∀ (c : Cmd) (h : Half) (s : State) (bs : List Byte), accepted .vfGetStatus c h s = true → dw c 2 &&& 0xFFFFFFFC = 0 →
    pq c 3 % 32 = 0 → bs = dwordBytes (vfRecord (outAt s (pf c 2 1 0)) (pf c 2 1 0)) → bufferOk s (pq c 3) bs.length = true →
    Answers (.vfGetStatus c) .vfGetStatus c h s (storeHost (pq c 3) bs) ok)

/-- The AUD_ opcodes complete (R434, R436, R438, R444, R448 to R451). -/
def Obligations.AudioCommandsComplete : Prop :=
  (∀ (c : Cmd) (h : Half) (s : State) (k : AudCfg) (p root : Nat), accepted .audConfigure c h s = true →
    k = audCfgIn c → p = pf c 2 2 0 → root = 4 * (p / 4) + k.clkPort.toNat →
    dw c 2 &&& (if k.clkSrc = 2 then 0xFFFFC000 else 0xFFFFCC00) = 0 → dw c 3 &&& 0xFFF80000 = 0 →
    dw c 6 &&& 0xFFFFFFE0 = 0 → dw c 7 &&& 0xFFFE0000 = 0 → pf c 2 6 5 ≠ 3 → pf c 2 9 8 ≠ 3 →
    (k.clkSrc = 2 → root ≠ p ∧ (portAt s root).cfg.clkSrc ≠ 2) → 32000 ≤ pf c 3 18 0 → pf c 3 18 0 ≤ 384000 →
    (k.clkSrc = 1 → leaderFamily (pf c 3 18 0) ≠ none) → 12 ≤ k.ringLog2 → k.ringLog2 ≤ 26 → 64 ≤ k.resume →
    k.resume ≤ 65536 → firstErr (dramChecks s h) = none → k.ringBase % 4096 = 0 → k.markBase % 4096 = 0 →
    backedRange (half s h).mem k.ringBase (2 ^ k.ringLog2) = true → backedRange (half s h).mem k.markBase 131072 = true →
    disjoint (audRegions k) = true → apart (audRegions k) (audOthers s h p) = true →
    (portAt s p).st ≠ .running → (portAt s p).st ≠ .waiting →
    (k.clkSrc = 1 → otherLeader s p = true → (half s h).audFamily = leaderFamily (pf c 3 18 0)) →
    Answers (.audConfigure c) .audConfigure c h s
      (fun u =>
        let u1 := modPort u p fun x => { x with
          st := .stopped, cfg := k, phase := .full, level := 0, rate := pf c 3 18 0, sampleCount := 0, ringPos := 0, hostPos := 0
          markSeq := 0, delay := [], causes := [], measured := 0, offFrames := 0, recentGlitches := [], pendingMarks := []
          restart := none, sent := none, clocks := false, first := false }
        modHalf u1 h fun y => { y with audFamily :=
          if k.clkSrc = 1 then leaderFamily (pf c 3 18 0)
          else if ∃ q ∈ (portsOf h), (portAt u1 q).st ≠ .unconfigured ∧ (portAt u1 q).cfg.clkSrc = 1 then y.audFamily
          else none }) ok) ∧
  (∀ (c : Cmd) (h : Half) (s : State) (ps : List Nat), accepted .audStart c h s = true → dw c 2 &&& 0xFFFFFFF0 = 0 →
    ps = (portsOf h).filter (fun p => (pf c 2 3 0).testBit (p % 4)) → ps ≠ [] → (∀ p ∈ ps, (portAt s p).st = .stopped) →
    (∀ p ∈ ps, (portAt s p).cfg.output = true → (portAt s p).cfg.resume ≤ audAhead (portAt s p)) →
    Answers (.audStart c) .audStart c h s
      (fun u => ps.foldl (fun u p => modPort u p fun x => { x with
        st := .waiting, startCmd := some (submitted s c), clocks := x.cfg.clkSrc = 1 }) u) .running) ∧
  -- ports that wait go back to STOPPED and ports without a frame in progress stop at once; the others end their frame
  (∀ (c : Cmd) (h : Half) (s u2 : State) (ps busy : List Nat), accepted .audStop c h s = true → dw c 2 &&& 0xFFFFFFF0 = 0 →
    ps = (portsOf h).filter (fun p => (pf c 2 3 0).testBit (p % 4)) →
    u2 = (ps.filter fun p => decide ((portAt s p).st = .running) && !framing (portAt s p)).foldl audStop
      ((ps.filter fun p => decide ((portAt s p).st = .waiting)).foldl unwait (started .audStop c h s)) →
    busy = (ps.filter fun p => decide ((portAt u2 p).st = .running)) →
    Answers (.audStop c) .audStop c h s
      (fun _ => busy.foldl (fun u p => modPort u p fun x => { x with stopCmd := some (submitted s c) }) u2)
      (if busy = [] then ok else .running)) ∧
  (∀ (c : Cmd) (h : Half) (s : State) (p : Nat), accepted .audAdvance c h s = true → dw c 2 &&& 0xFFFFFFF8 = 0 →
    p = pf c 2 2 0 → (portAt s p).st ≠ .unconfigured → (portAt s p).hostPos.toNat ≤ pq c 3 →
    ((portAt s p).cfg.output = true → pq c 3 ≤ (portAt s p).ringPos.toNat + audCap (portAt s p).cfg) →
    ((portAt s p).cfg.output = false → pq c 3 ≤ audWritten (portAt s p)) →
    Answers (.audAdvance c) .audAdvance c h s
      (fun u => modPort u p fun x => { x with hostPos := BitVec.ofNat 64 (pq c 3) }) ok) ∧
  (∀ (c : Cmd) (h : Half) (s : State), accepted .audSetLatch c h s = true →
    (pf c 2 9 3 = 0x7F →
      Answers (.audSetLatch c) .audSetLatch c h s
        (fun u => modPort u (pf c 2 2 0) fun x => { x with latchStream := none, latchNext := none }) ok) ∧
    (pf c 2 9 3 ≤ 63 →
      Answers (.audSetLatch c) .audSetLatch c h s
        (fun u => modPort u (pf c 2 2 0) fun x => { x with
          latchNext := some (pf c 2 9 3, if pf c 2 31 10 = 0 then 1 else pf c 2 31 10) }) ok)) ∧
  (∀ (c : Cmd) (h : Half) (s : State) (bs : List Byte), accepted .audGetStatus c h s = true → dw c 2 &&& 0xFFFFFFF8 = 0 →
    pq c 3 % 32 = 0 → bs = dwordBytes (audRecord (portAt s (pf c 2 2 0)) (pf c 2 2 0)) → bufferOk s (pq c 3) bs.length = true →
    Answers (.audGetStatus c) .audGetStatus c h s (storeHost (pq c 3) bs) ok)

/-- The PAIR_ opcodes, the PWR_ opcodes and HOST_GET_LINK_STATUS complete (R405, R407, R409, R411, R412, R454, R455, R471,
R476, R477). -/
def Obligations.PairAndPowerCommandsComplete : Prop :=
  (∀ (c : Cmd) (h : Half) (s : State), accepted .pairConfigure c h s = true → dw c 2 &&& 0xFFFFF000 = 0 →
    pf c 2 11 8 = 0 ∨ 4 ≤ pf c 2 11 8 →
    (pb c 2 0 = true → pf c 2 2 1 = 1 ∨ pf c 2 2 1 = 2 → s.pair.sameDram = true → s.pair.compatible = true →
      Answers (.pairConfigure c) .pairConfigure c h s
        (fun u => tryForm (modPair u fun p => { p with
          enable := true, roleRequest := BitVec.ofNat 2 (pf c 2 2 1), faultMask := BitVec.ofNat 5 (pf c 2 7 3)
          hbMiss := if pf c 2 11 8 = 0 then 8 else pf c 2 11 8 })) ok) ∧
    (pb c 2 0 = false →
      Answers (.pairConfigure c) .pairConfigure c h s
        (fun u => modPair (noMirror (modPair u fun p => { p with
            enable := false, roleRequest := BitVec.ofNat 2 (pf c 2 2 1), faultMask := BitVec.ofNat 5 (pf c 2 7 3)
            hbMiss := if pf c 2 11 8 = 0 then 8 else pf c 2 11 8 })) fun p => { forgetActive p with
          st := .unpaired, role := 0, formed := false, peerSeen := false, own := false, pulses := false, claim := 0
          arbDriven := false, hbMissed := 0, stall := 0 }) ok)) ∧
  (∀ (c : Cmd) (h : Half) (s : State) (bs : List Byte), accepted .pairGetStatus c h s = true → dw c 2 = 0 → pq c 3 % 32 = 0 →
    bs = dwordBytes (pairRecord s.pair) → bufferOk s (pq c 3) bs.length = true →
    Answers (.pairGetStatus c) .pairGetStatus c h s (storeHost (pq c 3) bs) ok) ∧
  (∀ (c : Cmd) (h : Half) (s : State), accepted .pairSwitchover c h s = true → dw c 2 &&& 0xFFFFFF00 = 0 → pairUp s = true →
    s.pair.draining = false → s.pair.fenced = false →
    Answers (.pairSwitchover c) .pairSwitchover c h s
      (fun u => modPair u fun p => { p with draining := true, cmd := some (submitted s c) }) .running) ∧
  (∀ (c : Cmd) (h : Half) (s : State), accepted .pairTakeover c h s = true → dw c 2 &&& 0xFFFFFFFE = 0 → s.pair.role = 2 →
    s.pair.st = .paired ∨ s.pair.st = .linkLost → s.pair.epoch.toNat < (dw c 3).toNat →
    Answers (.pairTakeover c) .pairTakeover c h s
      (fun u => modPair (declare u 1 (dw c 3) (pb c 2 0)) fun p => { p with cmd := some (submitted s c) }) .running) ∧
  (∀ (c : Cmd) (h : Half) (s : State), accepted .pwrSetWakeBudget c h s = true → dw c 2 &&& 0xFFFFF800 = 0 → pf c 2 10 9 ≠ 0 →
    ((pf c 2 10 9).testBit (halfIdx (otherHalf h)) = true → mortarUp s = true) →
    Answers (.pwrSetWakeBudget c) .pwrSetWakeBudget c h s
      (fun u =>
        let u1 := if (pf c 2 10 9).testBit 0 then setBudgets u .A (pf c 2 8 0) (dw c 3).toNat else u
        if (pf c 2 10 9).testBit 1 then setBudgets u1 .B (pf c 2 8 0) (dw c 3).toNat else u1) ok) ∧
  (∀ (c : Cmd) (h k : Half) (s : State) (bs : List Byte), accepted .pwrGetState c h s = true → dw c 2 &&& 0xFFFFFFFC = 0 →
    halfOfCode (pf c 2 1 0) = some k → pq c 3 % 32 = 0 → (k = h ∨ mortarUp s = true) →
    bs = dwordBytes (powerRecord (started .pwrGetState c h s) k) → bufferOk s (pq c 3) bs.length = true →
    Answers (.pwrGetState c) .pwrGetState c h s (storeHost (pq c 3) bs) ok) ∧
  (∀ (c : Cmd) (h k : Half) (s : State) (bs : List Byte), accepted .hostGetLinkStatus c h s = true →
    dw c 2 &&& 0xFFFFFFFC = 0 → halfOfCode (pf c 2 1 0) = some k → pq c 3 % 32 = 0 → (k = h ∨ mortarUp s = true) →
    bs = dwordBytes (linkRecord s k) → bufferOk s (pq c 3) bs.length = true →
    Answers (.hostGetLinkStatus c) .hostGetLinkStatus c h s (storeHost (pq c 3) bs) ok)

/-! The rows that are no opcode: what each changes in the state in which it finds what its rule asks for. -/

/-- The register and doorbell rows complete (R35 to R42, R62, R64, R67, R397, R402). -/
def Obligations.RegisterRowsComplete : Prop :=
  (∀ (h : Half) (n : Nat) (v : Word) (env : HostUpdate) (s u : State), ready (.sqTailDoorbell h n v env) s = true →
    u = linkWake (hostUpdate s env) h → (sqAt s h n).enable = true → (sqAt s h n).error = false →
    Acts (.sqTailDoorbell h n v env) s
      (if v.toNat % 65536 < 2 ^ (sqAt s h n).sizeLog2.toNat then modSq u h n fun r => { r with lastTail := BitVec.setWidth 16 v }
       else sqStop u h n 1 (v.toNat % 65536))) ∧
  (∀ (h : Half) (n adv : Nat) (v : Word) (s u : State) (r : CqRec), ready (.cqHeadDoorbell h n v) s = true →
    u = linkWake s h → r = cqAt s h n → r.enable = true → r.error = false →
    adv = ringDist r.sizeLog2 r.head (BitVec.setWidth 16 v) →
    Acts (.cqHeadDoorbell h n v) s
      (if v.toNat % 65536 < 2 ^ r.sizeLog2.toNat ∧ adv ≤ ringDist r.sizeLog2 r.head r.tail then
         offerSlots (modCq u h n fun r => { r with head := BitVec.setWidth 16 v }) h n adv
       else cqError u h n 5 (v.toNat % 65536))) ∧
  (∀ (h : Half) (v : Word) (s u : State) (r : EvRec), ready (.headDb h v) s = true →
    u = linkWake s h → r = (half s h).cmd.ev → r.enable = true → r.error = false →
    Acts (.headDb h v) s
      (if v.toNat % 65536 < 2 ^ r.sizeLog2.toNat ∧
           ringDist r.sizeLog2 r.head (BitVec.setWidth 16 v) ≤ ringDist r.sizeLog2 r.head r.tail then
         pushOverflow (modEv u h fun r => { r with head := BitVec.setWidth 16 v }) h
       else evError u h 5 (v.toNat % 65536))) ∧
  -- a disabled ring is enabled, unless its size is out of range or its completion ring is not enabled
  (∀ (h : Half) (n : Nat) (v : Word) (s u : State), ready (.sqEnable h n v) s = true → u = linkWake s h →
    (sqAt s h n).enable = false →
    Acts (.sqEnable h n v) s
      (if fld v 4 0 < 4 ∨ 16 < fld v 4 0 then sqRefuse u h n 6
       else if (cqAt s h (fld v 12 8)).enable = false then sqRefuse u h n 4
       else modSq u h n fun r => { r with
         sizeLog2 := BitVec.ofNat 5 (fld v 4 0), cqId := BitVec.ofNat 5 (fld v 12 8), enable := true, quiesced := false
         error := false, errCode := 0, cqStalled := false, head := 0, lastTail := 0, preReserved := 0, sinceHwb := 0
         fetchCount := r.fetchCount + 1, lastOutcome := some true })) ∧
  (∀ (h : Half) (n : Nat) (v : Word) (s u : State), ready (.sqDisable h n v) s = true → u = linkWake s h →
    (sqAt s h n).enable = true →
    Acts (.sqDisable h n v) s (modSq (unstall u h n) h n fun r => { r with
      enable := false, quiesced := r.fetching.isEmpty, errCode := if r.error then r.errCode else 0 })) ∧
  (∀ (h : Half) (n : Nat) (v : Word) (s u : State), ready (.cqEnable h n v) s = true → u = linkWake s h →
    (cqAt s h n).enable = false →
    Acts (.cqEnable h n v) s
      (if fld v 4 0 < 4 ∨ 16 < fld v 4 0 then cqRefuse u h n 6
       else modCq u h n fun r => { r with
         sizeLog2 := BitVec.ofNat 5 (fld v 4 0), vector := BitVec.ofNat 7 (fld v 14 8), intEnable := bitOf v 15, enable := true
         error := false, errCode := 0, tail := 0, phase := true, head := 0, unsignalled := 0, held := 0, stalled := [] })) ∧
  (∀ (h : Half) (n : Nat) (v : Word) (s u : State), ready (.cqDisable h n v) s = true → u = linkWake s h →
    (cqAt s h n).enable = true →
    Acts (.cqDisable h n v) s
      (if ∃ r ∈ (half s h).cmd.sq.toList, r.enable = true ∧ r.cqId.toNat = n then cqRefuse u h n 7
       else modCq u h n fun r => { r with
         vector := BitVec.ofNat 7 (fld v 14 8), intEnable := bitOf v 15, enable := false
         errCode := if r.error then r.errCode else 0 })) ∧
  (∀ (h : Half) (v : Word) (s u : State), ready (.eventRingEnable h v) s = true → u = linkWake s h →
    (half s h).cmd.ev.enable = false →
    Acts (.eventRingEnable h v) s
      (if fld v 4 0 < 4 ∨ 16 < fld v 4 0 then evRefuse u h 6
       else pushOverflow (modEv u h fun r => { r with
         sizeLog2 := BitVec.ofNat 5 (fld v 4 0), vector := BitVec.ofNat 7 (fld v 14 8), intEnable := bitOf v 15, enable := true
         error := false, errCode := 0, tail := 0, phase := true, head := 0 }) h)) ∧
  (∀ (h : Half) (v : Word) (s : State), ready (.eventRingDisable h v) s = true → (half s h).cmd.ev.enable = true →
    Acts (.eventRingDisable h v) s (modEv (linkWake s h) h fun r => { r with
      vector := BitVec.ofNat 7 (fld v 14 8), intEnable := bitOf v 15, enable := false
      errCode := if r.error then r.errCode else 0 })) ∧
  -- MSI-X: a vector's mask, or the function's enable and mask, then the messages that are let through
  (∀ (h : Half) (n : Nat) (m : Bool) (s : State), ready (.msixMaskWrite h (.vector n m)) s = true →
    Acts (.msixMaskWrite h (.vector n m)) s
      (flushMsix (modEp s h fun p => { p with msix := tmod p.msix n fun e => { e with mask := m } }) h)) ∧
  (∀ (h : Half) (en fm : Bool) (s : State), ready (.msixMaskWrite h (.control en fm)) s = true →
    Acts (.msixMaskWrite h (.control en fm)) s (flushMsix (modEp s h fun p => { p with msixEnable := en, msixMask := fm }) h)) ∧
  -- a base address takes a write while its ring is disabled, and other widths than 32 and 64 bits are discarded
  (∀ (h : Half) (n : Nat) (v : BitVec 64) (s : State), ready (.registerWrite h (.bar0 (0x1000 + 32 * n) 4 v)) s = true →
    n < 32 → (sqAt s h n).enable = false →
    Acts (.registerWrite h (.bar0 (0x1000 + 32 * n) 4 v)) s (modSq (linkWake s h) h n fun r => { r with
      base := BitVec.ofNat 64 (v.toNat % 2 ^ 32 / 4096 * 4096 + r.base.toNat / 2 ^ 32 * 2 ^ 32) })) ∧
  (∀ (h : Half) (off size : Nat) (v : BitVec 64) (s : State), ready (.registerWrite h (.bar0 off size v)) s = true →
    ¬ (size = 4 ∧ off % 4 = 0) → ¬ (size = 8 ∧ off % 8 = 0) →
    Acts (.registerWrite h (.bar0 off size v)) s (linkWake s h))

/-- The rows of the host's window into DRAM, of the power state of the function, of fetching and of coalescing complete (R21,
R36, R42, R62, R398 to R400, R406). -/
def Obligations.FetchAndWindowRowsComplete : Prop :=
  (∀ (h : Half) (off len : Nat) (s : State) (bs : List Byte) (p : Bool), ready (.bar2Read h off len) s = true →
    inWindow (half s h).ep off len = true → (half s h).ep.peer = false →
    dramRead s h (bar2Addr (half s h).ep off) len = (bs, p) →
    Acts (.bar2Read h off len) s (bar2Answer (linkWake s h) h bs p)) ∧
  (∀ (h : Half) (off : Nat) (bs : List Byte) (s : State), ready (.bar2Write h off bs) s = true →
    inWindow (half s h).ep off bs.length = true →
    ((half s h).ep.peer = false →
      Acts (.bar2Write h off bs) s (dramWrite (linkWake s h) h (bar2Addr (half s h).ep off) bs)) ∧
    ((half s h).ep.peer = true → aperFails s = false →
      Acts (.bar2Write h off bs) s (mortarQueue (linkWake s h) h (.aperWrite (bar2Addr (half s h).ep off) bs)))) ∧
  -- a ring is quiesced once it is disabled or stopped and none of its fetches is in progress
  (∀ (h : Half) (n : Nat) (s : State), ready (.quiesced h n) s = true →
    (sqAt s h n).enable = false ∨ (sqAt s h n).error = true → (sqAt s h n).fetching = [] →
    Acts (.quiesced h n) s (modSq s h n fun r => { r with quiesced := true })) ∧
  -- an entry is fetched once completion slots can be reserved for it; else the ring stalls
  (∀ (h : Half) (n need : Nat) (s : State) (bs : List Byte), ready (.entryFetch h n) s = true → fetches s h n = true →
    hostRead (linkWake s h) ((sqAt s h n).base.toNat + 64 * (sqAt s h n).head.toNat) 64 = some bs →
    need = slotsNeeded ((bytesDwords 16 bs).headD 0) → (sqAt s h n).preReserved = 0 →
    Acts (.entryFetch h n) s
      (if need + (cqAt s h (sqAt s h n).cqId.toNat).held ≤ cqFree (cqAt s h (sqAt s h n).cqId.toNat) then
         takeEntry (modCq (modSq s h n fun r => { r with preReserved := 0 }) h (sqAt s h n).cqId.toNat
           fun k => { k with reserved := k.reserved + need }) h n need (bytesDwords 16 bs)
       else modCq (modSq s h n fun r => { r with cqStalled := true, preReserved := 0 }) h (sqAt s h n).cqId.toNat
           fun k => { k with stalled := k.stalled ++ [(n, need)] })) ∧
  (∀ (h : Half) (n : Nat) (s : State), ready (.coalDelayExpiry h n) s = true → (cqAt s h n).enable = true →
    (cqAt s h n).error = false → (cqAt s h n).intEnable = true → 0 < (cqAt s h n).unsignalled → (cqAt s h n).coalDelay ≠ 0 →
    Acts (.coalDelayExpiry h n) s
      (signal (modCq s h n fun r => { r with unsignalled := 0 }) h (cqAt s h n).vector.toNat)) ∧
  -- entering D3hot is reported; leaving it writes the completions held meanwhile, sends messages, and is reported
  (∀ (h : Half) (pmeEn : Bool) (s : State), ready (.dStateWrite h true pmeEn) s = true → (half s h).ep.d3hot = false →
    Acts (.dStateWrite h true pmeEn) s
      (event (modEp (linkWake s h) h fun p => { p with d3hot := true, pmeEn }) h 0xC002 0 0x71 (halfIdx h) noPoint 3 0 0)) ∧
  (∀ (h : Half) (pmeEn : Bool) (s : State), ready (.dStateWrite h false pmeEn) s = true → (half s h).ep.d3hot = true →
    Acts (.dStateWrite h false pmeEn) s
      (event (pushOverflow (flushMsix (writeHeld h (half s h).ep.heldCompletions
        (modEp (linkWake s h) h fun p => { p with d3hot := false, pmeEn, heldCompletions := [], pmeSent := false })) h) h)
        h 0xC002 0 0x71 (halfIdx h) noPoint 0 0 0)) ∧
  -- L1 and its substates are entered as deep as the COMMAND budget allows, and L0p carries the width asked for
  (∀ (h : Half) (s : State), ready (.aspmL1Entry h) s = true → (half s h).ep.gen ≠ 0 → 9 ≤ linkChoice s h →
    (half s h).ep.lstate.toNat < 9 →
    Acts (.aspmL1Entry h) s (modEp s h fun p => { p with
      lstate := BitVec.ofNat 4 (linkChoice s h), l1Entries := satInc p.l1Entries })) ∧
  (∀ (h : Half) (need w : Nat) (s : State), ready (.l0pEval h need) s = true → (half s h).ep.gen ≠ 0 →
    (half s h).ep.l0p = true → (half s h).ep.flit = true → (half s h).ep.lstate.toNat < 9 →
    w = min (half s h).ep.width.toNat (if need ≤ 1 then 1 else if need ≤ 2 then 2 else if need ≤ 4 then 4 else 8) →
    Acts (.l0pEval h need) s (modEp s h fun p => { p with
      l0pWidth := BitVec.ofNat 4 w, lstate := if w < p.width.toNat then 8 else 0 })) ∧
  (∀ (h : Half) (gen : BitVec 3) (width : BitVec 4) (flit : Bool) (s : State),
    ready (.hostLinkChange h gen width flit) s = true → (half s h).ep.perstHigh = true → gen ≠ 0 →
    Acts (.hostLinkChange h gen width flit) s
      (event (modEp s h fun p => { p with
          gen, width, l0pWidth := width, flit, lstate := 0, lastTrained := some (gen, width)
          recoveries := if p.gen = 0 then p.recoveries else satInc p.recoveries })
        h 0xC001 1 0x71 (halfIdx h) noPoint (gen.toNat + 8 * width.toNat)
        (match (half s h).ep.lastTrained with
          | some (g, w) => if gen < g ∨ width < w then 1 else 0
          | none => if width = 8 then 0 else 1) 0))

/-- The rows of the management port's data operations complete (R69, R70). The PHASE bit of an event read through the port is a
free value (log entry 3), and a byte of the data buffer that nothing has written reads 0 (log entry 20). -/
def Obligations.ManagementPortRowsComplete : Prop :=
  (∀ s : State, ready .readCompletion s = true → portServed s = true →
    Acts .readCompletion s { s with mgmt := { s.mgmt with
      out := dwordBytes (s.mgmt.completion.getD (List.replicate 8 0)), completion := none } }) ∧
  (∀ s : State, ready .readEvent s = true → portServed s = true →
    (s.mgmt.events = [] → Acts .readEvent s { s with mgmt := { s.mgmt with out := List.replicate 32 0 } }) ∧
    (∀ (e : EventRec) (t : List EventRec), s.mgmt.events = e :: t →
      Acts .readEvent s { (fresh s).2 with mgmt := { s.mgmt with
        out := eventBytes e (Config.freeBool (fresh s).1), events := t } })) ∧
  (∀ (bytes : List Byte) (s : State), ready (.writeData bytes) s = true → portServed s = true →
    Acts (.writeData bytes) s { s with mgmt := { s.mgmt with buf := bytes ++ s.mgmt.buf.drop bytes.length } }) ∧
  (∀ (n : Nat) (s : State), ready (.readData n) s = true → portServed s = true →
    Acts (.readData n) s { s with mgmt := { s.mgmt with out := (List.range n).map fun i => s.mgmt.buf.getD i 0 } }) ∧
  (∀ (s : State) (st : Nat), ready .readStatus s = true → portServed s = true →
    st = (if s.mgmt.completion = none then 0 else 1) + (if s.mgmt.events = [] then 0 else 2) +
      (if s.mgmt.running = false ∧ s.mgmt.completion = none then 0 else 4) +
      (if (half s (leadHalf s)).sys.bootRom = true then 0 else 8) →
    Acts .readStatus s { s with mgmt := { s.mgmt with out := leBytes 1 st } }) ∧
  -- a command written to a port that is not busy is placed if it passes the port's checks, and else refused at once
  (∀ (ws : List Word) (c : Cmd) (s : State), ready (.writeEntry ws) s = true → portServed s = true → portBusy s = false →
    c = { parseEntry (leadHalf s) 0 ws with port := true } →
    (opOfCode ((ws.getD 0 0).toNat % 65536) = none →
      Acts (.writeEntry ws) s (portComplete s { mkCompletion c (leadHalf s) stBadOpcode 0 0 0 0 0 with exec := 0 })) ∧
    (∀ op : Op, opOfCode ((ws.getD 0 0).toNat % 65536) = some op →
      firstErr (portChecks op c (ws.getD 0 0) (ws.getD 1 0) (half s (leadHalf s)).sys.bootRom) = none →
      Acts (.writeEntry ws) s (portPlace s op c)))

/-- The rows of the Mortar link complete (R15, R16, R18 to R22, R411, R543). Sequence numbers start from 0 (log entry
21), and when a flit's credit returns is log entry 63. -/
def Obligations.MortarRowsComplete : Prop :=
  -- a replayed flit is sent before a new one
  (∀ (h : Half) (s : State) (d : MortarDir), ready (.mortarFlitSend h) s = true → mortarCarries s = true →
    d = dirFrom s.mortar h →
    (∀ f, 0 < d.replayLeft → d.replayBuf[d.replayBuf.length - d.replayLeft]? = some f →
      Acts (.mortarFlitSend h) s
        (modMortarDir s h fun d => { d with wire := d.wire ++ [f], replayLeft := d.replayLeft - 1 })) ∧
    (∀ k d2, d.replayLeft = 0 → d.replayBuf.length < 512 → pickClass d = some (k, d2) →
      Acts (.mortarFlitSend h) s (modMortarDir s h fun _ => sendNew d2 k))) ∧
  -- the flit that the receiver expects is taken; a failed one starts a replay, and the fourth failure in a row a retrain
  (∀ (h : Half) (ok : Bool) (s : State) (d : MortarDir) (f : Flit) (rest : List Flit),
    ready (.mortarFlitReceived h ok) s = true → mortarCarries s = true → d = dirFrom s.mortar (otherHalf h) →
    d.wire = f :: rest →
    (f.seq ≠ d.expSeq →
      Acts (.mortarFlitReceived h ok) s (modMortarDir s (otherHalf h) fun d => { d with wire := rest })) ∧
    (f.seq = d.expSeq → ok = true →
      Acts (.mortarFlitReceived h ok) s (modMortarDir s (otherHalf h) fun d =>
        let d1 := { d with wire := rest, expSeq := d.expSeq + 1, fails := 0, discarding := false }
        match f.msg with
        | some m => { d1 with
          rxFlits := tset d.rxFlits f.cls (tget d.rxFlits f.cls + 1), rx := tset d.rx f.cls (tget d.rx f.cls ++ [m]) }
        | none => { d1 with credits := tset d.credits f.cls (tget d.credits f.cls + 1) })) ∧
    (f.seq = d.expSeq → ok = false →
      Acts (.mortarFlitReceived h ok) s
        (let s1 := modMortarDir { s with mortar := { s.mortar with st := .replay } } (otherHalf h) fun d =>
           { d with wire := rest, fails := d.fails + 1, discarding := true }
         if d.fails < 3 then s1 else startRetrain s1 0))) ∧
  (∀ (h : Half) (seq : BitVec 12) (s : State), ready (.mortarReplayRequest h seq) s = true → mortarCarries s = true →
    Acts (.mortarReplayRequest h seq) s
      (modMortarDir { s with mortar := { s.mortar with st := .replay } } h fun d =>
        { d with replayLeft := fromSeq d.replayBuf seq })) ∧
  (∀ (h : Half) (seq : BitVec 12) (s u : State), ready (.mortarFlitAck h seq) s = true → mortarCarries s = true →
    u = modMortarDir s h (fun d => { d with replayBuf := ackBuf d.replayBuf seq }) →
    Acts (.mortarFlitAck h seq) s
      (if u.mortar.ab.replayLeft = 0 ∧ u.mortar.ab.discarding = false ∧ u.mortar.ba.replayLeft = 0 ∧
          u.mortar.ba.discarding = false then { u with mortar := { u.mortar with st := .active } } else u)) ∧
  (∀ (h : Half) (s : State), ready (.mortarUnackTimeout h) s = true → mortarCarries s = true →
    (dirFrom s.mortar h).replayBuf ≠ [] → Acts (.mortarUnackTimeout h) s (startRetrain s 1)) ∧
  -- three failed attempts in a row take the link DOWN; there it trains again after each backoff, which doubles up to 1 s
  (∀ (ok : Bool) (cy : Nat) (s u : State) (m : Mortar), ready (.mortarTrainingAttemptDone ok cy) s = true →
    u = bootRomsRun s → m = u.mortar →
    (m.st = .retrain ∨ m.st = .training →
      Acts (.mortarTrainingAttemptDone ok cy) s
        (if ok then { u with mortar := { m with st := .active, attempts := 0, ab := dirResumed m.ab, ba := dirResumed m.ba } }
         else if m.attempts < 2 then { u with mortar := { m with attempts := m.attempts + 1 } }
         else mortarGoesDown u)) ∧
    (m.st = .down → m.attempting = true →
      Acts (.mortarTrainingAttemptDone ok cy) s
        (if ok then
           mortarEvent { u with mortar := { m with
             st := .active, attempts := 0, ab := dirResumed m.ab, ba := dirResumed m.ba, attempting := false, backoff := 0
             downCycles := 0 } } 0x0013 0 fun _ _ => min cy 0xFFFFFFFF
         else { u with mortar := { m with
           attempting := false, backoff := if m.backoff < 12800000 then 2 * m.backoff else 25000000, downCycles := cy } }))) ∧
  (∀ s : State, ready .mortarBackoffExpiry s = true → s.mortar.st = .down →
    Acts .mortarBackoffExpiry s { s with mortar := { s.mortar with attempting := true } }) ∧
  (∀ s : State, ready .mortarIdleEntry s = true → s.mortar.st = .active → dirIdle s.mortar.ab = true →
    dirIdle s.mortar.ba = true → domainChoice s .A 8 = 12 → domainChoice s .B 8 = 12 →
    Acts .mortarIdleEntry s { s with mortar := { s.mortar with st := .idle } }) ∧
  -- a read of the other half's DRAM is answered from this half's, and a write is made there
  (∀ (h : Half) (a n : Nat) (s : State) (bs : List Byte) (p : Bool), ready (.aperRequestReceived h) s = true →
    mortarHead s h 5 = some (.aperRead a n) → dramRead s h a n = (bs, p) →
    Acts (.aperRequestReceived h) s (bar2Answer (mortarTake s h 5) (otherHalf h) bs p)) ∧
  (∀ (h : Half) (a : Nat) (bs : List Byte) (s : State), ready (.aperRequestReceived h) s = true →
    mortarHead s h 5 = some (.aperWrite a bs) →
    Acts (.aperRequestReceived h) s (dramWrite (mortarTake s h 5) h a bs))

/-- The rows of a command's way from its ring to its start, and of its reports, complete (R31, R42, R44, R49, R51, R62, R70,
R546). -/
def Obligations.CommandPathRowsComplete : Prop :=
  (∀ (h : Half) (n slots : Nat) (ws : List Word) (rest : List (Nat × List Word)) (s : State),
    ready (.entryReadDone h n) s = true → (sqAt s h n).fetching = (slots, ws) :: rest → inSwap s = false →
    Acts (.entryReadDone h n) s
      (enterEntry (modSq s h n fun r => { r with fetching := rest }) (parseEntry h n ws) ws slots)) ∧
  -- the parameter block arrives and the command is placed, or the block cannot be read and the command fails
  (∀ (h : Half) (tag : BitVec 16) (f : Flight) (s : State), ready (.paramBlockReadDone h tag) s = true →
    liveFlight s h tag = some f → f.st = .readingBlock → s.pair.fenced = false → inSwap s = false →
    Acts (.paramBlockReadDone h tag) s
      (match hostRead s (pq f.cmd 2) (dw f.cmd 4).toNat with
       | some bs => placeFlight s { f.cmd with params := bytesDwords ((dw f.cmd 4).toNat / 4) bs } f.op
       | none => reject s f.cmd (err stDataCorrupt 0x04))) ∧
  -- of the commands that may start, the one chosen starts
  (∀ (h : Half) (k : Nat) (f : Flight) (s : State), ready (.commandStart h) s = true → (half s h).ident.cmdReady = true →
    inSwap s = false → s.pair.draining = false → s.pair.fenced = false → chooseRival s h = some (k, f) →
    Acts (.commandStart h) s (startChosen (noteStart s h k) h f)) ∧
  (∀ (h : Half) (f : Flight) (s : State), ready (.forwardedCommandReceived h) s = true →
    mortarHead s h 0 = some (.command f) →
    Acts (.forwardedCommandReceived h) s
      (if f.cmd.port then startCmd (mortarTake s h 0) f.op f.cmd h
       else modFlight (mortarTake s h 0) f.cmd.serial fun x => if x.st = .forwarded then { x with st := .fetched } else x)) ∧
  -- a completion from the other half is posted in the receiving half, which then forgets the command if it is the last one
  (∀ (h k : Half) (c : Completion) (s : State), ready (.forwardedReportReceived h) s = true →
    mortarHead s h 0 = some (.completion k c) → c.serial ≠ 0 →
    Acts (.forwardedReportReceived h) s
      (if isFinal c then retire (deliver (mortarTake s h 0) c) c.serial else deliver (mortarTake s h 0) c)) ∧
  (∀ (h k : Half) (r : EffectReport) (s : State), ready (.forwardedReportReceived h) s = true →
    mortarHead s h 0 = some (.effect k r) →
    Acts (.forwardedReportReceived h) s (deliverEffect (mortarTake s h 0) r)) ∧
  (∀ (h : Half) (s : State), ready (.peerCommandReady h) s = true → (half s h).ident.cmdReady = true → mortarUp s = true →
    Acts (.peerCommandReady h) s (forwardPort (s.flights.foldl (forwardHeld h) s) h))

/-- The rows of the islands and of the pipeline's slot pointer complete (R26, R27, R205, R395, R407, R408, R481, R509). Which
states an idle island's domain chooses is read from the wake budgets (R407). -/
def Obligations.IslandRowsComplete : Prop :=
  (∀ (h : Half) (i : IslandId) (s : State), ready (.islandWakeRequest h i) s = true → wakes i = true → asleep s h i = true →
    (islandAt s h i).resetting = false → shedIsland s h i = false → (half s h).sys.inReset = false →
    Acts (.islandWakeRequest h i) s (modIsland s h i fun x => { x with waking := true, heldReqs := x.heldReqs + 1 })) ∧
  (∀ (h : Half) (i : IslandId) (s : State), ready (.islandWakeDone h i) s = true → (islandAt s h i).waking = true →
    (i ≠ .dram → (islandAt s h i).pstate ≠ .off → Acts (.islandWakeDone h i) s (islandOn s h i)) ∧
    (i ≠ .dram → (islandAt s h i).pstate = .off → Acts (.islandWakeDone h i) s (restoreIsland (islandOn s h i) h i)) ∧
    (i = .dram → (islandAt s h i).pstate ≠ .off →
      Acts (.islandWakeDone h i) s
        (countWake (modMem (islandOn s h i) h fun m => { m with pstate := 0 }) h (half s h).mem.pstate.toNat))) ∧
  -- an idle island goes as deep as its domain's choice; a quad with no enabled link and a state of 3 mean off
  (∀ (h : Half) (i : IslandId) (d c : Nat) (s : State), ready (.islandStateEntry h i) s = true →
    (islandAt s h i).resetting = false → (islandAt s h i).waking = false → islandBusy s h i = false →
    shedIsland s h i = false → (half s h).sys.inReset = false → (∀ q, i ≠ .ingest q) → i ≠ .dram → islandDomain i = some d →
    c = domainChoice s h d → pstateCode (islandAt s h i).pstate < c →
    Acts (.islandStateEntry h i) s
      (if c = 3 then switchOff s h i else modIsland s h i fun x => { x with pstate := pstateOf c })) ∧
  (∀ (h : Half) (q : Nat) (s : State), ready (.islandStateEntry h (.ingest q)) s = true →
    (islandAt s h (.ingest q)).resetting = false → (islandAt s h (.ingest q)).waking = false →
    islandBusy s h (.ingest q) = false → shedIsland s h (.ingest q) = false → (half s h).sys.inReset = false →
    (∀ n ∈ quadLinks s h q, (linkAt s n).st = .disabled) →
    Acts (.islandStateEntry h (.ingest q)) s (switchOff s h (.ingest q))) ∧
  (∀ (h : Half) (s : State), ready (.islandStateEntry h .dram) s = true →
    (islandAt s h .dram).resetting = false → (islandAt s h .dram).waking = false → islandBusy s h .dram = false →
    shedIsland s h .dram = false → (half s h).sys.inReset = false → (half s h).mem.pstate.toNat < dramChoice s h →
    (half s h).mem.freq = none →
    Acts (.islandStateEntry h .dram) s (modMem s h fun m => { m with pstate := BitVec.ofNat 4 (dramChoice s h) })) ∧
  -- a fault of Keystone or the fabric resets the half, one of the PCIe island takes its link down, the others reset alone
  (∀ (h : Half) (i : IslandId) (s : State), ready (.islandFault h i) s = true →
    (i = .keystone ∨ i = .fabric → Acts (.islandFault h i) s (halfReset s h 3)) ∧
    (i = .pcie → Acts (.islandFault h i) s (dlDown s h)) ∧
    (i = .dram ∨ i = .ashlar ∨ i = .pipeline ∨ i = .vcu ∨ i = .viewfinder ∨ i = .audio ∨ (∃ q, i = .ingest q) →
      Acts (.islandFault h i) s (islandFaults s h i))) ∧
  (∀ (h : Half) (i : IslandId) (cycles code q : Nat) (s u : State), ready (.islandResetDone h i cycles) s = true →
    (islandAt s h i).resetting = true → islandCode i = some (code, q) →
    u = resetWork (modIsland s h i fun _ => {}) h cycles i →
    Acts (.islandResetDone h i cycles) s
      (event (modSys u h fun x => { x with islandResets := satInc x.islandResets }) h 0x0031 2 0x71 (halfIdx h) noPoint code
        (match i with | .ingest _ => 12 * halfIdx h + q | _ => 0) (min cycles 0xFFFFFFFF))) ∧
  (∀ (h : Half) (s : State), ready (.slotPointerAdvance h) s = true → islandRuns s h .pipeline = true →
    Acts (.slotPointerAdvance h) s (modPipe s h fun p => { p with slot := (p.slot + 1) % 64 }))

/-- The rows of triggers complete (R29, R146, R147). The levels of TRIG_IN at power-on are log entry 44's. -/
def Obligations.TriggerRowsComplete : Prop :=
  -- the pin takes its level, and each enabled rule that asks for this edge hears of it in this half
  (∀ (h : Half) (b : Nat) (rising : Bool) (s u : State), ready (.trigInEdge h b rising) s = true →
    u = modDev s (fun d => { d with trigIn :=
      if rising then d.trigIn ||| BitVec.ofNat 4 (2 ^ b) else d.trigIn &&& ~~~(BitVec.ofNat 4 (2 ^ b)) }) →
    Acts (.trigInEdge h b rising) s
      ((List.range 16).foldl (fun w k => if (ruleAt w k).enable = true ∧
        (if rising then (ruleAt w k).rise else (ruleAt w k).fall).getLsbD b = true then edgeAt w k h else w) u)) ∧
  (∀ (h : Half) (t : TriggerT) (s : State), ready (.triggerTReceived h) s = true →
    mortarHead s h 0 = some (.trigger t) →
    Acts (.triggerTReceived h) s
      (applyLatch (modRule (mortarTake s h 0) t.rule fun r => { r with latch := [], await := false }) t.rule t.t
        (if (ruleAt s t.rule).latch = [] then latchOf s (ruleAt s t.rule) h else (ruleAt s t.rule).latch))) ∧
  -- HOLDOFF ends with the count of what it suppressed
  (∀ (k : Nat) (s u : State), ready (.triggerHoldoffEnd k) s = true → (ruleAt s k).holdLeft = 1 →
    u = modRule s k (fun r => { r with holdLeft := 0, suppressed := 0 }) →
    Acts (.triggerHoldoffEnd k) s
      (if (ruleAt s k).suppressed = 0 then u
       else event u (leadHalf s) 0x200A 0 0x21 k noPoint (ruleAt s k).suppressed 0 0)) ∧
  (∀ (b : Nat) (s : State), ready (.trigOutPulseEnd b) s = true →
    Acts (.trigOutPulseEnd b) s (modDev s fun d => { d with trigOut := d.trigOut &&& ~~~(BitVec.ofNat 4 (2 ^ b)) }))

/-- The rows of link training, tracking and remaps complete (R77, R78, R81, R86 to R89, R91 to R93, R95 to R98, R101 to R103,
R106 to R108, R117). -/
def Obligations.LinkRowsComplete : Prop :=
  (∀ (n : Nat) (s : State), ready (.signalEnergyDetected n) s = true →
    ((linkAt s n).st = .detect → isCsi s (linkAt s n) = false →
      Acts (.signalEnergyDetected n) s
        (linkAfter s (modLink s n fun l => sensorApply { l with st := .cap } l.sensor.speed 1))) ∧
    ((linkAt s n).st = .silent →
      Acts (.signalEnergyDetected n) s
        (linkAfter s (startDetect (modLink s n fun l => { l with rounds := 0 }) n))) ∧
    ((linkAt s n).st = .idle → linkMode s (linkAt s n) = 2 →
      Acts (.signalEnergyDetected n) s (linkAfter s (startRetrainAtSpeed s n 0 (allLogical (linkAt s n)))))) ∧
  (∀ (n : Nat) (s : State), ready (.signalEnergyLost n) s = true → (linkAt s n).st = .cap ∨ (linkAt s n).st = .train →
    Acts (.signalEnergyLost n) s (linkLost s n true)) ∧
  -- a CAP block counts for its lane, and is accepted once every lane has had eight that agree
  (∀ (lane n : Nat) (p : BitVec 56) (s u : State), ready (.capBlock lane p) s = true → linkOf s lane = some n →
    (linkAt s n).st = .cap →
    u = modLane s lane (fun x => { x with capRun := if x.capBits = p ∧ 0 < x.capRun then x.capRun + 1 else 1, capBits := p }) →
    Acts (.capBlock lane p) s
      (if ∀ d ∈ devs (linkAt s n), 8 ≤ (laneAt u d).capRun ∧ capNoLane (laneAt u d).capBits = capNoLane p then
         acceptCap u n (capOf p) else u)) ∧
  (∀ (n : Nat) (s : State), ready (.applied n) s = true →
    Acts (.applied n) s (modLink s n fun l => { l with sensor := { l.sensor with apply := false }, awaitApplied := false })) ∧
  -- the lock stage takes the best eye of the sweep, or counts a miss where no code was error-free
  (∀ (lane n : Nat) (sweep : List EyeResult) (s : State), ready (.lockStageDone lane sweep) s = true →
    linkOf s lane = some n → inStage (linkAt s n) = true → lane ∈ devs (linkAt s n) → (laneAt s lane).lstate ≠ .down →
    (∀ e, bestEye (((linkAt s n).cap.map (·.eqHint)).getD 0) sweep = some e →
      Acts (.lockStageDone lane sweep) s (modLane s lane fun x => { takeEye e x with stageLocked := true, misses := 0 })) ∧
    (bestEye (((linkAt s n).cap.map (·.eqHint)).getD 0) sweep = none →
      Acts (.lockStageDone lane sweep) s (missStage s n lane 1))) ∧
  (∀ (lane n : Nat) (s : State), ready (.lockStageTimeout lane) s = true → linkOf s lane = some n →
    inStage (linkAt s n) = true → lane ∈ devs (linkAt s n) → (laneAt s lane).lstate ≠ .down →
    Acts (.lockStageTimeout lane) s (missStage s n lane (if (laneAt s lane).stageLocked then 2 else 1))) ∧
  -- the PRBS count ends without an error: the link settles at its top step, or goes on to the next speed
  (∀ (n cycles : Nat) (errs : List Nat) (s u : State), ready (.prbsStageDone n errs cycles) s = true →
    inStage (linkAt s n) = true → (∀ d ∈ devs (linkAt s n), (laneAt s d).lstate = .down ∨ (laneAt s d).stageLocked = true) →
    (∀ i, errs.getD i 0 = 0) →
    u = modLink ((devs (linkAt s n)).foldl (fun s d => modLane s d fun x => { x with prbsErr := 0, prbsResult := some 0 }) s) n
      (fun l => { l with trainCycles := BitVec.ofNat 32 cycles }) →
    Acts (.prbsStageDone n errs cycles) s
      (if (linkAt s n).top.toNat ≤ (linkAt s n).step.toNat then settle u n (linkAt s n).step
       else startStep (modLink u n fun l => { l with passed := some l.step, spareUsed := false }) n (nextSpeed s (linkAt s n)))) ∧
  -- the third round in a row that goes unanswered makes the link SILENT and completes its LINK_ENABLE
  (∀ (n : Nat) (s : State), ready (.capRoundTimeout n) s = true → isCsi s (linkAt s n) = false →
    (linkAt s n).st = .detect ∨ (linkAt s n).st = .cap →
    Acts (.capRoundTimeout n) s
      (if (linkAt s n).rounds < 2 then
         modLink s n fun l => { l with st := .detect, rounds := l.rounds + 1, awaitApplied := false }
       else finishLinkCmds (linkEvent (modLink s n fun l => { l with st := .silent, rounds := 0, awaitApplied := false })
         n 0x1003 1 noPoint 0 0 0) n stLinkDown 0x20)) ∧
  (∀ (n : Nat) (s : State), ready (.linkBackoffExpiry n) s = true → (linkAt s n).st = .backoff →
    Acts (.linkBackoffExpiry n) s (startDetect s n)) ∧
  (∀ (lane n : Nat) (hdr : BitVec 2) (p : BitVec 64) (s : State) (y : Lane), ready (.pslBlock lane hdr p) s = true →
    linkOf s lane = some n → y = laneBlock (laneAt s lane) hdr p →
    Acts (.pslBlock lane hdr p) s
      (checkFailing (modLane s lane fun x => { y with frozen := decide (1024 < y.idleRun) || x.frozen && decide (0 < y.idleRun) })
        n lane ((laneAt s lane).locked && !y.locked))) ∧
  (∀ (n : Nat) (blocks : List AlignBlock) (s : State), ready (.align n blocks) s = true →
    Acts (.align n blocks) s (linkAfter s (alignDone
      ((List.range (min blocks.length (devs (linkAt s n)).length)).foldl (fun u i =>
        modLane u ((devs (linkAt s n)).getD i 0)
          (laneAlign (if i < (linkAt s n).lanes.length then i else (linkAt s n).cfg.width.toNat) (blocks.getD i {}))) s) n))) ∧
  (∀ (n : Nat) (s : State), ready (.eidle n) s = true → (linkAt s n).st = .active →
    (linkAt s n).sensor.idleAllow = true → frameOpen s n = false →
    Acts (.eidle n) s
      (modLanes (modLink s n fun l => { l with st := .idle, idleEntries := l.idleEntries + 1 }) (devs (linkAt s n)) fun x =>
        if x.lstate = .down then x
        else { x with lstate := if x.lstate = .spareReady then .spareReady else .idle, frozen := true })) ∧
  (∀ (n : Nat) (ls : List Nat) (s : State), ready (.train n) s = true →
    ((linkAt s n).st = .active → (linkAt s n).pendingRetrain = some (2, ls) → frameOpen s n = false →
      Acts (.train n) s (linkAfter s (startRetrainAtSpeed s n 2 ls))) ∧
    ((linkAt s n).st = .exit → (linkAt s n).pendingRetrain = some (3, ls) →
      Acts (.train n) s (linkAfter s (startRetrainAtSpeed s n 3 ls)))) ∧
  (∀ (n cycles : Nat) (sweeps : List (List EyeResult)) (s : State), ready (.linkRetrainDone n sweeps cycles) s = true →
    (linkAt s n).st = .retrain →
    Acts (.linkRetrainDone n sweeps cycles) s (afterRetrain s (retrainDone s n sweeps cycles) n)) ∧
  (∀ (n : Nat) (s : State), ready (.activeSignalLoss n) s = true → (linkAt s n).st = .active →
    Acts (.activeSignalLoss n) s (linkAfter s (linkLost s n false))) ∧
  -- a lane with too few transitions is frozen; a code within 2 of the trained one is taken; a wander further is reported once
  (∀ (lane n density : Nat) (b m a : EyeResult) (s : State), ready (.eqTrackEval lane b m a density) s = true →
    linkOf s lane = some n → (linkAt s n).st = .active → (linkAt s n).policy.trackOff = false →
    (laneAt s lane).eqForced = false → linkMode s (linkAt s n) ≠ 3 →
    (density < 30 ∨ 1024 < (laneAt s lane).idleRun →
      Acts (.eqTrackEval lane b m a density) s (wanderRun s (modLane s lane fun x => { x with frozen := true }) n)) ∧
    (∀ c, 30 ≤ density → (laneAt s lane).idleRun ≤ 1024 → trackMove b m a = some c →
      codeDist c (laneAt s lane).eqTrained ≤ 2 →
      Acts (.eqTrackEval lane b m a density) s
        (wanderRun s (modLane (modLane s lane fun x => { x with frozen := false }) lane fun x => { x with eqNow := c }) n))) ∧
  (∀ (n : Nat) (done : Bool) (r : Remap) (s : State), ready (.remapDoneRead n done) s = true →
    (linkAt s n).remap = some r → r.applied = true → r.restore = false →
    (done = true →
      Acts (.remapDoneRead n done) s
        (remapEffect (laneEvent (modLane (modLink s n fun l => { l with
            remap := none, remaps := satInc l.remaps, background := some r.oldLane
            full := l.full.map fun x => if x = r.oldLane then r.newLane else x
            sensor := { l.sensor with remapValid := false } }) r.oldLane.toNat fun x =>
              { x with lstate := .backgroundRetrain, locked := false, failing := false })
          r.oldLane.toNat 0x1008 1 r.frame r.newLane.toNat 0) n r.frame stOk)) ∧
    (done = false →
      Acts (.remapDoneRead n done) s (modLink s n fun l => { l with remap := some { r with restore := true } }))) ∧
  (∀ (n : Nat) (sweep : List EyeResult) (s : State), ready (.spareRetrainDone n sweep) s = true →
    Acts (.spareRetrainDone n sweep) s (afterRetrain s (spareDone s n sweep) n)) ∧
  (∀ (n : Nat) (s : State), ready (.csi2ClockLp11 n) s = true → isCsi s (linkAt s n) = true → (linkAt s n).st = .detect →
    Acts (.csi2ClockLp11 n) s (modLink s n fun l => { l with csi2Lp11 := true })) ∧
  (∀ (n : Nat) (s : State), ready (.skewCalibration n) s = true → isCsi s (linkAt s n) = true →
    Acts (.skewCalibration n) s (modLink s n fun l => { l with csi2Skew := true })) ∧
  (∀ (n k : Nat) (c : Cmd) (errs : List Nat) (s : State), ready (.prbsCheckDone n errs) s = true →
    (linkAt s n).prbsCheck = some (c, k) →
    Acts (.prbsCheckDone n errs) s
      (completeOk (modLink ((List.range (devs (linkAt s n)).length).foldl (fun u i =>
          modLane u ((devs (linkAt s n)).getD i 0) fun x => { x with prbsErr := BitVec.ofNat 32 (errs.getD i 0) }) s) n
          fun l => { sensorMode l 3 l.sensor.hold with prbsCheck := none })
        c (halfOf n 16) (BitVec.ofNat 32 (maskOf ((List.range (devs (linkAt s n)).length).filterMap fun i =>
          if errs.getD i 0 = 0 then none else some (if i < (linkAt s n).lanes.length then i else 16)))) 0 0))

/-- The rows of ingest and of Quarry's frame close complete (R83, R94, R119 to R129, R132, R136, R142, R149, R150, R460). Which
CSI-2 short packets carry a frame's start, its end and a line's start is log entry 49. -/
def Obligations.IngestRowsComplete : Prop :=
  (∀ (link n : Nat) (vc : BitVec 4) (dt : BitVec 6) (v : BitVec 16) (period : Nat) (s u : State),
    ready (.csi2ShortPacket link vc dt v period) s = true → isCsi s (linkAt s link) = true → u = csiPacket s link →
    delivers u link = true → boundStream u link vc = some n → (streamAt u n).cfg ≠ none →
    (dt = 0 → Acts (.csi2ShortPacket link vc dt v period) s (openFrame u n (BitVec.setWidth 32 v) true period)) ∧
    (dt = 1 →
      Acts (.csi2ShortPacket link vc dt v period) s
        (frameEnds u n (((streamAt u n).openFrame.map (·.csiLines)).getD 0) period)) ∧
    (dt = 2 →
      Acts (.csi2ShortPacket link vc dt v period) s (modOpen u n fun o => { o with csiLine := some v.toNat }))) ∧
  (∀ (link n : Nat) (vc : BitVec 4) (dt : BitVec 6) (bs : List Byte) (ok : Bool) (s u : State),
    ready (.csi2LongPacket link vc dt bs ok) s = true → isCsi s (linkAt s link) = true → u = csiPacket s link →
    delivers u link = true → boundStream u link vc = some n → (streamAt u n).cfg ≠ none →
    Acts (.csi2LongPacket link vc dt bs ok) s (csiLine u link n dt bs ok)) ∧
  -- a packet block whose HCRC fails is discarded; one that holds acts on the stream that its link and STREAM_ID are bound to
  (∀ (link period : Nat) (b : BitVec 64) (s : State), delivers s link = true → hcrcOk b = false →
    (ready (.frameStart link b period) s = true → Acts (.frameStart link b period) s (discardBlock s link b)) ∧
    (ready (.lineHeader link b) s = true → Acts (.lineHeader link b) s (discardBlock s link b)) ∧
    (ready (.frameEnd link b period) s = true → Acts (.frameEnd link b period) s (discardBlock s link b))) ∧
  (∀ (link n period : Nat) (b : BitVec 64) (s u : State), delivers s link = true → hcrcOk b = true → u = breakPacket s link →
    boundStream u link (blockSid b) = some n → (streamAt u n).cfg ≠ none →
    (ready (.frameStart link b period) s = true →
      Acts (.frameStart link b period) s (openFrame u n (BitVec.ofNat 32 (b.toNat / 2 ^ 16)) false period)) ∧
    (ready (.lineHeader link b) s = true →
      Acts (.lineHeader link b) s (modRx u link fun r => { r with pkt := some {
        streamId := blockSid b, format := BitVec.ofNat 2 (b.toNat / 2 ^ 12), line := b.toNat / 2 ^ 16 % 65536
        pixels := b.toNat / 2 ^ 32 % 65536 } })) ∧
    (ready (.frameEnd link b period) s = true →
      Acts (.frameEnd link b period) s (frameEnds u n (b.toNat / 2 ^ 16 % 65536) period))) ∧
  (∀ (link period : Nat) (b : BitVec 64) (s : State), ready (.frameStart link b period) s = true → delivers s link = true →
    hcrcOk b = true → boundStream (breakPacket s link) link (blockSid b) = none →
    Acts (.frameStart link b period) s (countUnmapped (breakPacket s link) link)) ∧
  (∀ (link : Nat) (w : BitVec 64) (s : State), ready (.pslDataBlock link w) s = true → delivers s link = true →
    Acts (.pslDataBlock link w) s (modRx s link fun r => { r with
      pkt := r.pkt.map fun p => { p with data := p.data ++ leBytes 8 w.toNat, blocks := p.blocks + 1 } })) ∧
  -- the line ends good only where HCRC, CRC-32C and the number of data blocks all agree
  (∀ (link : Nat) (b : BitVec 64) (p : LinePkt) (s : State), ready (.lineCrc link b) s = true → delivers s link = true →
    (tget s.rx link).pkt = some p → hcrcOk b = true →
    (crc32c p.data = BitVec.ofNat 32 (b.toNat / 2 ^ 16) →
      Acts (.lineCrc link b) s
        (packetEnds s link p (decide (p.blocks ≠ (p.pixels * depthBits p.format + 63) / 64)))) ∧
    (crc32c p.data ≠ BitVec.ofNat 32 (b.toNat / 2 ^ 16) →
      Acts (.lineCrc link b) s
        (packetEnds (modLink s link fun l => { l with lineCrcErr := satInc l.lineCrcErr }) link p true))) ∧
  (∀ (n period : Nat) (s : State), ready (.lineGapWatchdogExpiry n period) s = true →
    Acts (.lineGapWatchdogExpiry n period) s (closeFrame s n 0x20 period)) ∧
  -- the oldest frame whose blocks are all placed is stored, and a full ring or a stop takes effect
  (∀ (n : Nat) (w : WFrame) (rest : List WFrame) (s u : State), ready (.frameCloseWrite n) s = true →
    (streamAt s n).writing = w :: rest → w.closed = true → blockCount w.cfg.width w.cfg.height ≤ w.nextBlock →
    (s.pair.role = 2 → w.given ≠ none) → (islandAt s (ringOf s n).half .dram).resetting = false → u = storeFrame s n w →
    Acts (.frameCloseWrite n) s
      (pipeFrameStored (if w.full then goFull u n else if w.stop then stopped u n else u) n w.number)) ∧
  (∀ (n : Nat) (s : State) (p : Reporting), ready (.qryProgress n) s = true → p = (streamAt s n).reporting → p.report ≠ 0 →
    p.perFrame = false → 2 ^ p.progressLog2 ≤ p.sinceReport →
    Acts (.qryProgress n) s
      (streamEvent (modStream s n fun x => { x with reporting := { x.reporting with sinceReport := 0, flaggedSince := 0 } })
        n 0x2004 0 (newestOf (ringOf s n)) p.sinceReport p.flaggedSince 0)) ∧
  (∀ (h : Half) (tag : BitVec 16) (rd : QryRead) (s : State), ready (.qryReadRecordCopied h tag) s = true →
    s.reads.find? (fun x => decide (x.cmd.recv = h ∧ x.cmd.tag = tag)) = some rd →
    Acts (.qryReadRecordCopied h tag) s (recordCopied s rd))

/-- The rows of the Ashlar engines complete (R133, R179, R180, R188, R189, R191). -/
def Obligations.AshlarRowsComplete : Prop :=
  -- capture blocks come before host jobs
  (∀ (h : Half) (e : Nat) (b : BlockJob) (t : List BlockJob) (s : State), ready (.encoderTakeBlock h) s = true →
    islandRuns s h .ashlar = true → idleEnc (half s h).ash = some e → (half s h).ash.waiting = b :: t →
    Acts (.encoderTakeBlock h) s (modAsh s h fun a => { a with
      enc := tset a.enc e (some b), waiting := t, overload := a.overload && decide (256 ≤ t.length) })) ∧
  (∀ (h : Half) (e k : Nat) (j : EncJob) (s : State), ready (.encoderTakeBlock h) s = true →
    islandRuns s h .ashlar = true → idleEnc (half s h).ash = some e → (half s h).ash.waiting = [] →
    encPick (half s h).ash = some k → tget (half s h).ash.jobs k = some j →
    Acts (.encoderTakeBlock h) s (modAsh s h fun a => { a with
      jobs := tset a.jobs k (some { j with taken := j.taken + 1 })
      enc := tset a.enc e (some {
        job := k, order := j.order, block := j.taken, w := blockW j.width (j.taken % blockCols j.width)
        h := blockH j.height (j.taken / blockCols j.width), depth := j.depth, err := j.mode - 1
        px := srcBlock s h j j.taken }) })) ∧
  -- a capture block is stored as it is coded, or raw where coding gains nothing
  (∀ (h : Half) (e n : Nat) (b : BlockJob) (s u : State), ready (.blockEncoded h e) s = true →
    islandRuns s h .ashlar = true → tget (half s h).ash.enc e = some b → b.stream = some n →
    u = modAsh s h (fun a => { a with enc := tset a.enc e none, encBlocks := a.encBlocks + 1 }) →
    (∀ bs, encodeBlock b.depth b.err b.w b.h b.px = some bs →
      Acts (.blockEncoded h e) s (stageBlock u n b.frame b.block bs .coded)) ∧
    (encodeBlock b.depth b.err b.w b.h b.px = none →
      Acts (.blockEncoded h e) s
        (stageBlock (modAsh u h fun a => { a with noGainBlocks := a.noGainBlocks + 1 }) n b.frame b.block
          (packPixels (depthBits b.depth) b.px) .noGain))) ∧
  -- the pipeline's blocks come before host jobs
  (∀ (h : Half) (e : Nat) (t : DecTask) (rest : List DecTask) (s : State), ready (.decoderTakeBlock h) s = true →
    islandRuns s h .ashlar = true → idleDec (half s h).ash = some e → (half s h).ash.pipeWaiting = t :: rest →
    Acts (.decoderTakeBlock h) s (modAsh s h fun a => { a with dec := tset a.dec e (some t), pipeWaiting := rest })) ∧
  (∀ (h : Half) (e : Nat) (s u : State), islandRuns s h .ashlar = true →
    u = modAsh s h (fun a => { a with dec := tset a.dec e none }) →
    (∀ n f stream block, ready (.blockDecoded h e) s = true → tget (half s h).ash.dec e = some (.pipe n f stream block) →
      Acts (.blockDecoded h e) s (pipeDecoded u h n f stream block)) ∧
    (∀ recv tag i, ready (.blockDecoded h e) s = true → tget (half s h).ash.dec e = some (.job recv tag i) →
      Acts (.blockDecoded h e) s (jobDecoded u h recv tag i)))

/-- The rows of the pipeline, of span contexts, of statistics and of trims complete (R208, R213, R219, R223, R279, R291, R298
to R300, R302, R304). The results of a measurement are the row's operands. -/
def Obligations.PipelineRowsComplete : Prop :=
  -- frames that can come no more are skipped, and on a mirror those the active passed over; then one ready unit is admitted
  (∀ (h : Half) (s u1 u2 u : State), ready (.unitAdmit h) s = true →
    (half s h).pipe.running = none → islandRuns s h .pipeline = true →
    u1 = (List.range 32).foldl (fun w n =>
      if ctxIn (ctxAt w n) h && takesFrames (ctxAt w n) then skipLost w n h 65536 else w) s →
    u2 = (if u1.pair.gating then (List.range 32).foldl (fun w n => passOver w n h) u1 else u1) →
    u = (List.range 32).foldl (fun w n => starve w n h) u2 →
    Acts (.unitAdmit h) s
      (match chooseUnit u h with
       | some (n, r, borrow) => admitUnit u h n r.f borrow
       | none => u)) ∧
  (∀ (h : Half) (x : RunUnit) (r : CtxFrame) (s u : State), ready (.unitFinish h) s = true →
    (half s h).pipe.running = some x → frameOf (ctxAt s x.ctx) h x.f = some r → islandRuns s h .pipeline = true →
    unitDone s h (ctxAt s x.ctx) r x = true →
    u = modFrame (modPipe s h fun p => { p with running := none }) x.ctx h x.f
      (fun r => { r with unitsDone := x.k + 1, rowsDone := 0 }) →
    Acts (.unitFinish h) s (if x.k + 1 < unitCount (ctxAt s x.ctx) h then u else finishSide u x.ctx h x.f)) ∧
  (∀ (h : Half) (x : RunUnit) (s : State), ready (.unitRowProcessed h) s = true → (half s h).pipe.running = some x →
    Acts (.unitRowProcessed h) s
      (modFrame s x.ctx h x.f fun r => { r with rowsDone := min (ctxAt s x.ctx).ah (r.rowsDone + 1) })) ∧
  -- messages of the other half about a span context
  (∀ (h : Half) (n : Nat) (f : Count64) (row : Nat) (px : List (BitVec 16)) (s : State),
    ready (.seamBandRowReceived h) s = true → mortarHead s h 1 = some (.seamRow n f row px) →
    Acts (.seamBandRowReceived h) s (bandArrives (mortarTake s h 1) h n f row px)) ∧
  (∀ (h : Half) (n : Nat) (f : Count64) (s : State), mortarHead s h 0 = some (.sideClosed n f) →
    ready (.spanSideClosedReceived h) s = true →
    Acts (.spanSideClosedReceived h) s
      (starve (modPart (mortarTake s h 0) n h fun p => { p with peerSides := p.peerSides ++ [f] }) n h)) ∧
  (∀ (h : Half) (n : Nat) (f : Count64) (s : State), mortarHead s h 0 = some (.fallback n f) →
    ready (.spanFallbackNotice h) s = true →
    Acts (.spanFallbackNotice h) s (fallbackNotice (mortarTake s h 0) h n f)) ∧
  (∀ (h : Half) (n t buf : Nat) (f : Count64) (s : State), mortarHead s h 0 = some (.tapWritten n t buf f) →
    ready (.spanTapWrittenReceived h) s = true → (ctxAt s n).span = true → (ctxAt s n).st ≠ .closed →
    Acts (.spanTapWrittenReceived h) s (peerTapWritten (mortarTake s h 0) n t buf f)) ∧
  (∀ (h : Half) (n : Nat) (f : Count64) (rec_ : List Byte) (s : State), mortarHead s h 2 = some (.statPartial n f rec_) →
    ready (.statPartialReceived h) s = true → (ctxAt s n).span = true → (ctxAt s n).st ≠ .closed →
    Acts (.statPartialReceived h) s
      (statMerge (modCtx (mortarTake s h 2) n fun x => { x with statPeer := x.statPeer ++ [(f, rec_)] }) n f)) ∧
  -- a trim measurement ends with the frames taken, the eyes of a retrain or a calibration, or fails
  (∀ (i : Nat) (a : Accum) (s : State), accumOf s i = some a →
    (ready (.trimMeasurementDone 1 i .frames) s = true → trimDue a 1 = true →
      Acts (.trimMeasurementDone 1 i .frames) s (measureBlackFp s i a)) ∧
    (ready (.trimMeasurementDone 2 i .frames) s = true → trimDue a 2 = true →
      Acts (.trimMeasurementDone 2 i .frames) s (measureDefects s i a))) ∧
  (∀ (i : Nat) (t v : List Int) (s : State), ready (.trimMeasurementDone 5 i (.calibration t v)) s = true →
    (trimAt s 5 i).st = .measuring →
    Acts (.trimMeasurementDone 5 i (.calibration t v)) s (calibrated s i t v)) ∧
  (∀ (h : Half) (s : State), ready (.telemetryCalPeriod h) s = true → (trimAt s 5 (halfIdx h)).auto = true →
    (trimAt s 5 (halfIdx h)).st = .idle →
    Acts (.telemetryCalPeriod h) s (beginRun s 5 (halfIdx h) none true)) ∧
  (∀ (i : Nat) (eyes : List EyeResult) (k : Nat × List Nat) (s : State), ready (.trimMeasurementDone 3 i (.eyes eyes)) s = true →
    (trimAt s 3 i).st = .measuring → (linkAt s i).retraining = some k → k.1 ≠ 0 →
    Acts (.trimMeasurementDone 3 i (.eyes eyes)) s (eyesMeasured s i (eqCodes s i) eyes)) ∧
  -- the LUT is in the bank, over what its place held, and its command completes once the other half's is too
  (∀ (h : Half) (id src serial : Nat) (big : Bool) (rest : List (Nat × Bool × Nat × Nat)) (bs : List Byte) (f : Flight)
      (s u : State), ready (.lutLoadDone h) s = true → (half s h).pipe.loading = (id, big, src, serial) :: rest →
    dramRead s h src (8 * lutNodes big) = (bs, false) →
    u = modPipe s h (fun p => { p with
      loading := rest, loadSeq := p.loadSeq + 1,
      luts := tset ((overwritten p id big).foldl (fun t k => tset t k none) p.luts) id (some {
        big, loadSeq := p.loadSeq + 1, loadId := serial, src, nodes := (numsOf 8 (lutNodes big) bs).map nodeOf }) }) →
    flightOf u serial = some f →
    Acts (.lutLoadDone h) s
      (if ∃ l ∈ (half u (otherHalf h)).pipe.loading, l.2.2.2 = serial then u
       else completeOk u f.cmd f.exec (seqOfLoad u .A serial) (seqOfLoad u .B serial) 0))

/-- The rows of the VCU complete (R320, R333, R334, R342 to R349). What a picture codes to and what the decoder reads are the
rows' operands. -/
def Obligations.VcuRowsComplete : Prop :=
  -- the next picture in coding order starts when it is held, its references are complete and its AU has room
  (∀ (n : Nat) (x : Session) (r : RateCfg) (f : Count64) (p : EncPic) (plan : List (Count64 × Nat × Bool × Bool))
      (times : List Count64) (s : State), ready (.vcuPictureStart n) s = true → x = sessAt s n → x.coding = none →
    x.cfg.decode = false → x.st = .starting ∨ x.st = .running ∨ x.st = .stopping →
    (∀ h ∈ sessHalves x, islandRuns s h .vcu = true) →
    plan = (if x.plan = [] then nextPlan x (s.staged.any fun z => decide (z.key = .vcuIrap n)) else x.plan) →
    times = (if x.plan = [] then (x.held.take plan.length).map (·.f) else x.times) →
    plan.head?.map (·.1) = some f → x.held.find? (fun q => decide (q.f = f)) = some p → x.bands = 0 →
    r = (rateSoon s n).getD {} →
    Acts (.vcuPictureStart n) s
      (if auRoom x ((encOut s x).getD {}) (roomNeeded x r (picCap r (bufferAt x r (times.headD f)))) then
         beginPicture s n plan times p
       else outputStall s n)) ∧
  -- a half's part of an unsplit picture: the AU is complete
  (∀ (n : Nat) (h : Half) (p : PartResult) (x : Session) (c : Coding) (s u : State),
    ready (.vcuPictureCoded n h p) s = true → x = sessAt s n → x.coding = some c → isSplit x = false →
    sessIn x h = true → sessHalves x = [h] → c.partA = none → c.partB = none → c.owed = 0 → islandRuns s h .vcu = true →
    u = modSess s n (fun x => { x with coding := some (if h = .A then { c with partA := some p } else { c with partB := some p }) }) →
    Acts (.vcuPictureCoded n h p) s
      (writeAu (releaseTap u n c.pic) n (if h = .A then { c with partA := some p } else { c with partB := some p }))) ∧
  -- the other half's substream reaches the lead, which merges the AU once it has both
  (∀ (n : Nat) (h : Half) (f : Count64) (p : PartResult) (c c1 : Coding) (s u : State),
    ready (.vcuSubstreamReceived h) s = true → mortarHead s h 4 = some (.substream n f p) →
    (sessAt s n).coding = some c → c.pic.f = f → 0 < c.owed → c1 = { c with owed := c.owed - 1 } →
    u = modSess (mortarTake s h 4) n (fun x => { x with coding := some c1 }) →
    Acts (.vcuSubstreamReceived h) s (if auComplete (sessAt s n) c1 then writeAu u n c1 else u)) ∧
  (∀ (n bytes : Nat) (h : Half) (f : Count64) (s : State), ready (.vcuRefBandReceived h) s = true →
    mortarHead s h 4 = some (.refBand n f bytes) →
    Acts (.vcuRefBandReceived h) s
      (modSess (mortarTake s h 4) n fun x => { x with bands := x.bands &&& ~~~ (halfCode h) })) ∧
  -- the decoder has read on, and the AU that it was in has not ended
  (∀ (n : Nat) (au : AuResult) (x : Session) (chunks : List Chunk) (marks : List (Option Count64)) (s : State),
    ready (.vcuAuDecoded n au) s = true → x = sessAt s n → mayDecode s n = true → au.read ≤ readable x →
    (∀ o ∈ au.starts, o < au.read) → au.ended = false → feedChunks x.chunks au.read au.starts = (chunks, marks) →
    Acts (.vcuAuDecoded n au) s
      (countWait (settleFlush (finishChunks (sessHalf s x) n chunks
        (modSessCounts (modSess s n fun x => { x with chunks, auMarks := x.auMarks ++ marks }) n fun k =>
          { k with syntaxErrors := satAdd k.syntaxErrors au.errors })) n) n)) ∧
  -- the next picture in output order, once it is due and a buffer is free, takes that buffer and the next output record
  (∀ (n k idx : Nat) (x : Session) (o : SessOut) (p : DecPic) (h : Half) (num : Count64) (s s1 s2 s3 s4 : State),
    ready (.vcuPictureOutput n) s = true → x = sessAt s n → nextOut x = some p → outBuffer s x p = some k →
    outputDue x = true → x.cfg.decode = true → h = sessHalf s x → o = (sessOutIn x h).getD {} → num = x.outputNumber →
    s1 = (if x.cfg.compat then s else (sessHalves x).foldl (fun s h =>
      writePic s x.cfg h (((sessOutIn x h).getD {}).base + k * ((sessOutIn x h).getD {}).size * 4096) p) s) →
    idx = num.toNat % max 1 (if x.cfg.compat then (refOf x.cfg h).2 else o.recs) →
    s2 = dramWrite s1 h (o.recBase + 256 * idx) (withCrc (picRecord n x.cfg p k num)) →
    s3 = modSess s2 n (fun x => { x with
      dpb := x.dpb.map fun e => if e.decodeNumber = p.decodeNumber ∧ e.waits then { e with waits := false } else e,
      outputNumber := num + 1, outSinceFlush := x.outSinceFlush + 1, stalled := false,
      hostBufs := if x.cfg.compat then x.hostBufs else insertUp k x.hostBufs,
      poolA := match p.poolA with
        | some i => x.poolA.modify i fun m => { m with hostHeld := true, number := num }
        | none => x.poolA,
      poolB := match p.poolB with
        | some i => x.poolB.modify i fun m => { m with hostHeld := true, number := num }
        | none => x.poolB }) →
    s4 = (if o.report then sessEvent (settleDpb s3 n) n 0x6005 0 num idx p.flags.toNat 0 else settleDpb s3 n) →
    Acts (.vcuPictureOutput n) s
      (countWait (settleFlush
        (if p.flags.getLsbD 0 then sessEvent s4 n 0x6006 1 num p.units p.flags.toNat 0 else s4) n) n))

/-- The rows of the DRAM controller complete (R356, R363 to R369, R373, R374, R377, R381 to R388). What a read's check code says,
what a sample finds, and the cycles since a rank's last refresh are the rows' operands. -/
def Obligations.DramRowsComplete : Prop :=
  -- a write to a DRAM address of a region is stored and queued; one that finds the queue full waits
  (∀ (h : Half) (r : DramReq) (p : Place) (q : SubChan) (s : State), ready (.dramRequestAccept h r) s = true →
    (islandAt s h .dram).resetting = false → (half s h).mem.selfRefresh = false → memPlace (half s h).mem r.addr = some p →
    q = subAt (tget (half s h).mem.chans p.chan) p.sub → r.write = true →
    (q.writeQ.length < 64 ∨ (∃ x ∈ q.writeQ, x.burst = r.addr) →
      Acts (.dramRequestAccept h r) s
        (modMem (modSubAt (modMem s h fun m => storeBurst m r.addr r.mask r.data) h p.chan p.sub fun b => { b with
            writeQ := queueWrite b.writeQ {
              burst := r.addr, mask := r.mask, order := (half s h).mem.nextReq, unit := r.unit, data := r.data } })
          h fun m => { m with nextReq := m.nextReq + 1 })) ∧
    (64 ≤ q.writeQ.length → (∀ x ∈ q.writeQ, x.burst ≠ r.addr) → Acts (.dramRequestAccept h r) s s)) ∧
  -- a read of a burst that the queue holds whole is answered from the queue
  (∀ (h : Half) (r : DramReq) (p : Place) (x : MemReq) (s : State), ready (.dramRequestAccept h r) s = true →
    (islandAt s h .dram).resetting = false → (half s h).mem.selfRefresh = false → memPlace (half s h).mem r.addr = some p →
    r.write = false → x ∈ (subAt (tget (half s h).mem.chans p.chan) p.sub).writeQ → x.burst = r.addr →
    x.mask = BitVec.allOnes 64 →
    Acts (.dramRequestAccept h r) s (modChan s h p.chan fun c => { c with fwdReads := satInc c.fwdReads })) ∧
  -- an issued whole-burst write leaves its queue and opens or closes its row; the choice among equal ages is a free value
  (∀ (h : Half) (k : Nat) (sub : Bool) (e : EccResult) (q : MemReq) (p : Place) (s s0 : State) (m : HalfMem) (b0 : SubChan),
    ready (.dramCommandIssue h k sub e) s = true → (islandAt s h .dram).resetting = false → m.selfRefresh = false →
    s0 = (fresh s).2 → m = (half s h).mem → b0 = subAt (tget m.chans k) sub →
    nextIssue m (tget m.chans k) b0 (Config.freeBool (fresh s).1) = some (q, true) → memPlace m q.burst = some p →
    q.mask = BitVec.allOnes 64 →
    Acts (.dramCommandIssue h k sub e) s
      (modRank (modSubAt s0 h k sub fun b =>
        let left := b.writeQ.filter fun x => decide (x.order ≠ q.order)
        { b with
          writeQ := left, draining := drains { b with writeQ := left, draining := drains b }
          banks := putBank b.banks (accessBank (tget m.chans k).policy.page p.row (bankOf b0 p)) }) h k p.rank
        fun r => { r with powerDown := false })) ∧
  (∀ (h : Half) (k r cycles : Nat) (s u : State), ready (.refreshIssue h k r cycles) s = true →
    (islandAt s h .dram).resetting = false → (half s h).mem.selfRefresh = false → rankThere s h k r = true →
    u = passCycles s h k r cycles → (tget (chanAt u h k).rank r).repay ≠ none →
    Acts (.refreshIssue h k r cycles) s (issueRefresh u h k r)) ∧
  -- at the debt limit the rank starts to repay
  (∀ (h : Half) (k r d : Nat) (s : State), ready (.refreshDebtLimit h k r) s = true →
    (islandAt s h .dram).resetting = false → (half s h).mem.selfRefresh = false → rankThere s h k r = true →
    (tget (chanAt s h k).rank r).repay = none →
    d = max (tget (chanAt s h k).rank r).debt (debtLimit (half s h).mem (chanAt s h k) r) →
    Acts (.refreshDebtLimit h k r) s
      (startRepay (modChan s h k fun c => notePeakDebt { c with rank := tmod c.rank r fun x => { x with debt := d } } d) h k r)) ∧
  -- a reading that changes nothing is only taken
  (∀ (h : Half) (k r cycles : Nat) (t : Mr4Temp) (s u : State) (x y : RankRefresh), ready (.mr4Poll h k r t cycles) s = true →
    (islandAt s h .dram).resetting = false → (half s h).mem.selfRefresh = false → rankThere s h k r = true →
    u = passCycles s h k r cycles → x = tget (chanAt u h k).rank r → y = mr4Rank t x →
    (x.hot = y.hot → x.limited = y.limited → Acts (.mr4Poll h k r t cycles) s (modRank u h k r fun _ => y)) ∧
    (x.hot = false → y.hot = true → x.limited = y.limited →
      Acts (.mr4Poll h k r t cycles) s
        (startRepay (chanEvent (modRank u h k r fun _ => y) h k 0x7005 0 noPoint r 1 0) h k r)) ∧
    (x.hot = true → y.hot = false → x.limited = y.limited →
      Acts (.mr4Poll h k r t cycles) s (chanEvent (modRank u h k r fun _ => y) h k 0x7005 0 noPoint r 0 0))) ∧
  -- a clearing is counted, then come the commits that wait for it and its work
  (∀ (h : Half) (k : Nat) (sub : Bool) (r : ClearResult) (s : State), (islandAt s h .dram).resetting = false →
    (half s h).mem.selfRefresh = false → usable (chanAt s h k) = true → clearingNeeded s h k sub = true →
    (ready (.clearingMade h k sub r) s = true →
      Acts (.clearingMade h k sub r) s (clearWork (commitDomain4 (countClearing s h) h k sub) h k sub r)) ∧
    (ready (.clearingFound h k sub r) s = true → (subAt (chanAt s h k) sub).readQ = [] →
      (subAt (chanAt s h k) sub).writeQ = [] →
      Acts (.clearingFound h k sub r) s (clearWork (commitDomain4 (countClearing s h) h k sub) h k sub r))) ∧
  -- a sample is two clearings; where it proposes no change the drift alone is kept
  (∀ (h : Half) (k : Nat) (xs : List SubSample) (s u : State), ready (.retrainSample h k xs) s = true →
    (islandAt s h .dram).resetting = false → (half s h).mem.selfRefresh = false → usable (chanAt s h k) = true →
    (trimAt s 4 (devChan h k)).auto = true → (chanAt s h k).policy.track = true →
    (trimAt s 4 (devChan h k)).st ≠ .measuring →
    u = modChan (countClearing (countClearing s h) h) h k
      (fun c => { c with oscDrift := BitVec.ofNat 16 (min (largestDrift xs) 0xFFFF) }) →
    propose (recsInForce (half u h).mem (chanAt s h k)) xs = recsInForce (half u h).mem (chanAt s h k) →
    Acts (.retrainSample h k xs) s u) ∧
  -- the scrub reads the burst at its pointer, and the end of a pass is reported with its correctable errors
  (∀ (h : Half) (k : Nat) (e : EccResult) (c : Chan) (a : Option Nat) (s : State), ready (.patrolScrubRead h k e) s = true →
    (islandAt s h .dram).resetting = false → (half s h).mem.selfRefresh = false → c = chanAt s h k → usable c = true →
    c.scrubPtr < chanBursts c → a = ofChan (half s h).mem k (c.scrubPtr * 64) →
    Acts (.patrolScrubRead h k e) s
      (readBurst (modChan s h k fun c => { c with scrubPtr := c.scrubPtr + 1 }) h a
        (placeIn c k ((a.map (orderAt (half s h).mem)).getD 1) (decide (c.scrubPtr * 64 / 64 % 2 = 1)) (c.scrubPtr * 64 / 128))
        e true 0)) ∧
  (∀ (h : Half) (k : Nat) (s : State), ready (.memScrubPass h k) s = true → (islandAt s h .dram).resetting = false →
    (half s h).mem.selfRefresh = false → usable (chanAt s h k) = true → chanBursts (chanAt s h k) ≤ (chanAt s h k).scrubPtr →
    Acts (.memScrubPass h k) s
      (chanEvent (modChan s h k fun c => { c with
          scrubPtr := 0, scrubPasses := c.scrubPasses + 1, ceInPass := Vector.replicate 4 0, ueInPass := 0 })
        h k 0x700D 0 noPoint ((chanAt s h k).ceInPass.toList.sum) (chanAt s h k).ueInPass 0)) ∧
  (∀ (h : Half) (k r : Nat) (c : Option Cmd) (s : State), ready (.rankSpareCopyDone h k) s = true →
    (islandAt s h .dram).resetting = false → (half s h).mem.selfRefresh = false → (chanAt s h k).sparing = some (r, c) →
    ClearWork.spare r ∉ (chanAt s h k).sub0.work → ClearWork.spare r ∉ (chanAt s h k).sub1.work →
    Acts (.rankSpareCopyDone h k) s (modChan s h k fun c => { c with
      sub0 := { c.sub0 with work := c.sub0.work ++ [.spare r] }, sub1 := { c.sub1 with work := c.sub1.work ++ [.spare r] } })) ∧
  (∀ (h : Half) (k : Nat) (s : State), ready (.dramInitDone h k) s = true → (islandAt s h .dram).resetting = false →
    (half s h).mem.selfRefresh = false → usable (chanAt s h k) = true → (half s h).ident.memReady = true →
    Acts (.dramInitDone h k) s (modChan s h k fun c => { c with initDone := true, initMark := chanBursts c })) ∧
  (∀ (h : Half) (k r : Nat) (s : State), ready (.powerDownEntry h k r) s = true → (islandAt s h .dram).resetting = false →
    (half s h).mem.selfRefresh = false → rankThere s h k r = true → rankQueued (half s h).mem (chanAt s h k) r = false →
    (∀ b ∈ [(chanAt s h k).sub0, (chanAt s h k).sub1], ∀ x ∈ b.banks, x.key / 32 = r → x.rowOpen = false) →
    (tget (chanAt s h k).rank r).repay = none →
    Acts (.powerDownEntry h k r) s (modRank s h k r fun x => { x with powerDown := true })) ∧
  -- power-on training: the channels, their repairs and the default map; after a warm reset the DIMMs leave self-refresh
  (∀ (h : Half) (chans : List ChanTraining) (s : State), ready (.dramTrainingDone h chans) s = true →
    (half s h).ident.bootStage = 3 →
    ((half s h).mem.selfRefresh = true →
      Acts (.dramTrainingDone h chans) s (memReady (modMem s h fun m => { m with selfRefresh := false }) h)) ∧
    (∀ m1 : HalfMem, (half s h).mem.selfRefresh = false → tget s.sys.saved (halfIdx h) = none →
      m1 = { (half s h).mem with
        stored := false, set := 0,
        chans := Vector.ofFn fun i => match chans.find? fun (t : ChanTraining) => decide (t.chan = i.val) with
          | some t => trainedChan (tget (half s h).mem.chans i.val) t []
          | none => { policy := (tget (half s h).mem.chans i.val).policy } } →
      Acts (.dramTrainingDone h chans) s
        (memReady (reportExcluded h chans (modMem s h fun _ => { m1 with regions := defaultMap m1 })) h))) ∧
  -- a commanded change to a set that is trained: the channels drain and commit, the set is in force, and its command completes
  (∀ (h : Half) (set : Nat) (tr : List TimingRecIn) (m : HalfMem) (f : FreqChange) (c : Cmd) (ks : List Nat) (s u v : State),
    ready (.memFreqChanged h set tr) s = true → m = (half s h).mem → (half s h).ident.memReady = true →
    m.selfRefresh = false → (islandAt s h .dram).resetting = false → m.freq = some f → f.newSet = set → f.cmd = some c →
    setTrained m set = true → ks = usableChans m →
    u = ks.foldl (fun s k => commitChan s h k) (countClearing (ks.foldl (fun s k => drainChan s h k) s) h) →
    v = event (ks.foldl (fun s k => restartSweep s h k set) (modMem u h fun m => { m with set := BitVec.ofNat 2 set, freq := none }))
      h 0x7008 0 0x71 (halfIdx h) (clearingsOf u h) m.set.toNat set 0 →
    Acts (.memFreqChanged h set tr) s
      (completeOk (modMem v h fun m => { m with hold := pb c 2 2 }) c h (lo32 (clearingsOf u h).toNat) 0 0))

/-- The rows of the viewfinder complete (R416, R417, R419, R421 to R426). -/
def Obligations.ViewfinderRowsComplete : Prop :=
  -- an edge ends a loss of edges, and is divided before it acts
  (∀ (o : Nat) (s u : State), ready (.teEdge o) s = true → edgesCount s o = true →
    u = (if (outAt s o).teLost then vfEvent (modOut s o fun x => { x with teLost := false }) o 0x8003 1 0 0 0 else s) →
    Acts (.teEdge o) s
      (if (outAt u o).divCount + 1 < (outAt u o).cfg.teDiv then modOut u o fun x => { x with divCount := x.divCount + 1 }
       else vfEdge (modOut u o fun x => { x with divCount := 0 }) o)) ∧
  -- without an edge for TE_TIMEOUT the loss is reported once, and a synthetic edge acts
  (∀ (o : Nat) (s : State), ready (.vfTeLost o) s = true → edgesCount s o = true →
    Acts (.vfTeLost o) s
      (vfEdge (if (outAt s o).teLost then s else vfEvent (modOut s o fun x => { x with teLost := true }) o 0x8003 1 1 0 0) o)) ∧
  -- the image is written and checked; then its changed tiles are pushed, unless the output is frozen or nothing changed
  (∀ (o : Nat) (z : VfSource) (fr : VfFrame) (img : Array Nat) (sigs : List Word) (s u : State)
      (rects : List (Nat × Nat × Nat × Nat)), ready (.vfRenderDone o) s = true → (outAt s o).phase = .rendering →
    (outAt s o).src = some z → (outAt s o).frame = some fr →
    img = panelImage (outAt s o).cfg (yuvOf s z fr (outHalf o)) fr.ycc fr.full → sigs = tileSigs (outAt s o).cfg img →
    u = (List.range 8).foldl (runCheck o img)
      (modOut (writePanel s (outHalf o) (outAt s o).cfg img) o fun x => { x with newSigs := sigs }) →
    rects = pushRects (outAt s o).cfg (outAt u o).sigs sigs (outAt u o).fullDue →
    Acts (.vfRenderDone o) s
      (if (outAt u o).frozen = true ∨ rects = [] ∨ s.pair.role = 2 ∨ s.pair.fenced = true then endUpdate u o
       else releaseVf (modOut u o fun x => { x with
         phase := .pushing, rects, sent := rects.flatMap (rectPkts (outAt s o).cfg img) }) (outHalf o))) ∧
  -- the pushed tiles' signatures become their reference, and the push is counted
  (∀ (o : Nat) (x : VfOut) (s : State), ready (.vfPushDone o) s = true → x = outAt s o → x.phase = .pushing →
    Acts (.vfPushDone o) s
      (endUpdate (modOut s o fun y => { y with
        sigs := (List.range x.newSigs.length).map fun i =>
          if tilePushed x.cfg x.rects i then x.newSigs.getD i 0 else x.sigs.getD i 0
        fullDue := false, pushes := satInc x.pushes, lastRects := BitVec.ofNat 4 x.rects.length
        lastBytes := BitVec.ofNat 32 ((x.sent.map pktBytes).sum), lastFrame := (x.frame.map (·.f)).getD noPoint
        rects := [] }) o)) ∧
  (∀ (o : Nat) (s : State), ready (.vfSourceArmed o) s = true →
    Acts (.vfSourceArmed o) s (modOut s o fun x => { x with staged := armNext x.staged })) ∧
  -- a half sends its part of a source's frame to the other half, which keeps it in a free peer buffer
  (∀ (h : Half) (z : VfSource) (fr : VfFrame) (s : State), ready (.vfPeerFrameSend h) s = true → toSend s h = some (z, fr) →
    mortarUp s = true → vfRuns s (otherHalf h) = true → peerFree s (otherHalf h) z.serial ≠ none →
    islandRuns s h .viewfinder = true →
    Acts (.vfPeerFrameSend h) s
      (mortarQueue (modVfe s h fun e => { e with sent := some (z.serial, fr.f) }) h
        (.vfFrame fr ((List.range fr.h).flatMap (ownRow s z fr h))))) ∧
  (∀ (h : Half) (z : VfSource) (fr : VfFrame) (data : List Byte) (k l n : Nat) (s u : State),
    ready (.vfPeerFrameReceived h) s = true → mortarHead s h 3 = some (.vfFrame fr data) → sourceOf s fr.serial = some z →
    peerFree s h fr.serial = some k → u = mortarTake s h 3 → framePart u z fr (otherHalf h) = (l, n) →
    Acts (.vfPeerFrameReceived h) s
      (putRows (modVfe u h fun e => { e with peer := tset e.peer k (some { fr with buf := none }) }) h
        (peerBase z h + k * peerBytes + yuvBytes l) (yuvBytes n) fr.h data 0)) ∧
  (∀ (o : Nat) (c : Cmd) (k : VfCfg) (rest : List VfJob) (s : State), ready (.vfLinkRestartDone o) s = true →
    (outAt s o).phase = .restarting → (outAt s o).jobs = .config c k :: rest →
    Acts (.vfLinkRestartDone o) s (pump (applyCfg s o c k) o)) ∧
  -- the packet's delay has passed: the next packet of the sequence is sent, or the command completes
  (∀ (o : Nat) (c : Cmd) (p q : PanelPkt) (t : List PanelPkt) (rest : List VfJob) (s : State),
    (outAt s o).phase = .sequence → ready (.panelSequenceDelayExpiry o) s = true →
    ((outAt s o).jobs = .sequence c [p] :: rest →
      Acts (.panelSequenceDelayExpiry o) s
        (pump (completeOk (modOut s o fun y => { y with jobs := rest, phase := .idle }) c (outHalf o) 0 0 0) o)) ∧
    ((outAt s o).jobs = .sequence c (p :: q :: t) :: rest →
      Acts (.panelSequenceDelayExpiry o) s
        (modOut s o fun y => { y with jobs := .sequence c (q :: t) :: rest, sent := [q] })))

/-- The rows of audio complete (R433, R436, R438 to R440, R442 to R444). -/
def Obligations.AudioRowsComplete : Prop :=
  (∀ (p gap : Nat) (l r : Int) (s : State), islandRuns s (audHalf p) .audio = true →
    (ready (.audioFrame p l r (.ok gap)) s = true → Acts (.audioFrame p l r (.ok gap)) s (audValid s p l r false gap)) ∧
    (ready (.audioFrame p l r .offRate) s = true → Acts (.audioFrame p l r .offRate) s (audValid s p l r true 0)) ∧
    (ready (.audioFrame p l r (.glitch gap)) s = true → canFault s p = true →
      Acts (.audioFrame p l r (.glitch gap)) s ((clockGroup s p).foldl (audGlitch gap) s))) ∧
  -- a clock stop is a stop of every port that uses the clock
  (∀ (p : Nat) (s : State), ready (.clockStop p) s = true → canFault s p = true → islandRuns s (audHalf p) .audio = true →
    Acts (.clockStop p) s ((clockGroup s p).foldl clockStopped s)) ∧
  -- a port that runs, alone on its clock, and has measured 256 frames takes the rate measured
  (∀ (p hz gap : Nat) (s : State), ready (.rateChange p hz gap) s = true → islandRuns s (audHalf p) .audio = true →
    clockGroup s p = [p] → (portAt s p).st = .running → (portAt s p).phase = .measuring → 256 ≤ (portAt s p).measured →
    Acts (.rateChange p hz gap) s
      (audEvent (markHere (modPort s p fun x => { x with
          rate := hz, rateChanges := satInc x.rateChanges, phase := .silent
          causes := x.causes.filter fun k => decide (k ≠ 0x14) }) p 0x14 (hz * 2 ^ 32 + gap32 gap))
        p 0x9003 1 (portAt s p).sampleCount hz 0 0)) ∧
  (∀ (h : Half) (phases : List (Nat × Nat)) (n : Nat) (number : Count64) (s : State), ready (.remoteLatch h phases) s = true →
    mortarHead s h 0 = some (.remoteLatch n number) →
    Acts (.remoteLatch h phases) s
      ((portsOf h).foldl (fun u p => latchPort n number true
        (((phases.find? fun x => decide (x.1 = p)).map (·.2)).getD 0 % 2 ^ 16) u p) (mortarTake s h 0)))

/-- The rows of the host links and of the resets they bring complete (R68, R393, R395, R478, R482). Which of two half resets
within 1 ms makes a warm reset is a free value while the other half is in reset (log entry 3). -/
def Obligations.HostResetRowsComplete : Prop :=
  (∀ (h : Half) (s : State), ready (.pcieDlDown h) s = true → (half s h).ep.gen ≠ 0 →
    Acts (.pcieDlDown h) s (portDown s h)) ∧
  (∀ (h : Half) (s : State), ready (.flr h) s = true → inWider s h = false → (half s h).ep.perstHigh = true →
    Acts (.flr h) s (hostGone s h epFlr)) ∧
  (∀ (h : Half) (s u : State), ready (.perstAssert h) s = true → (half s h).ep.perstHigh = true →
    u = modEp s h (fun p => { p with perstHigh := false }) →
    Acts (.perstAssert h) s (if inWider s h then modEp u h epPerst else portDown u h)) ∧
  (∀ (h : Half) (s : State), ready (.perstRelease h) s = true →
    Acts (.perstRelease h) s (modEp s h fun p => { p with perstHigh := true, everReleased := true })) ∧
  (∀ (h : Half) (s : State), ready (.keystoneFault h) s = true → inWider s h = false →
    ((half s (otherHalf h)).sys.inReset = false → Acts (.keystoneFault h) s (halfResetWork s h 3)) ∧
    ((half s (otherHalf h)).sys.inReset = true →
      Acts (.keystoneFault h) s
        (if Config.freeBool (fresh s).1 then bootGo (warmReset (fresh s).2 7) else halfResetWork (fresh s).2 h 3)))

/-- The rows of the pair's heartbeats, claims and ends complete (R453 to R455, R462, R463, R465, R466, R469, R471). -/
def Obligations.PairRowsComplete : Prop :=
  (∀ (live : Word) (s : State), ready (.heartbeatSend live) s = true → s.pair.enable = true → s.pair.portsUp ≠ 0 →
    Acts (.heartbeatSend live) s (modPair s fun p => { p with
      out := [], liveSent := live, stall := if live = p.liveSent then p.stall + 1 else 0 })) ∧
  -- a heartbeat is noted; one of a newer epoch deposes an active, and a good one keeps a formed pair's peer alive
  (∀ (b : Heartbeat) (s u : State), ready (.heartbeatReceived b) s = true → s.pair.enable = true →
    u = modPair s (fun p => noteBeat p b) →
    (s.pair.formed = false → u.pair.formed = false → Acts (.heartbeatReceived b) s (tryForm u)) ∧
    (u.pair.formed = true → u.pair.role = 1 → u.pair.epoch.toNat < b.epoch.toNat →
      Acts (.heartbeatReceived b) s (depose u b.epoch)) ∧
    (u.pair.formed = true → u.pair.role = 1 → u.pair.claim = 0 → b.epoch.toNat ≤ u.pair.epoch.toNat → u.pair.fenced = false →
      s.pair.peerSeen = true → b.live ≠ s.pair.peerLive →
      Acts (.heartbeatReceived b) s (modPair u fun p => beatOfMirror p b))) ∧
  -- a period with a good heartbeat ends the run of missed ones
  (∀ s : State, ready .heartbeatPeriodEnd s = true → s.pair.enable = true → s.pair.formed = true → s.pair.peerSeen = true →
    s.pair.hbSwap = false →
    (s.pair.hbGood = true →
      Acts .heartbeatPeriodEnd s (modPair s fun p => { p with
        hbMissed := 0, swapPeriods := 0, hbGood := false, hbSwap := false, pulseSeen := false
        firings := agedFirings p.firings, fired := agedFirings p.fired })) ∧
    (s.pair.hbGood = false → (satMissed s.pair.hbMissed).toNat < s.pair.hbMiss →
      Acts .heartbeatPeriodEnd s (modPair s fun p => { p with
        hbMissed := satMissed p.hbMissed, swapPeriods := 0, hbGood := false, hbSwap := false, pulseSeen := false
        firings := agedFirings p.firings, fired := agedFirings p.fired })) ∧
    (s.pair.hbGood = false → s.pair.hbMiss ≤ (satMissed s.pair.hbMissed).toNat →
      Acts .heartbeatPeriodEnd s
        (modPair (missedOut (modPair s fun p => { p with hbMissed := satMissed p.hbMissed, swapPeriods := 0 })) fun p => { p with
          hbGood := false, hbSwap := false, pulseSeen := false
          firings := agedFirings p.firings, fired := agedFirings p.fired }))) ∧
  -- a device whose firmware stands still for four heartbeats fences itself: it loses its outputs and its pulses
  (∀ s : State, ready .livenessFence s = true → s.pair.enable = true → s.pair.fenced = false → 4 ≤ s.pair.stall →
    Acts .livenessFence s (modPair s fun p => { p with fenced := true, own := false, pulses := false, fenceCause := 0 })) ∧
  (∀ s : State, ready .pairArbPulse s = true → s.pair.pulses = false →
    Acts .pairArbPulse s (modPair s fun p => { p with pulseSeen := true })) ∧
  -- the wire held low deposes an active or a claimant; a shorter low spoils a claim that waits
  (∀ s : State, s.pair.arbDriven = false →
    (ready (.pairArbLowSeen true) s = true → s.pair.role = 1 ∨ s.pair.claim ≠ 0 →
      Acts (.pairArbLowSeen true) s (depose s s.pair.epoch)) ∧
    (ready (.pairArbLowSeen false) s = true → s.pair.claim = 1 →
      Acts (.pairArbLowSeen false) s (modPair s fun p => { p with claimSpoiled := true }))) ∧
  (∀ s : State, ready .claimWaitEnd s = true → s.pair.claim = 1 →
    Acts .claimWaitEnd s
      (if s.pair.claimSpoiled then depose s s.pair.epoch else modPair s fun p => { p with claim := 2, arbDriven := true })) ∧
  -- the claimant releases the wire: low, it is deposed; high, it takes over, or becomes the active of a pair that forms
  (∀ (high : Bool) (cycles : Nat) (s u : State), ready (.claimDriveEnd high cycles) s = true → s.pair.claim = 2 →
    u = modPair s (fun p => { p with arbDriven := false }) →
    Acts (.claimDriveEnd high cycles) s
      (if high = false then depose u s.pair.epoch
       else if s.pair.st = .takingOver then takeover u cycles else becomeActive u s.pair.claimEpoch)) ∧
  (∀ (h : Half) (rq : BitVec 2) (e : Word) (act same comp : Bool) (s : State),
    ready (.pairPortTrained h rq e act same comp) s = true →
    Acts (.pairPortTrained h rq e act same comp) s
      (tryForm (modPair s fun p => { p with
        portsUp := p.portsUp ||| halfCode h, peerRequest := rq, peerEpoch := e, sameDram := same, compatible := comp
        peerRole := if act then 1 else p.peerRole }))) ∧
  (∀ (c : Cmd) (s : State), ready .switchoverDrainEnd s = true → s.pair.draining = true → s.pair.cmd = some c →
    Acts .switchoverDrainEnd s
      (modPair (completeOk s c (cmdHalf s c) 0 0 0) fun p => { p with
        draining := false, cmd := none, fenced := true, own := false, pulses := false, fenceCause := 2 })) ∧
  (∀ (h : Half) (s : State), ready (.pairLinkReplayRequest h) s = true → s.pair.portsUp &&& halfCode h ≠ 0 →
    Acts (.pairLinkReplayRequest h) s (modPair s fun p => { p with linkReplays := satInc p.linkReplays }))

/-- The rows of mirror records and their acknowledgements complete (R456 to R461): a mirror that has the active's configuration
applies each record as it comes. -/
def Obligations.MirrorRowsComplete : Prop :=
  -- ACCEPT copies the command's input regions, and its tag enters the table
  (∀ (r : AcceptRec) (s : State), ready (.accept r) s = true → s.pair.role = 2 → s.pair.st = .paired →
    Acts (.accept r) s
      (modPair (r.regions.foldl (fun u x => dramWrite u x.1 x.2.1 x.2.2) s) fun p => { p with
        tags := p.tags.filter (fun t => !isTag r.cmd.recv r.cmd.tag t) ++
          [{ cmd := { r.cmd with serial := 0 }, op := r.op, tables := r.tables }] })) ∧
  -- APPLY records the outcome; a mirrored command that succeeded makes the same changes here, once
  (∀ (c : Completion) (t : PairTag) (s u : State), ready (.apply c) s = true → s.pair.role = 2 → s.pair.st = .paired →
    u = modTag s c.recv c.tag (fun t => { t with apply := some c }) → u.pair.tags.find? (isTag c.recv c.tag) = some t →
    Acts (.apply c) s
      (if (c.status = stOk ∨ c.status = stOkDeferred) ∧ t.ran = false ∧ activeOnly t.op t.cmd = false ∧
          deviceLocal t.op t.cmd = false then
         runSilent u t ((halfOfCode c.exec.toNat).getD (leadHalf u))
       else u)) ∧
  (∀ (h : Half) (tag : BitVec 16) (s : State), s.pair.role = 2 → s.pair.st = .paired →
    (ready (.posted h tag true) s = true → Acts (.posted h tag true) s (dropTag s h tag)) ∧
    (ready (.posted h tag false) s = true →
      Acts (.posted h tag false) s (modTag s h tag fun t => { t with posted := true })) ∧
    (ready (.stage h tag) s = true → Acts (.stage h tag) s (modTag s h tag fun t => { t with staged := true }))) ∧
  -- EFFECT: the change that waits here takes the active's point; a tag that has made its final report leaves the table
  (∀ (h : Half) (tag : BitVec 16) (point : Count64) (n : Nat) (t : PairTag) (s u : State),
    ready (.effect h tag point n) s = true → s.pair.role = 2 → s.pair.st = .paired → s.pair.tags.find? (isTag h tag) = some t →
    u = (if point = noPoint then unstageSilent s t
         else if isSilent s t.cmd.serial then modPair s fun p => { p with effects := p.effects ++ [(h, tag, point)] } else s) →
    Acts (.effect h tag point n) s (if t.posted = true ∧ t.cmd.notify = false then dropTag u h tag else u)) ∧
  -- what the active has admitted may be admitted here, and the lag is the record's
  (∀ (n cycles : Nat) (h : Half) (f : Count64) (s : State), ready (.admitFrame n h f cycles) s = true → s.pair.role = 2 →
    s.pair.st = .paired →
    Acts (.admitFrame n h f cycles) s
      (modPair s fun p => { p with admits := p.admits ++ [(n, h, f)], mirrorLag := BitVec.ofNat 32 cycles })) ∧
  -- FRAME: this device's frame of the same SENSOR_FN takes the active's number and mark, and the stream is covered from it
  (∀ (n : Nat) (fn : Word) (number : Count64) (mark : Option Count64) (w : WFrame) (s : State),
    ready (.frame n fn number mark) s = true → s.pair.role = 2 → s.pair.st = .paired →
    (streamAt s n).writing.find? (fun w => decide (w.carried = fn) && w.given.isNone) = some w →
    Acts (.frame n fn number mark) s
      (setCover (modStream s n fun x => { x with
        frame := if x.frame = some w.number then some number else x.frame
        writing := x.writing.map fun v => if v.number = w.number then { v with given := some (number, mark) } else v })
        n true number)) ∧
  -- a trigger's firing, and the freeze or the release of a segment, are the active's
  (∀ (k : Nat) (t : Count64) (s : State), ready (.segment (.trigger k t)) s = true → s.pair.role = 2 → s.pair.st = .paired →
    (∀ e ∈ s.pair.firings, e.1 ≠ k) →
    Acts (.segment (.trigger k t)) s (applyFiring (modPair s fun p => { p with fired := p.fired ++ [(k, 0, t)] }) k t)) ∧
  (∀ (n : Nat) (last : Count64) (g : Segment) (s : State), ready (.segment (.freeze n last)) s = true → s.pair.role = 2 →
    s.pair.st = .paired →
    (ringOf s n).segs.find? (fun g => decide (g.st ≠ .frozen) && g.frames.any fun f => decide (f.number = last)) = some g →
    Acts (.segment (.freeze n last)) s (freezeSeg s n g.number false)) ∧
  (∀ (n : Nat) (number : Word) (g : Segment) (s : State), ready (.segment (.release n number)) s = true → s.pair.role = 2 →
    s.pair.st = .paired → (frozenSegs (ringOf s n)).find? (fun g => decide (g.number = number)) = some g →
    Acts (.segment (.release n number)) s (releaseSeg s n g 0)) ∧
  -- TRIM: arrays and maps are written at the same addresses, and the values wait for their frame
  (∀ (r : TrimRec) (s : State), ready (.trim r) s = true → s.pair.role = 2 → s.pair.st = .paired →
    Acts (.trim r) s
      (modPair (r.data.foldl (fun u x => dramWrite u (trimHalf s r.dom r.stream) x.1 x.2) s) fun p => { p with
        trims := p.trims ++ [r] })) ∧
  -- an acknowledgement lets the accepted command start, or its reports go out
  (∀ (h : Half) (tag : BitVec 16) (f : Flight) (s : State), ready (.mirrorAckReceived h tag) s = true →
    liveFlight s h tag = some f →
    Acts (.mirrorAckReceived h tag) s
      (if f.awaitsAck then modFlight s f.cmd.serial fun f => { f with awaitsAck := false }
       else releaseHeld s fun r => decide (heldSerial r = f.cmd.serial))) ∧
  (∀ (recs : List MirrorRec) (s : State), ready (.snapshotApplied recs) s = true → s.pair.role = 2 → s.pair.st = .syncing →
    Acts (.snapshotApplied recs) s
      (recs.foldl applyRec (modPair s fun p => { forgetActive p with st := .paired, gating := true }))) ∧
  -- a frame whose FRAME record has not come takes this device's own count, and the stream is not covered from then on
  (∀ (n : Nat) (w : WFrame) (number : Count64) (s : State), ready (.mirrorFrameTimeout n) s = true → s.pair.role = 2 →
    (streamAt s n).writing.find? (fun w => w.closed && w.given.isNone) = some w →
    number = ((streamAt s n).lastStored.map (· + 1)).getD w.number →
    Acts (.mirrorFrameTimeout n) s
      (setCover (modStream s n fun x => { x with
        writing := x.writing.map fun v => if v.number = w.number then { v with given := some (number, w.mark) } else v })
        n false number))

/-- The rows of firmware images and of flash complete (R50, R472, R473, R486, R541). -/
def Obligations.FirmwareRowsComplete : Prop :=
  -- the image stands in the STAGE regions and SWAP is set, or the swap ends
  (∀ (ok : Bool) (w : LiveSwap) (image : List Byte) (s : State), ready (.fwStageCopyDone ok) s = true → s.sys.swap = some w →
    w.step = 1 → image = s.sys.flash.readBytes flashDefault (bankBase (idleBank s w.half)) (2 ^ 24) →
    Acts (.fwStageCopyDone ok) s
      (if ok then
         modPair (modSwap (dramWrite (dramWrite s .A w.stageA image) .B w.stageB image) fun w => { w with step := 2 })
           fun p => { p with swap := true }
       else complete (modDev s fun d => { d with swap := none }) w.cmd w.half stDataCorrupt 0xA9 0xFFFF 0 0 0)) ∧
  (∀ (w : LiveSwap) (s : State), ready .fwSwapClearing s = true → s.sys.swap = some w → w.step = 2 →
    s.a.ident.cmdReady = true → s.b.ident.cmdReady = true → commitDue s = false →
    Acts .fwSwapClearing s (countClearing (countClearing (modSwap s fun w => { w with step := 3 }) .A) .B)) ∧
  -- the new image runs; with PERSIST the boot selector is written before the command completes
  (∀ (img : ImageInfo) (cycles : Nat) (w : LiveSwap) (s u : State), ready (.fwSwapDone img cycles) s = true →
    s.sys.swap = some w → w.step = 3 →
    u = swapReports (modPair (modDev s fun d => { d with swap := none }) fun p => { p with swap := false }) w →
    Acts (.fwSwapDone img cycles) s
      (let new := fun (i : Ident) => { i with
         fwMajor := img.major, fwMinor := img.minor, fwPatch := img.patch, fwBank := idleBank s w.half }
       let v := modIdent (modIdent u .A new) .B new
       if w.persist then queueJob v (selectorJob s w.cmd w.half (BitVec.ofNat 32 cycles))
       else completeOk v w.cmd w.half (BitVec.ofNat 32 cycles) 0 0)) ∧
  -- a piece is programmed and read back: the next piece follows, or the command completes
  (∀ (ok : Bool) (j : FlashJob) (t : List FlashJob) (a : Nat) (bs : List Byte) (rest : List (Nat × List Byte)) (s : State),
    ready (.qspiProgramDone ok) s = true → s.sys.jobs = j :: t → j.busy = true → j.pieces = (a, bs) :: rest →
    Acts (.qspiProgramDone ok) s
      (flashGo (if ok = false then
          complete (modDev (pieceFailed s j a) fun d => { d with jobs := t }) j.cmd j.half stHwFault 0xB4 0xFFFF 0 0 0
        else if rest = [] then
          completeOk (modDev (pieceWritten s j a bs) fun d => { d with jobs := t }) j.cmd j.half j.res0 0 0
        else modDev (pieceWritten s j a bs) fun d => { d with jobs := { j with pieces := rest, busy := false } :: t }))) ∧
  (∀ (img : ImageCheck) (c : Cmd) (h : Half) (t : List (Cmd × Half)) (s u : State), ready (.imageCheckDone img) s = true →
    s.sys.verifyCmd = (c, h) :: t → u = modDev s (fun d => { d with verifyCmd := t }) →
    Acts (.imageCheckDone img) s
      (if imageCause img = 0 then completeOk (markBank u (idleBank s h) 1) c h 0 0 0
       else complete (markBank u (idleBank s h) 2) c h stDataCorrupt 0xA9 0xFFFF 0 0 0))

/-- The rows of boot and of resets of the device complete (R480 to R485, R488 to R490, R493). -/
def Obligations.BootRowsComplete : Prop :=
  (∀ (halfId pairId : Bool) (s : State), Acts (.powerOn halfId pairId) s (bootGo (powerOn s halfId pairId))) ∧
  (∀ s : State, ready .warmResetNAssert s = true → s.sys.warmHeld = false →
    Acts .warmResetNAssert s (warmReset (modDev s fun d => { d with warmHeld := true }) 2)) ∧
  (∀ s : State, ready .warmResetNRelease s = true →
    Acts .warmResetNRelease s (bootGo (modDev s fun d => { d with warmHeld := false }))) ∧
  -- DEV_RESET's delay ends: a warm reset of the device, or a reset of one half
  (∀ (k : BitVec 2) (t : List (BitVec 2)) (s u : State), ready .devResetDelayExpiry s = true → s.sys.devReset = k :: t →
    u = modDev s (fun d => { d with devReset := t }) →
    Acts .devResetDelayExpiry s
      (if k = 0 then warmStart u 1 else if k = 1 then halfReset u .A 1 else halfReset u .B 1)) ∧
  (∀ (h : Half) (s : State), ready (.devWatchdog h) s = true → inWider s h = false →
    Acts (.devWatchdog h) s
      (halfReset (modSys (event s h 0x0036 3 0x71 (halfIdx h) noPoint 0 0 0) h fun x => { x with watchdogs := satInc x.watchdogs })
        h 4)) ∧
  -- a boot ROM finds the image good, or refuses the bank
  (∀ (h : Half) (img : ImageCheck) (s : State), ready (.bootImageVerified h img) s = true → (half s h).sys.inReset = false →
    (half s h).ident.bootStage = 0 → imageAtHand s h = true →
    (imageCause img = 0 → Acts (.bootImageVerified h img) s (imageGood s h)) ∧
    (imageCause img ≠ 0 → halfBoots s h = false → Acts (.bootImageVerified h img) s (bankFails s (imageCause img)))) ∧
  -- firmware runs and accepts commands, unless a loadable part is not as its digest says
  (∀ (h : Half) (img : ImageInfo) (env : BootEnv) (s u1 u2 u3 : State), ready (.bootFirmwareLoaded h img env) s = true →
    (half s h).ident.bootStage = 2 →
    (img.partsOk = false →
      Acts (.bootFirmwareLoaded h img env) s
        (if deviceBoots s then bankFails s 2 else modIdent s h fun i => { i with bootStage := 0 })) ∧
    (img.partsOk = true →
      u1 = modSys (modIdent s h fun i => { i with
          cmdReady := true, bootStage := 3, fwMajor := img.major, fwMinor := img.minor, fwPatch := img.patch,
          fwBank := s.sys.bootBank }) h
        (fun x => derive (takeReadings (modIdent s h fun i => { i with
          cmdReady := true, bootStage := 3, fwMajor := img.major, fwMinor := img.minor, fwPatch := img.patch,
          fwBank := s.sys.bootBank }) h env.temps env.rails { x with bootRom := false }) env.vcore) →
      u2 = (half u1 h).sys.shedOrder.foldl (fun w k => modIsland w h (shedTarget k) fun i => { i with pstate := .off }) u1 →
      u3 = event u2 h 0x0030 0 0x71 (halfIdx h) noPoint (half s h).sys.resetKind.toNat (half s h).sys.lastReset.toNat
        (min env.cycles 0xFFFFFFFF) →
      Acts (.bootFirmwareLoaded h img env) s
        (if deviceBoots u3 = true ∧ u3.a.ident.cmdReady = true ∧ u3.b.ident.cmdReady = true then
           modDev u3 fun d => { d with bootStep := 8, verified := 0 } else u3))) ∧
  -- the boot watchdog: the other bank once, then the boot ROM stays
  (∀ s : State, ready .bootWatchdogExpiry s = true → deviceBoots s = true → starting s .A = true ∨ starting s .B = true →
    Acts .bootWatchdogExpiry s
      (if 0 < s.sys.bootMisses then bootStuck s else bankFails (modDev s fun d => { d with bootMisses := d.bootMisses + 1 }) 3)) ∧
  (∀ s : State, ready .qspiSelfReadTimeout s = true → deviceBoots s = true → s.mortar.st ≠ .active → s.mortar.st ≠ .idle →
    Acts .qspiSelfReadTimeout s (modDev s fun d => { d with selfRead := true }))

/-- The rows of clocks, supplies and temperature complete (R493 to R506). -/
def Obligations.SupplyRowsComplete : Prop :=
  (∀ s : State, ready (.devClockLoss .sysClk) s = true → s.sys.sysClkLost = false →
    Acts (.devClockLoss .sysClk) s
      (warmReset (modDev (clockEvent s (leadHalf s) 3 1) fun d => { d with sysClkLost := true }) 6)) ∧
  (∀ (h : Half) (s : State),
    (ready (.devClockLoss (.lane h)) s = true → Acts (.devClockLoss (.lane h)) s (lanesLost (clockEvent s h 1 2) h)) ∧
    (ready (.devClockLoss (.pcie h)) s = true → Acts (.devClockLoss (.pcie h)) s (dlDown (clockEvent s h 1 3) h)) ∧
    (ready (.devClockLoss .audMclk) s = true → Acts (.devClockLoss .audMclk) s (clockEvent s (leadHalf s) 1 4))) ∧
  (∀ s : State, ready .sysClkRestored s = true →
    Acts .sysClkRestored s (bootGo (modDev s fun d => { d with sysClkLost := false }))) ∧
  (∀ (h : Half) (r : AvsRead) (s : State), ready (.avsMonitorRead h r) s = true → fwRuns s h = true →
    (half s h).sys.avsFault = false →
    Acts (.avsMonitorRead h r) s
      (if r.answered then modSys s h fun x => avsSet (avsTarget r.lowest) { x with avsMisses := 0, icore := r.icore }
       else avsMissed s h)) ∧
  (∀ (h : Half) (s : State), ready (.avsRetry h true) s = true → fwRuns s h = true → (half s h).sys.avsFault = true →
    Acts (.avsRetry h true) s (modSys s h fun x => { x with avsFault := false, avsMisses := 0 })) ∧
  (∀ (v : List Word) (s : State), ready (.pmbusTelemetryPoll v) s = true → fwRuns s (leadHalf s) = true →
    Acts (.pmbusTelemetryPoll v) s (modSys s (leadHalf s) fun x => { x with pmbus := Vector.ofFn fun i => v.getD i.val 0 })) ∧
  (∀ (v : List Word) (s : State), ready (.pmbAlert v) s = true → fwRuns s (leadHalf s) = true →
    Acts (.pmbAlert v) s
      (event s (leadHalf s) 0x0038 2 0x71 (halfIdx (leadHalf s)) noPoint 2
        ((v.find? fun w => decide (w ≠ 0)).getD 0).toNat 0)) ∧
  -- a rail below its warning level is counted and reported, and the guard begins
  (∀ (h : Half) (rail mv : Nat) (s : State), ready (.devSupplyDip h rail mv) s = true →
    (half s h).sys.railLow.getLsbD rail = false →
    Acts (.devSupplyDip h rail mv) s
      (selfFault (event (modSys s h fun x => { x with
          railLow := x.railLow ||| BitVec.ofNat 9 (2 ^ rail), guard := true, dips := satInc x.dips })
        h 0x0032 1 0x71 (halfIdx h) noPoint rail mv 0) 2)) ∧
  -- the guard ends: a deferred lowering is made, the end is reported, and flash writes go on
  (∀ (h : Half) (cycles : Nat) (s : State), ready (.devGuardEnd h cycles) s = true → (half s h).sys.guard = true →
    (half s h).sys.railLow = 0 →
    Acts (.devGuardEnd h cycles) s
      (flashGo (event (modSys s h fun x => { x with guard := false, vcore := x.deferred.getD x.vcore, deferred := none })
        h 0x0033 0 0x71 (halfIdx h) noPoint (min cycles 0xFFFFFFFF) 0 0))) ∧
  (∀ (h : Half) (rail mv : Nat) (s u : State), ready (.supplyResetLevel h rail mv) s = true → u = supplyDip s h rail mv true →
    Acts (.supplyResetLevel h rail mv) s
      (if rail = 2 ∨ rail = 3 then lanesLost u h
       else if rail = 4 then dramLost (halfReset u h 5) h
       else if rail = 5 ∨ rail = 6 then dlDown u h
       else if rail = 7 then warmStart u 5
       else if rail = 8 then powerOn u u.sys.halfId u.pair.pairId
       else halfReset u h 5)) ∧
  (∀ (h : Half) (t : List Int) (r : List Nat) (k : Option Nat) (s u : State), ready (.thermalReading h t r) s = true →
    fwRuns s h = true → calibrating (telemetryClearing s h) h = (k, u) →
    Acts (.thermalReading h t r) s
      (shedding (throttle (modSys u h fun x => countReadings (holdStale (half u h).sys k (takeReadings u h t r x))) h) h)) ∧
  -- THERMTRIP stops every clock
  (∀ (h : Half) (sensor : Nat) (s : State), ready (.thermtrip h sensor) s = true →
    Acts (.thermtrip h sensor) s (modDev s fun d => { d with tripped := true })) ∧
  (∀ (h : Half) (rail : Nat) (s : State), ready (.railAboveWarning h rail) s = true →
    Acts (.railAboveWarning h rail) s
      (bootGo (modSys s h fun x => { x with railLow := x.railLow &&& ~~~ BitVec.ofNat 9 (2 ^ rail) })))
/-! The queue of commands, the reset state, and what every step keeps. -/

/-- A step takes the command at the front of the queue and runs it with the queue's rest. -/
def Obligations.StepTakesFrontCommand : Prop :=
  ∀ (i : Instr) (rest : List Instr) (s : State), s.pending = i :: rest → step s = exec i { s with pending := rest }

/-- On an empty queue the block idles: the model's choice (log entry 1). -/
def Obligations.EmptyQueueIdles : Prop := ∀ s : State, s.pending = [] → step s = .next s

/-- A row stops only because it names an object that the device does not have; every other row answers a next state, with the
commands that waited still waiting. -/
def Obligations.StopsOnlyForMissingObjects : Prop :=
  ∀ (i : Instr) (s : State),
    (i.wf = false → exec i s = .fault .noSuchObject) ∧
    (i.wf = true → ∃ t, exec i s = .next t ∧ t.pending = s.pending)

/-- A queue whose commands all name objects of the device stays so at every step, and no step stops: the front command leaves. -/
def Obligations.EveryStepGoesOn : Prop :=
  ∀ s : State, QueueWf s → ∃ t, step s = .next t ∧ QueueWf t ∧ t.pending = s.pending.tail

/-- Such a queue of any length is worked off in as many steps as it holds commands. -/
def Obligations.QueueDrains : Prop :=
  ∀ s : State, QueueWf s → ∃ t, Runs s.pending.length s t ∧ t.pending = []

/-- Once the device has tripped, every step leaves all of it as it is until a power-on: however long the queue, nothing but the
queue changes (R506). -/
def Obligations.TrippedDeviceStandsStill : Prop :=
  (∀ s0 s t : State, QueueWf s → TrippedAs s0 s → step s = .next t → QueueWf t ∧ TrippedAs s0 t) ∧
  (∀ s : State, QueueWf s → s.sys.tripped = true → (∀ x y, Instr.powerOn x y ∉ s.pending) →
    Runs s.pending.length s { s with pending := [] })

/-- Reset meets the invariants: the queue is well formed, the memories are in their canonical form, and the numbers of the event
logs run on. -/
def Obligations.ResetHoldsInvariants : Prop :=
  QueueWf State.reset ∧ MemoriesCanonical State.reset ∧ ∀ h, LogWf (half State.reset h).cmd

/-- Reset: no command waits or is in flight; every ring is disabled and quiesced, with PHASE 1 at the completion rings; the
event mask delivers every class; the log is empty and its next SEQ is 0; every link, context, session, output, port and stream
is idle, and the device is unpaired; no half is command-ready or memory-ready; BAR2 is 2^28 bytes (R35, R36, R40, R63, R65, R74, R202, R314, R398, R399,
R414, R431, R452). -/
def Obligations.ResetState : Prop :=
  State.reset.pending = [] ∧ State.reset.flights = [] ∧ State.reset.staged = [] ∧ State.reset.sys.tripped = false ∧
  (∀ (h : Half) (n : Nat), n < 32 →
    (sqAt State.reset h n).enable = false ∧ (sqAt State.reset h n).quiesced = true ∧ (sqAt State.reset h n).errCode = 0 ∧
    (cqAt State.reset h n).enable = false ∧ (cqAt State.reset h n).phase = true ∧ (cqAt State.reset h n).tail = 0) ∧
  (∀ h : Half, (half State.reset h).cmd.ev.enable = false ∧ (half State.reset h).cmd.log = [] ∧
    (half State.reset h).cmd.nextSeq = 0 ∧ (half State.reset h).cmd.classEnable = 0x1FFF ∧
    (half State.reset h).cmd.minSeverity = 0 ∧ (half State.reset h).ident.cmdReady = false ∧
    (half State.reset h).ident.memReady = false ∧ (half State.reset h).ident.fault = false ∧
    (half State.reset h).ep.sizeLog2 = 28 ∧ (half State.reset h).ep.gen = 0) ∧
  (∀ n : Nat, n < 24 → tget State.reset.quads n = 0) ∧ (∀ n : Nat, n < 32 → (linkAt State.reset n).st = .disabled) ∧
  (∀ n : Nat, n < 64 → (streamAt State.reset n).st = .unconfigured) ∧ (∀ n : Nat, n < 32 → (ctxAt State.reset n).st = .closed) ∧
  (∀ n : Nat, n < 16 → (sessAt State.reset n).st = .closed) ∧ (∀ n : Nat, n < 4 → (outAt State.reset n).cfg.run = 0) ∧
  (∀ n : Nat, n < 8 → (portAt State.reset n).st = .unconfigured) ∧ State.reset.pair.st = .unpaired ∧ State.reset.pair.role = 0

/-! The life of a command: the checks it passes, where it is placed, how it starts and reports. -/

/-- The first check that fails completes an entry before its placement, by the order of the entry checks: no free tag, a TAG in
flight through the same half, STORE_RAW on an opcode that stores no blocks, and a parameter count out of range
(R47 to R49). -/
def Obligations.FirstFailingCheckCompletes : Prop :=
  ∀ (op : Op) (c k : Cmd) (s u : State), ready (rowOf op c) s = true → k = submitted s c →
    u = enterFlight (numberTaken s) k op c.recv 0 (sqAt s c.recv c.sq.toNat).cqId.toNat →
    (65536 ≤ inFlight s → Acts (rowOf op c) s (reject u k (.done stNoTags 0 0xFFFF 0 0 0))) ∧
    (inFlight s < 65536 → liveFlight s c.recv c.tag ≠ none →
      Acts (rowOf op c) s (reject u k (.done stBadParam 0x01 1 0 0 0))) ∧
    (inFlight s < 65536 → liveFlight s c.recv c.tag = none →
      (c.storeRaw = true → op ≠ .ashEncode → op ≠ .ashContinue →
        Acts (rowOf op c) s (reject u k (.done stBadParam 0x02 0 0 0 0))) ∧
      (c.storeRaw = false → paramCountOk op c.params.length = false →
        Acts (rowOf op c) s (reject u k (.done stBadLength 0 1 0 0 0))))

/-- A command whose target field names a half that does not own the object named completes with BAD_TARGET, once the checks
before this one pass (R33). -/
def Obligations.WrongHalfIsBadTarget : Prop :=
  ∀ (op : Op) (c : Cmd) (h k : Half) (s : State), ready (rowOf op c) s = true →
    firstErr (tagChecks s c ++ shapeChecks op c) = none →
    ownerOf op c s = .half h ∨ ownerOf op c s = .targetOf h → halfOfCode c.target.toNat = some k → k ≠ h →
    Acts (rowOf op c) s
      (retire (deliver (enterFlight (numberTaken s) (submitted s c) op c.recv 0 (sqAt s c.recv c.sq.toNat).cqId.toNat)
        { mkCompletion (submitted s c) .A 0x0103 0 1 0 0 0 with exec := 0 }) s.nextSerial)

/-- An entry that fails a check or its placement changes nothing in any unit of the device, and the commands in flight
stay in flight (R47 to R49). -/
def Obligations.RejectedCommandChangesNothing : Prop :=
  ∀ (op : Op) (c : Cmd) (s : State), ready (rowOf op c) s = true →
    (firstErr (tagChecks s (submitted s c) ++ shapeChecks op (submitted s c)) ≠ none ∨
      placeOf op (submitted s c) (numberTaken s) = none) →
    ∃ t, Acts (rowOf op c) s t ∧ unitFrame t = unitFrame s ∧ t.staged = s.staged ∧
      othersInFlight s.nextSerial t = othersInFlight s.nextSerial s

/-- Starting a command, answering it and raising an event leave every unit of the device as it is: what an opcode changes is
what its own meaning changes. -/
def Obligations.StartAndAnswerKeepUnits : Prop :=
  (∀ (op : Op) (c : Cmd) (h : Half) (s : State), unitFrame (started op c h s) = unitFrame s ∧
    (started op c h s).staged = s.staged ∧ (started op c h s).hostMem = s.hostMem) ∧
  (∀ (c : Cmd) (h : Half) (s : State) (st : BitVec 16) (rs : BitVec 8) (pi : BitVec 16) (r0 r1 r2 : Word),
    unitFrame (finish s c h (.done st rs pi r0 r1 r2)) = unitFrame s ∧ finish s c h .running = s) ∧
  (∀ (h : Half) (e : EventRec) (s : State), unitFrame (raise s h e) = unitFrame s ∧ (raise s h e).flights = s.flights)

/-- A placed command that a mirror leaves to the active, that would have to cross a Mortar link that is DOWN, or whose
unit is in an automatic reset, has none of its effect (R27, R461, R545). -/
def Obligations.RefusedAtStartChangesNothing : Prop :=
  ∀ (op : Op) (c : Cmd) (h : Half) (s : State), ready (rowOf op c) s = true →
    firstErr (tagChecks s (submitted s c) ++ shapeChecks op (submitted s c)) = none →
    placeOf op (submitted s c) (numberTaken s) = some h →
    (mirrorRefuses s op (submitted s c) = true →
      Acts (rowOf op c) s
        (finish (entered op (submitted s c) h (numberTaken s)) (submitted s c) h (.done stWrongState 0xA1 0xFFFF 0 0 0))) ∧
    (mirrorRefuses s op (submitted s c) = false → h ≠ c.recv → s.mortar.st = .down →
      ∃ t, Acts (rowOf op c) s t ∧ unitFrame t = unitFrame s ∧
        t = retire (deliver (entered op (submitted s c) h (numberTaken s))
          (mkCompletion (submitted s c) h stLinkDown 0 0xFFFF 0 0 0)) s.nextSerial) ∧
    (mirrorRefuses s op (submitted s c) = false → h = c.recv → islandResets op c h s = true →
      ∃ t, Acts (rowOf op c) s t ∧ unitFrame t = unitFrame s ∧
        t = finish (started op c h s) (submitted s c) h (.done stIslandReset 0 0xFFFF 0 0 0))

/-- A completion entry is written at TAIL with the ring's PHASE, as 32 bytes; TAIL moves on, and PHASE inverts after the last
slot; no other byte of host memory changes, but for those of the MSI-X message that signals it (R40, R41, R50). -/
def Obligations.CompletionEntryWritten : Prop :=
  ∀ (s t : State) (h : Half) (n a : Nat) (c : Completion) (r : CqRec) (e : MsixVec), s.hostMem.wf hostDefault = true →
    s.pair.fenced = false → n < 32 → r = cqAt s h n → a = r.base.toNat + 32 * r.tail.toNat → hostOk s a 32 = true →
    e = tget (half s h).ep.msix r.vector.toNat → t = writeCompletion s h n c →
    ((e.addr.toNat + 4 ≤ a ∨ a + 32 ≤ e.addr.toNat) →
      t.hostMem.readBytes hostDefault a 32 =
        dwordBytes (completionBytes c r.phase (sqAt s h c.sq.toNat).head.toNat)) ∧
    (∀ x : Nat, x < a ∨ a + 32 ≤ x → x < e.addr.toNat ∨ e.addr.toNat + 4 ≤ x →
      t.hostMem.read hostDefault x = s.hostMem.read hostDefault x) ∧
    t.hostMem.wf hostDefault = true ∧
    (cqAt t h n).tail.toNat = (r.tail.toNat + 1) % 2 ^ r.sizeLog2.toNat % 65536 ∧
    ((cqAt t h n).phase = r.phase ↔ (cqAt t h n).tail ≠ 0) ∧ unitFrame t = unitFrame s

/-- An event raised by a half is logged with the half's next SEQ, the log keeps the newest 1,024 records and its SEQ stay
consecutive; one of severity 3 sets FAULT (R63, R66). The records after it are those that the event ring's own
service logs. -/
def Obligations.EventLogged : Prop :=
  ∀ (s t : State) (h : Half) (e : EventRec), t = raise s h e →
    (∃ more : List EventRec, ∀ l, l = (half s h).cmd.log ++ { e with seq := (half s h).cmd.nextSeq } :: more →
      (half t h).cmd.log = l.drop (l.length - 1024) ∧
      (half t h).cmd.nextSeq = (half s h).cmd.nextSeq + BitVec.ofNat 32 (1 + more.length)) ∧
    (∀ k, LogWf (half s k).cmd → LogWf (half t k).cmd) ∧
    (e.severity = 3 → (half t h).ident.fault = true)

/-- DEV_READ_EVENT_LOG copies from FIRST_SEQ where the log holds it, from the oldest record where FIRST_SEQ is older, and
nothing where it lies ahead of the newest or the log is empty; up to COUNT records, in the order of SEQ (R66). -/
def Obligations.EventLogRead : Prop :=
  ∀ (x : HalfCmd) (first d : Word) (count : Nat), LogWf x → d = x.nextSeq - 1 - first →
    (x.log = [] → logFrom x first count = []) ∧
    (2 ^ 31 ≤ d.toNat → logFrom x first count = []) ∧
    (d.toNat < x.log.length → (logFrom x first count).length = min count (d.toNat + 1) ∧
      ∀ (i : Nat) (e : EventRec), (logFrom x first count)[i]? = some e → e.seq = first + BitVec.ofNat 32 i ∧ e ∈ x.log) ∧
    (x.log.length ≤ d.toNat → d.toNat < 2 ^ 31 → logFrom x first count = x.log.take count ∧
      ∀ (i : Nat) (e : EventRec), (logFrom x first count)[i]? = some e → e.seq = oldestSeq x + BitVec.ofNat 32 i)

/-- Within a ring a command with FENCE starts only once no earlier command of its ring is in flight, whichever half carries
those out and though one has only its effect left to report; commands of other rings do not hold it (R52). -/
def Obligations.FenceHoldsCommands : Prop :=
  ∀ (s : State) (f : Flight) (before after : List Flight), s.flights = before ++ f :: after →
    (∀ x ∈ before, x.cmd.serial ≠ f.cmd.serial) → f.cmd.fence = true →
    ((∃ g ∈ before, g.cmd.recv = f.cmd.recv ∧ g.cmd.sq = f.cmd.sq ∧ g.dropped = false ∧ g.silent = false) →
      startable s f = false ∧ ∀ (h : Half) (k : Nat), chooseRival s h ≠ some (k, f)) ∧
    ((∀ g ∈ before, g.cmd.recv = f.cmd.recv → g.cmd.sq = f.cmd.sq → g.dropped = true ∨ g.silent = true) →
      startable s f = startable s { f with cmd := { f.cmd with fence := false } })

/-- The next start of a half goes to a competitor whose oldest unstarted command can start: one that has been passed over 64
times, or else one of the highest priority; it goes to some competitor while one can start (R51). -/
def Obligations.PriorityDecidesStarts : Prop :=
  ∀ (s : State) (h : Half),
    (∀ (k : Nat) (f : Flight), chooseRival s h = some (k, f) →
      rivalHead s h k = some f ∧ startable s f = true ∧ k < 64 ∧
      (64 ≤ tget (half s h).cmd.passed k ∨
        ∀ (j : Nat) (g : Flight), j < 64 → rivalHead s h j = some g → startable s g = true →
          tget (half s h).cmd.passed j < 64 ∧ g.cmd.priority.toNat ≤ f.cmd.priority.toNat)) ∧
    (∀ (k : Nat) (f : Flight), k < 64 → rivalHead s h k = some f → startable s f = true → chooseRival s h ≠ none)

/-- A doorbell takes its index from bits [15:0] of the lower dword at 0x10000 + 8n or 0x10800 + 8n, whatever the other bits and
the upper dword hold; a doorbell, HEAD_DB among them, of a ring that is disabled or stopped by a ring error changes no
register and raises no error (R37). A PCIe write takes the port out of a low-power link state first (R405). -/
def Obligations.DoorbellRule : Prop :=
  (∀ (h : Half) (n : Nat) (v : BitVec 64) (s : State), n < 32 →
    exec (.registerWrite h (.bar0 (0x10000 + 8 * n) 4 v)) s = exec (.sqTailDoorbell h n (BitVec.setWidth 32 v) {}) s ∧
    exec (.registerWrite h (.bar0 (0x10000 + 8 * n) 8 v)) s = exec (.sqTailDoorbell h n (BitVec.setWidth 32 v) {}) s ∧
    exec (.registerWrite h (.bar0 (0x10800 + 8 * n) 4 v)) s = exec (.cqHeadDoorbell h n (BitVec.setWidth 32 v)) s ∧
    exec (.registerWrite h (.bar0 (0x10800 + 8 * n) 8 v)) s = exec (.cqHeadDoorbell h n (BitVec.setWidth 32 v)) s ∧
    (s.sys.tripped = false →
      Acts (.registerWrite h (.bar0 (0x10004 + 8 * n) 4 v)) s (linkWake s h) ∧
      Acts (.registerWrite h (.bar0 (0x10804 + 8 * n) 4 v)) s (linkWake s h))) ∧
  (∀ (h : Half) (n : Nat) (v w : Word) (env : HostUpdate) (s : State), v.toNat % 65536 = w.toNat % 65536 →
    exec (.sqTailDoorbell h n v env) s = exec (.sqTailDoorbell h n w env) s ∧
    exec (.cqHeadDoorbell h n v) s = exec (.cqHeadDoorbell h n w) s ∧ exec (.headDb h v) s = exec (.headDb h w) s) ∧
  (∀ (h : Half) (n : Nat) (v : Word) (env : HostUpdate) (s : State), n < 32 → s.sys.tripped = false →
    ((sqAt s h n).enable = false ∨ (sqAt s h n).error = true →
      Acts (.sqTailDoorbell h n v env) s (linkWake (hostUpdate s env) h)) ∧
    ((cqAt s h n).enable = false ∨ (cqAt s h n).error = true → Acts (.cqHeadDoorbell h n v) s (linkWake s h)) ∧
    ((half s h).cmd.ev.enable = false ∨ (half s h).cmd.ev.error = true → Acts (.headDb h v) s (linkWake s h)))

/-- While a ring is enabled, no register write changes its base or its size, nor the completion ring of a submission ring,
though the same write clears ENABLE (R36). -/
def Obligations.BaseLockedWhileEnabled : Prop :=
  ∀ (h k : Half) (off size : Nat) (v : BitVec 64) (s t : State), exec (.registerWrite h (.bar0 off size v)) s = .next t →
    (∀ n : Nat, n < 32 → (sqAt s k n).enable = true →
      (sqAt t k n).base = (sqAt s k n).base ∧ (sqAt t k n).sizeLog2 = (sqAt s k n).sizeLog2 ∧
      (sqAt t k n).cqId = (sqAt s k n).cqId) ∧
    (∀ n : Nat, n < 32 → (cqAt s k n).enable = true →
      (cqAt t k n).base = (cqAt s k n).base ∧ (cqAt t k n).sizeLog2 = (cqAt s k n).sizeLog2) ∧
    ((half s k).cmd.ev.enable = true →
      (half t k).cmd.ev.base = (half s k).cmd.ev.base ∧ (half t k).cmd.ev.sizeLog2 = (half s k).cmd.ev.sizeLog2)

/-- The rows of the rings, doorbells and registers of BAR0 leave every unit, every command in flight and every staged change as
they are (R35 to R38, R42, R67). -/
def Obligations.RingRowsKeepUnits : Prop :=
  ∀ (i : Instr) (s t : State),
    (∃ (h : Half) (n : Nat) (v : Word), (∃ env, i = .sqTailDoorbell h n v env) ∨ i = .cqHeadDoorbell h n v ∨ i = .headDb h v ∨
      i = .sqEnable h n v ∨ i = .sqDisable h n v ∨ i = .cqEnable h n v ∨ i = .cqDisable h n v ∨ i = .eventRingEnable h v ∨
      i = .eventRingDisable h v ∨ (∃ w, i = .msixMaskWrite h w) ∨ (∃ off size w, i = .registerWrite h (.bar0 off size w)) ∨
      i = .quiesced h n ∨ i = .coalDelayExpiry h n) →
    exec i s = .next t → unitFrame t = unitFrame s ∧ t.flights = s.flights ∧ t.staged = s.staged ∧ t.mortar = s.mortar

/-- A device that is fenced writes nothing to host memory: no completion, no event record and no message (R463). -/
def Obligations.FencedDeviceWritesNothing : Prop :=
  ∀ (s : State) (h : Half), s.pair.fenced = true →
    (∀ (c : Cmd) (st : BitVec 16) (rs : BitVec 8) (pi : BitVec 16) (r0 r1 r2 : Word),
      (finish s c h (.done st rs pi r0 r1 r2)).hostMem = s.hostMem) ∧
    (∀ e : EventRec, (raise s h e).hostMem = s.hostMem) ∧
    (∀ (n : Nat) (c : Completion), (writeCompletion s h n c).hostMem = s.hostMem) ∧
    (∀ n : Nat, (signal s h n).hostMem = s.hostMem)

/-! Data: DRAM, pixels and the Ashlar codec. -/

/-- A write to a half's DRAM reads back where it is backed, and clears the poison of the bursts it covers; no other byte, no
other burst's poison and nothing of the other half changes, and the contents keep their canonical form; unbacked bytes read as
ones and as poisoned (R358, R384). -/
def Obligations.DramReadsBackWrites : Prop :=
  ∀ (s t : State) (h : Half) (a : Nat) (bs : List Byte), (half s h).mem.mem.wf dramDefault = true → t = dramWrite s h a bs →
    (half t h).mem.mem.wf dramDefault = true ∧
    (∀ (i : Nat) (b : Byte), bs[i]? = some b → backed (half s h).mem (a + i) = true → dramByte (half t h).mem (a + i) = b) ∧
    (∀ x : Nat, backed (half s h).mem x = false → dramByte (half t h).mem x = 0xFF ∧ poisoned (half t h).mem x = true) ∧
    (∀ x : Nat, x < a ∨ a + bs.length ≤ x → dramByte (half t h).mem x = dramByte (half s h).mem x) ∧
    (∀ b : Nat, a ≤ 64 * b → 64 * b + 64 ≤ a + bs.length → backed (half s h).mem (64 * b) = true →
      poisoned (half t h).mem (64 * b) = false) ∧
    (∀ b : Nat, ¬ (a ≤ 64 * b ∧ 64 * b + 64 ≤ a + bs.length) →
      poisoned (half t h).mem (64 * b) = poisoned (half s h).mem (64 * b)) ∧
    half t (otherHalf h) = half s (otherHalf h)

/-- Pixels packed least significant bit first unpack as they were, so that a raw block decodes to its pixels; an entry
of a block index is read back from its 8 bytes (R121, R177, R181). -/
def Obligations.PixelsAndIndexRoundTrip : Prop :=
  (∀ (d : Nat) (px : List Nat), (∀ p ∈ px, p < 2 ^ d) →
    unpackPixels d px.length (packPixels d px) = px ∧ (packPixels d px).length = (px.length * d + 7) / 8) ∧
  (∀ (depth : BitVec 2) (w h : Nat) (px : List Nat), px.length = w * h → (∀ p ∈ px, p < 2 ^ depthBits depth) →
    decodeRaw depth w h (packPixels (depthBits depth) px) = some px) ∧
  (∀ e : IndexEntry, e.offset < 2 ^ 40 → e.length < 2 ^ 16 → idxOf (idxBytes e) = e)

/-- What an encode engine emits for a block decodes to pixels within the error bound, and to the block's own pixels where it is
lossless; the first pixel of a predicted block is exact; and the engine emits it only where that gains at least 4 bytes over
the raw block (R166 to R179, R191). -/
def Obligations.AshlarBlocksDecodeWithinBound : Prop :=
  ∀ (depth : BitVec 2) (err : BitVec 3) (w h : Nat) (px : List Nat), 0 < w → w ≤ 128 → 0 < h → h ≤ 8 → err.toNat ≤ 4 →
    px.length = w * h → (∀ p ∈ px, p < 2 ^ depthBits depth) →
    (∃ ys : List Nat, decodeCoded depth w h (codedBlock depth err w px) = some ys ∧ ys.length = px.length ∧
      (∀ (i x y : Nat), px[i]? = some x → ys[i]? = some y → x ≤ y + errBound err ∧ y ≤ x + errBound err) ∧
      (err = 0 → ys = px) ∧ (2 * errBound err < pxMax px - pxMin px → ys.head? = px.head?)) ∧
    (∀ bs : List Byte, encodeBlock depth err w h px = some bs ↔
      bs = codedBlock depth err w px ∧ (codedBlock depth err w px).length + 4 ≤ rawLen w h (depthBits depth))

/-- Refreshes, refresh debts, temperature polls and power-down leave every byte of DRAM and every poison marker of both halves
(R364 to R369). -/
def Obligations.DramUpkeepKeepsData : Prop :=
  ∀ (i : Instr) (s t : State) (h : Half) (k r : Nat),
    ((∃ cycles, i = .refreshIssue h k r cycles) ∨ i = .refreshDebtLimit h k r ∨ (∃ temp cycles, i = .mr4Poll h k r temp cycles) ∨
      i = .powerDownEntry h k r) →
    exec i s = .next t →
    ∀ (x : Half) (a : Nat), dramByte (half t x).mem a = dramByte (half s x).mem a ∧
      poisoned (half t x).mem a = poisoned (half s x).mem a
end

