-- ==== Sys2Proof/Laws/State.lean ====
section
/-! SUPPORT. What each update of the state leaves and what it changes: one lemma for every field of every update, so that no
proof unfolds a record update. -/

namespace Sys2Proof.Machine

variable (s : State) (h : Half)

/-! The two halves. -/

@[simp] theorem half_A : half s .A = s.a := rfl
@[simp] theorem half_B : half s .B = s.b := rfl
@[simp] theorem setHalf_half (x : HalfState) : half (setHalf s h x) h = x := by cases h <;> rfl
@[simp] theorem setHalf_otherHalf (x : HalfState) : half (setHalf s h x) (otherHalf h) = half s (otherHalf h) := by
  cases h <;> rfl
@[simp] theorem otherHalf_otherHalf : otherHalf (otherHalf h) = h := by cases h <;> rfl
@[simp] theorem otherHalf_ne : otherHalf h ≠ h := by cases h <;> decide
theorem half_cases (k : Half) : k = h ∨ k = otherHalf h := by cases h <;> cases k <;> decide
@[simp] theorem modHalf_half (f : HalfState → HalfState) : half (modHalf s h f) h = f (half s h) := by cases h <;> rfl
@[simp] theorem modHalf_otherHalf (f : HalfState → HalfState) :
    half (modHalf s h f) (otherHalf h) = half s (otherHalf h) := by cases h <;> rfl
theorem modHalf_ne {k : Half} (n : k ≠ h) (f : HalfState → HalfState) : half (modHalf s h f) k = half s k := by
  cases h <;> cases k <;> first | rfl | exact absurd rfl n

@[simp] theorem modHalf_mortar (f : HalfState → HalfState) : (modHalf s h f).mortar = s.mortar := by cases h <;> rfl
@[simp] theorem modHalf_quads (f : HalfState → HalfState) : (modHalf s h f).quads = s.quads := by cases h <;> rfl
@[simp] theorem modHalf_links (f : HalfState → HalfState) : (modHalf s h f).links = s.links := by cases h <;> rfl
@[simp] theorem modHalf_lanes (f : HalfState → HalfState) : (modHalf s h f).lanes = s.lanes := by cases h <;> rfl
@[simp] theorem modHalf_rx (f : HalfState → HalfState) : (modHalf s h f).rx = s.rx := by cases h <;> rfl
@[simp] theorem modHalf_streams (f : HalfState → HalfState) : (modHalf s h f).streams = s.streams := by cases h <;> rfl
@[simp] theorem modHalf_reads (f : HalfState → HalfState) : (modHalf s h f).reads = s.reads := by cases h <;> rfl
@[simp] theorem modHalf_rules (f : HalfState → HalfState) : (modHalf s h f).rules = s.rules := by cases h <;> rfl
@[simp] theorem modHalf_corrs (f : HalfState → HalfState) : (modHalf s h f).corrs = s.corrs := by cases h <;> rfl
@[simp] theorem modHalf_ctxs (f : HalfState → HalfState) : (modHalf s h f).ctxs = s.ctxs := by cases h <;> rfl
@[simp] theorem modHalf_statLast (f : HalfState → HalfState) : (modHalf s h f).statLast = s.statLast := by cases h <;> rfl
@[simp] theorem modHalf_contentTrigs (f : HalfState → HalfState) : (modHalf s h f).contentTrigs = s.contentTrigs := by cases h <;> rfl
@[simp] theorem modHalf_trim (f : HalfState → HalfState) : (modHalf s h f).trim = s.trim := by cases h <;> rfl
@[simp] theorem modHalf_sessions (f : HalfState → HalfState) : (modHalf s h f).sessions = s.sessions := by cases h <;> rfl
@[simp] theorem modHalf_outs (f : HalfState → HalfState) : (modHalf s h f).outs = s.outs := by cases h <;> rfl
@[simp] theorem modHalf_vfSrc (f : HalfState → HalfState) : (modHalf s h f).vfSrc = s.vfSrc := by cases h <;> rfl
@[simp] theorem modHalf_ports (f : HalfState → HalfState) : (modHalf s h f).ports = s.ports := by cases h <;> rfl
@[simp] theorem modHalf_pair (f : HalfState → HalfState) : (modHalf s h f).pair = s.pair := by cases h <;> rfl
@[simp] theorem modHalf_sys (f : HalfState → HalfState) : (modHalf s h f).sys = s.sys := by cases h <;> rfl
@[simp] theorem modHalf_flights (f : HalfState → HalfState) : (modHalf s h f).flights = s.flights := by cases h <;> rfl
@[simp] theorem modHalf_nextSerial (f : HalfState → HalfState) : (modHalf s h f).nextSerial = s.nextSerial := by cases h <;> rfl
@[simp] theorem modHalf_staged (f : HalfState → HalfState) : (modHalf s h f).staged = s.staged := by cases h <;> rfl
@[simp] theorem modHalf_mgmt (f : HalfState → HalfState) : (modHalf s h f).mgmt = s.mgmt := by cases h <;> rfl
@[simp] theorem modHalf_hostMem (f : HalfState → HalfState) : (modHalf s h f).hostMem = s.hostMem := by cases h <;> rfl
@[simp] theorem modHalf_hostBad (f : HalfState → HalfState) : (modHalf s h f).hostBad = s.hostBad := by cases h <;> rfl
@[simp] theorem modHalf_pending (f : HalfState → HalfState) : (modHalf s h f).pending = s.pending := by cases h <;> rfl
@[simp] theorem setHalf_mortar (x : HalfState) : (setHalf s h x).mortar = s.mortar := by cases h <;> rfl
@[simp] theorem setHalf_quads (x : HalfState) : (setHalf s h x).quads = s.quads := by cases h <;> rfl
@[simp] theorem setHalf_links (x : HalfState) : (setHalf s h x).links = s.links := by cases h <;> rfl
@[simp] theorem setHalf_lanes (x : HalfState) : (setHalf s h x).lanes = s.lanes := by cases h <;> rfl
@[simp] theorem setHalf_rx (x : HalfState) : (setHalf s h x).rx = s.rx := by cases h <;> rfl
@[simp] theorem setHalf_streams (x : HalfState) : (setHalf s h x).streams = s.streams := by cases h <;> rfl
@[simp] theorem setHalf_reads (x : HalfState) : (setHalf s h x).reads = s.reads := by cases h <;> rfl
@[simp] theorem setHalf_rules (x : HalfState) : (setHalf s h x).rules = s.rules := by cases h <;> rfl
@[simp] theorem setHalf_corrs (x : HalfState) : (setHalf s h x).corrs = s.corrs := by cases h <;> rfl
@[simp] theorem setHalf_ctxs (x : HalfState) : (setHalf s h x).ctxs = s.ctxs := by cases h <;> rfl
@[simp] theorem setHalf_statLast (x : HalfState) : (setHalf s h x).statLast = s.statLast := by cases h <;> rfl
@[simp] theorem setHalf_contentTrigs (x : HalfState) : (setHalf s h x).contentTrigs = s.contentTrigs := by cases h <;> rfl
@[simp] theorem setHalf_trim (x : HalfState) : (setHalf s h x).trim = s.trim := by cases h <;> rfl
@[simp] theorem setHalf_sessions (x : HalfState) : (setHalf s h x).sessions = s.sessions := by cases h <;> rfl
@[simp] theorem setHalf_outs (x : HalfState) : (setHalf s h x).outs = s.outs := by cases h <;> rfl
@[simp] theorem setHalf_vfSrc (x : HalfState) : (setHalf s h x).vfSrc = s.vfSrc := by cases h <;> rfl
@[simp] theorem setHalf_ports (x : HalfState) : (setHalf s h x).ports = s.ports := by cases h <;> rfl
@[simp] theorem setHalf_pair (x : HalfState) : (setHalf s h x).pair = s.pair := by cases h <;> rfl
@[simp] theorem setHalf_sys (x : HalfState) : (setHalf s h x).sys = s.sys := by cases h <;> rfl
@[simp] theorem setHalf_flights (x : HalfState) : (setHalf s h x).flights = s.flights := by cases h <;> rfl
@[simp] theorem setHalf_nextSerial (x : HalfState) : (setHalf s h x).nextSerial = s.nextSerial := by cases h <;> rfl
@[simp] theorem setHalf_staged (x : HalfState) : (setHalf s h x).staged = s.staged := by cases h <;> rfl
@[simp] theorem setHalf_mgmt (x : HalfState) : (setHalf s h x).mgmt = s.mgmt := by cases h <;> rfl
@[simp] theorem setHalf_hostMem (x : HalfState) : (setHalf s h x).hostMem = s.hostMem := by cases h <;> rfl
@[simp] theorem setHalf_hostBad (x : HalfState) : (setHalf s h x).hostBad = s.hostBad := by cases h <;> rfl
@[simp] theorem setHalf_pending (x : HalfState) : (setHalf s h x).pending = s.pending := by cases h <;> rfl

/-! modCmd changes cmd of one half and nothing else. -/

@[simp] theorem modCmd_half_cmd (f : HalfCmd → HalfCmd) : (half (modCmd s h f) h).cmd = f (half s h).cmd := by cases h <;> rfl
@[simp] theorem modCmd_half_ep (f : HalfCmd → HalfCmd) (k : Half) : (half (modCmd s h f) k).ep = (half s k).ep := by
  cases h <;> cases k <;> rfl
@[simp] theorem modCmd_half_ident (f : HalfCmd → HalfCmd) (k : Half) : (half (modCmd s h f) k).ident = (half s k).ident := by
  cases h <;> cases k <;> rfl
@[simp] theorem modCmd_half_power (f : HalfCmd → HalfCmd) (k : Half) : (half (modCmd s h f) k).power = (half s k).power := by
  cases h <;> cases k <;> rfl
@[simp] theorem modCmd_half_islands (f : HalfCmd → HalfCmd) (k : Half) : (half (modCmd s h f) k).islands = (half s k).islands := by
  cases h <;> cases k <;> rfl
@[simp] theorem modCmd_half_mem (f : HalfCmd → HalfCmd) (k : Half) : (half (modCmd s h f) k).mem = (half s k).mem := by
  cases h <;> cases k <;> rfl
@[simp] theorem modCmd_half_pipe (f : HalfCmd → HalfCmd) (k : Half) : (half (modCmd s h f) k).pipe = (half s k).pipe := by
  cases h <;> cases k <;> rfl
@[simp] theorem modCmd_half_ash (f : HalfCmd → HalfCmd) (k : Half) : (half (modCmd s h f) k).ash = (half s k).ash := by
  cases h <;> cases k <;> rfl
@[simp] theorem modCmd_half_sys (f : HalfCmd → HalfCmd) (k : Half) : (half (modCmd s h f) k).sys = (half s k).sys := by
  cases h <;> cases k <;> rfl
@[simp] theorem modCmd_half_vf (f : HalfCmd → HalfCmd) (k : Half) : (half (modCmd s h f) k).vf = (half s k).vf := by
  cases h <;> cases k <;> rfl
@[simp] theorem modCmd_half_audFamily (f : HalfCmd → HalfCmd) (k : Half) : (half (modCmd s h f) k).audFamily = (half s k).audFamily := by
  cases h <;> cases k <;> rfl
@[simp] theorem modCmd_otherHalf (f : HalfCmd → HalfCmd) : half (modCmd s h f) (otherHalf h) = half s (otherHalf h) := by
  cases h <;> rfl
theorem modCmd_ne {k : Half} (n : k ≠ h) (f : HalfCmd → HalfCmd) : half (modCmd s h f) k = half s k :=
  modHalf_ne s h n _
@[simp] theorem modCmd_mortar (f : HalfCmd → HalfCmd) : (modCmd s h f).mortar = s.mortar := by cases h <;> rfl
@[simp] theorem modCmd_quads (f : HalfCmd → HalfCmd) : (modCmd s h f).quads = s.quads := by cases h <;> rfl
@[simp] theorem modCmd_links (f : HalfCmd → HalfCmd) : (modCmd s h f).links = s.links := by cases h <;> rfl
@[simp] theorem modCmd_lanes (f : HalfCmd → HalfCmd) : (modCmd s h f).lanes = s.lanes := by cases h <;> rfl
@[simp] theorem modCmd_rx (f : HalfCmd → HalfCmd) : (modCmd s h f).rx = s.rx := by cases h <;> rfl
@[simp] theorem modCmd_streams (f : HalfCmd → HalfCmd) : (modCmd s h f).streams = s.streams := by cases h <;> rfl
@[simp] theorem modCmd_reads (f : HalfCmd → HalfCmd) : (modCmd s h f).reads = s.reads := by cases h <;> rfl
@[simp] theorem modCmd_rules (f : HalfCmd → HalfCmd) : (modCmd s h f).rules = s.rules := by cases h <;> rfl
@[simp] theorem modCmd_corrs (f : HalfCmd → HalfCmd) : (modCmd s h f).corrs = s.corrs := by cases h <;> rfl
@[simp] theorem modCmd_ctxs (f : HalfCmd → HalfCmd) : (modCmd s h f).ctxs = s.ctxs := by cases h <;> rfl
@[simp] theorem modCmd_statLast (f : HalfCmd → HalfCmd) : (modCmd s h f).statLast = s.statLast := by cases h <;> rfl
@[simp] theorem modCmd_contentTrigs (f : HalfCmd → HalfCmd) : (modCmd s h f).contentTrigs = s.contentTrigs := by cases h <;> rfl
@[simp] theorem modCmd_trim (f : HalfCmd → HalfCmd) : (modCmd s h f).trim = s.trim := by cases h <;> rfl
@[simp] theorem modCmd_sessions (f : HalfCmd → HalfCmd) : (modCmd s h f).sessions = s.sessions := by cases h <;> rfl
@[simp] theorem modCmd_outs (f : HalfCmd → HalfCmd) : (modCmd s h f).outs = s.outs := by cases h <;> rfl
@[simp] theorem modCmd_vfSrc (f : HalfCmd → HalfCmd) : (modCmd s h f).vfSrc = s.vfSrc := by cases h <;> rfl
@[simp] theorem modCmd_ports (f : HalfCmd → HalfCmd) : (modCmd s h f).ports = s.ports := by cases h <;> rfl
@[simp] theorem modCmd_pair (f : HalfCmd → HalfCmd) : (modCmd s h f).pair = s.pair := by cases h <;> rfl
@[simp] theorem modCmd_sys (f : HalfCmd → HalfCmd) : (modCmd s h f).sys = s.sys := by cases h <;> rfl
@[simp] theorem modCmd_flights (f : HalfCmd → HalfCmd) : (modCmd s h f).flights = s.flights := by cases h <;> rfl
@[simp] theorem modCmd_nextSerial (f : HalfCmd → HalfCmd) : (modCmd s h f).nextSerial = s.nextSerial := by cases h <;> rfl
@[simp] theorem modCmd_staged (f : HalfCmd → HalfCmd) : (modCmd s h f).staged = s.staged := by cases h <;> rfl
@[simp] theorem modCmd_mgmt (f : HalfCmd → HalfCmd) : (modCmd s h f).mgmt = s.mgmt := by cases h <;> rfl
@[simp] theorem modCmd_hostMem (f : HalfCmd → HalfCmd) : (modCmd s h f).hostMem = s.hostMem := by cases h <;> rfl
@[simp] theorem modCmd_hostBad (f : HalfCmd → HalfCmd) : (modCmd s h f).hostBad = s.hostBad := by cases h <;> rfl
@[simp] theorem modCmd_pending (f : HalfCmd → HalfCmd) : (modCmd s h f).pending = s.pending := by cases h <;> rfl

/-! modEp changes ep of one half and nothing else. -/

@[simp] theorem modEp_half_ep (f : Endpoint → Endpoint) : (half (modEp s h f) h).ep = f (half s h).ep := by cases h <;> rfl
@[simp] theorem modEp_half_cmd (f : Endpoint → Endpoint) (k : Half) : (half (modEp s h f) k).cmd = (half s k).cmd := by
  cases h <;> cases k <;> rfl
@[simp] theorem modEp_half_ident (f : Endpoint → Endpoint) (k : Half) : (half (modEp s h f) k).ident = (half s k).ident := by
  cases h <;> cases k <;> rfl
@[simp] theorem modEp_half_power (f : Endpoint → Endpoint) (k : Half) : (half (modEp s h f) k).power = (half s k).power := by
  cases h <;> cases k <;> rfl
@[simp] theorem modEp_half_islands (f : Endpoint → Endpoint) (k : Half) : (half (modEp s h f) k).islands = (half s k).islands := by
  cases h <;> cases k <;> rfl
@[simp] theorem modEp_half_mem (f : Endpoint → Endpoint) (k : Half) : (half (modEp s h f) k).mem = (half s k).mem := by
  cases h <;> cases k <;> rfl
@[simp] theorem modEp_half_pipe (f : Endpoint → Endpoint) (k : Half) : (half (modEp s h f) k).pipe = (half s k).pipe := by
  cases h <;> cases k <;> rfl
@[simp] theorem modEp_half_ash (f : Endpoint → Endpoint) (k : Half) : (half (modEp s h f) k).ash = (half s k).ash := by
  cases h <;> cases k <;> rfl
@[simp] theorem modEp_half_sys (f : Endpoint → Endpoint) (k : Half) : (half (modEp s h f) k).sys = (half s k).sys := by
  cases h <;> cases k <;> rfl
@[simp] theorem modEp_half_vf (f : Endpoint → Endpoint) (k : Half) : (half (modEp s h f) k).vf = (half s k).vf := by
  cases h <;> cases k <;> rfl
@[simp] theorem modEp_half_audFamily (f : Endpoint → Endpoint) (k : Half) : (half (modEp s h f) k).audFamily = (half s k).audFamily := by
  cases h <;> cases k <;> rfl
@[simp] theorem modEp_otherHalf (f : Endpoint → Endpoint) : half (modEp s h f) (otherHalf h) = half s (otherHalf h) := by
  cases h <;> rfl
theorem modEp_ne {k : Half} (n : k ≠ h) (f : Endpoint → Endpoint) : half (modEp s h f) k = half s k :=
  modHalf_ne s h n _
@[simp] theorem modEp_mortar (f : Endpoint → Endpoint) : (modEp s h f).mortar = s.mortar := by cases h <;> rfl
@[simp] theorem modEp_quads (f : Endpoint → Endpoint) : (modEp s h f).quads = s.quads := by cases h <;> rfl
@[simp] theorem modEp_links (f : Endpoint → Endpoint) : (modEp s h f).links = s.links := by cases h <;> rfl
@[simp] theorem modEp_lanes (f : Endpoint → Endpoint) : (modEp s h f).lanes = s.lanes := by cases h <;> rfl
@[simp] theorem modEp_rx (f : Endpoint → Endpoint) : (modEp s h f).rx = s.rx := by cases h <;> rfl
@[simp] theorem modEp_streams (f : Endpoint → Endpoint) : (modEp s h f).streams = s.streams := by cases h <;> rfl
@[simp] theorem modEp_reads (f : Endpoint → Endpoint) : (modEp s h f).reads = s.reads := by cases h <;> rfl
@[simp] theorem modEp_rules (f : Endpoint → Endpoint) : (modEp s h f).rules = s.rules := by cases h <;> rfl
@[simp] theorem modEp_corrs (f : Endpoint → Endpoint) : (modEp s h f).corrs = s.corrs := by cases h <;> rfl
@[simp] theorem modEp_ctxs (f : Endpoint → Endpoint) : (modEp s h f).ctxs = s.ctxs := by cases h <;> rfl
@[simp] theorem modEp_statLast (f : Endpoint → Endpoint) : (modEp s h f).statLast = s.statLast := by cases h <;> rfl
@[simp] theorem modEp_contentTrigs (f : Endpoint → Endpoint) : (modEp s h f).contentTrigs = s.contentTrigs := by cases h <;> rfl
@[simp] theorem modEp_trim (f : Endpoint → Endpoint) : (modEp s h f).trim = s.trim := by cases h <;> rfl
@[simp] theorem modEp_sessions (f : Endpoint → Endpoint) : (modEp s h f).sessions = s.sessions := by cases h <;> rfl
@[simp] theorem modEp_outs (f : Endpoint → Endpoint) : (modEp s h f).outs = s.outs := by cases h <;> rfl
@[simp] theorem modEp_vfSrc (f : Endpoint → Endpoint) : (modEp s h f).vfSrc = s.vfSrc := by cases h <;> rfl
@[simp] theorem modEp_ports (f : Endpoint → Endpoint) : (modEp s h f).ports = s.ports := by cases h <;> rfl
@[simp] theorem modEp_pair (f : Endpoint → Endpoint) : (modEp s h f).pair = s.pair := by cases h <;> rfl
@[simp] theorem modEp_sys (f : Endpoint → Endpoint) : (modEp s h f).sys = s.sys := by cases h <;> rfl
@[simp] theorem modEp_flights (f : Endpoint → Endpoint) : (modEp s h f).flights = s.flights := by cases h <;> rfl
@[simp] theorem modEp_nextSerial (f : Endpoint → Endpoint) : (modEp s h f).nextSerial = s.nextSerial := by cases h <;> rfl
@[simp] theorem modEp_staged (f : Endpoint → Endpoint) : (modEp s h f).staged = s.staged := by cases h <;> rfl
@[simp] theorem modEp_mgmt (f : Endpoint → Endpoint) : (modEp s h f).mgmt = s.mgmt := by cases h <;> rfl
@[simp] theorem modEp_hostMem (f : Endpoint → Endpoint) : (modEp s h f).hostMem = s.hostMem := by cases h <;> rfl
@[simp] theorem modEp_hostBad (f : Endpoint → Endpoint) : (modEp s h f).hostBad = s.hostBad := by cases h <;> rfl
@[simp] theorem modEp_pending (f : Endpoint → Endpoint) : (modEp s h f).pending = s.pending := by cases h <;> rfl

/-! modIdent changes ident of one half and nothing else. -/

@[simp] theorem modIdent_half_ident (f : Ident → Ident) : (half (modIdent s h f) h).ident = f (half s h).ident := by cases h <;> rfl
@[simp] theorem modIdent_half_cmd (f : Ident → Ident) (k : Half) : (half (modIdent s h f) k).cmd = (half s k).cmd := by
  cases h <;> cases k <;> rfl
@[simp] theorem modIdent_half_ep (f : Ident → Ident) (k : Half) : (half (modIdent s h f) k).ep = (half s k).ep := by
  cases h <;> cases k <;> rfl
@[simp] theorem modIdent_half_power (f : Ident → Ident) (k : Half) : (half (modIdent s h f) k).power = (half s k).power := by
  cases h <;> cases k <;> rfl
@[simp] theorem modIdent_half_islands (f : Ident → Ident) (k : Half) : (half (modIdent s h f) k).islands = (half s k).islands := by
  cases h <;> cases k <;> rfl
@[simp] theorem modIdent_half_mem (f : Ident → Ident) (k : Half) : (half (modIdent s h f) k).mem = (half s k).mem := by
  cases h <;> cases k <;> rfl
@[simp] theorem modIdent_half_pipe (f : Ident → Ident) (k : Half) : (half (modIdent s h f) k).pipe = (half s k).pipe := by
  cases h <;> cases k <;> rfl
@[simp] theorem modIdent_half_ash (f : Ident → Ident) (k : Half) : (half (modIdent s h f) k).ash = (half s k).ash := by
  cases h <;> cases k <;> rfl
@[simp] theorem modIdent_half_sys (f : Ident → Ident) (k : Half) : (half (modIdent s h f) k).sys = (half s k).sys := by
  cases h <;> cases k <;> rfl
@[simp] theorem modIdent_half_vf (f : Ident → Ident) (k : Half) : (half (modIdent s h f) k).vf = (half s k).vf := by
  cases h <;> cases k <;> rfl
@[simp] theorem modIdent_half_audFamily (f : Ident → Ident) (k : Half) : (half (modIdent s h f) k).audFamily = (half s k).audFamily := by
  cases h <;> cases k <;> rfl
@[simp] theorem modIdent_otherHalf (f : Ident → Ident) : half (modIdent s h f) (otherHalf h) = half s (otherHalf h) := by
  cases h <;> rfl
theorem modIdent_ne {k : Half} (n : k ≠ h) (f : Ident → Ident) : half (modIdent s h f) k = half s k :=
  modHalf_ne s h n _
@[simp] theorem modIdent_mortar (f : Ident → Ident) : (modIdent s h f).mortar = s.mortar := by cases h <;> rfl
@[simp] theorem modIdent_quads (f : Ident → Ident) : (modIdent s h f).quads = s.quads := by cases h <;> rfl
@[simp] theorem modIdent_links (f : Ident → Ident) : (modIdent s h f).links = s.links := by cases h <;> rfl
@[simp] theorem modIdent_lanes (f : Ident → Ident) : (modIdent s h f).lanes = s.lanes := by cases h <;> rfl
@[simp] theorem modIdent_rx (f : Ident → Ident) : (modIdent s h f).rx = s.rx := by cases h <;> rfl
@[simp] theorem modIdent_streams (f : Ident → Ident) : (modIdent s h f).streams = s.streams := by cases h <;> rfl
@[simp] theorem modIdent_reads (f : Ident → Ident) : (modIdent s h f).reads = s.reads := by cases h <;> rfl
@[simp] theorem modIdent_rules (f : Ident → Ident) : (modIdent s h f).rules = s.rules := by cases h <;> rfl
@[simp] theorem modIdent_corrs (f : Ident → Ident) : (modIdent s h f).corrs = s.corrs := by cases h <;> rfl
@[simp] theorem modIdent_ctxs (f : Ident → Ident) : (modIdent s h f).ctxs = s.ctxs := by cases h <;> rfl
@[simp] theorem modIdent_statLast (f : Ident → Ident) : (modIdent s h f).statLast = s.statLast := by cases h <;> rfl
@[simp] theorem modIdent_contentTrigs (f : Ident → Ident) : (modIdent s h f).contentTrigs = s.contentTrigs := by cases h <;> rfl
@[simp] theorem modIdent_trim (f : Ident → Ident) : (modIdent s h f).trim = s.trim := by cases h <;> rfl
@[simp] theorem modIdent_sessions (f : Ident → Ident) : (modIdent s h f).sessions = s.sessions := by cases h <;> rfl
@[simp] theorem modIdent_outs (f : Ident → Ident) : (modIdent s h f).outs = s.outs := by cases h <;> rfl
@[simp] theorem modIdent_vfSrc (f : Ident → Ident) : (modIdent s h f).vfSrc = s.vfSrc := by cases h <;> rfl
@[simp] theorem modIdent_ports (f : Ident → Ident) : (modIdent s h f).ports = s.ports := by cases h <;> rfl
@[simp] theorem modIdent_pair (f : Ident → Ident) : (modIdent s h f).pair = s.pair := by cases h <;> rfl
@[simp] theorem modIdent_sys (f : Ident → Ident) : (modIdent s h f).sys = s.sys := by cases h <;> rfl
@[simp] theorem modIdent_flights (f : Ident → Ident) : (modIdent s h f).flights = s.flights := by cases h <;> rfl
@[simp] theorem modIdent_nextSerial (f : Ident → Ident) : (modIdent s h f).nextSerial = s.nextSerial := by cases h <;> rfl
@[simp] theorem modIdent_staged (f : Ident → Ident) : (modIdent s h f).staged = s.staged := by cases h <;> rfl
@[simp] theorem modIdent_mgmt (f : Ident → Ident) : (modIdent s h f).mgmt = s.mgmt := by cases h <;> rfl
@[simp] theorem modIdent_hostMem (f : Ident → Ident) : (modIdent s h f).hostMem = s.hostMem := by cases h <;> rfl
@[simp] theorem modIdent_hostBad (f : Ident → Ident) : (modIdent s h f).hostBad = s.hostBad := by cases h <;> rfl
@[simp] theorem modIdent_pending (f : Ident → Ident) : (modIdent s h f).pending = s.pending := by cases h <;> rfl

/-! modMem changes mem of one half and nothing else. -/

@[simp] theorem modMem_half_mem (f : HalfMem → HalfMem) : (half (modMem s h f) h).mem = f (half s h).mem := by cases h <;> rfl
@[simp] theorem modMem_half_cmd (f : HalfMem → HalfMem) (k : Half) : (half (modMem s h f) k).cmd = (half s k).cmd := by
  cases h <;> cases k <;> rfl
@[simp] theorem modMem_half_ep (f : HalfMem → HalfMem) (k : Half) : (half (modMem s h f) k).ep = (half s k).ep := by
  cases h <;> cases k <;> rfl
@[simp] theorem modMem_half_ident (f : HalfMem → HalfMem) (k : Half) : (half (modMem s h f) k).ident = (half s k).ident := by
  cases h <;> cases k <;> rfl
@[simp] theorem modMem_half_power (f : HalfMem → HalfMem) (k : Half) : (half (modMem s h f) k).power = (half s k).power := by
  cases h <;> cases k <;> rfl
@[simp] theorem modMem_half_islands (f : HalfMem → HalfMem) (k : Half) : (half (modMem s h f) k).islands = (half s k).islands := by
  cases h <;> cases k <;> rfl
@[simp] theorem modMem_half_pipe (f : HalfMem → HalfMem) (k : Half) : (half (modMem s h f) k).pipe = (half s k).pipe := by
  cases h <;> cases k <;> rfl
@[simp] theorem modMem_half_ash (f : HalfMem → HalfMem) (k : Half) : (half (modMem s h f) k).ash = (half s k).ash := by
  cases h <;> cases k <;> rfl
@[simp] theorem modMem_half_sys (f : HalfMem → HalfMem) (k : Half) : (half (modMem s h f) k).sys = (half s k).sys := by
  cases h <;> cases k <;> rfl
@[simp] theorem modMem_half_vf (f : HalfMem → HalfMem) (k : Half) : (half (modMem s h f) k).vf = (half s k).vf := by
  cases h <;> cases k <;> rfl
@[simp] theorem modMem_half_audFamily (f : HalfMem → HalfMem) (k : Half) : (half (modMem s h f) k).audFamily = (half s k).audFamily := by
  cases h <;> cases k <;> rfl
@[simp] theorem modMem_otherHalf (f : HalfMem → HalfMem) : half (modMem s h f) (otherHalf h) = half s (otherHalf h) := by
  cases h <;> rfl
theorem modMem_ne {k : Half} (n : k ≠ h) (f : HalfMem → HalfMem) : half (modMem s h f) k = half s k :=
  modHalf_ne s h n _
@[simp] theorem modMem_mortar (f : HalfMem → HalfMem) : (modMem s h f).mortar = s.mortar := by cases h <;> rfl
@[simp] theorem modMem_quads (f : HalfMem → HalfMem) : (modMem s h f).quads = s.quads := by cases h <;> rfl
@[simp] theorem modMem_links (f : HalfMem → HalfMem) : (modMem s h f).links = s.links := by cases h <;> rfl
@[simp] theorem modMem_lanes (f : HalfMem → HalfMem) : (modMem s h f).lanes = s.lanes := by cases h <;> rfl
@[simp] theorem modMem_rx (f : HalfMem → HalfMem) : (modMem s h f).rx = s.rx := by cases h <;> rfl
@[simp] theorem modMem_streams (f : HalfMem → HalfMem) : (modMem s h f).streams = s.streams := by cases h <;> rfl
@[simp] theorem modMem_reads (f : HalfMem → HalfMem) : (modMem s h f).reads = s.reads := by cases h <;> rfl
@[simp] theorem modMem_rules (f : HalfMem → HalfMem) : (modMem s h f).rules = s.rules := by cases h <;> rfl
@[simp] theorem modMem_corrs (f : HalfMem → HalfMem) : (modMem s h f).corrs = s.corrs := by cases h <;> rfl
@[simp] theorem modMem_ctxs (f : HalfMem → HalfMem) : (modMem s h f).ctxs = s.ctxs := by cases h <;> rfl
@[simp] theorem modMem_statLast (f : HalfMem → HalfMem) : (modMem s h f).statLast = s.statLast := by cases h <;> rfl
@[simp] theorem modMem_contentTrigs (f : HalfMem → HalfMem) : (modMem s h f).contentTrigs = s.contentTrigs := by cases h <;> rfl
@[simp] theorem modMem_trim (f : HalfMem → HalfMem) : (modMem s h f).trim = s.trim := by cases h <;> rfl
@[simp] theorem modMem_sessions (f : HalfMem → HalfMem) : (modMem s h f).sessions = s.sessions := by cases h <;> rfl
@[simp] theorem modMem_outs (f : HalfMem → HalfMem) : (modMem s h f).outs = s.outs := by cases h <;> rfl
@[simp] theorem modMem_vfSrc (f : HalfMem → HalfMem) : (modMem s h f).vfSrc = s.vfSrc := by cases h <;> rfl
@[simp] theorem modMem_ports (f : HalfMem → HalfMem) : (modMem s h f).ports = s.ports := by cases h <;> rfl
@[simp] theorem modMem_pair (f : HalfMem → HalfMem) : (modMem s h f).pair = s.pair := by cases h <;> rfl
@[simp] theorem modMem_sys (f : HalfMem → HalfMem) : (modMem s h f).sys = s.sys := by cases h <;> rfl
@[simp] theorem modMem_flights (f : HalfMem → HalfMem) : (modMem s h f).flights = s.flights := by cases h <;> rfl
@[simp] theorem modMem_nextSerial (f : HalfMem → HalfMem) : (modMem s h f).nextSerial = s.nextSerial := by cases h <;> rfl
@[simp] theorem modMem_staged (f : HalfMem → HalfMem) : (modMem s h f).staged = s.staged := by cases h <;> rfl
@[simp] theorem modMem_mgmt (f : HalfMem → HalfMem) : (modMem s h f).mgmt = s.mgmt := by cases h <;> rfl
@[simp] theorem modMem_hostMem (f : HalfMem → HalfMem) : (modMem s h f).hostMem = s.hostMem := by cases h <;> rfl
@[simp] theorem modMem_hostBad (f : HalfMem → HalfMem) : (modMem s h f).hostBad = s.hostBad := by cases h <;> rfl
@[simp] theorem modMem_pending (f : HalfMem → HalfMem) : (modMem s h f).pending = s.pending := by cases h <;> rfl

/-! modPipe changes pipe of one half and nothing else. -/

@[simp] theorem modPipe_half_pipe (f : Pipe → Pipe) : (half (modPipe s h f) h).pipe = f (half s h).pipe := by cases h <;> rfl
@[simp] theorem modPipe_half_cmd (f : Pipe → Pipe) (k : Half) : (half (modPipe s h f) k).cmd = (half s k).cmd := by
  cases h <;> cases k <;> rfl
@[simp] theorem modPipe_half_ep (f : Pipe → Pipe) (k : Half) : (half (modPipe s h f) k).ep = (half s k).ep := by
  cases h <;> cases k <;> rfl
@[simp] theorem modPipe_half_ident (f : Pipe → Pipe) (k : Half) : (half (modPipe s h f) k).ident = (half s k).ident := by
  cases h <;> cases k <;> rfl
@[simp] theorem modPipe_half_power (f : Pipe → Pipe) (k : Half) : (half (modPipe s h f) k).power = (half s k).power := by
  cases h <;> cases k <;> rfl
@[simp] theorem modPipe_half_islands (f : Pipe → Pipe) (k : Half) : (half (modPipe s h f) k).islands = (half s k).islands := by
  cases h <;> cases k <;> rfl
@[simp] theorem modPipe_half_mem (f : Pipe → Pipe) (k : Half) : (half (modPipe s h f) k).mem = (half s k).mem := by
  cases h <;> cases k <;> rfl
@[simp] theorem modPipe_half_ash (f : Pipe → Pipe) (k : Half) : (half (modPipe s h f) k).ash = (half s k).ash := by
  cases h <;> cases k <;> rfl
@[simp] theorem modPipe_half_sys (f : Pipe → Pipe) (k : Half) : (half (modPipe s h f) k).sys = (half s k).sys := by
  cases h <;> cases k <;> rfl
@[simp] theorem modPipe_half_vf (f : Pipe → Pipe) (k : Half) : (half (modPipe s h f) k).vf = (half s k).vf := by
  cases h <;> cases k <;> rfl
@[simp] theorem modPipe_half_audFamily (f : Pipe → Pipe) (k : Half) : (half (modPipe s h f) k).audFamily = (half s k).audFamily := by
  cases h <;> cases k <;> rfl
@[simp] theorem modPipe_otherHalf (f : Pipe → Pipe) : half (modPipe s h f) (otherHalf h) = half s (otherHalf h) := by
  cases h <;> rfl
theorem modPipe_ne {k : Half} (n : k ≠ h) (f : Pipe → Pipe) : half (modPipe s h f) k = half s k :=
  modHalf_ne s h n _
@[simp] theorem modPipe_mortar (f : Pipe → Pipe) : (modPipe s h f).mortar = s.mortar := by cases h <;> rfl
@[simp] theorem modPipe_quads (f : Pipe → Pipe) : (modPipe s h f).quads = s.quads := by cases h <;> rfl
@[simp] theorem modPipe_links (f : Pipe → Pipe) : (modPipe s h f).links = s.links := by cases h <;> rfl
@[simp] theorem modPipe_lanes (f : Pipe → Pipe) : (modPipe s h f).lanes = s.lanes := by cases h <;> rfl
@[simp] theorem modPipe_rx (f : Pipe → Pipe) : (modPipe s h f).rx = s.rx := by cases h <;> rfl
@[simp] theorem modPipe_streams (f : Pipe → Pipe) : (modPipe s h f).streams = s.streams := by cases h <;> rfl
@[simp] theorem modPipe_reads (f : Pipe → Pipe) : (modPipe s h f).reads = s.reads := by cases h <;> rfl
@[simp] theorem modPipe_rules (f : Pipe → Pipe) : (modPipe s h f).rules = s.rules := by cases h <;> rfl
@[simp] theorem modPipe_corrs (f : Pipe → Pipe) : (modPipe s h f).corrs = s.corrs := by cases h <;> rfl
@[simp] theorem modPipe_ctxs (f : Pipe → Pipe) : (modPipe s h f).ctxs = s.ctxs := by cases h <;> rfl
@[simp] theorem modPipe_statLast (f : Pipe → Pipe) : (modPipe s h f).statLast = s.statLast := by cases h <;> rfl
@[simp] theorem modPipe_contentTrigs (f : Pipe → Pipe) : (modPipe s h f).contentTrigs = s.contentTrigs := by cases h <;> rfl
@[simp] theorem modPipe_trim (f : Pipe → Pipe) : (modPipe s h f).trim = s.trim := by cases h <;> rfl
@[simp] theorem modPipe_sessions (f : Pipe → Pipe) : (modPipe s h f).sessions = s.sessions := by cases h <;> rfl
@[simp] theorem modPipe_outs (f : Pipe → Pipe) : (modPipe s h f).outs = s.outs := by cases h <;> rfl
@[simp] theorem modPipe_vfSrc (f : Pipe → Pipe) : (modPipe s h f).vfSrc = s.vfSrc := by cases h <;> rfl
@[simp] theorem modPipe_ports (f : Pipe → Pipe) : (modPipe s h f).ports = s.ports := by cases h <;> rfl
@[simp] theorem modPipe_pair (f : Pipe → Pipe) : (modPipe s h f).pair = s.pair := by cases h <;> rfl
@[simp] theorem modPipe_sys (f : Pipe → Pipe) : (modPipe s h f).sys = s.sys := by cases h <;> rfl
@[simp] theorem modPipe_flights (f : Pipe → Pipe) : (modPipe s h f).flights = s.flights := by cases h <;> rfl
@[simp] theorem modPipe_nextSerial (f : Pipe → Pipe) : (modPipe s h f).nextSerial = s.nextSerial := by cases h <;> rfl
@[simp] theorem modPipe_staged (f : Pipe → Pipe) : (modPipe s h f).staged = s.staged := by cases h <;> rfl
@[simp] theorem modPipe_mgmt (f : Pipe → Pipe) : (modPipe s h f).mgmt = s.mgmt := by cases h <;> rfl
@[simp] theorem modPipe_hostMem (f : Pipe → Pipe) : (modPipe s h f).hostMem = s.hostMem := by cases h <;> rfl
@[simp] theorem modPipe_hostBad (f : Pipe → Pipe) : (modPipe s h f).hostBad = s.hostBad := by cases h <;> rfl
@[simp] theorem modPipe_pending (f : Pipe → Pipe) : (modPipe s h f).pending = s.pending := by cases h <;> rfl

/-! modAsh changes ash of one half and nothing else. -/

@[simp] theorem modAsh_half_ash (f : Ashlar → Ashlar) : (half (modAsh s h f) h).ash = f (half s h).ash := by cases h <;> rfl
@[simp] theorem modAsh_half_cmd (f : Ashlar → Ashlar) (k : Half) : (half (modAsh s h f) k).cmd = (half s k).cmd := by
  cases h <;> cases k <;> rfl
@[simp] theorem modAsh_half_ep (f : Ashlar → Ashlar) (k : Half) : (half (modAsh s h f) k).ep = (half s k).ep := by
  cases h <;> cases k <;> rfl
@[simp] theorem modAsh_half_ident (f : Ashlar → Ashlar) (k : Half) : (half (modAsh s h f) k).ident = (half s k).ident := by
  cases h <;> cases k <;> rfl
@[simp] theorem modAsh_half_power (f : Ashlar → Ashlar) (k : Half) : (half (modAsh s h f) k).power = (half s k).power := by
  cases h <;> cases k <;> rfl
@[simp] theorem modAsh_half_islands (f : Ashlar → Ashlar) (k : Half) : (half (modAsh s h f) k).islands = (half s k).islands := by
  cases h <;> cases k <;> rfl
@[simp] theorem modAsh_half_mem (f : Ashlar → Ashlar) (k : Half) : (half (modAsh s h f) k).mem = (half s k).mem := by
  cases h <;> cases k <;> rfl
@[simp] theorem modAsh_half_pipe (f : Ashlar → Ashlar) (k : Half) : (half (modAsh s h f) k).pipe = (half s k).pipe := by
  cases h <;> cases k <;> rfl
@[simp] theorem modAsh_half_sys (f : Ashlar → Ashlar) (k : Half) : (half (modAsh s h f) k).sys = (half s k).sys := by
  cases h <;> cases k <;> rfl
@[simp] theorem modAsh_half_vf (f : Ashlar → Ashlar) (k : Half) : (half (modAsh s h f) k).vf = (half s k).vf := by
  cases h <;> cases k <;> rfl
@[simp] theorem modAsh_half_audFamily (f : Ashlar → Ashlar) (k : Half) : (half (modAsh s h f) k).audFamily = (half s k).audFamily := by
  cases h <;> cases k <;> rfl
@[simp] theorem modAsh_otherHalf (f : Ashlar → Ashlar) : half (modAsh s h f) (otherHalf h) = half s (otherHalf h) := by
  cases h <;> rfl
theorem modAsh_ne {k : Half} (n : k ≠ h) (f : Ashlar → Ashlar) : half (modAsh s h f) k = half s k :=
  modHalf_ne s h n _
@[simp] theorem modAsh_mortar (f : Ashlar → Ashlar) : (modAsh s h f).mortar = s.mortar := by cases h <;> rfl
@[simp] theorem modAsh_quads (f : Ashlar → Ashlar) : (modAsh s h f).quads = s.quads := by cases h <;> rfl
@[simp] theorem modAsh_links (f : Ashlar → Ashlar) : (modAsh s h f).links = s.links := by cases h <;> rfl
@[simp] theorem modAsh_lanes (f : Ashlar → Ashlar) : (modAsh s h f).lanes = s.lanes := by cases h <;> rfl
@[simp] theorem modAsh_rx (f : Ashlar → Ashlar) : (modAsh s h f).rx = s.rx := by cases h <;> rfl
@[simp] theorem modAsh_streams (f : Ashlar → Ashlar) : (modAsh s h f).streams = s.streams := by cases h <;> rfl
@[simp] theorem modAsh_reads (f : Ashlar → Ashlar) : (modAsh s h f).reads = s.reads := by cases h <;> rfl
@[simp] theorem modAsh_rules (f : Ashlar → Ashlar) : (modAsh s h f).rules = s.rules := by cases h <;> rfl
@[simp] theorem modAsh_corrs (f : Ashlar → Ashlar) : (modAsh s h f).corrs = s.corrs := by cases h <;> rfl
@[simp] theorem modAsh_ctxs (f : Ashlar → Ashlar) : (modAsh s h f).ctxs = s.ctxs := by cases h <;> rfl
@[simp] theorem modAsh_statLast (f : Ashlar → Ashlar) : (modAsh s h f).statLast = s.statLast := by cases h <;> rfl
@[simp] theorem modAsh_contentTrigs (f : Ashlar → Ashlar) : (modAsh s h f).contentTrigs = s.contentTrigs := by cases h <;> rfl
@[simp] theorem modAsh_trim (f : Ashlar → Ashlar) : (modAsh s h f).trim = s.trim := by cases h <;> rfl
@[simp] theorem modAsh_sessions (f : Ashlar → Ashlar) : (modAsh s h f).sessions = s.sessions := by cases h <;> rfl
@[simp] theorem modAsh_outs (f : Ashlar → Ashlar) : (modAsh s h f).outs = s.outs := by cases h <;> rfl
@[simp] theorem modAsh_vfSrc (f : Ashlar → Ashlar) : (modAsh s h f).vfSrc = s.vfSrc := by cases h <;> rfl
@[simp] theorem modAsh_ports (f : Ashlar → Ashlar) : (modAsh s h f).ports = s.ports := by cases h <;> rfl
@[simp] theorem modAsh_pair (f : Ashlar → Ashlar) : (modAsh s h f).pair = s.pair := by cases h <;> rfl
@[simp] theorem modAsh_sys (f : Ashlar → Ashlar) : (modAsh s h f).sys = s.sys := by cases h <;> rfl
@[simp] theorem modAsh_flights (f : Ashlar → Ashlar) : (modAsh s h f).flights = s.flights := by cases h <;> rfl
@[simp] theorem modAsh_nextSerial (f : Ashlar → Ashlar) : (modAsh s h f).nextSerial = s.nextSerial := by cases h <;> rfl
@[simp] theorem modAsh_staged (f : Ashlar → Ashlar) : (modAsh s h f).staged = s.staged := by cases h <;> rfl
@[simp] theorem modAsh_mgmt (f : Ashlar → Ashlar) : (modAsh s h f).mgmt = s.mgmt := by cases h <;> rfl
@[simp] theorem modAsh_hostMem (f : Ashlar → Ashlar) : (modAsh s h f).hostMem = s.hostMem := by cases h <;> rfl
@[simp] theorem modAsh_hostBad (f : Ashlar → Ashlar) : (modAsh s h f).hostBad = s.hostBad := by cases h <;> rfl
@[simp] theorem modAsh_pending (f : Ashlar → Ashlar) : (modAsh s h f).pending = s.pending := by cases h <;> rfl

/-! modSys changes sys of one half and nothing else. -/

@[simp] theorem modSys_half_sys (f : HalfSys → HalfSys) : (half (modSys s h f) h).sys = f (half s h).sys := by cases h <;> rfl
@[simp] theorem modSys_half_cmd (f : HalfSys → HalfSys) (k : Half) : (half (modSys s h f) k).cmd = (half s k).cmd := by
  cases h <;> cases k <;> rfl
@[simp] theorem modSys_half_ep (f : HalfSys → HalfSys) (k : Half) : (half (modSys s h f) k).ep = (half s k).ep := by
  cases h <;> cases k <;> rfl
@[simp] theorem modSys_half_ident (f : HalfSys → HalfSys) (k : Half) : (half (modSys s h f) k).ident = (half s k).ident := by
  cases h <;> cases k <;> rfl
@[simp] theorem modSys_half_power (f : HalfSys → HalfSys) (k : Half) : (half (modSys s h f) k).power = (half s k).power := by
  cases h <;> cases k <;> rfl
@[simp] theorem modSys_half_islands (f : HalfSys → HalfSys) (k : Half) : (half (modSys s h f) k).islands = (half s k).islands := by
  cases h <;> cases k <;> rfl
@[simp] theorem modSys_half_mem (f : HalfSys → HalfSys) (k : Half) : (half (modSys s h f) k).mem = (half s k).mem := by
  cases h <;> cases k <;> rfl
@[simp] theorem modSys_half_pipe (f : HalfSys → HalfSys) (k : Half) : (half (modSys s h f) k).pipe = (half s k).pipe := by
  cases h <;> cases k <;> rfl
@[simp] theorem modSys_half_ash (f : HalfSys → HalfSys) (k : Half) : (half (modSys s h f) k).ash = (half s k).ash := by
  cases h <;> cases k <;> rfl
@[simp] theorem modSys_half_vf (f : HalfSys → HalfSys) (k : Half) : (half (modSys s h f) k).vf = (half s k).vf := by
  cases h <;> cases k <;> rfl
@[simp] theorem modSys_half_audFamily (f : HalfSys → HalfSys) (k : Half) : (half (modSys s h f) k).audFamily = (half s k).audFamily := by
  cases h <;> cases k <;> rfl
@[simp] theorem modSys_otherHalf (f : HalfSys → HalfSys) : half (modSys s h f) (otherHalf h) = half s (otherHalf h) := by
  cases h <;> rfl
theorem modSys_ne {k : Half} (n : k ≠ h) (f : HalfSys → HalfSys) : half (modSys s h f) k = half s k :=
  modHalf_ne s h n _
@[simp] theorem modSys_mortar (f : HalfSys → HalfSys) : (modSys s h f).mortar = s.mortar := by cases h <;> rfl
@[simp] theorem modSys_quads (f : HalfSys → HalfSys) : (modSys s h f).quads = s.quads := by cases h <;> rfl
@[simp] theorem modSys_links (f : HalfSys → HalfSys) : (modSys s h f).links = s.links := by cases h <;> rfl
@[simp] theorem modSys_lanes (f : HalfSys → HalfSys) : (modSys s h f).lanes = s.lanes := by cases h <;> rfl
@[simp] theorem modSys_rx (f : HalfSys → HalfSys) : (modSys s h f).rx = s.rx := by cases h <;> rfl
@[simp] theorem modSys_streams (f : HalfSys → HalfSys) : (modSys s h f).streams = s.streams := by cases h <;> rfl
@[simp] theorem modSys_reads (f : HalfSys → HalfSys) : (modSys s h f).reads = s.reads := by cases h <;> rfl
@[simp] theorem modSys_rules (f : HalfSys → HalfSys) : (modSys s h f).rules = s.rules := by cases h <;> rfl
@[simp] theorem modSys_corrs (f : HalfSys → HalfSys) : (modSys s h f).corrs = s.corrs := by cases h <;> rfl
@[simp] theorem modSys_ctxs (f : HalfSys → HalfSys) : (modSys s h f).ctxs = s.ctxs := by cases h <;> rfl
@[simp] theorem modSys_statLast (f : HalfSys → HalfSys) : (modSys s h f).statLast = s.statLast := by cases h <;> rfl
@[simp] theorem modSys_contentTrigs (f : HalfSys → HalfSys) : (modSys s h f).contentTrigs = s.contentTrigs := by cases h <;> rfl
@[simp] theorem modSys_trim (f : HalfSys → HalfSys) : (modSys s h f).trim = s.trim := by cases h <;> rfl
@[simp] theorem modSys_sessions (f : HalfSys → HalfSys) : (modSys s h f).sessions = s.sessions := by cases h <;> rfl
@[simp] theorem modSys_outs (f : HalfSys → HalfSys) : (modSys s h f).outs = s.outs := by cases h <;> rfl
@[simp] theorem modSys_vfSrc (f : HalfSys → HalfSys) : (modSys s h f).vfSrc = s.vfSrc := by cases h <;> rfl
@[simp] theorem modSys_ports (f : HalfSys → HalfSys) : (modSys s h f).ports = s.ports := by cases h <;> rfl
@[simp] theorem modSys_pair (f : HalfSys → HalfSys) : (modSys s h f).pair = s.pair := by cases h <;> rfl
@[simp] theorem modSys_sys (f : HalfSys → HalfSys) : (modSys s h f).sys = s.sys := by cases h <;> rfl
@[simp] theorem modSys_flights (f : HalfSys → HalfSys) : (modSys s h f).flights = s.flights := by cases h <;> rfl
@[simp] theorem modSys_nextSerial (f : HalfSys → HalfSys) : (modSys s h f).nextSerial = s.nextSerial := by cases h <;> rfl
@[simp] theorem modSys_staged (f : HalfSys → HalfSys) : (modSys s h f).staged = s.staged := by cases h <;> rfl
@[simp] theorem modSys_mgmt (f : HalfSys → HalfSys) : (modSys s h f).mgmt = s.mgmt := by cases h <;> rfl
@[simp] theorem modSys_hostMem (f : HalfSys → HalfSys) : (modSys s h f).hostMem = s.hostMem := by cases h <;> rfl
@[simp] theorem modSys_hostBad (f : HalfSys → HalfSys) : (modSys s h f).hostBad = s.hostBad := by cases h <;> rfl
@[simp] theorem modSys_pending (f : HalfSys → HalfSys) : (modSys s h f).pending = s.pending := by cases h <;> rfl

/-! modVfe changes vf of one half and nothing else. -/

@[simp] theorem modVfe_half_vf (f : VfEngine → VfEngine) : (half (modVfe s h f) h).vf = f (half s h).vf := by cases h <;> rfl
@[simp] theorem modVfe_half_cmd (f : VfEngine → VfEngine) (k : Half) : (half (modVfe s h f) k).cmd = (half s k).cmd := by
  cases h <;> cases k <;> rfl
@[simp] theorem modVfe_half_ep (f : VfEngine → VfEngine) (k : Half) : (half (modVfe s h f) k).ep = (half s k).ep := by
  cases h <;> cases k <;> rfl
@[simp] theorem modVfe_half_ident (f : VfEngine → VfEngine) (k : Half) : (half (modVfe s h f) k).ident = (half s k).ident := by
  cases h <;> cases k <;> rfl
@[simp] theorem modVfe_half_power (f : VfEngine → VfEngine) (k : Half) : (half (modVfe s h f) k).power = (half s k).power := by
  cases h <;> cases k <;> rfl
@[simp] theorem modVfe_half_islands (f : VfEngine → VfEngine) (k : Half) : (half (modVfe s h f) k).islands = (half s k).islands := by
  cases h <;> cases k <;> rfl
@[simp] theorem modVfe_half_mem (f : VfEngine → VfEngine) (k : Half) : (half (modVfe s h f) k).mem = (half s k).mem := by
  cases h <;> cases k <;> rfl
@[simp] theorem modVfe_half_pipe (f : VfEngine → VfEngine) (k : Half) : (half (modVfe s h f) k).pipe = (half s k).pipe := by
  cases h <;> cases k <;> rfl
@[simp] theorem modVfe_half_ash (f : VfEngine → VfEngine) (k : Half) : (half (modVfe s h f) k).ash = (half s k).ash := by
  cases h <;> cases k <;> rfl
@[simp] theorem modVfe_half_sys (f : VfEngine → VfEngine) (k : Half) : (half (modVfe s h f) k).sys = (half s k).sys := by
  cases h <;> cases k <;> rfl
@[simp] theorem modVfe_half_audFamily (f : VfEngine → VfEngine) (k : Half) : (half (modVfe s h f) k).audFamily = (half s k).audFamily := by
  cases h <;> cases k <;> rfl
@[simp] theorem modVfe_otherHalf (f : VfEngine → VfEngine) : half (modVfe s h f) (otherHalf h) = half s (otherHalf h) := by
  cases h <;> rfl
theorem modVfe_ne {k : Half} (n : k ≠ h) (f : VfEngine → VfEngine) : half (modVfe s h f) k = half s k :=
  modHalf_ne s h n _
@[simp] theorem modVfe_mortar (f : VfEngine → VfEngine) : (modVfe s h f).mortar = s.mortar := by cases h <;> rfl
@[simp] theorem modVfe_quads (f : VfEngine → VfEngine) : (modVfe s h f).quads = s.quads := by cases h <;> rfl
@[simp] theorem modVfe_links (f : VfEngine → VfEngine) : (modVfe s h f).links = s.links := by cases h <;> rfl
@[simp] theorem modVfe_lanes (f : VfEngine → VfEngine) : (modVfe s h f).lanes = s.lanes := by cases h <;> rfl
@[simp] theorem modVfe_rx (f : VfEngine → VfEngine) : (modVfe s h f).rx = s.rx := by cases h <;> rfl
@[simp] theorem modVfe_streams (f : VfEngine → VfEngine) : (modVfe s h f).streams = s.streams := by cases h <;> rfl
@[simp] theorem modVfe_reads (f : VfEngine → VfEngine) : (modVfe s h f).reads = s.reads := by cases h <;> rfl
@[simp] theorem modVfe_rules (f : VfEngine → VfEngine) : (modVfe s h f).rules = s.rules := by cases h <;> rfl
@[simp] theorem modVfe_corrs (f : VfEngine → VfEngine) : (modVfe s h f).corrs = s.corrs := by cases h <;> rfl
@[simp] theorem modVfe_ctxs (f : VfEngine → VfEngine) : (modVfe s h f).ctxs = s.ctxs := by cases h <;> rfl
@[simp] theorem modVfe_statLast (f : VfEngine → VfEngine) : (modVfe s h f).statLast = s.statLast := by cases h <;> rfl
@[simp] theorem modVfe_contentTrigs (f : VfEngine → VfEngine) : (modVfe s h f).contentTrigs = s.contentTrigs := by cases h <;> rfl
@[simp] theorem modVfe_trim (f : VfEngine → VfEngine) : (modVfe s h f).trim = s.trim := by cases h <;> rfl
@[simp] theorem modVfe_sessions (f : VfEngine → VfEngine) : (modVfe s h f).sessions = s.sessions := by cases h <;> rfl
@[simp] theorem modVfe_outs (f : VfEngine → VfEngine) : (modVfe s h f).outs = s.outs := by cases h <;> rfl
@[simp] theorem modVfe_vfSrc (f : VfEngine → VfEngine) : (modVfe s h f).vfSrc = s.vfSrc := by cases h <;> rfl
@[simp] theorem modVfe_ports (f : VfEngine → VfEngine) : (modVfe s h f).ports = s.ports := by cases h <;> rfl
@[simp] theorem modVfe_pair (f : VfEngine → VfEngine) : (modVfe s h f).pair = s.pair := by cases h <;> rfl
@[simp] theorem modVfe_sys (f : VfEngine → VfEngine) : (modVfe s h f).sys = s.sys := by cases h <;> rfl
@[simp] theorem modVfe_flights (f : VfEngine → VfEngine) : (modVfe s h f).flights = s.flights := by cases h <;> rfl
@[simp] theorem modVfe_nextSerial (f : VfEngine → VfEngine) : (modVfe s h f).nextSerial = s.nextSerial := by cases h <;> rfl
@[simp] theorem modVfe_staged (f : VfEngine → VfEngine) : (modVfe s h f).staged = s.staged := by cases h <;> rfl
@[simp] theorem modVfe_mgmt (f : VfEngine → VfEngine) : (modVfe s h f).mgmt = s.mgmt := by cases h <;> rfl
@[simp] theorem modVfe_hostMem (f : VfEngine → VfEngine) : (modVfe s h f).hostMem = s.hostMem := by cases h <;> rfl
@[simp] theorem modVfe_hostBad (f : VfEngine → VfEngine) : (modVfe s h f).hostBad = s.hostBad := by cases h <;> rfl
@[simp] theorem modVfe_pending (f : VfEngine → VfEngine) : (modVfe s h f).pending = s.pending := by cases h <;> rfl

/-! modLink changes links and nothing else. -/

@[simp] theorem modLink_links (n : Nat) (f : Link → Link) : (modLink s n f).links = tmod s.links n f := rfl
@[simp] theorem modLink_a (n : Nat) (f : Link → Link) : (modLink s n f).a = s.a := rfl
@[simp] theorem modLink_b (n : Nat) (f : Link → Link) : (modLink s n f).b = s.b := rfl
@[simp] theorem modLink_mortar (n : Nat) (f : Link → Link) : (modLink s n f).mortar = s.mortar := rfl
@[simp] theorem modLink_quads (n : Nat) (f : Link → Link) : (modLink s n f).quads = s.quads := rfl
@[simp] theorem modLink_lanes (n : Nat) (f : Link → Link) : (modLink s n f).lanes = s.lanes := rfl
@[simp] theorem modLink_rx (n : Nat) (f : Link → Link) : (modLink s n f).rx = s.rx := rfl
@[simp] theorem modLink_streams (n : Nat) (f : Link → Link) : (modLink s n f).streams = s.streams := rfl
@[simp] theorem modLink_reads (n : Nat) (f : Link → Link) : (modLink s n f).reads = s.reads := rfl
@[simp] theorem modLink_rules (n : Nat) (f : Link → Link) : (modLink s n f).rules = s.rules := rfl
@[simp] theorem modLink_corrs (n : Nat) (f : Link → Link) : (modLink s n f).corrs = s.corrs := rfl
@[simp] theorem modLink_ctxs (n : Nat) (f : Link → Link) : (modLink s n f).ctxs = s.ctxs := rfl
@[simp] theorem modLink_statLast (n : Nat) (f : Link → Link) : (modLink s n f).statLast = s.statLast := rfl
@[simp] theorem modLink_contentTrigs (n : Nat) (f : Link → Link) : (modLink s n f).contentTrigs = s.contentTrigs := rfl
@[simp] theorem modLink_trim (n : Nat) (f : Link → Link) : (modLink s n f).trim = s.trim := rfl
@[simp] theorem modLink_sessions (n : Nat) (f : Link → Link) : (modLink s n f).sessions = s.sessions := rfl
@[simp] theorem modLink_outs (n : Nat) (f : Link → Link) : (modLink s n f).outs = s.outs := rfl
@[simp] theorem modLink_vfSrc (n : Nat) (f : Link → Link) : (modLink s n f).vfSrc = s.vfSrc := rfl
@[simp] theorem modLink_ports (n : Nat) (f : Link → Link) : (modLink s n f).ports = s.ports := rfl
@[simp] theorem modLink_pair (n : Nat) (f : Link → Link) : (modLink s n f).pair = s.pair := rfl
@[simp] theorem modLink_sys (n : Nat) (f : Link → Link) : (modLink s n f).sys = s.sys := rfl
@[simp] theorem modLink_flights (n : Nat) (f : Link → Link) : (modLink s n f).flights = s.flights := rfl
@[simp] theorem modLink_nextSerial (n : Nat) (f : Link → Link) : (modLink s n f).nextSerial = s.nextSerial := rfl
@[simp] theorem modLink_staged (n : Nat) (f : Link → Link) : (modLink s n f).staged = s.staged := rfl
@[simp] theorem modLink_mgmt (n : Nat) (f : Link → Link) : (modLink s n f).mgmt = s.mgmt := rfl
@[simp] theorem modLink_hostMem (n : Nat) (f : Link → Link) : (modLink s n f).hostMem = s.hostMem := rfl
@[simp] theorem modLink_hostBad (n : Nat) (f : Link → Link) : (modLink s n f).hostBad = s.hostBad := rfl
@[simp] theorem modLink_pending (n : Nat) (f : Link → Link) : (modLink s n f).pending = s.pending := rfl
@[simp] theorem modLink_half (n : Nat) (f : Link → Link) : half (modLink s n f) h = half s h := by cases h <;> rfl

/-! modLane changes lanes and nothing else. -/

@[simp] theorem modLane_lanes (n : Nat) (f : Lane → Lane) : (modLane s n f).lanes = tmod s.lanes n f := rfl
@[simp] theorem modLane_a (n : Nat) (f : Lane → Lane) : (modLane s n f).a = s.a := rfl
@[simp] theorem modLane_b (n : Nat) (f : Lane → Lane) : (modLane s n f).b = s.b := rfl
@[simp] theorem modLane_mortar (n : Nat) (f : Lane → Lane) : (modLane s n f).mortar = s.mortar := rfl
@[simp] theorem modLane_quads (n : Nat) (f : Lane → Lane) : (modLane s n f).quads = s.quads := rfl
@[simp] theorem modLane_links (n : Nat) (f : Lane → Lane) : (modLane s n f).links = s.links := rfl
@[simp] theorem modLane_rx (n : Nat) (f : Lane → Lane) : (modLane s n f).rx = s.rx := rfl
@[simp] theorem modLane_streams (n : Nat) (f : Lane → Lane) : (modLane s n f).streams = s.streams := rfl
@[simp] theorem modLane_reads (n : Nat) (f : Lane → Lane) : (modLane s n f).reads = s.reads := rfl
@[simp] theorem modLane_rules (n : Nat) (f : Lane → Lane) : (modLane s n f).rules = s.rules := rfl
@[simp] theorem modLane_corrs (n : Nat) (f : Lane → Lane) : (modLane s n f).corrs = s.corrs := rfl
@[simp] theorem modLane_ctxs (n : Nat) (f : Lane → Lane) : (modLane s n f).ctxs = s.ctxs := rfl
@[simp] theorem modLane_statLast (n : Nat) (f : Lane → Lane) : (modLane s n f).statLast = s.statLast := rfl
@[simp] theorem modLane_contentTrigs (n : Nat) (f : Lane → Lane) : (modLane s n f).contentTrigs = s.contentTrigs := rfl
@[simp] theorem modLane_trim (n : Nat) (f : Lane → Lane) : (modLane s n f).trim = s.trim := rfl
@[simp] theorem modLane_sessions (n : Nat) (f : Lane → Lane) : (modLane s n f).sessions = s.sessions := rfl
@[simp] theorem modLane_outs (n : Nat) (f : Lane → Lane) : (modLane s n f).outs = s.outs := rfl
@[simp] theorem modLane_vfSrc (n : Nat) (f : Lane → Lane) : (modLane s n f).vfSrc = s.vfSrc := rfl
@[simp] theorem modLane_ports (n : Nat) (f : Lane → Lane) : (modLane s n f).ports = s.ports := rfl
@[simp] theorem modLane_pair (n : Nat) (f : Lane → Lane) : (modLane s n f).pair = s.pair := rfl
@[simp] theorem modLane_sys (n : Nat) (f : Lane → Lane) : (modLane s n f).sys = s.sys := rfl
@[simp] theorem modLane_flights (n : Nat) (f : Lane → Lane) : (modLane s n f).flights = s.flights := rfl
@[simp] theorem modLane_nextSerial (n : Nat) (f : Lane → Lane) : (modLane s n f).nextSerial = s.nextSerial := rfl
@[simp] theorem modLane_staged (n : Nat) (f : Lane → Lane) : (modLane s n f).staged = s.staged := rfl
@[simp] theorem modLane_mgmt (n : Nat) (f : Lane → Lane) : (modLane s n f).mgmt = s.mgmt := rfl
@[simp] theorem modLane_hostMem (n : Nat) (f : Lane → Lane) : (modLane s n f).hostMem = s.hostMem := rfl
@[simp] theorem modLane_hostBad (n : Nat) (f : Lane → Lane) : (modLane s n f).hostBad = s.hostBad := rfl
@[simp] theorem modLane_pending (n : Nat) (f : Lane → Lane) : (modLane s n f).pending = s.pending := rfl
@[simp] theorem modLane_half (n : Nat) (f : Lane → Lane) : half (modLane s n f) h = half s h := by cases h <;> rfl

/-! modStream changes streams and nothing else. -/

@[simp] theorem modStream_streams (n : Nat) (f : Stream → Stream) : (modStream s n f).streams = tmod s.streams n f := rfl
@[simp] theorem modStream_a (n : Nat) (f : Stream → Stream) : (modStream s n f).a = s.a := rfl
@[simp] theorem modStream_b (n : Nat) (f : Stream → Stream) : (modStream s n f).b = s.b := rfl
@[simp] theorem modStream_mortar (n : Nat) (f : Stream → Stream) : (modStream s n f).mortar = s.mortar := rfl
@[simp] theorem modStream_quads (n : Nat) (f : Stream → Stream) : (modStream s n f).quads = s.quads := rfl
@[simp] theorem modStream_links (n : Nat) (f : Stream → Stream) : (modStream s n f).links = s.links := rfl
@[simp] theorem modStream_lanes (n : Nat) (f : Stream → Stream) : (modStream s n f).lanes = s.lanes := rfl
@[simp] theorem modStream_rx (n : Nat) (f : Stream → Stream) : (modStream s n f).rx = s.rx := rfl
@[simp] theorem modStream_reads (n : Nat) (f : Stream → Stream) : (modStream s n f).reads = s.reads := rfl
@[simp] theorem modStream_rules (n : Nat) (f : Stream → Stream) : (modStream s n f).rules = s.rules := rfl
@[simp] theorem modStream_corrs (n : Nat) (f : Stream → Stream) : (modStream s n f).corrs = s.corrs := rfl
@[simp] theorem modStream_ctxs (n : Nat) (f : Stream → Stream) : (modStream s n f).ctxs = s.ctxs := rfl
@[simp] theorem modStream_statLast (n : Nat) (f : Stream → Stream) : (modStream s n f).statLast = s.statLast := rfl
@[simp] theorem modStream_contentTrigs (n : Nat) (f : Stream → Stream) : (modStream s n f).contentTrigs = s.contentTrigs := rfl
@[simp] theorem modStream_trim (n : Nat) (f : Stream → Stream) : (modStream s n f).trim = s.trim := rfl
@[simp] theorem modStream_sessions (n : Nat) (f : Stream → Stream) : (modStream s n f).sessions = s.sessions := rfl
@[simp] theorem modStream_outs (n : Nat) (f : Stream → Stream) : (modStream s n f).outs = s.outs := rfl
@[simp] theorem modStream_vfSrc (n : Nat) (f : Stream → Stream) : (modStream s n f).vfSrc = s.vfSrc := rfl
@[simp] theorem modStream_ports (n : Nat) (f : Stream → Stream) : (modStream s n f).ports = s.ports := rfl
@[simp] theorem modStream_pair (n : Nat) (f : Stream → Stream) : (modStream s n f).pair = s.pair := rfl
@[simp] theorem modStream_sys (n : Nat) (f : Stream → Stream) : (modStream s n f).sys = s.sys := rfl
@[simp] theorem modStream_flights (n : Nat) (f : Stream → Stream) : (modStream s n f).flights = s.flights := rfl
@[simp] theorem modStream_nextSerial (n : Nat) (f : Stream → Stream) : (modStream s n f).nextSerial = s.nextSerial := rfl
@[simp] theorem modStream_staged (n : Nat) (f : Stream → Stream) : (modStream s n f).staged = s.staged := rfl
@[simp] theorem modStream_mgmt (n : Nat) (f : Stream → Stream) : (modStream s n f).mgmt = s.mgmt := rfl
@[simp] theorem modStream_hostMem (n : Nat) (f : Stream → Stream) : (modStream s n f).hostMem = s.hostMem := rfl
@[simp] theorem modStream_hostBad (n : Nat) (f : Stream → Stream) : (modStream s n f).hostBad = s.hostBad := rfl
@[simp] theorem modStream_pending (n : Nat) (f : Stream → Stream) : (modStream s n f).pending = s.pending := rfl
@[simp] theorem modStream_half (n : Nat) (f : Stream → Stream) : half (modStream s n f) h = half s h := by cases h <;> rfl

/-! modCtx changes ctxs and nothing else. -/

@[simp] theorem modCtx_ctxs (n : Nat) (f : Context → Context) : (modCtx s n f).ctxs = tmod s.ctxs n f := rfl
@[simp] theorem modCtx_a (n : Nat) (f : Context → Context) : (modCtx s n f).a = s.a := rfl
@[simp] theorem modCtx_b (n : Nat) (f : Context → Context) : (modCtx s n f).b = s.b := rfl
@[simp] theorem modCtx_mortar (n : Nat) (f : Context → Context) : (modCtx s n f).mortar = s.mortar := rfl
@[simp] theorem modCtx_quads (n : Nat) (f : Context → Context) : (modCtx s n f).quads = s.quads := rfl
@[simp] theorem modCtx_links (n : Nat) (f : Context → Context) : (modCtx s n f).links = s.links := rfl
@[simp] theorem modCtx_lanes (n : Nat) (f : Context → Context) : (modCtx s n f).lanes = s.lanes := rfl
@[simp] theorem modCtx_rx (n : Nat) (f : Context → Context) : (modCtx s n f).rx = s.rx := rfl
@[simp] theorem modCtx_streams (n : Nat) (f : Context → Context) : (modCtx s n f).streams = s.streams := rfl
@[simp] theorem modCtx_reads (n : Nat) (f : Context → Context) : (modCtx s n f).reads = s.reads := rfl
@[simp] theorem modCtx_rules (n : Nat) (f : Context → Context) : (modCtx s n f).rules = s.rules := rfl
@[simp] theorem modCtx_corrs (n : Nat) (f : Context → Context) : (modCtx s n f).corrs = s.corrs := rfl
@[simp] theorem modCtx_statLast (n : Nat) (f : Context → Context) : (modCtx s n f).statLast = s.statLast := rfl
@[simp] theorem modCtx_contentTrigs (n : Nat) (f : Context → Context) : (modCtx s n f).contentTrigs = s.contentTrigs := rfl
@[simp] theorem modCtx_trim (n : Nat) (f : Context → Context) : (modCtx s n f).trim = s.trim := rfl
@[simp] theorem modCtx_sessions (n : Nat) (f : Context → Context) : (modCtx s n f).sessions = s.sessions := rfl
@[simp] theorem modCtx_outs (n : Nat) (f : Context → Context) : (modCtx s n f).outs = s.outs := rfl
@[simp] theorem modCtx_vfSrc (n : Nat) (f : Context → Context) : (modCtx s n f).vfSrc = s.vfSrc := rfl
@[simp] theorem modCtx_ports (n : Nat) (f : Context → Context) : (modCtx s n f).ports = s.ports := rfl
@[simp] theorem modCtx_pair (n : Nat) (f : Context → Context) : (modCtx s n f).pair = s.pair := rfl
@[simp] theorem modCtx_sys (n : Nat) (f : Context → Context) : (modCtx s n f).sys = s.sys := rfl
@[simp] theorem modCtx_flights (n : Nat) (f : Context → Context) : (modCtx s n f).flights = s.flights := rfl
@[simp] theorem modCtx_nextSerial (n : Nat) (f : Context → Context) : (modCtx s n f).nextSerial = s.nextSerial := rfl
@[simp] theorem modCtx_staged (n : Nat) (f : Context → Context) : (modCtx s n f).staged = s.staged := rfl
@[simp] theorem modCtx_mgmt (n : Nat) (f : Context → Context) : (modCtx s n f).mgmt = s.mgmt := rfl
@[simp] theorem modCtx_hostMem (n : Nat) (f : Context → Context) : (modCtx s n f).hostMem = s.hostMem := rfl
@[simp] theorem modCtx_hostBad (n : Nat) (f : Context → Context) : (modCtx s n f).hostBad = s.hostBad := rfl
@[simp] theorem modCtx_pending (n : Nat) (f : Context → Context) : (modCtx s n f).pending = s.pending := rfl
@[simp] theorem modCtx_half (n : Nat) (f : Context → Context) : half (modCtx s n f) h = half s h := by cases h <;> rfl

/-! modSess changes sessions and nothing else. -/

@[simp] theorem modSess_sessions (n : Nat) (f : Session → Session) : (modSess s n f).sessions = tmod s.sessions n f := rfl
@[simp] theorem modSess_a (n : Nat) (f : Session → Session) : (modSess s n f).a = s.a := rfl
@[simp] theorem modSess_b (n : Nat) (f : Session → Session) : (modSess s n f).b = s.b := rfl
@[simp] theorem modSess_mortar (n : Nat) (f : Session → Session) : (modSess s n f).mortar = s.mortar := rfl
@[simp] theorem modSess_quads (n : Nat) (f : Session → Session) : (modSess s n f).quads = s.quads := rfl
@[simp] theorem modSess_links (n : Nat) (f : Session → Session) : (modSess s n f).links = s.links := rfl
@[simp] theorem modSess_lanes (n : Nat) (f : Session → Session) : (modSess s n f).lanes = s.lanes := rfl
@[simp] theorem modSess_rx (n : Nat) (f : Session → Session) : (modSess s n f).rx = s.rx := rfl
@[simp] theorem modSess_streams (n : Nat) (f : Session → Session) : (modSess s n f).streams = s.streams := rfl
@[simp] theorem modSess_reads (n : Nat) (f : Session → Session) : (modSess s n f).reads = s.reads := rfl
@[simp] theorem modSess_rules (n : Nat) (f : Session → Session) : (modSess s n f).rules = s.rules := rfl
@[simp] theorem modSess_corrs (n : Nat) (f : Session → Session) : (modSess s n f).corrs = s.corrs := rfl
@[simp] theorem modSess_ctxs (n : Nat) (f : Session → Session) : (modSess s n f).ctxs = s.ctxs := rfl
@[simp] theorem modSess_statLast (n : Nat) (f : Session → Session) : (modSess s n f).statLast = s.statLast := rfl
@[simp] theorem modSess_contentTrigs (n : Nat) (f : Session → Session) : (modSess s n f).contentTrigs = s.contentTrigs := rfl
@[simp] theorem modSess_trim (n : Nat) (f : Session → Session) : (modSess s n f).trim = s.trim := rfl
@[simp] theorem modSess_outs (n : Nat) (f : Session → Session) : (modSess s n f).outs = s.outs := rfl
@[simp] theorem modSess_vfSrc (n : Nat) (f : Session → Session) : (modSess s n f).vfSrc = s.vfSrc := rfl
@[simp] theorem modSess_ports (n : Nat) (f : Session → Session) : (modSess s n f).ports = s.ports := rfl
@[simp] theorem modSess_pair (n : Nat) (f : Session → Session) : (modSess s n f).pair = s.pair := rfl
@[simp] theorem modSess_sys (n : Nat) (f : Session → Session) : (modSess s n f).sys = s.sys := rfl
@[simp] theorem modSess_flights (n : Nat) (f : Session → Session) : (modSess s n f).flights = s.flights := rfl
@[simp] theorem modSess_nextSerial (n : Nat) (f : Session → Session) : (modSess s n f).nextSerial = s.nextSerial := rfl
@[simp] theorem modSess_staged (n : Nat) (f : Session → Session) : (modSess s n f).staged = s.staged := rfl
@[simp] theorem modSess_mgmt (n : Nat) (f : Session → Session) : (modSess s n f).mgmt = s.mgmt := rfl
@[simp] theorem modSess_hostMem (n : Nat) (f : Session → Session) : (modSess s n f).hostMem = s.hostMem := rfl
@[simp] theorem modSess_hostBad (n : Nat) (f : Session → Session) : (modSess s n f).hostBad = s.hostBad := rfl
@[simp] theorem modSess_pending (n : Nat) (f : Session → Session) : (modSess s n f).pending = s.pending := rfl
@[simp] theorem modSess_half (n : Nat) (f : Session → Session) : half (modSess s n f) h = half s h := by cases h <;> rfl

/-! modOut changes outs and nothing else. -/

@[simp] theorem modOut_outs (n : Nat) (f : VfOut → VfOut) : (modOut s n f).outs = tmod s.outs n f := rfl
@[simp] theorem modOut_a (n : Nat) (f : VfOut → VfOut) : (modOut s n f).a = s.a := rfl
@[simp] theorem modOut_b (n : Nat) (f : VfOut → VfOut) : (modOut s n f).b = s.b := rfl
@[simp] theorem modOut_mortar (n : Nat) (f : VfOut → VfOut) : (modOut s n f).mortar = s.mortar := rfl
@[simp] theorem modOut_quads (n : Nat) (f : VfOut → VfOut) : (modOut s n f).quads = s.quads := rfl
@[simp] theorem modOut_links (n : Nat) (f : VfOut → VfOut) : (modOut s n f).links = s.links := rfl
@[simp] theorem modOut_lanes (n : Nat) (f : VfOut → VfOut) : (modOut s n f).lanes = s.lanes := rfl
@[simp] theorem modOut_rx (n : Nat) (f : VfOut → VfOut) : (modOut s n f).rx = s.rx := rfl
@[simp] theorem modOut_streams (n : Nat) (f : VfOut → VfOut) : (modOut s n f).streams = s.streams := rfl
@[simp] theorem modOut_reads (n : Nat) (f : VfOut → VfOut) : (modOut s n f).reads = s.reads := rfl
@[simp] theorem modOut_rules (n : Nat) (f : VfOut → VfOut) : (modOut s n f).rules = s.rules := rfl
@[simp] theorem modOut_corrs (n : Nat) (f : VfOut → VfOut) : (modOut s n f).corrs = s.corrs := rfl
@[simp] theorem modOut_ctxs (n : Nat) (f : VfOut → VfOut) : (modOut s n f).ctxs = s.ctxs := rfl
@[simp] theorem modOut_statLast (n : Nat) (f : VfOut → VfOut) : (modOut s n f).statLast = s.statLast := rfl
@[simp] theorem modOut_contentTrigs (n : Nat) (f : VfOut → VfOut) : (modOut s n f).contentTrigs = s.contentTrigs := rfl
@[simp] theorem modOut_trim (n : Nat) (f : VfOut → VfOut) : (modOut s n f).trim = s.trim := rfl
@[simp] theorem modOut_sessions (n : Nat) (f : VfOut → VfOut) : (modOut s n f).sessions = s.sessions := rfl
@[simp] theorem modOut_vfSrc (n : Nat) (f : VfOut → VfOut) : (modOut s n f).vfSrc = s.vfSrc := rfl
@[simp] theorem modOut_ports (n : Nat) (f : VfOut → VfOut) : (modOut s n f).ports = s.ports := rfl
@[simp] theorem modOut_pair (n : Nat) (f : VfOut → VfOut) : (modOut s n f).pair = s.pair := rfl
@[simp] theorem modOut_sys (n : Nat) (f : VfOut → VfOut) : (modOut s n f).sys = s.sys := rfl
@[simp] theorem modOut_flights (n : Nat) (f : VfOut → VfOut) : (modOut s n f).flights = s.flights := rfl
@[simp] theorem modOut_nextSerial (n : Nat) (f : VfOut → VfOut) : (modOut s n f).nextSerial = s.nextSerial := rfl
@[simp] theorem modOut_staged (n : Nat) (f : VfOut → VfOut) : (modOut s n f).staged = s.staged := rfl
@[simp] theorem modOut_mgmt (n : Nat) (f : VfOut → VfOut) : (modOut s n f).mgmt = s.mgmt := rfl
@[simp] theorem modOut_hostMem (n : Nat) (f : VfOut → VfOut) : (modOut s n f).hostMem = s.hostMem := rfl
@[simp] theorem modOut_hostBad (n : Nat) (f : VfOut → VfOut) : (modOut s n f).hostBad = s.hostBad := rfl
@[simp] theorem modOut_pending (n : Nat) (f : VfOut → VfOut) : (modOut s n f).pending = s.pending := rfl
@[simp] theorem modOut_half (n : Nat) (f : VfOut → VfOut) : half (modOut s n f) h = half s h := by cases h <;> rfl

/-! modPort changes ports and nothing else. -/

@[simp] theorem modPort_ports (n : Nat) (f : AudPort → AudPort) : (modPort s n f).ports = tmod s.ports n f := rfl
@[simp] theorem modPort_a (n : Nat) (f : AudPort → AudPort) : (modPort s n f).a = s.a := rfl
@[simp] theorem modPort_b (n : Nat) (f : AudPort → AudPort) : (modPort s n f).b = s.b := rfl
@[simp] theorem modPort_mortar (n : Nat) (f : AudPort → AudPort) : (modPort s n f).mortar = s.mortar := rfl
@[simp] theorem modPort_quads (n : Nat) (f : AudPort → AudPort) : (modPort s n f).quads = s.quads := rfl
@[simp] theorem modPort_links (n : Nat) (f : AudPort → AudPort) : (modPort s n f).links = s.links := rfl
@[simp] theorem modPort_lanes (n : Nat) (f : AudPort → AudPort) : (modPort s n f).lanes = s.lanes := rfl
@[simp] theorem modPort_rx (n : Nat) (f : AudPort → AudPort) : (modPort s n f).rx = s.rx := rfl
@[simp] theorem modPort_streams (n : Nat) (f : AudPort → AudPort) : (modPort s n f).streams = s.streams := rfl
@[simp] theorem modPort_reads (n : Nat) (f : AudPort → AudPort) : (modPort s n f).reads = s.reads := rfl
@[simp] theorem modPort_rules (n : Nat) (f : AudPort → AudPort) : (modPort s n f).rules = s.rules := rfl
@[simp] theorem modPort_corrs (n : Nat) (f : AudPort → AudPort) : (modPort s n f).corrs = s.corrs := rfl
@[simp] theorem modPort_ctxs (n : Nat) (f : AudPort → AudPort) : (modPort s n f).ctxs = s.ctxs := rfl
@[simp] theorem modPort_statLast (n : Nat) (f : AudPort → AudPort) : (modPort s n f).statLast = s.statLast := rfl
@[simp] theorem modPort_contentTrigs (n : Nat) (f : AudPort → AudPort) : (modPort s n f).contentTrigs = s.contentTrigs := rfl
@[simp] theorem modPort_trim (n : Nat) (f : AudPort → AudPort) : (modPort s n f).trim = s.trim := rfl
@[simp] theorem modPort_sessions (n : Nat) (f : AudPort → AudPort) : (modPort s n f).sessions = s.sessions := rfl
@[simp] theorem modPort_outs (n : Nat) (f : AudPort → AudPort) : (modPort s n f).outs = s.outs := rfl
@[simp] theorem modPort_vfSrc (n : Nat) (f : AudPort → AudPort) : (modPort s n f).vfSrc = s.vfSrc := rfl
@[simp] theorem modPort_pair (n : Nat) (f : AudPort → AudPort) : (modPort s n f).pair = s.pair := rfl
@[simp] theorem modPort_sys (n : Nat) (f : AudPort → AudPort) : (modPort s n f).sys = s.sys := rfl
@[simp] theorem modPort_flights (n : Nat) (f : AudPort → AudPort) : (modPort s n f).flights = s.flights := rfl
@[simp] theorem modPort_nextSerial (n : Nat) (f : AudPort → AudPort) : (modPort s n f).nextSerial = s.nextSerial := rfl
@[simp] theorem modPort_staged (n : Nat) (f : AudPort → AudPort) : (modPort s n f).staged = s.staged := rfl
@[simp] theorem modPort_mgmt (n : Nat) (f : AudPort → AudPort) : (modPort s n f).mgmt = s.mgmt := rfl
@[simp] theorem modPort_hostMem (n : Nat) (f : AudPort → AudPort) : (modPort s n f).hostMem = s.hostMem := rfl
@[simp] theorem modPort_hostBad (n : Nat) (f : AudPort → AudPort) : (modPort s n f).hostBad = s.hostBad := rfl
@[simp] theorem modPort_pending (n : Nat) (f : AudPort → AudPort) : (modPort s n f).pending = s.pending := rfl
@[simp] theorem modPort_half (n : Nat) (f : AudPort → AudPort) : half (modPort s n f) h = half s h := by cases h <;> rfl

/-! modRule changes rules and nothing else. -/

@[simp] theorem modRule_rules (n : Nat) (f : TrigRule → TrigRule) : (modRule s n f).rules = tmod s.rules n f := rfl
@[simp] theorem modRule_a (n : Nat) (f : TrigRule → TrigRule) : (modRule s n f).a = s.a := rfl
@[simp] theorem modRule_b (n : Nat) (f : TrigRule → TrigRule) : (modRule s n f).b = s.b := rfl
@[simp] theorem modRule_mortar (n : Nat) (f : TrigRule → TrigRule) : (modRule s n f).mortar = s.mortar := rfl
@[simp] theorem modRule_quads (n : Nat) (f : TrigRule → TrigRule) : (modRule s n f).quads = s.quads := rfl
@[simp] theorem modRule_links (n : Nat) (f : TrigRule → TrigRule) : (modRule s n f).links = s.links := rfl
@[simp] theorem modRule_lanes (n : Nat) (f : TrigRule → TrigRule) : (modRule s n f).lanes = s.lanes := rfl
@[simp] theorem modRule_rx (n : Nat) (f : TrigRule → TrigRule) : (modRule s n f).rx = s.rx := rfl
@[simp] theorem modRule_streams (n : Nat) (f : TrigRule → TrigRule) : (modRule s n f).streams = s.streams := rfl
@[simp] theorem modRule_reads (n : Nat) (f : TrigRule → TrigRule) : (modRule s n f).reads = s.reads := rfl
@[simp] theorem modRule_corrs (n : Nat) (f : TrigRule → TrigRule) : (modRule s n f).corrs = s.corrs := rfl
@[simp] theorem modRule_ctxs (n : Nat) (f : TrigRule → TrigRule) : (modRule s n f).ctxs = s.ctxs := rfl
@[simp] theorem modRule_statLast (n : Nat) (f : TrigRule → TrigRule) : (modRule s n f).statLast = s.statLast := rfl
@[simp] theorem modRule_contentTrigs (n : Nat) (f : TrigRule → TrigRule) : (modRule s n f).contentTrigs = s.contentTrigs := rfl
@[simp] theorem modRule_trim (n : Nat) (f : TrigRule → TrigRule) : (modRule s n f).trim = s.trim := rfl
@[simp] theorem modRule_sessions (n : Nat) (f : TrigRule → TrigRule) : (modRule s n f).sessions = s.sessions := rfl
@[simp] theorem modRule_outs (n : Nat) (f : TrigRule → TrigRule) : (modRule s n f).outs = s.outs := rfl
@[simp] theorem modRule_vfSrc (n : Nat) (f : TrigRule → TrigRule) : (modRule s n f).vfSrc = s.vfSrc := rfl
@[simp] theorem modRule_ports (n : Nat) (f : TrigRule → TrigRule) : (modRule s n f).ports = s.ports := rfl
@[simp] theorem modRule_pair (n : Nat) (f : TrigRule → TrigRule) : (modRule s n f).pair = s.pair := rfl
@[simp] theorem modRule_sys (n : Nat) (f : TrigRule → TrigRule) : (modRule s n f).sys = s.sys := rfl
@[simp] theorem modRule_flights (n : Nat) (f : TrigRule → TrigRule) : (modRule s n f).flights = s.flights := rfl
@[simp] theorem modRule_nextSerial (n : Nat) (f : TrigRule → TrigRule) : (modRule s n f).nextSerial = s.nextSerial := rfl
@[simp] theorem modRule_staged (n : Nat) (f : TrigRule → TrigRule) : (modRule s n f).staged = s.staged := rfl
@[simp] theorem modRule_mgmt (n : Nat) (f : TrigRule → TrigRule) : (modRule s n f).mgmt = s.mgmt := rfl
@[simp] theorem modRule_hostMem (n : Nat) (f : TrigRule → TrigRule) : (modRule s n f).hostMem = s.hostMem := rfl
@[simp] theorem modRule_hostBad (n : Nat) (f : TrigRule → TrigRule) : (modRule s n f).hostBad = s.hostBad := rfl
@[simp] theorem modRule_pending (n : Nat) (f : TrigRule → TrigRule) : (modRule s n f).pending = s.pending := rfl
@[simp] theorem modRule_half (n : Nat) (f : TrigRule → TrigRule) : half (modRule s n f) h = half s h := by cases h <;> rfl

/-! modPair changes pair and nothing else. -/

@[simp] theorem modPair_pair (f : Pair → Pair) : (modPair s f).pair = f s.pair := rfl
@[simp] theorem modPair_a (f : Pair → Pair) : (modPair s f).a = s.a := rfl
@[simp] theorem modPair_b (f : Pair → Pair) : (modPair s f).b = s.b := rfl
@[simp] theorem modPair_mortar (f : Pair → Pair) : (modPair s f).mortar = s.mortar := rfl
@[simp] theorem modPair_quads (f : Pair → Pair) : (modPair s f).quads = s.quads := rfl
@[simp] theorem modPair_links (f : Pair → Pair) : (modPair s f).links = s.links := rfl
@[simp] theorem modPair_lanes (f : Pair → Pair) : (modPair s f).lanes = s.lanes := rfl
@[simp] theorem modPair_rx (f : Pair → Pair) : (modPair s f).rx = s.rx := rfl
@[simp] theorem modPair_streams (f : Pair → Pair) : (modPair s f).streams = s.streams := rfl
@[simp] theorem modPair_reads (f : Pair → Pair) : (modPair s f).reads = s.reads := rfl
@[simp] theorem modPair_rules (f : Pair → Pair) : (modPair s f).rules = s.rules := rfl
@[simp] theorem modPair_corrs (f : Pair → Pair) : (modPair s f).corrs = s.corrs := rfl
@[simp] theorem modPair_ctxs (f : Pair → Pair) : (modPair s f).ctxs = s.ctxs := rfl
@[simp] theorem modPair_statLast (f : Pair → Pair) : (modPair s f).statLast = s.statLast := rfl
@[simp] theorem modPair_contentTrigs (f : Pair → Pair) : (modPair s f).contentTrigs = s.contentTrigs := rfl
@[simp] theorem modPair_trim (f : Pair → Pair) : (modPair s f).trim = s.trim := rfl
@[simp] theorem modPair_sessions (f : Pair → Pair) : (modPair s f).sessions = s.sessions := rfl
@[simp] theorem modPair_outs (f : Pair → Pair) : (modPair s f).outs = s.outs := rfl
@[simp] theorem modPair_vfSrc (f : Pair → Pair) : (modPair s f).vfSrc = s.vfSrc := rfl
@[simp] theorem modPair_ports (f : Pair → Pair) : (modPair s f).ports = s.ports := rfl
@[simp] theorem modPair_sys (f : Pair → Pair) : (modPair s f).sys = s.sys := rfl
@[simp] theorem modPair_flights (f : Pair → Pair) : (modPair s f).flights = s.flights := rfl
@[simp] theorem modPair_nextSerial (f : Pair → Pair) : (modPair s f).nextSerial = s.nextSerial := rfl
@[simp] theorem modPair_staged (f : Pair → Pair) : (modPair s f).staged = s.staged := rfl
@[simp] theorem modPair_mgmt (f : Pair → Pair) : (modPair s f).mgmt = s.mgmt := rfl
@[simp] theorem modPair_hostMem (f : Pair → Pair) : (modPair s f).hostMem = s.hostMem := rfl
@[simp] theorem modPair_hostBad (f : Pair → Pair) : (modPair s f).hostBad = s.hostBad := rfl
@[simp] theorem modPair_pending (f : Pair → Pair) : (modPair s f).pending = s.pending := rfl
@[simp] theorem modPair_half (f : Pair → Pair) : half (modPair s f) h = half s h := by cases h <;> rfl

/-! modDev changes sys and nothing else. -/

@[simp] theorem modDev_sys (f : DevSys → DevSys) : (modDev s f).sys = f s.sys := rfl
@[simp] theorem modDev_a (f : DevSys → DevSys) : (modDev s f).a = s.a := rfl
@[simp] theorem modDev_b (f : DevSys → DevSys) : (modDev s f).b = s.b := rfl
@[simp] theorem modDev_mortar (f : DevSys → DevSys) : (modDev s f).mortar = s.mortar := rfl
@[simp] theorem modDev_quads (f : DevSys → DevSys) : (modDev s f).quads = s.quads := rfl
@[simp] theorem modDev_links (f : DevSys → DevSys) : (modDev s f).links = s.links := rfl
@[simp] theorem modDev_lanes (f : DevSys → DevSys) : (modDev s f).lanes = s.lanes := rfl
@[simp] theorem modDev_rx (f : DevSys → DevSys) : (modDev s f).rx = s.rx := rfl
@[simp] theorem modDev_streams (f : DevSys → DevSys) : (modDev s f).streams = s.streams := rfl
@[simp] theorem modDev_reads (f : DevSys → DevSys) : (modDev s f).reads = s.reads := rfl
@[simp] theorem modDev_rules (f : DevSys → DevSys) : (modDev s f).rules = s.rules := rfl
@[simp] theorem modDev_corrs (f : DevSys → DevSys) : (modDev s f).corrs = s.corrs := rfl
@[simp] theorem modDev_ctxs (f : DevSys → DevSys) : (modDev s f).ctxs = s.ctxs := rfl
@[simp] theorem modDev_statLast (f : DevSys → DevSys) : (modDev s f).statLast = s.statLast := rfl
@[simp] theorem modDev_contentTrigs (f : DevSys → DevSys) : (modDev s f).contentTrigs = s.contentTrigs := rfl
@[simp] theorem modDev_trim (f : DevSys → DevSys) : (modDev s f).trim = s.trim := rfl
@[simp] theorem modDev_sessions (f : DevSys → DevSys) : (modDev s f).sessions = s.sessions := rfl
@[simp] theorem modDev_outs (f : DevSys → DevSys) : (modDev s f).outs = s.outs := rfl
@[simp] theorem modDev_vfSrc (f : DevSys → DevSys) : (modDev s f).vfSrc = s.vfSrc := rfl
@[simp] theorem modDev_ports (f : DevSys → DevSys) : (modDev s f).ports = s.ports := rfl
@[simp] theorem modDev_pair (f : DevSys → DevSys) : (modDev s f).pair = s.pair := rfl
@[simp] theorem modDev_flights (f : DevSys → DevSys) : (modDev s f).flights = s.flights := rfl
@[simp] theorem modDev_nextSerial (f : DevSys → DevSys) : (modDev s f).nextSerial = s.nextSerial := rfl
@[simp] theorem modDev_staged (f : DevSys → DevSys) : (modDev s f).staged = s.staged := rfl
@[simp] theorem modDev_mgmt (f : DevSys → DevSys) : (modDev s f).mgmt = s.mgmt := rfl
@[simp] theorem modDev_hostMem (f : DevSys → DevSys) : (modDev s f).hostMem = s.hostMem := rfl
@[simp] theorem modDev_hostBad (f : DevSys → DevSys) : (modDev s f).hostBad = s.hostBad := rfl
@[simp] theorem modDev_pending (f : DevSys → DevSys) : (modDev s f).pending = s.pending := rfl
@[simp] theorem modDev_half (f : DevSys → DevSys) : half (modDev s f) h = half s h := by cases h <;> rfl

/-! modFlight changes the flights and nothing else. -/

@[simp] theorem modFlight_a (n : Nat) (f : Flight → Flight) : (modFlight s n f).a = s.a := rfl
@[simp] theorem modFlight_b (n : Nat) (f : Flight → Flight) : (modFlight s n f).b = s.b := rfl
@[simp] theorem modFlight_mortar (n : Nat) (f : Flight → Flight) : (modFlight s n f).mortar = s.mortar := rfl
@[simp] theorem modFlight_quads (n : Nat) (f : Flight → Flight) : (modFlight s n f).quads = s.quads := rfl
@[simp] theorem modFlight_links (n : Nat) (f : Flight → Flight) : (modFlight s n f).links = s.links := rfl
@[simp] theorem modFlight_lanes (n : Nat) (f : Flight → Flight) : (modFlight s n f).lanes = s.lanes := rfl
@[simp] theorem modFlight_rx (n : Nat) (f : Flight → Flight) : (modFlight s n f).rx = s.rx := rfl
@[simp] theorem modFlight_streams (n : Nat) (f : Flight → Flight) : (modFlight s n f).streams = s.streams := rfl
@[simp] theorem modFlight_reads (n : Nat) (f : Flight → Flight) : (modFlight s n f).reads = s.reads := rfl
@[simp] theorem modFlight_rules (n : Nat) (f : Flight → Flight) : (modFlight s n f).rules = s.rules := rfl
@[simp] theorem modFlight_corrs (n : Nat) (f : Flight → Flight) : (modFlight s n f).corrs = s.corrs := rfl
@[simp] theorem modFlight_ctxs (n : Nat) (f : Flight → Flight) : (modFlight s n f).ctxs = s.ctxs := rfl
@[simp] theorem modFlight_statLast (n : Nat) (f : Flight → Flight) : (modFlight s n f).statLast = s.statLast := rfl
@[simp] theorem modFlight_contentTrigs (n : Nat) (f : Flight → Flight) : (modFlight s n f).contentTrigs = s.contentTrigs := rfl
@[simp] theorem modFlight_trim (n : Nat) (f : Flight → Flight) : (modFlight s n f).trim = s.trim := rfl
@[simp] theorem modFlight_sessions (n : Nat) (f : Flight → Flight) : (modFlight s n f).sessions = s.sessions := rfl
@[simp] theorem modFlight_outs (n : Nat) (f : Flight → Flight) : (modFlight s n f).outs = s.outs := rfl
@[simp] theorem modFlight_vfSrc (n : Nat) (f : Flight → Flight) : (modFlight s n f).vfSrc = s.vfSrc := rfl
@[simp] theorem modFlight_ports (n : Nat) (f : Flight → Flight) : (modFlight s n f).ports = s.ports := rfl
@[simp] theorem modFlight_pair (n : Nat) (f : Flight → Flight) : (modFlight s n f).pair = s.pair := rfl
@[simp] theorem modFlight_sys (n : Nat) (f : Flight → Flight) : (modFlight s n f).sys = s.sys := rfl
@[simp] theorem modFlight_nextSerial (n : Nat) (f : Flight → Flight) : (modFlight s n f).nextSerial = s.nextSerial := rfl
@[simp] theorem modFlight_staged (n : Nat) (f : Flight → Flight) : (modFlight s n f).staged = s.staged := rfl
@[simp] theorem modFlight_mgmt (n : Nat) (f : Flight → Flight) : (modFlight s n f).mgmt = s.mgmt := rfl
@[simp] theorem modFlight_hostMem (n : Nat) (f : Flight → Flight) : (modFlight s n f).hostMem = s.hostMem := rfl
@[simp] theorem modFlight_hostBad (n : Nat) (f : Flight → Flight) : (modFlight s n f).hostBad = s.hostBad := rfl
@[simp] theorem modFlight_pending (n : Nat) (f : Flight → Flight) : (modFlight s n f).pending = s.pending := rfl
@[simp] theorem modFlight_half (n : Nat) (f : Flight → Flight) : half (modFlight s n f) h = half s h := by cases h <;> rfl

/-! Entries of a fixed table. -/

theorem tget_tset_same {α : Type} [Inhabited α] {n : Nat} (t : Vector α n) (i : Nat) (x : α) (hi : i < n) :
    tget (tset t i x) i = x := by
  simp [tget, tset, Vector.getD, hi]

theorem tget_tset_ne {α : Type} [Inhabited α] {n : Nat} (t : Vector α n) (i j : Nat) (x : α) (hij : i ≠ j) :
    tget (tset t i x) j = tget t j := by
  by_cases h : j < n
  · have := Vector.getElem_setIfInBounds (xs := t) (x := x) (i := i) h
    simp_all [tget, tset, Vector.getD, Array.getD]
  · simp [tget, tset, Vector.getD, Array.getD, h]

theorem tget_tmod_same {α : Type} [Inhabited α] {n : Nat} (t : Vector α n) (i : Nat) (f : α → α) (hi : i < n) :
    tget (tmod t i f) i = f (tget t i) := tget_tset_same t i _ hi

theorem tget_tmod_ne {α : Type} [Inhabited α] {n : Nat} (t : Vector α n) (i j : Nat) (f : α → α) (hij : i ≠ j) :
    tget (tmod t i f) j = tget t j := tget_tset_ne t i j _ hij

end Sys2Proof.Machine
end

