-- ==== Sys2Proof/Laws/Commands.lean ====
section
/-! SUPPORT. What a row of the table can do, said once: a well-formed row answers a next state with the queue it found; a
malformed one stops; a submitted command that is accepted runs its meaning and posts its answer. -/

namespace Sys2Proof.Machine

open Sys2Proof.Safety

@[simp] theorem withQueueOf_pending (s t : State) : (withQueueOf s t).pending = s.pending := rfl

@[simp] theorem withQueueOf_self (s : State) : withQueueOf s s = s := rfl

theorem actIf_bad (s t : State) : actIf false s t = .fault .noSuchObject := rfl

theorem actIf_tripped (s t : State) (h : s.sys.tripped = true) : actIf true s t = .next s := by simp [actIf, h]

theorem actIf_live (s t : State) (h : s.sys.tripped = false) : actIf true s t = .next (withQueueOf s t) := by
  simp [actIf, h]

theorem act_live (i : Instr) (s t : State) (w : i.wf = true) (h : s.sys.tripped = false) :
    act i s t = .next (withQueueOf s t) := by simp [act, w, actIf_live s t h]

/-- Everything a row can do. -/
theorem actIf_cases (ok : Bool) (s t : State) :
    (ok = false ∧ actIf ok s t = .fault .noSuchObject) ∨
    (ok = true ∧ s.sys.tripped = true ∧ actIf ok s t = .next s) ∨
    (ok = true ∧ s.sys.tripped = false ∧ actIf ok s t = .next (withQueueOf s t)) := by
  cases ok
  · exact .inl ⟨rfl, rfl⟩
  · cases h : s.sys.tripped
    · exact .inr (.inr ⟨rfl, rfl, actIf_live s t h⟩)
    · exact .inr (.inl ⟨rfl, rfl, actIf_tripped s t h⟩)

/-- A row that answers a next state leaves the queue. -/
theorem actIf_pending (ok : Bool) (s t u : State) (h : actIf ok s t = .next u) : u.pending = s.pending := by
  rcases actIf_cases ok s t with ⟨_, e⟩ | ⟨_, _, e⟩ | ⟨_, _, e⟩ <;> rw [e] at h <;> cases h <;> rfl

/-! The number of a submission, its flight and its ACCEPT record. -/

@[simp] theorem numberTaken_half (s : State) (h : Half) : half (numberTaken s) h = half s h := by cases h <;> rfl

@[simp] theorem enterFlight_half (s : State) (c : Cmd) (op : Op) (h k : Half) (n q : Nat) :
    half (enterFlight s c op h n q) k = half s k := by cases k <;> rfl

@[simp] theorem tell_half (s : State) (r : MirrorRec) (h : Half) : half (tell s r) h = half s h := by
  unfold tell; split <;> simp

@[simp] theorem acceptFlight_half (s : State) (c : Cmd) (op : Op) (h : Half) : half (acceptFlight s c op) h = half s h := by
  unfold acceptFlight; split <;> simp

@[simp] theorem entered_half (op : Op) (c : Cmd) (h k : Half) (s : State) : half (entered op c h s) k = half s k := by
  simp [entered]

/-! What waking an island leaves. -/

@[simp] theorem modIsland_resetting (s : State) (h k : Half) (i j : IslandId) (f : Island → Island)
    (e : ∀ x, (f x).resetting = x.resetting) :
    (islandAt (modIsland s h i f) k j).resetting = (islandAt s k j).resetting := by
  unfold islandAt modIsland
  cases hj : islandIdx j with
  | none => rfl
  | some n =>
    cases hi : islandIdx i with
    | none => rfl
    | some m =>
      simp only
      by_cases hk : k = h
      · subst hk
        simp only [modHalf_half]
        by_cases hmn : m = n
        · subst hmn
          by_cases hb : m < 21
          · rw [tget_tmod_same _ _ _ hb, e]
          · have : ∀ v : Vector Island 21, tget v m = default := by
              intro v; simp [tget, Vector.getD, Array.getD, hb]
            rw [this, this]
        · rw [tget_tmod_ne _ _ _ _ hmn]
      · rw [modHalf_ne s h hk]

@[simp] theorem countWake_mortar (s : State) (h : Half) (n : Nat) : (countWake s h n).mortar = s.mortar := by
  unfold countWake; split <;> simp
@[simp] theorem countWake_quads (s : State) (h : Half) (n : Nat) : (countWake s h n).quads = s.quads := by
  unfold countWake; split <;> simp
@[simp] theorem countWake_links (s : State) (h : Half) (n : Nat) : (countWake s h n).links = s.links := by
  unfold countWake; split <;> simp
@[simp] theorem countWake_lanes (s : State) (h : Half) (n : Nat) : (countWake s h n).lanes = s.lanes := by
  unfold countWake; split <;> simp
@[simp] theorem countWake_rx (s : State) (h : Half) (n : Nat) : (countWake s h n).rx = s.rx := by
  unfold countWake; split <;> simp
@[simp] theorem countWake_streams (s : State) (h : Half) (n : Nat) : (countWake s h n).streams = s.streams := by
  unfold countWake; split <;> simp
@[simp] theorem countWake_reads (s : State) (h : Half) (n : Nat) : (countWake s h n).reads = s.reads := by
  unfold countWake; split <;> simp
@[simp] theorem countWake_rules (s : State) (h : Half) (n : Nat) : (countWake s h n).rules = s.rules := by
  unfold countWake; split <;> simp
@[simp] theorem countWake_corrs (s : State) (h : Half) (n : Nat) : (countWake s h n).corrs = s.corrs := by
  unfold countWake; split <;> simp
@[simp] theorem countWake_ctxs (s : State) (h : Half) (n : Nat) : (countWake s h n).ctxs = s.ctxs := by
  unfold countWake; split <;> simp
@[simp] theorem countWake_statLast (s : State) (h : Half) (n : Nat) : (countWake s h n).statLast = s.statLast := by
  unfold countWake; split <;> simp
@[simp] theorem countWake_contentTrigs (s : State) (h : Half) (n : Nat) : (countWake s h n).contentTrigs = s.contentTrigs := by
  unfold countWake; split <;> simp
@[simp] theorem countWake_trim (s : State) (h : Half) (n : Nat) : (countWake s h n).trim = s.trim := by
  unfold countWake; split <;> simp
@[simp] theorem countWake_sessions (s : State) (h : Half) (n : Nat) : (countWake s h n).sessions = s.sessions := by
  unfold countWake; split <;> simp
@[simp] theorem countWake_outs (s : State) (h : Half) (n : Nat) : (countWake s h n).outs = s.outs := by
  unfold countWake; split <;> simp
@[simp] theorem countWake_vfSrc (s : State) (h : Half) (n : Nat) : (countWake s h n).vfSrc = s.vfSrc := by
  unfold countWake; split <;> simp
@[simp] theorem countWake_ports (s : State) (h : Half) (n : Nat) : (countWake s h n).ports = s.ports := by
  unfold countWake; split <;> simp
@[simp] theorem countWake_pair (s : State) (h : Half) (n : Nat) : (countWake s h n).pair = s.pair := by
  unfold countWake; split <;> simp
@[simp] theorem countWake_sys (s : State) (h : Half) (n : Nat) : (countWake s h n).sys = s.sys := by
  unfold countWake; split <;> simp
@[simp] theorem countWake_flights (s : State) (h : Half) (n : Nat) : (countWake s h n).flights = s.flights := by
  unfold countWake; split <;> simp
@[simp] theorem countWake_nextSerial (s : State) (h : Half) (n : Nat) : (countWake s h n).nextSerial = s.nextSerial := by
  unfold countWake; split <;> simp
@[simp] theorem countWake_staged (s : State) (h : Half) (n : Nat) : (countWake s h n).staged = s.staged := by
  unfold countWake; split <;> simp
@[simp] theorem countWake_mgmt (s : State) (h : Half) (n : Nat) : (countWake s h n).mgmt = s.mgmt := by
  unfold countWake; split <;> simp
@[simp] theorem countWake_hostMem (s : State) (h : Half) (n : Nat) : (countWake s h n).hostMem = s.hostMem := by
  unfold countWake; split <;> simp
@[simp] theorem countWake_hostBad (s : State) (h : Half) (n : Nat) : (countWake s h n).hostBad = s.hostBad := by
  unfold countWake; split <;> simp
@[simp] theorem countWake_pending (s : State) (h : Half) (n : Nat) : (countWake s h n).pending = s.pending := by
  unfold countWake; split <;> simp
@[simp] theorem modIsland_mortar (s : State) (h : Half) (i : IslandId) (f : Island → Island) : (modIsland s h i f).mortar = s.mortar := by
  unfold modIsland; split <;> simp
@[simp] theorem modIsland_quads (s : State) (h : Half) (i : IslandId) (f : Island → Island) : (modIsland s h i f).quads = s.quads := by
  unfold modIsland; split <;> simp
@[simp] theorem modIsland_links (s : State) (h : Half) (i : IslandId) (f : Island → Island) : (modIsland s h i f).links = s.links := by
  unfold modIsland; split <;> simp
@[simp] theorem modIsland_lanes (s : State) (h : Half) (i : IslandId) (f : Island → Island) : (modIsland s h i f).lanes = s.lanes := by
  unfold modIsland; split <;> simp
@[simp] theorem modIsland_rx (s : State) (h : Half) (i : IslandId) (f : Island → Island) : (modIsland s h i f).rx = s.rx := by
  unfold modIsland; split <;> simp
@[simp] theorem modIsland_streams (s : State) (h : Half) (i : IslandId) (f : Island → Island) : (modIsland s h i f).streams = s.streams := by
  unfold modIsland; split <;> simp
@[simp] theorem modIsland_reads (s : State) (h : Half) (i : IslandId) (f : Island → Island) : (modIsland s h i f).reads = s.reads := by
  unfold modIsland; split <;> simp
@[simp] theorem modIsland_rules (s : State) (h : Half) (i : IslandId) (f : Island → Island) : (modIsland s h i f).rules = s.rules := by
  unfold modIsland; split <;> simp
@[simp] theorem modIsland_corrs (s : State) (h : Half) (i : IslandId) (f : Island → Island) : (modIsland s h i f).corrs = s.corrs := by
  unfold modIsland; split <;> simp
@[simp] theorem modIsland_ctxs (s : State) (h : Half) (i : IslandId) (f : Island → Island) : (modIsland s h i f).ctxs = s.ctxs := by
  unfold modIsland; split <;> simp
@[simp] theorem modIsland_statLast (s : State) (h : Half) (i : IslandId) (f : Island → Island) : (modIsland s h i f).statLast = s.statLast := by
  unfold modIsland; split <;> simp
@[simp] theorem modIsland_contentTrigs (s : State) (h : Half) (i : IslandId) (f : Island → Island) : (modIsland s h i f).contentTrigs = s.contentTrigs := by
  unfold modIsland; split <;> simp
@[simp] theorem modIsland_trim (s : State) (h : Half) (i : IslandId) (f : Island → Island) : (modIsland s h i f).trim = s.trim := by
  unfold modIsland; split <;> simp
@[simp] theorem modIsland_sessions (s : State) (h : Half) (i : IslandId) (f : Island → Island) : (modIsland s h i f).sessions = s.sessions := by
  unfold modIsland; split <;> simp
@[simp] theorem modIsland_outs (s : State) (h : Half) (i : IslandId) (f : Island → Island) : (modIsland s h i f).outs = s.outs := by
  unfold modIsland; split <;> simp
@[simp] theorem modIsland_vfSrc (s : State) (h : Half) (i : IslandId) (f : Island → Island) : (modIsland s h i f).vfSrc = s.vfSrc := by
  unfold modIsland; split <;> simp
@[simp] theorem modIsland_ports (s : State) (h : Half) (i : IslandId) (f : Island → Island) : (modIsland s h i f).ports = s.ports := by
  unfold modIsland; split <;> simp
@[simp] theorem modIsland_pair (s : State) (h : Half) (i : IslandId) (f : Island → Island) : (modIsland s h i f).pair = s.pair := by
  unfold modIsland; split <;> simp
@[simp] theorem modIsland_sys (s : State) (h : Half) (i : IslandId) (f : Island → Island) : (modIsland s h i f).sys = s.sys := by
  unfold modIsland; split <;> simp
@[simp] theorem modIsland_flights (s : State) (h : Half) (i : IslandId) (f : Island → Island) : (modIsland s h i f).flights = s.flights := by
  unfold modIsland; split <;> simp
@[simp] theorem modIsland_nextSerial (s : State) (h : Half) (i : IslandId) (f : Island → Island) : (modIsland s h i f).nextSerial = s.nextSerial := by
  unfold modIsland; split <;> simp
@[simp] theorem modIsland_staged (s : State) (h : Half) (i : IslandId) (f : Island → Island) : (modIsland s h i f).staged = s.staged := by
  unfold modIsland; split <;> simp
@[simp] theorem modIsland_mgmt (s : State) (h : Half) (i : IslandId) (f : Island → Island) : (modIsland s h i f).mgmt = s.mgmt := by
  unfold modIsland; split <;> simp
@[simp] theorem modIsland_hostMem (s : State) (h : Half) (i : IslandId) (f : Island → Island) : (modIsland s h i f).hostMem = s.hostMem := by
  unfold modIsland; split <;> simp
@[simp] theorem modIsland_hostBad (s : State) (h : Half) (i : IslandId) (f : Island → Island) : (modIsland s h i f).hostBad = s.hostBad := by
  unfold modIsland; split <;> simp
@[simp] theorem modIsland_pending (s : State) (h : Half) (i : IslandId) (f : Island → Island) : (modIsland s h i f).pending = s.pending := by
  unfold modIsland; split <;> simp
@[simp] theorem countWake_half_cmd (s : State) (h k : Half) (n : Nat) : (half (countWake s h n) k).cmd = (half s k).cmd := by
  unfold countWake; split
  · cases h <;> cases k <;> rfl
  · rfl
@[simp] theorem modIsland_half_cmd (s : State) (h k : Half) (i : IslandId) (f : Island → Island) :
    (half (modIsland s h i f) k).cmd = (half s k).cmd := by
  unfold modIsland; split
  · cases h <;> cases k <;> rfl
  · rfl
@[simp] theorem countWake_half_ep (s : State) (h k : Half) (n : Nat) : (half (countWake s h n) k).ep = (half s k).ep := by
  unfold countWake; split
  · cases h <;> cases k <;> rfl
  · rfl
@[simp] theorem modIsland_half_ep (s : State) (h k : Half) (i : IslandId) (f : Island → Island) :
    (half (modIsland s h i f) k).ep = (half s k).ep := by
  unfold modIsland; split
  · cases h <;> cases k <;> rfl
  · rfl
@[simp] theorem countWake_half_ident (s : State) (h k : Half) (n : Nat) : (half (countWake s h n) k).ident = (half s k).ident := by
  unfold countWake; split
  · cases h <;> cases k <;> rfl
  · rfl
@[simp] theorem modIsland_half_ident (s : State) (h k : Half) (i : IslandId) (f : Island → Island) :
    (half (modIsland s h i f) k).ident = (half s k).ident := by
  unfold modIsland; split
  · cases h <;> cases k <;> rfl
  · rfl
@[simp] theorem countWake_half_mem (s : State) (h k : Half) (n : Nat) : (half (countWake s h n) k).mem = (half s k).mem := by
  unfold countWake; split
  · cases h <;> cases k <;> rfl
  · rfl
@[simp] theorem modIsland_half_mem (s : State) (h k : Half) (i : IslandId) (f : Island → Island) :
    (half (modIsland s h i f) k).mem = (half s k).mem := by
  unfold modIsland; split
  · cases h <;> cases k <;> rfl
  · rfl
@[simp] theorem countWake_half_pipe (s : State) (h k : Half) (n : Nat) : (half (countWake s h n) k).pipe = (half s k).pipe := by
  unfold countWake; split
  · cases h <;> cases k <;> rfl
  · rfl
@[simp] theorem modIsland_half_pipe (s : State) (h k : Half) (i : IslandId) (f : Island → Island) :
    (half (modIsland s h i f) k).pipe = (half s k).pipe := by
  unfold modIsland; split
  · cases h <;> cases k <;> rfl
  · rfl
@[simp] theorem countWake_half_ash (s : State) (h k : Half) (n : Nat) : (half (countWake s h n) k).ash = (half s k).ash := by
  unfold countWake; split
  · cases h <;> cases k <;> rfl
  · rfl
@[simp] theorem modIsland_half_ash (s : State) (h k : Half) (i : IslandId) (f : Island → Island) :
    (half (modIsland s h i f) k).ash = (half s k).ash := by
  unfold modIsland; split
  · cases h <;> cases k <;> rfl
  · rfl
@[simp] theorem countWake_half_sys (s : State) (h k : Half) (n : Nat) : (half (countWake s h n) k).sys = (half s k).sys := by
  unfold countWake; split
  · cases h <;> cases k <;> rfl
  · rfl
@[simp] theorem modIsland_half_sys (s : State) (h k : Half) (i : IslandId) (f : Island → Island) :
    (half (modIsland s h i f) k).sys = (half s k).sys := by
  unfold modIsland; split
  · cases h <;> cases k <;> rfl
  · rfl
@[simp] theorem countWake_half_vf (s : State) (h k : Half) (n : Nat) : (half (countWake s h n) k).vf = (half s k).vf := by
  unfold countWake; split
  · cases h <;> cases k <;> rfl
  · rfl
@[simp] theorem modIsland_half_vf (s : State) (h k : Half) (i : IslandId) (f : Island → Island) :
    (half (modIsland s h i f) k).vf = (half s k).vf := by
  unfold modIsland; split
  · cases h <;> cases k <;> rfl
  · rfl
@[simp] theorem countWake_half_audFamily (s : State) (h k : Half) (n : Nat) : (half (countWake s h n) k).audFamily = (half s k).audFamily := by
  unfold countWake; split
  · cases h <;> cases k <;> rfl
  · rfl
@[simp] theorem modIsland_half_audFamily (s : State) (h k : Half) (i : IslandId) (f : Island → Island) :
    (half (modIsland s h i f) k).audFamily = (half s k).audFamily := by
  unfold modIsland; split
  · cases h <;> cases k <;> rfl
  · rfl
@[simp] theorem islandOn_mortar (s : State) (h : Half) (i : IslandId) : (islandOn s h i).mortar = s.mortar := by simp [islandOn]
@[simp] theorem islandOn_quads (s : State) (h : Half) (i : IslandId) : (islandOn s h i).quads = s.quads := by simp [islandOn]
@[simp] theorem islandOn_links (s : State) (h : Half) (i : IslandId) : (islandOn s h i).links = s.links := by simp [islandOn]
@[simp] theorem islandOn_lanes (s : State) (h : Half) (i : IslandId) : (islandOn s h i).lanes = s.lanes := by simp [islandOn]
@[simp] theorem islandOn_rx (s : State) (h : Half) (i : IslandId) : (islandOn s h i).rx = s.rx := by simp [islandOn]
@[simp] theorem islandOn_streams (s : State) (h : Half) (i : IslandId) : (islandOn s h i).streams = s.streams := by simp [islandOn]
@[simp] theorem islandOn_reads (s : State) (h : Half) (i : IslandId) : (islandOn s h i).reads = s.reads := by simp [islandOn]
@[simp] theorem islandOn_rules (s : State) (h : Half) (i : IslandId) : (islandOn s h i).rules = s.rules := by simp [islandOn]
@[simp] theorem islandOn_corrs (s : State) (h : Half) (i : IslandId) : (islandOn s h i).corrs = s.corrs := by simp [islandOn]
@[simp] theorem islandOn_ctxs (s : State) (h : Half) (i : IslandId) : (islandOn s h i).ctxs = s.ctxs := by simp [islandOn]
@[simp] theorem islandOn_statLast (s : State) (h : Half) (i : IslandId) : (islandOn s h i).statLast = s.statLast := by simp [islandOn]
@[simp] theorem islandOn_contentTrigs (s : State) (h : Half) (i : IslandId) : (islandOn s h i).contentTrigs = s.contentTrigs := by simp [islandOn]
@[simp] theorem islandOn_trim (s : State) (h : Half) (i : IslandId) : (islandOn s h i).trim = s.trim := by simp [islandOn]
@[simp] theorem islandOn_sessions (s : State) (h : Half) (i : IslandId) : (islandOn s h i).sessions = s.sessions := by simp [islandOn]
@[simp] theorem islandOn_outs (s : State) (h : Half) (i : IslandId) : (islandOn s h i).outs = s.outs := by simp [islandOn]
@[simp] theorem islandOn_vfSrc (s : State) (h : Half) (i : IslandId) : (islandOn s h i).vfSrc = s.vfSrc := by simp [islandOn]
@[simp] theorem islandOn_ports (s : State) (h : Half) (i : IslandId) : (islandOn s h i).ports = s.ports := by simp [islandOn]
@[simp] theorem islandOn_pair (s : State) (h : Half) (i : IslandId) : (islandOn s h i).pair = s.pair := by simp [islandOn]
@[simp] theorem islandOn_sys (s : State) (h : Half) (i : IslandId) : (islandOn s h i).sys = s.sys := by simp [islandOn]
@[simp] theorem islandOn_flights (s : State) (h : Half) (i : IslandId) : (islandOn s h i).flights = s.flights := by simp [islandOn]
@[simp] theorem islandOn_nextSerial (s : State) (h : Half) (i : IslandId) : (islandOn s h i).nextSerial = s.nextSerial := by simp [islandOn]
@[simp] theorem islandOn_staged (s : State) (h : Half) (i : IslandId) : (islandOn s h i).staged = s.staged := by simp [islandOn]
@[simp] theorem islandOn_mgmt (s : State) (h : Half) (i : IslandId) : (islandOn s h i).mgmt = s.mgmt := by simp [islandOn]
@[simp] theorem islandOn_hostMem (s : State) (h : Half) (i : IslandId) : (islandOn s h i).hostMem = s.hostMem := by simp [islandOn]
@[simp] theorem islandOn_hostBad (s : State) (h : Half) (i : IslandId) : (islandOn s h i).hostBad = s.hostBad := by simp [islandOn]
@[simp] theorem islandOn_pending (s : State) (h : Half) (i : IslandId) : (islandOn s h i).pending = s.pending := by simp [islandOn]
@[simp] theorem islandOn_half_cmd (s : State) (h k : Half) (i : IslandId) : (half (islandOn s h i) k).cmd = (half s k).cmd := by
  simp [islandOn]
@[simp] theorem islandOn_half_ep (s : State) (h k : Half) (i : IslandId) : (half (islandOn s h i) k).ep = (half s k).ep := by
  simp [islandOn]
@[simp] theorem islandOn_half_ident (s : State) (h k : Half) (i : IslandId) : (half (islandOn s h i) k).ident = (half s k).ident := by
  simp [islandOn]
@[simp] theorem islandOn_half_mem (s : State) (h k : Half) (i : IslandId) : (half (islandOn s h i) k).mem = (half s k).mem := by
  simp [islandOn]
@[simp] theorem islandOn_half_pipe (s : State) (h k : Half) (i : IslandId) : (half (islandOn s h i) k).pipe = (half s k).pipe := by
  simp [islandOn]
@[simp] theorem islandOn_half_ash (s : State) (h k : Half) (i : IslandId) : (half (islandOn s h i) k).ash = (half s k).ash := by
  simp [islandOn]
@[simp] theorem islandOn_half_sys (s : State) (h k : Half) (i : IslandId) : (half (islandOn s h i) k).sys = (half s k).sys := by
  simp [islandOn]
@[simp] theorem islandOn_half_vf (s : State) (h k : Half) (i : IslandId) : (half (islandOn s h i) k).vf = (half s k).vf := by
  simp [islandOn]
@[simp] theorem islandOn_half_audFamily (s : State) (h k : Half) (i : IslandId) : (half (islandOn s h i) k).audFamily = (half s k).audFamily := by
  simp [islandOn]
/-- A command wakes at most one island. -/
theorem wakeFor_cases (op : Op) (c : Cmd) (h : Half) (s : State) :
    wakeFor op c h s = s ∨ ∃ i, wakeFor op c h s = islandOn s h i := by
  unfold wakeFor
  split
  · exact .inl rfl
  · rename_i i _ _
    dsimp only
    split
    · exact .inl rfl
    · exact .inr ⟨i, rfl⟩
  · exact .inl rfl

@[simp] theorem wakeFor_mortar (op : Op) (c : Cmd) (h : Half) (s : State) : (wakeFor op c h s).mortar = s.mortar := by
  rcases wakeFor_cases op c h s with e | ⟨i, e⟩ <;> simp [e]
@[simp] theorem wakeFor_quads (op : Op) (c : Cmd) (h : Half) (s : State) : (wakeFor op c h s).quads = s.quads := by
  rcases wakeFor_cases op c h s with e | ⟨i, e⟩ <;> simp [e]
@[simp] theorem wakeFor_links (op : Op) (c : Cmd) (h : Half) (s : State) : (wakeFor op c h s).links = s.links := by
  rcases wakeFor_cases op c h s with e | ⟨i, e⟩ <;> simp [e]
@[simp] theorem wakeFor_lanes (op : Op) (c : Cmd) (h : Half) (s : State) : (wakeFor op c h s).lanes = s.lanes := by
  rcases wakeFor_cases op c h s with e | ⟨i, e⟩ <;> simp [e]
@[simp] theorem wakeFor_rx (op : Op) (c : Cmd) (h : Half) (s : State) : (wakeFor op c h s).rx = s.rx := by
  rcases wakeFor_cases op c h s with e | ⟨i, e⟩ <;> simp [e]
@[simp] theorem wakeFor_streams (op : Op) (c : Cmd) (h : Half) (s : State) : (wakeFor op c h s).streams = s.streams := by
  rcases wakeFor_cases op c h s with e | ⟨i, e⟩ <;> simp [e]
@[simp] theorem wakeFor_reads (op : Op) (c : Cmd) (h : Half) (s : State) : (wakeFor op c h s).reads = s.reads := by
  rcases wakeFor_cases op c h s with e | ⟨i, e⟩ <;> simp [e]
@[simp] theorem wakeFor_rules (op : Op) (c : Cmd) (h : Half) (s : State) : (wakeFor op c h s).rules = s.rules := by
  rcases wakeFor_cases op c h s with e | ⟨i, e⟩ <;> simp [e]
@[simp] theorem wakeFor_corrs (op : Op) (c : Cmd) (h : Half) (s : State) : (wakeFor op c h s).corrs = s.corrs := by
  rcases wakeFor_cases op c h s with e | ⟨i, e⟩ <;> simp [e]
@[simp] theorem wakeFor_ctxs (op : Op) (c : Cmd) (h : Half) (s : State) : (wakeFor op c h s).ctxs = s.ctxs := by
  rcases wakeFor_cases op c h s with e | ⟨i, e⟩ <;> simp [e]
@[simp] theorem wakeFor_statLast (op : Op) (c : Cmd) (h : Half) (s : State) : (wakeFor op c h s).statLast = s.statLast := by
  rcases wakeFor_cases op c h s with e | ⟨i, e⟩ <;> simp [e]
@[simp] theorem wakeFor_contentTrigs (op : Op) (c : Cmd) (h : Half) (s : State) : (wakeFor op c h s).contentTrigs = s.contentTrigs := by
  rcases wakeFor_cases op c h s with e | ⟨i, e⟩ <;> simp [e]
@[simp] theorem wakeFor_trim (op : Op) (c : Cmd) (h : Half) (s : State) : (wakeFor op c h s).trim = s.trim := by
  rcases wakeFor_cases op c h s with e | ⟨i, e⟩ <;> simp [e]
@[simp] theorem wakeFor_sessions (op : Op) (c : Cmd) (h : Half) (s : State) : (wakeFor op c h s).sessions = s.sessions := by
  rcases wakeFor_cases op c h s with e | ⟨i, e⟩ <;> simp [e]
@[simp] theorem wakeFor_outs (op : Op) (c : Cmd) (h : Half) (s : State) : (wakeFor op c h s).outs = s.outs := by
  rcases wakeFor_cases op c h s with e | ⟨i, e⟩ <;> simp [e]
@[simp] theorem wakeFor_vfSrc (op : Op) (c : Cmd) (h : Half) (s : State) : (wakeFor op c h s).vfSrc = s.vfSrc := by
  rcases wakeFor_cases op c h s with e | ⟨i, e⟩ <;> simp [e]
@[simp] theorem wakeFor_ports (op : Op) (c : Cmd) (h : Half) (s : State) : (wakeFor op c h s).ports = s.ports := by
  rcases wakeFor_cases op c h s with e | ⟨i, e⟩ <;> simp [e]
@[simp] theorem wakeFor_pair (op : Op) (c : Cmd) (h : Half) (s : State) : (wakeFor op c h s).pair = s.pair := by
  rcases wakeFor_cases op c h s with e | ⟨i, e⟩ <;> simp [e]
@[simp] theorem wakeFor_sys (op : Op) (c : Cmd) (h : Half) (s : State) : (wakeFor op c h s).sys = s.sys := by
  rcases wakeFor_cases op c h s with e | ⟨i, e⟩ <;> simp [e]
@[simp] theorem wakeFor_flights (op : Op) (c : Cmd) (h : Half) (s : State) : (wakeFor op c h s).flights = s.flights := by
  rcases wakeFor_cases op c h s with e | ⟨i, e⟩ <;> simp [e]
@[simp] theorem wakeFor_nextSerial (op : Op) (c : Cmd) (h : Half) (s : State) : (wakeFor op c h s).nextSerial = s.nextSerial := by
  rcases wakeFor_cases op c h s with e | ⟨i, e⟩ <;> simp [e]
@[simp] theorem wakeFor_staged (op : Op) (c : Cmd) (h : Half) (s : State) : (wakeFor op c h s).staged = s.staged := by
  rcases wakeFor_cases op c h s with e | ⟨i, e⟩ <;> simp [e]
@[simp] theorem wakeFor_mgmt (op : Op) (c : Cmd) (h : Half) (s : State) : (wakeFor op c h s).mgmt = s.mgmt := by
  rcases wakeFor_cases op c h s with e | ⟨i, e⟩ <;> simp [e]
@[simp] theorem wakeFor_hostMem (op : Op) (c : Cmd) (h : Half) (s : State) : (wakeFor op c h s).hostMem = s.hostMem := by
  rcases wakeFor_cases op c h s with e | ⟨i, e⟩ <;> simp [e]
@[simp] theorem wakeFor_hostBad (op : Op) (c : Cmd) (h : Half) (s : State) : (wakeFor op c h s).hostBad = s.hostBad := by
  rcases wakeFor_cases op c h s with e | ⟨i, e⟩ <;> simp [e]
@[simp] theorem wakeFor_pending (op : Op) (c : Cmd) (h : Half) (s : State) : (wakeFor op c h s).pending = s.pending := by
  rcases wakeFor_cases op c h s with e | ⟨i, e⟩ <;> simp [e]
@[simp] theorem wakeFor_half_cmd (op : Op) (c : Cmd) (h k : Half) (s : State) :
    (half (wakeFor op c h s) k).cmd = (half s k).cmd := by
  rcases wakeFor_cases op c h s with e | ⟨i, e⟩ <;> simp [e]
@[simp] theorem wakeFor_half_ep (op : Op) (c : Cmd) (h k : Half) (s : State) :
    (half (wakeFor op c h s) k).ep = (half s k).ep := by
  rcases wakeFor_cases op c h s with e | ⟨i, e⟩ <;> simp [e]
@[simp] theorem wakeFor_half_ident (op : Op) (c : Cmd) (h k : Half) (s : State) :
    (half (wakeFor op c h s) k).ident = (half s k).ident := by
  rcases wakeFor_cases op c h s with e | ⟨i, e⟩ <;> simp [e]
@[simp] theorem wakeFor_half_mem (op : Op) (c : Cmd) (h k : Half) (s : State) :
    (half (wakeFor op c h s) k).mem = (half s k).mem := by
  rcases wakeFor_cases op c h s with e | ⟨i, e⟩ <;> simp [e]
@[simp] theorem wakeFor_half_pipe (op : Op) (c : Cmd) (h k : Half) (s : State) :
    (half (wakeFor op c h s) k).pipe = (half s k).pipe := by
  rcases wakeFor_cases op c h s with e | ⟨i, e⟩ <;> simp [e]
@[simp] theorem wakeFor_half_ash (op : Op) (c : Cmd) (h k : Half) (s : State) :
    (half (wakeFor op c h s) k).ash = (half s k).ash := by
  rcases wakeFor_cases op c h s with e | ⟨i, e⟩ <;> simp [e]
@[simp] theorem wakeFor_half_sys (op : Op) (c : Cmd) (h k : Half) (s : State) :
    (half (wakeFor op c h s) k).sys = (half s k).sys := by
  rcases wakeFor_cases op c h s with e | ⟨i, e⟩ <;> simp [e]
@[simp] theorem wakeFor_half_vf (op : Op) (c : Cmd) (h k : Half) (s : State) :
    (half (wakeFor op c h s) k).vf = (half s k).vf := by
  rcases wakeFor_cases op c h s with e | ⟨i, e⟩ <;> simp [e]
@[simp] theorem wakeFor_half_audFamily (op : Op) (c : Cmd) (h k : Half) (s : State) :
    (half (wakeFor op c h s) k).audFamily = (half s k).audFamily := by
  rcases wakeFor_cases op c h s with e | ⟨i, e⟩ <;> simp [e]

/-! What the start of an accepted command leaves: everything but its flight, its number, the ACCEPT record and the island. -/

@[simp] theorem tell_mortar (s : State) (r : MirrorRec) : (tell s r).mortar = s.mortar := by
  unfold tell; split <;> simp
@[simp] theorem acceptFlight_mortar (s : State) (c : Cmd) (op : Op) : (acceptFlight s c op).mortar = s.mortar := by
  unfold acceptFlight; split <;> simp
@[simp] theorem started_mortar (op : Op) (c : Cmd) (h : Half) (s : State) : (started op c h s).mortar = s.mortar := by
  simp [started, begun, entered]; rfl
@[simp] theorem tell_quads (s : State) (r : MirrorRec) : (tell s r).quads = s.quads := by
  unfold tell; split <;> simp
@[simp] theorem acceptFlight_quads (s : State) (c : Cmd) (op : Op) : (acceptFlight s c op).quads = s.quads := by
  unfold acceptFlight; split <;> simp
@[simp] theorem started_quads (op : Op) (c : Cmd) (h : Half) (s : State) : (started op c h s).quads = s.quads := by
  simp [started, begun, entered]; rfl
@[simp] theorem tell_links (s : State) (r : MirrorRec) : (tell s r).links = s.links := by
  unfold tell; split <;> simp
@[simp] theorem acceptFlight_links (s : State) (c : Cmd) (op : Op) : (acceptFlight s c op).links = s.links := by
  unfold acceptFlight; split <;> simp
@[simp] theorem started_links (op : Op) (c : Cmd) (h : Half) (s : State) : (started op c h s).links = s.links := by
  simp [started, begun, entered]; rfl
@[simp] theorem tell_lanes (s : State) (r : MirrorRec) : (tell s r).lanes = s.lanes := by
  unfold tell; split <;> simp
@[simp] theorem acceptFlight_lanes (s : State) (c : Cmd) (op : Op) : (acceptFlight s c op).lanes = s.lanes := by
  unfold acceptFlight; split <;> simp
@[simp] theorem started_lanes (op : Op) (c : Cmd) (h : Half) (s : State) : (started op c h s).lanes = s.lanes := by
  simp [started, begun, entered]; rfl
@[simp] theorem tell_rx (s : State) (r : MirrorRec) : (tell s r).rx = s.rx := by
  unfold tell; split <;> simp
@[simp] theorem acceptFlight_rx (s : State) (c : Cmd) (op : Op) : (acceptFlight s c op).rx = s.rx := by
  unfold acceptFlight; split <;> simp
@[simp] theorem started_rx (op : Op) (c : Cmd) (h : Half) (s : State) : (started op c h s).rx = s.rx := by
  simp [started, begun, entered]; rfl
@[simp] theorem tell_streams (s : State) (r : MirrorRec) : (tell s r).streams = s.streams := by
  unfold tell; split <;> simp
@[simp] theorem acceptFlight_streams (s : State) (c : Cmd) (op : Op) : (acceptFlight s c op).streams = s.streams := by
  unfold acceptFlight; split <;> simp
@[simp] theorem started_streams (op : Op) (c : Cmd) (h : Half) (s : State) : (started op c h s).streams = s.streams := by
  simp [started, begun, entered]; rfl
@[simp] theorem tell_reads (s : State) (r : MirrorRec) : (tell s r).reads = s.reads := by
  unfold tell; split <;> simp
@[simp] theorem acceptFlight_reads (s : State) (c : Cmd) (op : Op) : (acceptFlight s c op).reads = s.reads := by
  unfold acceptFlight; split <;> simp
@[simp] theorem started_reads (op : Op) (c : Cmd) (h : Half) (s : State) : (started op c h s).reads = s.reads := by
  simp [started, begun, entered]; rfl
@[simp] theorem tell_rules (s : State) (r : MirrorRec) : (tell s r).rules = s.rules := by
  unfold tell; split <;> simp
@[simp] theorem acceptFlight_rules (s : State) (c : Cmd) (op : Op) : (acceptFlight s c op).rules = s.rules := by
  unfold acceptFlight; split <;> simp
@[simp] theorem started_rules (op : Op) (c : Cmd) (h : Half) (s : State) : (started op c h s).rules = s.rules := by
  simp [started, begun, entered]; rfl
@[simp] theorem tell_corrs (s : State) (r : MirrorRec) : (tell s r).corrs = s.corrs := by
  unfold tell; split <;> simp
@[simp] theorem acceptFlight_corrs (s : State) (c : Cmd) (op : Op) : (acceptFlight s c op).corrs = s.corrs := by
  unfold acceptFlight; split <;> simp
@[simp] theorem started_corrs (op : Op) (c : Cmd) (h : Half) (s : State) : (started op c h s).corrs = s.corrs := by
  simp [started, begun, entered]; rfl
@[simp] theorem tell_ctxs (s : State) (r : MirrorRec) : (tell s r).ctxs = s.ctxs := by
  unfold tell; split <;> simp
@[simp] theorem acceptFlight_ctxs (s : State) (c : Cmd) (op : Op) : (acceptFlight s c op).ctxs = s.ctxs := by
  unfold acceptFlight; split <;> simp
@[simp] theorem started_ctxs (op : Op) (c : Cmd) (h : Half) (s : State) : (started op c h s).ctxs = s.ctxs := by
  simp [started, begun, entered]; rfl
@[simp] theorem tell_statLast (s : State) (r : MirrorRec) : (tell s r).statLast = s.statLast := by
  unfold tell; split <;> simp
@[simp] theorem acceptFlight_statLast (s : State) (c : Cmd) (op : Op) : (acceptFlight s c op).statLast = s.statLast := by
  unfold acceptFlight; split <;> simp
@[simp] theorem started_statLast (op : Op) (c : Cmd) (h : Half) (s : State) : (started op c h s).statLast = s.statLast := by
  simp [started, begun, entered]; rfl
@[simp] theorem tell_contentTrigs (s : State) (r : MirrorRec) : (tell s r).contentTrigs = s.contentTrigs := by
  unfold tell; split <;> simp
@[simp] theorem acceptFlight_contentTrigs (s : State) (c : Cmd) (op : Op) : (acceptFlight s c op).contentTrigs = s.contentTrigs := by
  unfold acceptFlight; split <;> simp
@[simp] theorem started_contentTrigs (op : Op) (c : Cmd) (h : Half) (s : State) : (started op c h s).contentTrigs = s.contentTrigs := by
  simp [started, begun, entered]; rfl
@[simp] theorem tell_trim (s : State) (r : MirrorRec) : (tell s r).trim = s.trim := by
  unfold tell; split <;> simp
@[simp] theorem acceptFlight_trim (s : State) (c : Cmd) (op : Op) : (acceptFlight s c op).trim = s.trim := by
  unfold acceptFlight; split <;> simp
@[simp] theorem started_trim (op : Op) (c : Cmd) (h : Half) (s : State) : (started op c h s).trim = s.trim := by
  simp [started, begun, entered]; rfl
@[simp] theorem tell_sessions (s : State) (r : MirrorRec) : (tell s r).sessions = s.sessions := by
  unfold tell; split <;> simp
@[simp] theorem acceptFlight_sessions (s : State) (c : Cmd) (op : Op) : (acceptFlight s c op).sessions = s.sessions := by
  unfold acceptFlight; split <;> simp
@[simp] theorem started_sessions (op : Op) (c : Cmd) (h : Half) (s : State) : (started op c h s).sessions = s.sessions := by
  simp [started, begun, entered]; rfl
@[simp] theorem tell_outs (s : State) (r : MirrorRec) : (tell s r).outs = s.outs := by
  unfold tell; split <;> simp
@[simp] theorem acceptFlight_outs (s : State) (c : Cmd) (op : Op) : (acceptFlight s c op).outs = s.outs := by
  unfold acceptFlight; split <;> simp
@[simp] theorem started_outs (op : Op) (c : Cmd) (h : Half) (s : State) : (started op c h s).outs = s.outs := by
  simp [started, begun, entered]; rfl
@[simp] theorem tell_vfSrc (s : State) (r : MirrorRec) : (tell s r).vfSrc = s.vfSrc := by
  unfold tell; split <;> simp
@[simp] theorem acceptFlight_vfSrc (s : State) (c : Cmd) (op : Op) : (acceptFlight s c op).vfSrc = s.vfSrc := by
  unfold acceptFlight; split <;> simp
@[simp] theorem started_vfSrc (op : Op) (c : Cmd) (h : Half) (s : State) : (started op c h s).vfSrc = s.vfSrc := by
  simp [started, begun, entered]; rfl
@[simp] theorem tell_ports (s : State) (r : MirrorRec) : (tell s r).ports = s.ports := by
  unfold tell; split <;> simp
@[simp] theorem acceptFlight_ports (s : State) (c : Cmd) (op : Op) : (acceptFlight s c op).ports = s.ports := by
  unfold acceptFlight; split <;> simp
@[simp] theorem started_ports (op : Op) (c : Cmd) (h : Half) (s : State) : (started op c h s).ports = s.ports := by
  simp [started, begun, entered]; rfl
@[simp] theorem tell_sys (s : State) (r : MirrorRec) : (tell s r).sys = s.sys := by
  unfold tell; split <;> simp
@[simp] theorem acceptFlight_sys (s : State) (c : Cmd) (op : Op) : (acceptFlight s c op).sys = s.sys := by
  unfold acceptFlight; split <;> simp
@[simp] theorem started_sys (op : Op) (c : Cmd) (h : Half) (s : State) : (started op c h s).sys = s.sys := by
  simp [started, begun, entered]; rfl
@[simp] theorem tell_staged (s : State) (r : MirrorRec) : (tell s r).staged = s.staged := by
  unfold tell; split <;> simp
@[simp] theorem acceptFlight_staged (s : State) (c : Cmd) (op : Op) : (acceptFlight s c op).staged = s.staged := by
  unfold acceptFlight; split <;> simp
@[simp] theorem started_staged (op : Op) (c : Cmd) (h : Half) (s : State) : (started op c h s).staged = s.staged := by
  simp [started, begun, entered]; rfl
@[simp] theorem tell_mgmt (s : State) (r : MirrorRec) : (tell s r).mgmt = s.mgmt := by
  unfold tell; split <;> simp
@[simp] theorem acceptFlight_mgmt (s : State) (c : Cmd) (op : Op) : (acceptFlight s c op).mgmt = s.mgmt := by
  unfold acceptFlight; split <;> simp
@[simp] theorem started_mgmt (op : Op) (c : Cmd) (h : Half) (s : State) : (started op c h s).mgmt = s.mgmt := by
  simp [started, begun, entered]; rfl
@[simp] theorem tell_hostMem (s : State) (r : MirrorRec) : (tell s r).hostMem = s.hostMem := by
  unfold tell; split <;> simp
@[simp] theorem acceptFlight_hostMem (s : State) (c : Cmd) (op : Op) : (acceptFlight s c op).hostMem = s.hostMem := by
  unfold acceptFlight; split <;> simp
@[simp] theorem started_hostMem (op : Op) (c : Cmd) (h : Half) (s : State) : (started op c h s).hostMem = s.hostMem := by
  simp [started, begun, entered]; rfl
@[simp] theorem tell_hostBad (s : State) (r : MirrorRec) : (tell s r).hostBad = s.hostBad := by
  unfold tell; split <;> simp
@[simp] theorem acceptFlight_hostBad (s : State) (c : Cmd) (op : Op) : (acceptFlight s c op).hostBad = s.hostBad := by
  unfold acceptFlight; split <;> simp
@[simp] theorem started_hostBad (op : Op) (c : Cmd) (h : Half) (s : State) : (started op c h s).hostBad = s.hostBad := by
  simp [started, begun, entered]; rfl
@[simp] theorem tell_pending (s : State) (r : MirrorRec) : (tell s r).pending = s.pending := by
  unfold tell; split <;> simp
@[simp] theorem acceptFlight_pending (s : State) (c : Cmd) (op : Op) : (acceptFlight s c op).pending = s.pending := by
  unfold acceptFlight; split <;> simp
@[simp] theorem started_pending (op : Op) (c : Cmd) (h : Half) (s : State) : (started op c h s).pending = s.pending := by
  simp [started, begun, entered]; rfl
@[simp] theorem started_half_cmd (op : Op) (c : Cmd) (h k : Half) (s : State) :
    (half (started op c h s) k).cmd = (half s k).cmd := by
  simp [started, begun]
@[simp] theorem started_half_ep (op : Op) (c : Cmd) (h k : Half) (s : State) :
    (half (started op c h s) k).ep = (half s k).ep := by
  simp [started, begun]
@[simp] theorem started_half_ident (op : Op) (c : Cmd) (h k : Half) (s : State) :
    (half (started op c h s) k).ident = (half s k).ident := by
  simp [started, begun]
@[simp] theorem started_half_mem (op : Op) (c : Cmd) (h k : Half) (s : State) :
    (half (started op c h s) k).mem = (half s k).mem := by
  simp [started, begun]
@[simp] theorem started_half_pipe (op : Op) (c : Cmd) (h k : Half) (s : State) :
    (half (started op c h s) k).pipe = (half s k).pipe := by
  simp [started, begun]
@[simp] theorem started_half_ash (op : Op) (c : Cmd) (h k : Half) (s : State) :
    (half (started op c h s) k).ash = (half s k).ash := by
  simp [started, begun]
@[simp] theorem started_half_sys (op : Op) (c : Cmd) (h k : Half) (s : State) :
    (half (started op c h s) k).sys = (half s k).sys := by
  simp [started, begun]
@[simp] theorem started_half_vf (op : Op) (c : Cmd) (h k : Half) (s : State) :
    (half (started op c h s) k).vf = (half s k).vf := by
  simp [started, begun]
@[simp] theorem started_half_audFamily (op : Op) (c : Cmd) (h k : Half) (s : State) :
    (half (started op c h s) k).audFamily = (half s k).audFamily := by
  simp [started, begun]
@[simp] theorem tell_pair_st (s : State) (r : MirrorRec) : (tell s r).pair.st = s.pair.st := by
  unfold tell; split <;> rfl
@[simp] theorem acceptFlight_pair_st (s : State) (c : Cmd) (op : Op) : (acceptFlight s c op).pair.st = s.pair.st := by
  unfold acceptFlight; split <;> simp
@[simp] theorem started_pair_st (op : Op) (c : Cmd) (h : Half) (s : State) :
    (started op c h s).pair.st = s.pair.st := by
  simp [started, begun, entered]; rfl
@[simp] theorem tell_pair_role (s : State) (r : MirrorRec) : (tell s r).pair.role = s.pair.role := by
  unfold tell; split <;> rfl
@[simp] theorem acceptFlight_pair_role (s : State) (c : Cmd) (op : Op) : (acceptFlight s c op).pair.role = s.pair.role := by
  unfold acceptFlight; split <;> simp
@[simp] theorem started_pair_role (op : Op) (c : Cmd) (h : Half) (s : State) :
    (started op c h s).pair.role = s.pair.role := by
  simp [started, begun, entered]; rfl
@[simp] theorem tell_pair_enable (s : State) (r : MirrorRec) : (tell s r).pair.enable = s.pair.enable := by
  unfold tell; split <;> rfl
@[simp] theorem acceptFlight_pair_enable (s : State) (c : Cmd) (op : Op) : (acceptFlight s c op).pair.enable = s.pair.enable := by
  unfold acceptFlight; split <;> simp
@[simp] theorem started_pair_enable (op : Op) (c : Cmd) (h : Half) (s : State) :
    (started op c h s).pair.enable = s.pair.enable := by
  simp [started, begun, entered]; rfl
@[simp] theorem tell_pair_formed (s : State) (r : MirrorRec) : (tell s r).pair.formed = s.pair.formed := by
  unfold tell; split <;> rfl
@[simp] theorem acceptFlight_pair_formed (s : State) (c : Cmd) (op : Op) : (acceptFlight s c op).pair.formed = s.pair.formed := by
  unfold acceptFlight; split <;> simp
@[simp] theorem started_pair_formed (op : Op) (c : Cmd) (h : Half) (s : State) :
    (started op c h s).pair.formed = s.pair.formed := by
  simp [started, begun, entered]; rfl
@[simp] theorem tell_pair_roleRequest (s : State) (r : MirrorRec) : (tell s r).pair.roleRequest = s.pair.roleRequest := by
  unfold tell; split <;> rfl
@[simp] theorem acceptFlight_pair_roleRequest (s : State) (c : Cmd) (op : Op) : (acceptFlight s c op).pair.roleRequest = s.pair.roleRequest := by
  unfold acceptFlight; split <;> simp
@[simp] theorem started_pair_roleRequest (op : Op) (c : Cmd) (h : Half) (s : State) :
    (started op c h s).pair.roleRequest = s.pair.roleRequest := by
  simp [started, begun, entered]; rfl
@[simp] theorem tell_pair_faultMask (s : State) (r : MirrorRec) : (tell s r).pair.faultMask = s.pair.faultMask := by
  unfold tell; split <;> rfl
@[simp] theorem acceptFlight_pair_faultMask (s : State) (c : Cmd) (op : Op) : (acceptFlight s c op).pair.faultMask = s.pair.faultMask := by
  unfold acceptFlight; split <;> simp
@[simp] theorem started_pair_faultMask (op : Op) (c : Cmd) (h : Half) (s : State) :
    (started op c h s).pair.faultMask = s.pair.faultMask := by
  simp [started, begun, entered]; rfl
@[simp] theorem tell_pair_hbMiss (s : State) (r : MirrorRec) : (tell s r).pair.hbMiss = s.pair.hbMiss := by
  unfold tell; split <;> rfl
@[simp] theorem acceptFlight_pair_hbMiss (s : State) (c : Cmd) (op : Op) : (acceptFlight s c op).pair.hbMiss = s.pair.hbMiss := by
  unfold acceptFlight; split <;> simp
@[simp] theorem started_pair_hbMiss (op : Op) (c : Cmd) (h : Half) (s : State) :
    (started op c h s).pair.hbMiss = s.pair.hbMiss := by
  simp [started, begun, entered]; rfl
@[simp] theorem tell_pair_pairId (s : State) (r : MirrorRec) : (tell s r).pair.pairId = s.pair.pairId := by
  unfold tell; split <;> rfl
@[simp] theorem acceptFlight_pair_pairId (s : State) (c : Cmd) (op : Op) : (acceptFlight s c op).pair.pairId = s.pair.pairId := by
  unfold acceptFlight; split <;> simp
@[simp] theorem started_pair_pairId (op : Op) (c : Cmd) (h : Half) (s : State) :
    (started op c h s).pair.pairId = s.pair.pairId := by
  simp [started, begun, entered]; rfl
@[simp] theorem tell_pair_fenced (s : State) (r : MirrorRec) : (tell s r).pair.fenced = s.pair.fenced := by
  unfold tell; split <;> rfl
@[simp] theorem acceptFlight_pair_fenced (s : State) (c : Cmd) (op : Op) : (acceptFlight s c op).pair.fenced = s.pair.fenced := by
  unfold acceptFlight; split <;> simp
@[simp] theorem started_pair_fenced (op : Op) (c : Cmd) (h : Half) (s : State) :
    (started op c h s).pair.fenced = s.pair.fenced := by
  simp [started, begun, entered]; rfl
@[simp] theorem tell_pair_peerFenced (s : State) (r : MirrorRec) : (tell s r).pair.peerFenced = s.pair.peerFenced := by
  unfold tell; split <;> rfl
@[simp] theorem acceptFlight_pair_peerFenced (s : State) (c : Cmd) (op : Op) : (acceptFlight s c op).pair.peerFenced = s.pair.peerFenced := by
  unfold acceptFlight; split <;> simp
@[simp] theorem started_pair_peerFenced (op : Op) (c : Cmd) (h : Half) (s : State) :
    (started op c h s).pair.peerFenced = s.pair.peerFenced := by
  simp [started, begun, entered]; rfl
@[simp] theorem tell_pair_hbMissed (s : State) (r : MirrorRec) : (tell s r).pair.hbMissed = s.pair.hbMissed := by
  unfold tell; split <;> rfl
@[simp] theorem acceptFlight_pair_hbMissed (s : State) (c : Cmd) (op : Op) : (acceptFlight s c op).pair.hbMissed = s.pair.hbMissed := by
  unfold acceptFlight; split <;> simp
@[simp] theorem started_pair_hbMissed (op : Op) (c : Cmd) (h : Half) (s : State) :
    (started op c h s).pair.hbMissed = s.pair.hbMissed := by
  simp [started, begun, entered]; rfl
@[simp] theorem tell_pair_epoch (s : State) (r : MirrorRec) : (tell s r).pair.epoch = s.pair.epoch := by
  unfold tell; split <;> rfl
@[simp] theorem acceptFlight_pair_epoch (s : State) (c : Cmd) (op : Op) : (acceptFlight s c op).pair.epoch = s.pair.epoch := by
  unfold acceptFlight; split <;> simp
@[simp] theorem started_pair_epoch (op : Op) (c : Cmd) (h : Half) (s : State) :
    (started op c h s).pair.epoch = s.pair.epoch := by
  simp [started, begun, entered]; rfl
@[simp] theorem tell_pair_coverage (s : State) (r : MirrorRec) : (tell s r).pair.coverage = s.pair.coverage := by
  unfold tell; split <;> rfl
@[simp] theorem acceptFlight_pair_coverage (s : State) (c : Cmd) (op : Op) : (acceptFlight s c op).pair.coverage = s.pair.coverage := by
  unfold acceptFlight; split <;> simp
@[simp] theorem started_pair_coverage (op : Op) (c : Cmd) (h : Half) (s : State) :
    (started op c h s).pair.coverage = s.pair.coverage := by
  simp [started, begun, entered]; rfl
@[simp] theorem tell_pair_coveredFrom (s : State) (r : MirrorRec) : (tell s r).pair.coveredFrom = s.pair.coveredFrom := by
  unfold tell; split <;> rfl
@[simp] theorem acceptFlight_pair_coveredFrom (s : State) (c : Cmd) (op : Op) : (acceptFlight s c op).pair.coveredFrom = s.pair.coveredFrom := by
  unfold acceptFlight; split <;> simp
@[simp] theorem started_pair_coveredFrom (op : Op) (c : Cmd) (h : Half) (s : State) :
    (started op c h s).pair.coveredFrom = s.pair.coveredFrom := by
  simp [started, begun, entered]; rfl
@[simp] theorem tell_pair_mirrorLag (s : State) (r : MirrorRec) : (tell s r).pair.mirrorLag = s.pair.mirrorLag := by
  unfold tell; split <;> rfl
@[simp] theorem acceptFlight_pair_mirrorLag (s : State) (c : Cmd) (op : Op) : (acceptFlight s c op).pair.mirrorLag = s.pair.mirrorLag := by
  unfold acceptFlight; split <;> simp
@[simp] theorem started_pair_mirrorLag (op : Op) (c : Cmd) (h : Half) (s : State) :
    (started op c h s).pair.mirrorLag = s.pair.mirrorLag := by
  simp [started, begun, entered]; rfl
@[simp] theorem tell_pair_takeovers (s : State) (r : MirrorRec) : (tell s r).pair.takeovers = s.pair.takeovers := by
  unfold tell; split <;> rfl
@[simp] theorem acceptFlight_pair_takeovers (s : State) (c : Cmd) (op : Op) : (acceptFlight s c op).pair.takeovers = s.pair.takeovers := by
  unfold acceptFlight; split <;> simp
@[simp] theorem started_pair_takeovers (op : Op) (c : Cmd) (h : Half) (s : State) :
    (started op c h s).pair.takeovers = s.pair.takeovers := by
  simp [started, begun, entered]; rfl
@[simp] theorem tell_pair_replayed (s : State) (r : MirrorRec) : (tell s r).pair.replayed = s.pair.replayed := by
  unfold tell; split <;> rfl
@[simp] theorem acceptFlight_pair_replayed (s : State) (c : Cmd) (op : Op) : (acceptFlight s c op).pair.replayed = s.pair.replayed := by
  unfold acceptFlight; split <;> simp
@[simp] theorem started_pair_replayed (op : Op) (c : Cmd) (h : Half) (s : State) :
    (started op c h s).pair.replayed = s.pair.replayed := by
  simp [started, begun, entered]; rfl
@[simp] theorem tell_pair_lost (s : State) (r : MirrorRec) : (tell s r).pair.lost = s.pair.lost := by
  unfold tell; split <;> rfl
@[simp] theorem acceptFlight_pair_lost (s : State) (c : Cmd) (op : Op) : (acceptFlight s c op).pair.lost = s.pair.lost := by
  unfold acceptFlight; split <;> simp
@[simp] theorem started_pair_lost (op : Op) (c : Cmd) (h : Half) (s : State) :
    (started op c h s).pair.lost = s.pair.lost := by
  simp [started, begun, entered]; rfl
@[simp] theorem tell_pair_linkReplays (s : State) (r : MirrorRec) : (tell s r).pair.linkReplays = s.pair.linkReplays := by
  unfold tell; split <;> rfl
@[simp] theorem acceptFlight_pair_linkReplays (s : State) (c : Cmd) (op : Op) : (acceptFlight s c op).pair.linkReplays = s.pair.linkReplays := by
  unfold acceptFlight; split <;> simp
@[simp] theorem started_pair_linkReplays (op : Op) (c : Cmd) (h : Half) (s : State) :
    (started op c h s).pair.linkReplays = s.pair.linkReplays := by
  simp [started, begun, entered]; rfl
@[simp] theorem tell_pair_peerRole (s : State) (r : MirrorRec) : (tell s r).pair.peerRole = s.pair.peerRole := by
  unfold tell; split <;> rfl
@[simp] theorem acceptFlight_pair_peerRole (s : State) (c : Cmd) (op : Op) : (acceptFlight s c op).pair.peerRole = s.pair.peerRole := by
  unfold acceptFlight; split <;> simp
@[simp] theorem started_pair_peerRole (op : Op) (c : Cmd) (h : Half) (s : State) :
    (started op c h s).pair.peerRole = s.pair.peerRole := by
  simp [started, begun, entered]; rfl
@[simp] theorem tell_pair_peerEpoch (s : State) (r : MirrorRec) : (tell s r).pair.peerEpoch = s.pair.peerEpoch := by
  unfold tell; split <;> rfl
@[simp] theorem acceptFlight_pair_peerEpoch (s : State) (c : Cmd) (op : Op) : (acceptFlight s c op).pair.peerEpoch = s.pair.peerEpoch := by
  unfold acceptFlight; split <;> simp
@[simp] theorem started_pair_peerEpoch (op : Op) (c : Cmd) (h : Half) (s : State) :
    (started op c h s).pair.peerEpoch = s.pair.peerEpoch := by
  simp [started, begun, entered]; rfl
@[simp] theorem tell_pair_peerLive (s : State) (r : MirrorRec) : (tell s r).pair.peerLive = s.pair.peerLive := by
  unfold tell; split <;> rfl
@[simp] theorem acceptFlight_pair_peerLive (s : State) (c : Cmd) (op : Op) : (acceptFlight s c op).pair.peerLive = s.pair.peerLive := by
  unfold acceptFlight; split <;> simp
@[simp] theorem started_pair_peerLive (op : Op) (c : Cmd) (h : Half) (s : State) :
    (started op c h s).pair.peerLive = s.pair.peerLive := by
  simp [started, begun, entered]; rfl
@[simp] theorem tell_pair_hbGood (s : State) (r : MirrorRec) : (tell s r).pair.hbGood = s.pair.hbGood := by
  unfold tell; split <;> rfl
@[simp] theorem acceptFlight_pair_hbGood (s : State) (c : Cmd) (op : Op) : (acceptFlight s c op).pair.hbGood = s.pair.hbGood := by
  unfold acceptFlight; split <;> simp
@[simp] theorem started_pair_hbGood (op : Op) (c : Cmd) (h : Half) (s : State) :
    (started op c h s).pair.hbGood = s.pair.hbGood := by
  simp [started, begun, entered]; rfl
@[simp] theorem tell_pair_hbSwap (s : State) (r : MirrorRec) : (tell s r).pair.hbSwap = s.pair.hbSwap := by
  unfold tell; split <;> rfl
@[simp] theorem acceptFlight_pair_hbSwap (s : State) (c : Cmd) (op : Op) : (acceptFlight s c op).pair.hbSwap = s.pair.hbSwap := by
  unfold acceptFlight; split <;> simp
@[simp] theorem started_pair_hbSwap (op : Op) (c : Cmd) (h : Half) (s : State) :
    (started op c h s).pair.hbSwap = s.pair.hbSwap := by
  simp [started, begun, entered]; rfl
@[simp] theorem tell_pair_swapPeriods (s : State) (r : MirrorRec) : (tell s r).pair.swapPeriods = s.pair.swapPeriods := by
  unfold tell; split <;> rfl
@[simp] theorem acceptFlight_pair_swapPeriods (s : State) (c : Cmd) (op : Op) : (acceptFlight s c op).pair.swapPeriods = s.pair.swapPeriods := by
  unfold acceptFlight; split <;> simp
@[simp] theorem started_pair_swapPeriods (op : Op) (c : Cmd) (h : Half) (s : State) :
    (started op c h s).pair.swapPeriods = s.pair.swapPeriods := by
  simp [started, begun, entered]; rfl
@[simp] theorem tell_pair_swap (s : State) (r : MirrorRec) : (tell s r).pair.swap = s.pair.swap := by
  unfold tell; split <;> rfl
@[simp] theorem acceptFlight_pair_swap (s : State) (c : Cmd) (op : Op) : (acceptFlight s c op).pair.swap = s.pair.swap := by
  unfold acceptFlight; split <;> simp
@[simp] theorem started_pair_swap (op : Op) (c : Cmd) (h : Half) (s : State) :
    (started op c h s).pair.swap = s.pair.swap := by
  simp [started, begun, entered]; rfl
@[simp] theorem tell_pair_liveSent (s : State) (r : MirrorRec) : (tell s r).pair.liveSent = s.pair.liveSent := by
  unfold tell; split <;> rfl
@[simp] theorem acceptFlight_pair_liveSent (s : State) (c : Cmd) (op : Op) : (acceptFlight s c op).pair.liveSent = s.pair.liveSent := by
  unfold acceptFlight; split <;> simp
@[simp] theorem started_pair_liveSent (op : Op) (c : Cmd) (h : Half) (s : State) :
    (started op c h s).pair.liveSent = s.pair.liveSent := by
  simp [started, begun, entered]; rfl
@[simp] theorem tell_pair_stall (s : State) (r : MirrorRec) : (tell s r).pair.stall = s.pair.stall := by
  unfold tell; split <;> rfl
@[simp] theorem acceptFlight_pair_stall (s : State) (c : Cmd) (op : Op) : (acceptFlight s c op).pair.stall = s.pair.stall := by
  unfold acceptFlight; split <;> simp
@[simp] theorem started_pair_stall (op : Op) (c : Cmd) (h : Half) (s : State) :
    (started op c h s).pair.stall = s.pair.stall := by
  simp [started, begun, entered]; rfl
@[simp] theorem tell_pair_tags (s : State) (r : MirrorRec) : (tell s r).pair.tags = s.pair.tags := by
  unfold tell; split <;> rfl
@[simp] theorem acceptFlight_pair_tags (s : State) (c : Cmd) (op : Op) : (acceptFlight s c op).pair.tags = s.pair.tags := by
  unfold acceptFlight; split <;> simp
@[simp] theorem started_pair_tags (op : Op) (c : Cmd) (h : Half) (s : State) :
    (started op c h s).pair.tags = s.pair.tags := by
  simp [started, begun, entered]; rfl
@[simp] theorem tell_pair_gating (s : State) (r : MirrorRec) : (tell s r).pair.gating = s.pair.gating := by
  unfold tell; split <;> rfl
@[simp] theorem acceptFlight_pair_gating (s : State) (c : Cmd) (op : Op) : (acceptFlight s c op).pair.gating = s.pair.gating := by
  unfold acceptFlight; split <;> simp
@[simp] theorem started_pair_gating (op : Op) (c : Cmd) (h : Half) (s : State) :
    (started op c h s).pair.gating = s.pair.gating := by
  simp [started, begun, entered]; rfl
@[simp] theorem tell_pair_claim (s : State) (r : MirrorRec) : (tell s r).pair.claim = s.pair.claim := by
  unfold tell; split <;> rfl
@[simp] theorem acceptFlight_pair_claim (s : State) (c : Cmd) (op : Op) : (acceptFlight s c op).pair.claim = s.pair.claim := by
  unfold acceptFlight; split <;> simp
@[simp] theorem started_pair_claim (op : Op) (c : Cmd) (h : Half) (s : State) :
    (started op c h s).pair.claim = s.pair.claim := by
  simp [started, begun, entered]; rfl
@[simp] theorem tell_pair_claimCause (s : State) (r : MirrorRec) : (tell s r).pair.claimCause = s.pair.claimCause := by
  unfold tell; split <;> rfl
@[simp] theorem acceptFlight_pair_claimCause (s : State) (c : Cmd) (op : Op) : (acceptFlight s c op).pair.claimCause = s.pair.claimCause := by
  unfold acceptFlight; split <;> simp
@[simp] theorem started_pair_claimCause (op : Op) (c : Cmd) (h : Half) (s : State) :
    (started op c h s).pair.claimCause = s.pair.claimCause := by
  simp [started, begun, entered]; rfl
@[simp] theorem tell_pair_claimEpoch (s : State) (r : MirrorRec) : (tell s r).pair.claimEpoch = s.pair.claimEpoch := by
  unfold tell; split <;> rfl
@[simp] theorem acceptFlight_pair_claimEpoch (s : State) (c : Cmd) (op : Op) : (acceptFlight s c op).pair.claimEpoch = s.pair.claimEpoch := by
  unfold acceptFlight; split <;> simp
@[simp] theorem started_pair_claimEpoch (op : Op) (c : Cmd) (h : Half) (s : State) :
    (started op c h s).pair.claimEpoch = s.pair.claimEpoch := by
  simp [started, begun, entered]; rfl
@[simp] theorem tell_pair_hostFenced (s : State) (r : MirrorRec) : (tell s r).pair.hostFenced = s.pair.hostFenced := by
  unfold tell; split <;> rfl
@[simp] theorem acceptFlight_pair_hostFenced (s : State) (c : Cmd) (op : Op) : (acceptFlight s c op).pair.hostFenced = s.pair.hostFenced := by
  unfold acceptFlight; split <;> simp
@[simp] theorem started_pair_hostFenced (op : Op) (c : Cmd) (h : Half) (s : State) :
    (started op c h s).pair.hostFenced = s.pair.hostFenced := by
  simp [started, begun, entered]; rfl
@[simp] theorem tell_pair_claimSpoiled (s : State) (r : MirrorRec) : (tell s r).pair.claimSpoiled = s.pair.claimSpoiled := by
  unfold tell; split <;> rfl
@[simp] theorem acceptFlight_pair_claimSpoiled (s : State) (c : Cmd) (op : Op) : (acceptFlight s c op).pair.claimSpoiled = s.pair.claimSpoiled := by
  unfold acceptFlight; split <;> simp
@[simp] theorem started_pair_claimSpoiled (op : Op) (c : Cmd) (h : Half) (s : State) :
    (started op c h s).pair.claimSpoiled = s.pair.claimSpoiled := by
  simp [started, begun, entered]; rfl
@[simp] theorem tell_pair_cmd (s : State) (r : MirrorRec) : (tell s r).pair.cmd = s.pair.cmd := by
  unfold tell; split <;> rfl
@[simp] theorem acceptFlight_pair_cmd (s : State) (c : Cmd) (op : Op) : (acceptFlight s c op).pair.cmd = s.pair.cmd := by
  unfold acceptFlight; split <;> simp
@[simp] theorem started_pair_cmd (op : Op) (c : Cmd) (h : Half) (s : State) :
    (started op c h s).pair.cmd = s.pair.cmd := by
  simp [started, begun, entered]; rfl
@[simp] theorem tell_pair_arbDriven (s : State) (r : MirrorRec) : (tell s r).pair.arbDriven = s.pair.arbDriven := by
  unfold tell; split <;> rfl
@[simp] theorem acceptFlight_pair_arbDriven (s : State) (c : Cmd) (op : Op) : (acceptFlight s c op).pair.arbDriven = s.pair.arbDriven := by
  unfold acceptFlight; split <;> simp
@[simp] theorem started_pair_arbDriven (op : Op) (c : Cmd) (h : Half) (s : State) :
    (started op c h s).pair.arbDriven = s.pair.arbDriven := by
  simp [started, begun, entered]; rfl
@[simp] theorem tell_pair_pulseSeen (s : State) (r : MirrorRec) : (tell s r).pair.pulseSeen = s.pair.pulseSeen := by
  unfold tell; split <;> rfl
@[simp] theorem acceptFlight_pair_pulseSeen (s : State) (c : Cmd) (op : Op) : (acceptFlight s c op).pair.pulseSeen = s.pair.pulseSeen := by
  unfold acceptFlight; split <;> simp
@[simp] theorem started_pair_pulseSeen (op : Op) (c : Cmd) (h : Half) (s : State) :
    (started op c h s).pair.pulseSeen = s.pair.pulseSeen := by
  simp [started, begun, entered]; rfl
@[simp] theorem tell_pair_pulses (s : State) (r : MirrorRec) : (tell s r).pair.pulses = s.pair.pulses := by
  unfold tell; split <;> rfl
@[simp] theorem acceptFlight_pair_pulses (s : State) (c : Cmd) (op : Op) : (acceptFlight s c op).pair.pulses = s.pair.pulses := by
  unfold acceptFlight; split <;> simp
@[simp] theorem started_pair_pulses (op : Op) (c : Cmd) (h : Half) (s : State) :
    (started op c h s).pair.pulses = s.pair.pulses := by
  simp [started, begun, entered]; rfl
@[simp] theorem tell_pair_own (s : State) (r : MirrorRec) : (tell s r).pair.own = s.pair.own := by
  unfold tell; split <;> rfl
@[simp] theorem acceptFlight_pair_own (s : State) (c : Cmd) (op : Op) : (acceptFlight s c op).pair.own = s.pair.own := by
  unfold acceptFlight; split <;> simp
@[simp] theorem started_pair_own (op : Op) (c : Cmd) (h : Half) (s : State) :
    (started op c h s).pair.own = s.pair.own := by
  simp [started, begun, entered]; rfl
@[simp] theorem tell_pair_draining (s : State) (r : MirrorRec) : (tell s r).pair.draining = s.pair.draining := by
  unfold tell; split <;> rfl
@[simp] theorem acceptFlight_pair_draining (s : State) (c : Cmd) (op : Op) : (acceptFlight s c op).pair.draining = s.pair.draining := by
  unfold acceptFlight; split <;> simp
@[simp] theorem started_pair_draining (op : Op) (c : Cmd) (h : Half) (s : State) :
    (started op c h s).pair.draining = s.pair.draining := by
  simp [started, begun, entered]; rfl
@[simp] theorem tell_pair_hasMirror (s : State) (r : MirrorRec) : (tell s r).pair.hasMirror = s.pair.hasMirror := by
  unfold tell; split <;> rfl
@[simp] theorem acceptFlight_pair_hasMirror (s : State) (c : Cmd) (op : Op) : (acceptFlight s c op).pair.hasMirror = s.pair.hasMirror := by
  unfold acceptFlight; split <;> simp
@[simp] theorem started_pair_hasMirror (op : Op) (c : Cmd) (h : Half) (s : State) :
    (started op c h s).pair.hasMirror = s.pair.hasMirror := by
  simp [started, begun, entered]; rfl
@[simp] theorem tell_pair_firings (s : State) (r : MirrorRec) : (tell s r).pair.firings = s.pair.firings := by
  unfold tell; split <;> rfl
@[simp] theorem acceptFlight_pair_firings (s : State) (c : Cmd) (op : Op) : (acceptFlight s c op).pair.firings = s.pair.firings := by
  unfold acceptFlight; split <;> simp
@[simp] theorem started_pair_firings (op : Op) (c : Cmd) (h : Half) (s : State) :
    (started op c h s).pair.firings = s.pair.firings := by
  simp [started, begun, entered]; rfl
@[simp] theorem tell_pair_fired (s : State) (r : MirrorRec) : (tell s r).pair.fired = s.pair.fired := by
  unfold tell; split <;> rfl
@[simp] theorem acceptFlight_pair_fired (s : State) (c : Cmd) (op : Op) : (acceptFlight s c op).pair.fired = s.pair.fired := by
  unfold acceptFlight; split <;> simp
@[simp] theorem started_pair_fired (op : Op) (c : Cmd) (h : Half) (s : State) :
    (started op c h s).pair.fired = s.pair.fired := by
  simp [started, begun, entered]; rfl
@[simp] theorem tell_pair_admits (s : State) (r : MirrorRec) : (tell s r).pair.admits = s.pair.admits := by
  unfold tell; split <;> rfl
@[simp] theorem acceptFlight_pair_admits (s : State) (c : Cmd) (op : Op) : (acceptFlight s c op).pair.admits = s.pair.admits := by
  unfold acceptFlight; split <;> simp
@[simp] theorem started_pair_admits (op : Op) (c : Cmd) (h : Half) (s : State) :
    (started op c h s).pair.admits = s.pair.admits := by
  simp [started, begun, entered]; rfl
@[simp] theorem tell_pair_effects (s : State) (r : MirrorRec) : (tell s r).pair.effects = s.pair.effects := by
  unfold tell; split <;> rfl
@[simp] theorem acceptFlight_pair_effects (s : State) (c : Cmd) (op : Op) : (acceptFlight s c op).pair.effects = s.pair.effects := by
  unfold acceptFlight; split <;> simp
@[simp] theorem started_pair_effects (op : Op) (c : Cmd) (h : Half) (s : State) :
    (started op c h s).pair.effects = s.pair.effects := by
  simp [started, begun, entered]; rfl
@[simp] theorem tell_pair_trims (s : State) (r : MirrorRec) : (tell s r).pair.trims = s.pair.trims := by
  unfold tell; split <;> rfl
@[simp] theorem acceptFlight_pair_trims (s : State) (c : Cmd) (op : Op) : (acceptFlight s c op).pair.trims = s.pair.trims := by
  unfold acceptFlight; split <;> simp
@[simp] theorem started_pair_trims (op : Op) (c : Cmd) (h : Half) (s : State) :
    (started op c h s).pair.trims = s.pair.trims := by
  simp [started, begun, entered]; rfl
@[simp] theorem tell_pair_held (s : State) (r : MirrorRec) : (tell s r).pair.held = s.pair.held := by
  unfold tell; split <;> rfl
@[simp] theorem acceptFlight_pair_held (s : State) (c : Cmd) (op : Op) : (acceptFlight s c op).pair.held = s.pair.held := by
  unfold acceptFlight; split <;> simp
@[simp] theorem started_pair_held (op : Op) (c : Cmd) (h : Half) (s : State) :
    (started op c h s).pair.held = s.pair.held := by
  simp [started, begun, entered]; rfl
@[simp] theorem tell_pair_portsUp (s : State) (r : MirrorRec) : (tell s r).pair.portsUp = s.pair.portsUp := by
  unfold tell; split <;> rfl
@[simp] theorem acceptFlight_pair_portsUp (s : State) (c : Cmd) (op : Op) : (acceptFlight s c op).pair.portsUp = s.pair.portsUp := by
  unfold acceptFlight; split <;> simp
@[simp] theorem started_pair_portsUp (op : Op) (c : Cmd) (h : Half) (s : State) :
    (started op c h s).pair.portsUp = s.pair.portsUp := by
  simp [started, begun, entered]; rfl
@[simp] theorem tell_pair_peerSeen (s : State) (r : MirrorRec) : (tell s r).pair.peerSeen = s.pair.peerSeen := by
  unfold tell; split <;> rfl
@[simp] theorem acceptFlight_pair_peerSeen (s : State) (c : Cmd) (op : Op) : (acceptFlight s c op).pair.peerSeen = s.pair.peerSeen := by
  unfold acceptFlight; split <;> simp
@[simp] theorem started_pair_peerSeen (op : Op) (c : Cmd) (h : Half) (s : State) :
    (started op c h s).pair.peerSeen = s.pair.peerSeen := by
  simp [started, begun, entered]; rfl
@[simp] theorem tell_pair_peerRequest (s : State) (r : MirrorRec) : (tell s r).pair.peerRequest = s.pair.peerRequest := by
  unfold tell; split <;> rfl
@[simp] theorem acceptFlight_pair_peerRequest (s : State) (c : Cmd) (op : Op) : (acceptFlight s c op).pair.peerRequest = s.pair.peerRequest := by
  unfold acceptFlight; split <;> simp
@[simp] theorem started_pair_peerRequest (op : Op) (c : Cmd) (h : Half) (s : State) :
    (started op c h s).pair.peerRequest = s.pair.peerRequest := by
  simp [started, begun, entered]; rfl
@[simp] theorem tell_pair_sameDram (s : State) (r : MirrorRec) : (tell s r).pair.sameDram = s.pair.sameDram := by
  unfold tell; split <;> rfl
@[simp] theorem acceptFlight_pair_sameDram (s : State) (c : Cmd) (op : Op) : (acceptFlight s c op).pair.sameDram = s.pair.sameDram := by
  unfold acceptFlight; split <;> simp
@[simp] theorem started_pair_sameDram (op : Op) (c : Cmd) (h : Half) (s : State) :
    (started op c h s).pair.sameDram = s.pair.sameDram := by
  simp [started, begun, entered]; rfl
@[simp] theorem tell_pair_compatible (s : State) (r : MirrorRec) : (tell s r).pair.compatible = s.pair.compatible := by
  unfold tell; split <;> rfl
@[simp] theorem acceptFlight_pair_compatible (s : State) (c : Cmd) (op : Op) : (acceptFlight s c op).pair.compatible = s.pair.compatible := by
  unfold acceptFlight; split <;> simp
@[simp] theorem started_pair_compatible (op : Op) (c : Cmd) (h : Half) (s : State) :
    (started op c h s).pair.compatible = s.pair.compatible := by
  simp [started, begun, entered]; rfl
@[simp] theorem tell_pair_fenceCause (s : State) (r : MirrorRec) : (tell s r).pair.fenceCause = s.pair.fenceCause := by
  unfold tell; split <;> rfl
@[simp] theorem acceptFlight_pair_fenceCause (s : State) (c : Cmd) (op : Op) : (acceptFlight s c op).pair.fenceCause = s.pair.fenceCause := by
  unfold acceptFlight; split <;> simp
@[simp] theorem started_pair_fenceCause (op : Op) (c : Cmd) (h : Half) (s : State) :
    (started op c h s).pair.fenceCause = s.pair.fenceCause := by
  simp [started, begun, entered]; rfl

/-! A submitted command that is accepted. -/

theorem opIsland_started (op op' : Op) (c c' : Cmd) (h : Half) (s : State) :
    opIsland op' c' (started op c h s) = opIsland op' c' s := by
  unfold opIsland linkAt
  simp only [started_links]

theorem islandAt_started_resetting (op : Op) (c : Cmd) (h k : Half) (i : IslandId) (s : State) :
    (islandAt (started op c h s) k i).resetting = (islandAt s k i).resetting := by
  have e : ∀ u : State, half u k = half s k → islandAt u k i = islandAt s k i := by
    intro u hu; simp [islandAt, hu]
  unfold started begun
  rcases wakeFor_cases op (submitted s c) h
    (modFlight (entered op (submitted s c) h (numberTaken s)) (submitted s c).serial fun x => { x with st := .running })
    with w | ⟨j, w⟩
  · rw [w, e _ (by simp)]
  · rw [w]
    simp only [islandOn]
    have cw : ∀ (u : State) (n : Nat), islandAt (countWake u h n) k i = islandAt u k i := by
      intro u n
      unfold countWake
      split
      · have : (half (modHalf u h fun x => { x with power := { x.power with wakes := satInc x.power.wakes } }) k).islands =
            (half u k).islands := by cases h <;> cases k <;> rfl
        simp [islandAt, this]
      · rfl
    rw [cw, modIsland_resetting, e _ (by simp)]
    intro x; rfl

theorem islandResets_started (op : Op) (c : Cmd) (h : Half) (s : State) :
    islandResets op (submitted s c) h (started op c h s) = islandResets op c h s := by
  have e : opIsland op (submitted s c) s = opIsland op c s := rfl
  unfold islandResets
  rw [opIsland_started, e]
  cases opIsland op c s with
  | none => rfl
  | some i => exact islandAt_started_resetting op c h h i s

theorem halfState_shape (g g0 : HalfState) (e0 : g.cmd = g0.cmd) (e1 : g.ep = g0.ep) (e2 : g.ident = g0.ident) (e5 : g.mem = g0.mem) (e6 : g.pipe = g0.pipe) (e7 : g.ash = g0.ash) (e8 : g.sys = g0.sys) (e9 : g.vf = g0.vf) (e10 : g.audFamily = g0.audFamily) :
    g = { g0 with islands := g.islands, power := g.power } := by
  cases g; cases g0; simp only at *; subst_vars; rfl

theorem pair_shape (g g0 : Pair) (e0 : g.st = g0.st) (e1 : g.role = g0.role) (e2 : g.enable = g0.enable) (e3 : g.formed = g0.formed) (e4 : g.roleRequest = g0.roleRequest) (e5 : g.faultMask = g0.faultMask) (e6 : g.hbMiss = g0.hbMiss) (e7 : g.pairId = g0.pairId) (e8 : g.fenced = g0.fenced) (e9 : g.peerFenced = g0.peerFenced) (e10 : g.hbMissed = g0.hbMissed) (e11 : g.epoch = g0.epoch) (e12 : g.coverage = g0.coverage) (e13 : g.coveredFrom = g0.coveredFrom) (e14 : g.mirrorLag = g0.mirrorLag) (e15 : g.takeovers = g0.takeovers) (e16 : g.replayed = g0.replayed) (e17 : g.lost = g0.lost) (e18 : g.linkReplays = g0.linkReplays) (e19 : g.peerRole = g0.peerRole) (e20 : g.peerEpoch = g0.peerEpoch) (e21 : g.peerLive = g0.peerLive) (e22 : g.hbGood = g0.hbGood) (e23 : g.hbSwap = g0.hbSwap) (e24 : g.swapPeriods = g0.swapPeriods) (e25 : g.swap = g0.swap) (e26 : g.liveSent = g0.liveSent) (e27 : g.stall = g0.stall) (e28 : g.tags = g0.tags) (e29 : g.gating = g0.gating) (e30 : g.claim = g0.claim) (e31 : g.claimCause = g0.claimCause) (e32 : g.claimEpoch = g0.claimEpoch) (e33 : g.hostFenced = g0.hostFenced) (e34 : g.claimSpoiled = g0.claimSpoiled) (e35 : g.cmd = g0.cmd) (e36 : g.arbDriven = g0.arbDriven) (e37 : g.pulseSeen = g0.pulseSeen) (e38 : g.pulses = g0.pulses) (e39 : g.own = g0.own) (e40 : g.draining = g0.draining) (e41 : g.hasMirror = g0.hasMirror) (e42 : g.firings = g0.firings) (e43 : g.fired = g0.fired) (e44 : g.admits = g0.admits) (e45 : g.effects = g0.effects) (e46 : g.trims = g0.trims) (e47 : g.held = g0.held) (e49 : g.portsUp = g0.portsUp) (e50 : g.peerSeen = g0.peerSeen) (e51 : g.peerRequest = g0.peerRequest) (e52 : g.sameDram = g0.sameDram) (e53 : g.compatible = g0.compatible) (e54 : g.fenceCause = g0.fenceCause) :
    g = { g0 with out := g.out } := by
  cases g; cases g0; simp only at *; subst_vars; rfl

theorem state_shape (g g0 : State) (e2 : g.mortar = g0.mortar) (e3 : g.quads = g0.quads) (e4 : g.links = g0.links) (e5 : g.lanes = g0.lanes) (e6 : g.rx = g0.rx) (e7 : g.streams = g0.streams) (e8 : g.reads = g0.reads) (e9 : g.rules = g0.rules) (e10 : g.corrs = g0.corrs) (e11 : g.ctxs = g0.ctxs) (e12 : g.statLast = g0.statLast) (e13 : g.contentTrigs = g0.contentTrigs) (e14 : g.trim = g0.trim) (e15 : g.sessions = g0.sessions) (e16 : g.outs = g0.outs) (e17 : g.vfSrc = g0.vfSrc) (e18 : g.ports = g0.ports) (e20 : g.sys = g0.sys) (e23 : g.staged = g0.staged) (e24 : g.mgmt = g0.mgmt) (e25 : g.hostMem = g0.hostMem) (e26 : g.hostBad = g0.hostBad) (e27 : g.pending = g0.pending) :
    g = { g0 with a := g.a, b := g.b, pair := g.pair, flights := g.flights, nextSerial := g.nextSerial } := by
  cases g; cases g0; simp only at *; subst_vars; rfl

/-- The start of an accepted command leaves everything but its flight and number, a pair record, and islands with their wakes. -/
theorem started_shape (op : Op) (c : Cmd) (h : Half) (s : State) :
    ∃ ia pa ib pb o fl, started op c h s = { s with
      a := { s.a with islands := ia, power := pa }
      b := { s.b with islands := ib, power := pb }
      pair := { s.pair with out := o }
      flights := fl
      nextSerial := s.nextSerial + 1 } := by
  have ha := halfState_shape (started op c h s).a s.a (started_half_cmd op c h .A s) (started_half_ep op c h .A s) (started_half_ident op c h .A s) (started_half_mem op c h .A s) (started_half_pipe op c h .A s) (started_half_ash op c h .A s) (started_half_sys op c h .A s) (started_half_vf op c h .A s) (started_half_audFamily op c h .A s)
  have hb := halfState_shape (started op c h s).b s.b (started_half_cmd op c h .B s) (started_half_ep op c h .B s) (started_half_ident op c h .B s) (started_half_mem op c h .B s) (started_half_pipe op c h .B s) (started_half_ash op c h .B s) (started_half_sys op c h .B s) (started_half_vf op c h .B s) (started_half_audFamily op c h .B s)
  have hp := pair_shape (started op c h s).pair s.pair (started_pair_st op c h s) (started_pair_role op c h s) (started_pair_enable op c h s) (started_pair_formed op c h s) (started_pair_roleRequest op c h s) (started_pair_faultMask op c h s) (started_pair_hbMiss op c h s) (started_pair_pairId op c h s) (started_pair_fenced op c h s) (started_pair_peerFenced op c h s) (started_pair_hbMissed op c h s) (started_pair_epoch op c h s) (started_pair_coverage op c h s) (started_pair_coveredFrom op c h s) (started_pair_mirrorLag op c h s) (started_pair_takeovers op c h s) (started_pair_replayed op c h s) (started_pair_lost op c h s) (started_pair_linkReplays op c h s) (started_pair_peerRole op c h s) (started_pair_peerEpoch op c h s) (started_pair_peerLive op c h s) (started_pair_hbGood op c h s) (started_pair_hbSwap op c h s) (started_pair_swapPeriods op c h s) (started_pair_swap op c h s) (started_pair_liveSent op c h s) (started_pair_stall op c h s) (started_pair_tags op c h s) (started_pair_gating op c h s) (started_pair_claim op c h s) (started_pair_claimCause op c h s) (started_pair_claimEpoch op c h s) (started_pair_hostFenced op c h s) (started_pair_claimSpoiled op c h s) (started_pair_cmd op c h s) (started_pair_arbDriven op c h s) (started_pair_pulseSeen op c h s) (started_pair_pulses op c h s) (started_pair_own op c h s) (started_pair_draining op c h s) (started_pair_hasMirror op c h s) (started_pair_firings op c h s) (started_pair_fired op c h s) (started_pair_admits op c h s) (started_pair_effects op c h s) (started_pair_trims op c h s) (started_pair_held op c h s) (started_pair_portsUp op c h s) (started_pair_peerSeen op c h s) (started_pair_peerRequest op c h s) (started_pair_sameDram op c h s) (started_pair_compatible op c h s) (started_pair_fenceCause op c h s)
  have hn : (started op c h s).nextSerial = s.nextSerial + 1 := by
    simp [started, begun, entered]
    unfold acceptFlight; split <;> (try unfold tell) <;> (try split) <;> rfl
  have hs := state_shape (started op c h s) s (started_mortar op c h s) (started_quads op c h s) (started_links op c h s) (started_lanes op c h s) (started_rx op c h s) (started_streams op c h s) (started_reads op c h s) (started_rules op c h s) (started_corrs op c h s) (started_ctxs op c h s) (started_statLast op c h s) (started_contentTrigs op c h s) (started_trim op c h s) (started_sessions op c h s) (started_outs op c h s) (started_vfSrc op c h s) (started_ports op c h s) (started_sys op c h s) (started_staged op c h s) (started_mgmt op c h s) (started_hostMem op c h s) (started_hostBad op c h s) (started_pending op c h s)
  rw [ha, hb, hp, hn] at hs
  exact ⟨_, _, _, _, _, _, hs⟩

/-- An accepted command runs its meaning in its half and posts what that answers. -/
theorem submit_accepted (i : Instr) (op : Op) (f : Meaning) (c : Cmd) (h : Half) (s : State) (w : i.wf = true)
    (a : accepted op c h s = true) :
    submit i op f c s = .next (withQueueOf s
      (finish (f (submitted s c) h (started op c h s)).2 (submitted s c) h (f (submitted s c) h (started op c h s)).1)) := by
  simp only [accepted, Bool.and_eq_true, Bool.not_eq_true', decide_eq_true_eq, Bool.or_eq_true, bne_iff_ne, ne_eq,
    Option.isNone_iff_eq_none] at a
  obtain ⟨⟨⟨⟨⟨a1, a2⟩, a3⟩, a4⟩, a5⟩, a6⟩ := a
  have p : placeOf op (submitted s c) (numberTaken s) = some h := a3
  have m : mirrorRefuses (numberTaken s) op (submitted s c) = false := a4
  have k : firstErr (tagChecks (numberTaken s) (submitted s c) ++ shapeChecks op (submitted s c)) = none := a2
  have d : ¬ (h ≠ (submitted s c).recv ∧ (numberTaken s).mortar.st = .down) := by
    rintro ⟨n, e⟩
    rcases a5 with a5 | a5
    · exact n a5
    · exact a5.1 e
  have r : ¬ (h ≠ (submitted s c).recv ∧ (half (numberTaken s) (submitted s c).recv).ident.cmdReady ∧
      !(half (numberTaken s) h).ident.cmdReady) := by
    rintro ⟨n, _, e⟩
    rcases a5 with a5 | a5
    · exact n a5
    · rw [numberTaken_half, a5.2] at e; cases e
  unfold submit
  rw [act_live i s _ w a1]
  unfold carryOut
  simp only [k, p, m, Bool.false_eq_true, if_false, if_neg d, if_neg r]
  have q : islandResets op (submitted s c) h (begun op (submitted s c) h (entered op (submitted s c) h (numberTaken s))) =
      false := (islandResets_started op c h s).trans a6
  simp only [start, q, Bool.false_eq_true, if_false]
  rfl

/-- How a row of an opcode is shown to answer: its meaning gives the answer and the change. -/
theorem answers_of (i : Instr) (op : Op) (m : Meaning) (c : Cmd) (h : Half) (s : State) (f : State → State) (r : Reply)
    (e : exec i s = submit i op m c s) (w : i.wf = true) (a : accepted op c h s = true)
    (v : m (submitted s c) h (started op c h s) = (r, f (started op c h s))) : Answers i op c h s f r := by
  unfold Answers
  rw [e, submit_accepted i op m c h s w a, v]

end Sys2Proof.Machine
end

