-- ==== Sys2Proof/Laws/Memory.lean ====
section
/-! SUPPORT. The sparse memories: every operation keeps the canonical form, a read after a write gives the byte written, and a
write leaves every other byte alone. -/

namespace Sys2Proof.Machine

theorem cellGet_lt (l : List (Nat × Byte)) (m : Memory) (d : Byte) (lo a : Nat) (h : cellsWf m d lo l = true) (ha : a < lo) :
    cellGet l a = none := by
  cases l with
  | nil => rfl
  | cons c t =>
    obtain ⟨x, y⟩ := c
    simp only [cellsWf, Bool.and_eq_true, decide_eq_true_eq] at h
    have : a < x := by omega
    simp [cellGet, this, Nat.ne_of_gt this]

theorem cellGet_cellSet_same (m : Memory) (d : Byte) (v : Option Byte) (a : Nat) :
    ∀ (l : List (Nat × Byte)) (lo : Nat), cellsWf m d lo l = true → cellGet (cellSet l a v) a = v := by
  intro l
  induction l with
  | nil => intro lo _; cases v <;> simp [cellSet, cellGet]
  | cons c t ih =>
    obtain ⟨x, y⟩ := c
    intro lo h
    simp only [cellsWf, Bool.and_eq_true, decide_eq_true_eq] at h
    by_cases h1 : x < a
    · have h2 : ¬ a < x := by omega
      have h3 : x ≠ a := by omega
      simpa [cellSet, cellGet, h1, h2, h3] using ih _ h.2
    · by_cases h2 : x = a
      · subst h2
        cases v with
        | none => simpa [cellSet] using cellGet_lt t m d _ x h.2 (by omega)
        | some w => simp [cellSet, cellGet]
      · have h3 : a < x := by omega
        cases v with
        | none => simp [cellSet, cellGet, h1, h2, h3]
        | some w => simp [cellSet, cellGet, h1, h2]

theorem cellGet_cellSet_ne (m : Memory) (d : Byte) (v : Option Byte) (a b : Nat) (hab : a ≠ b) :
    ∀ (l : List (Nat × Byte)) (lo : Nat), cellsWf m d lo l = true → cellGet (cellSet l a v) b = cellGet l b := by
  intro l
  induction l with
  | nil => intro lo _; cases v <;> simp [cellSet, cellGet, hab]
  | cons c t ih =>
    obtain ⟨x, y⟩ := c
    intro lo h
    simp only [cellsWf, Bool.and_eq_true, decide_eq_true_eq] at h
    by_cases h1 : x < a
    · simp [cellSet, cellGet, h1, ih _ h.2]
    · by_cases h2 : x = a
      · subst h2
        cases v with
        | none =>
          by_cases h3 : b < x
          · simp [cellSet, cellGet, hab, h3, cellGet_lt t m d _ b h.2 (by omega)]
          · simp [cellSet, cellGet, hab, h3]
        | some w => simp [cellSet, cellGet, hab]
      · cases v with
        | none => simp [cellSet, h1, h2]
        | some w =>
          by_cases h3 : b < a
          · have h4 : b < x := by omega
            have h5 : x ≠ b := by omega
            simp [cellSet, cellGet, h1, h2, hab, h3, h4, h5]
          · simp [cellSet, cellGet, h1, h2, hab, h3]

theorem cellsWf_weaken (m : Memory) (d : Byte) (l : List (Nat × Byte)) (lo lo' : Nat) (hl : lo' ≤ lo)
    (h : cellsWf m d lo l = true) : cellsWf m d lo' l = true := by
  cases l with
  | nil => rfl
  | cons c t =>
    obtain ⟨x, y⟩ := c
    simp only [cellsWf, Bool.and_eq_true, decide_eq_true_eq] at h ⊢
    exact ⟨⟨by omega, h.1.2⟩, h.2⟩

theorem cellsWf_cellSet (m : Memory) (d : Byte) (v : Option Byte) (a : Nat) (hv : ∀ w, v = some w → w ≠ memDefault m d a) :
    ∀ (l : List (Nat × Byte)) (lo : Nat), lo ≤ a → cellsWf m d lo l = true → cellsWf m d lo (cellSet l a v) = true := by
  intro l
  induction l with
  | nil =>
    intro lo hlo _
    cases v with
    | none => rfl
    | some w => simp [cellSet, cellsWf, hlo, hv w rfl]
  | cons c t ih =>
    obtain ⟨x, y⟩ := c
    intro lo hlo h
    have h' := h
    simp only [cellsWf, Bool.and_eq_true, decide_eq_true_eq] at h
    by_cases h1 : x < a
    · simp only [cellSet, h1, if_true, cellsWf, Bool.and_eq_true, decide_eq_true_eq]
      exact ⟨h.1, ih _ (by omega) h.2⟩
    · by_cases h2 : x = a
      · subst h2
        cases v with
        | none => simpa [cellSet] using cellsWf_weaken m d t _ lo (by omega) h.2
        | some w =>
          simp only [cellSet, h1, if_false, if_true, cellsWf, Bool.and_eq_true, decide_eq_true_eq]
          exact ⟨⟨hlo, by simpa using hv w rfl⟩, h.2⟩
      · have h3 : a < x := by omega
        cases v with
        | none => simpa [cellSet, h1, h2] using h'
        | some w =>
          simp only [cellSet, h1, h2, if_false, cellsWf, Bool.and_eq_true, decide_eq_true_eq]
          exact ⟨⟨hlo, by simpa using hv w rfl⟩, ⟨by omega, h.1.2⟩, h.2⟩

theorem memDefault_cells (m : Memory) (d : Byte) (a : Nat) (l : List (Nat × Byte)) :
    memDefault { m with cells := l } d a = memDefault m d a := rfl

theorem cellsWf_cells (m : Memory) (d : Byte) (l' : List (Nat × Byte)) :
    ∀ (l : List (Nat × Byte)) (lo : Nat), cellsWf { m with cells := l' } d lo l = cellsWf m d lo l := by
  intro l
  induction l with
  | nil => intro lo; rfl
  | cons c t ih =>
    obtain ⟨x, y⟩ := c
    intro lo
    simp only [cellsWf, memDefault_cells, ih]

/-- A byte write keeps the canonical form. -/
theorem Memory.write_wf (m : Memory) (d : Byte) (a : Nat) (v : Byte) (h : m.wf d = true) : (m.write d a v).wf d = true := by
  unfold Memory.wf Memory.write
  rw [cellsWf_cells]
  refine cellsWf_cellSet m d _ a ?_ _ 0 (Nat.zero_le _) h
  intro w hw
  split at hw <;> simp_all

/-- A write of consecutive bytes keeps the canonical form. -/
theorem Memory.writeBytes_wf (d : Byte) (bs : List Byte) :
    ∀ (m : Memory) (a : Nat), m.wf d = true → (m.writeBytes d a bs).wf d = true := by
  induction bs with
  | nil => intro m a h; exact h
  | cons b t ih => intro m a h; exact ih _ _ (Memory.write_wf m d a b h)

theorem memDefault_scramble_out (m : Memory) (d : Byte) (base len tag a : Nat) (h : ¬ (base ≤ a ∧ a < base + len)) :
    memDefault (m.scramble base len tag) d a = memDefault m d a := by
  have e : decide (base ≤ a ∧ a < base + len) = false := by simpa using h
  simp only [memDefault, Memory.scramble, List.find?_cons, e]

theorem cellsWf_scramble (m : Memory) (d : Byte) (base len tag : Nat) :
    ∀ (l : List (Nat × Byte)) (lo : Nat), cellsWf m d lo l = true →
      cellsWf (m.scramble base len tag) d lo (l.filter fun c => !decide (base ≤ c.1 ∧ c.1 < base + len)) = true := by
  intro l
  induction l with
  | nil => intro lo _; rfl
  | cons c t ih =>
    obtain ⟨x, y⟩ := c
    intro lo h
    simp only [cellsWf, Bool.and_eq_true, decide_eq_true_eq] at h
    by_cases h1 : base ≤ x ∧ x < base + len
    · simp only [List.filter_cons, h1, and_self, decide_true, Bool.not_true]
      exact cellsWf_weaken _ _ _ (x + 1) lo (by omega) (ih _ h.2)
    · have e : decide (base ≤ x ∧ x < base + len) = false := by simpa using h1
      simp only [List.filter_cons, e, Bool.not_false, if_true, cellsWf, Bool.and_eq_true, decide_eq_true_eq,
        memDefault_scramble_out m d base len tag x h1]
      exact ⟨h.1, ih _ h.2⟩

/-- Making a range undefined keeps the canonical form. -/
theorem Memory.scramble_wf (m : Memory) (d : Byte) (base len tag : Nat) (h : m.wf d = true) :
    (m.scramble base len tag).wf d = true := cellsWf_scramble m d base len tag m.cells 0 h

/-- A read of the byte just written gives it. -/
theorem Memory.read_write_same (m : Memory) (d : Byte) (a : Nat) (v : Byte) (h : m.wf d = true) :
    (m.write d a v).read d a = v := by
  unfold Memory.read Memory.write
  simp only [memDefault_cells]
  rw [cellGet_cellSet_same m d _ a m.cells 0 h]
  split <;> simp_all

/-- A write leaves every other byte alone. -/
theorem Memory.read_write_ne (m : Memory) (d : Byte) (a b : Nat) (v : Byte) (h : m.wf d = true) (hab : a ≠ b) :
    (m.write d a v).read d b = m.read d b := by
  unfold Memory.read Memory.write
  simp only [memDefault_cells]
  rw [cellGet_cellSet_ne m d _ a b hab m.cells 0 h]

/-- Bytes below a written range are unchanged. -/
theorem Memory.read_writeBytes_lt (d : Byte) (bs : List Byte) :
    ∀ (m : Memory) (a b : Nat), m.wf d = true → b < a → (m.writeBytes d a bs).read d b = m.read d b := by
  induction bs with
  | nil => intro m a b _ _; rfl
  | cons x t ih =>
    intro m a b h hb
    simp only [Memory.writeBytes]
    rw [ih _ _ _ (Memory.write_wf m d a x h) (by omega), Memory.read_write_ne m d a b x h (by omega)]

/-- A write of consecutive bytes leaves every byte outside them alone. -/
theorem Memory.read_writeBytes_out (d : Byte) (bs : List Byte) :
    ∀ (m : Memory) (a b : Nat), m.wf d = true → (b < a ∨ a + bs.length ≤ b) →
      (m.writeBytes d a bs).read d b = m.read d b := by
  induction bs with
  | nil => intro m a b _ _; rfl
  | cons x t ih =>
    intro m a b h hb
    simp only [Memory.writeBytes, List.length_cons] at hb ⊢
    rw [ih _ _ _ (Memory.write_wf m d a x h) (by omega), Memory.read_write_ne m d a b x h (by omega)]

/-- A read of what was just written gives it. -/
theorem Memory.readBytes_writeBytes (d : Byte) (bs : List Byte) :
    ∀ (m : Memory) (a : Nat), m.wf d = true → (m.writeBytes d a bs).readBytes d a bs.length = bs := by
  induction bs with
  | nil => intro m a _; rfl
  | cons x t ih =>
    intro m a h
    simp only [Memory.writeBytes, List.length_cons, Memory.readBytes]
    rw [Memory.read_writeBytes_lt d t _ _ _ (Memory.write_wf m d a x h) (by omega), Memory.read_write_same m d a x h,
      ih _ _ (Memory.write_wf m d a x h)]

/-- The memories of the state after reset have the canonical form. -/
theorem reset_memories_wf :
    State.reset.hostMem.wf hostDefault = true ∧ State.reset.a.mem.mem.wf dramDefault = true ∧
      State.reset.b.mem.mem.wf dramDefault = true ∧ State.reset.sys.flash.wf flashDefault = true :=
  ⟨rfl, rfl, rfl, rfl⟩

/-- A successful host write stores its bytes and nothing else changes; a fenced device issues none. -/
theorem hostWrite_some (s t : State) (a : Nat) (bs : List Byte) (h : hostWrite s a bs = some t) :
    (s.pair.fenced = true ∧ t = s) ∨
    (s.pair.fenced = false ∧ hostOk s a bs.length = true ∧
      t = { s with hostMem := s.hostMem.writeBytes hostDefault a bs }) := by
  unfold hostWrite at h
  by_cases h1 : s.pair.fenced = true
  · simp_all
  · by_cases h2 : hostOk s a bs.length = true
    · simp_all
    · simp_all

end Sys2Proof.Machine
end

