-- ==== Sys2Proof/Laws/Answers.lean ====
section
/-! SUPPORT. Small lemmas about the checks and answers of commands: what a submitted command keeps of its entry, when no check
refuses, and what the start of a command leaves of the values that the checks read. -/

namespace Sys2Proof.Machine

open Sys2Proof.Safety

@[simp] theorem dw_submitted (s : State) (c : Cmd) (k : Nat) : dw (submitted s c) k = dw c k := rfl
@[simp] theorem pf_submitted (s : State) (c : Cmd) (k a b : Nat) : pf (submitted s c) k a b = pf c k a b := rfl
@[simp] theorem pb_submitted (s : State) (c : Cmd) (k a : Nat) : pb (submitted s c) k a = pb c k a := rfl
@[simp] theorem pq_submitted (s : State) (c : Cmd) (k : Nat) : pq (submitted s c) k = pq c k := rfl
@[simp] theorem port_submitted (s : State) (c : Cmd) : (submitted s c).port = false := rfl
@[simp] theorem recv_submitted (s : State) (c : Cmd) : (submitted s c).recv = c.recv := rfl
@[simp] theorem params_submitted (s : State) (c : Cmd) : (submitted s c).params = c.params := rfl
@[simp] theorem notify_submitted (s : State) (c : Cmd) : (submitted s c).notify = c.notify := rfl
@[simp] theorem storeRaw_submitted (s : State) (c : Cmd) : (submitted s c).storeRaw = c.storeRaw := rfl
@[simp] theorem target_submitted (s : State) (c : Cmd) : (submitted s c).target = c.target := rfl

/-- No check refuses: every condition of the list is false. -/
theorem firstErr_none {l : List (Bool × Reply)} (h : l.all (fun p => !p.1) = true) : firstErr l = none := by
  induction l with
  | nil => rfl
  | cons x t ih =>
    obtain ⟨p, r⟩ := x
    cases p
    · exact ih (by simpa using h)
    · simp at h

/-- The first check that fails answers. -/
theorem firstErr_append_some {a b : List (Bool × Reply)} {r : Reply} (h : firstErr a = some r) :
    firstErr (a ++ b) = some r := by
  induction a with
  | nil => cases h
  | cons x t ih =>
    obtain ⟨p, q⟩ := x
    cases p
    · exact ih h
    · exact h

theorem firstErr_append_none {a b : List (Bool × Reply)} (h : firstErr a = none) : firstErr (a ++ b) = firstErr b := by
  induction a with
  | nil => rfl
  | cons x t ih =>
    obtain ⟨p, q⟩ := x
    cases p
    · exact ih h
    · cases h

theorem firstErr_eq_none (l : List (Bool × Reply)) : firstErr l = none ↔ l.all (fun p => !p.1) = true := by
  refine ⟨fun h => ?_, firstErr_none⟩
  induction l with
  | nil => rfl
  | cons x t ih =>
    obtain ⟨p, q⟩ := x
    cases p
    · simpa using ih h
    · cases h

@[simp] theorem mortarUp_started (op : Op) (c : Cmd) (h : Half) (s : State) : mortarUp (started op c h s) = mortarUp s := by
  simp [mortarUp]
@[simp] theorem hostOk_started (op : Op) (c : Cmd) (h : Half) (s : State) (a n : Nat) :
    hostOk (started op c h s) a n = hostOk s a n := by simp [hostOk]
@[simp] theorem hostRead_started (op : Op) (c : Cmd) (h : Half) (s : State) (a n : Nat) :
    hostRead (started op c h s) a n = hostRead s a n := by simp [hostRead]
@[simp] theorem dramChecks_started (op : Op) (c : Cmd) (h k : Half) (s : State) :
    dramChecks (started op c h s) k = dramChecks s k := by simp [dramChecks]
@[simp] theorem dramRead_started (op : Op) (c : Cmd) (h k : Half) (s : State) (a n : Nat) :
    dramRead (started op c h s) k a n = dramRead s k a n := by simp [dramRead]
@[simp] theorem linkAt_started (op : Op) (c : Cmd) (h : Half) (s : State) (n : Nat) :
    linkAt (started op c h s) n = linkAt s n := by simp [linkAt]
@[simp] theorem laneAt_started (op : Op) (c : Cmd) (h : Half) (s : State) (n : Nat) :
    laneAt (started op c h s) n = laneAt s n := by simp [laneAt]
@[simp] theorem streamAt_started (op : Op) (c : Cmd) (h : Half) (s : State) (n : Nat) :
    streamAt (started op c h s) n = streamAt s n := by simp [streamAt]
@[simp] theorem ctxAt_started (op : Op) (c : Cmd) (h : Half) (s : State) (n : Nat) :
    ctxAt (started op c h s) n = ctxAt s n := by simp [ctxAt]
@[simp] theorem sessAt_started (op : Op) (c : Cmd) (h : Half) (s : State) (n : Nat) :
    sessAt (started op c h s) n = sessAt s n := by simp [sessAt]
@[simp] theorem outAt_started (op : Op) (c : Cmd) (h : Half) (s : State) (n : Nat) :
    outAt (started op c h s) n = outAt s n := by simp [outAt]
@[simp] theorem portAt_started (op : Op) (c : Cmd) (h : Half) (s : State) (n : Nat) :
    portAt (started op c h s) n = portAt s n := by simp [portAt]
@[simp] theorem ruleAt_started (op : Op) (c : Cmd) (h : Half) (s : State) (n : Nat) :
    ruleAt (started op c h s) n = ruleAt s n := by simp [ruleAt]
@[simp] theorem sqAt_started (op : Op) (c : Cmd) (h k : Half) (s : State) (n : Nat) :
    sqAt (started op c h s) k n = sqAt s k n := by simp [sqAt]
@[simp] theorem cqAt_started (op : Op) (c : Cmd) (h k : Half) (s : State) (n : Nat) :
    cqAt (started op c h s) k n = cqAt s k n := by simp [cqAt]
@[simp] theorem leadHalf_started (op : Op) (c : Cmd) (h : Half) (s : State) : leadHalf (started op c h s) = leadHalf s := by
  simp [leadHalf]
@[simp] theorem fresh_started (op : Op) (c : Cmd) (h : Half) (s : State) :
    fresh (started op c h s) = (s.sys.fresh, modDev (started op c h s) fun d => { d with fresh := d.fresh + 1 }) := by
  simp [fresh]

/-- A copy to a buffer that takes it. -/
theorem copyOut_ok (u : State) (a : Nat) (bs : List Byte) (r : Reply) (b : bufferOk u a bs.length = true) :
    copyOut u a bs false r = (r, storeHost a bs u) := by
  simp only [bufferOk, Bool.and_eq_true, Bool.not_eq_true'] at b
  simp [copyOut, hostWrite, b.1, b.2, storeHost]

@[simp] theorem bufferOk_started (op : Op) (c : Cmd) (h : Half) (s : State) (a n : Nat) :
    bufferOk (started op c h s) a n = bufferOk s a n := by simp [bufferOk]

/-- A status record of a submitted command goes to its buffer in host memory. -/
theorem writeRecord_ok (t u : State) (c : Cmd) (a : Nat) (bs : List Byte) (r : Reply) (b : bufferOk u a bs.length = true) :
    writeRecord u (submitted t c) a bs r = (r, storeHost a bs u) := by
  simp [writeRecord, copyOut_ok u a bs r b]

/-- A row that is ready acts as its effect says. -/
theorem acts_of (i : Instr) (s t t' : State) (r : ready i s = true) (e : exec i s = act i s t') (q : t' = t) : Acts i s t := by
  simp only [ready, Bool.and_eq_true, Bool.not_eq_true'] at r
  simp [Acts, e, act, actIf, r.1, r.2, q]

/-- The same for a row whose objects are told by a check that its well-formedness makes true. -/
theorem acts_ofIf (i : Instr) (s t t' : State) (ok : Bool) (r : ready i s = true) (w : i.wf = true → ok = true)
    (e : exec i s = actIf ok s t') (q : t' = t) : Acts i s t := by
  simp only [ready, Bool.and_eq_true, Bool.not_eq_true'] at r
  simp [Acts, e, actIf, w r.1, r.2, q]

/-- What a row can do: a power-on starts the machine anew; every other row that names objects of the device makes its effect on a
device that has not tripped, and one that does not stops. -/
theorem exec_row (i : Instr) (s : State) : (∃ x y, i = .powerOn x y) ∨ ∃ t, exec i s = actIf i.wf s t := by
  cases i
  all_goals first
    | exact .inr ⟨_, rfl⟩
    | exact .inl ⟨_, _, rfl⟩

end Sys2Proof.Machine
end

