-- ==== Sys2Proof/Tests/Slice0.lean ====
section
/-! SUPPORT. The model's own tests: ill-formed commands that the check refuses, values that the spec works out, and states and
operands that meet the hypotheses of the statements. -/

set_option Elab.async false

namespace Sys2Proof.Tests

open Sys2Proof Sys2Proof.Machine Sys2Proof.Safety

/-! States and commands that the tests use. -/

/-- A command with these parameter dwords. -/
def cm (ps : List Word) : Cmd := { params := ps }

/-- One that names half A in its TARGET. -/
def cmA (ps : List Word) : Cmd := { params := ps, target := 1 }

/-- DRAM of one channel with one DIMM, mapped at 0. -/
def dram1 : HalfMem :=
  { chans := tset (Vector.replicate 8 {}) 0 { dimms := 1, ranks := 1, capacity := 1 }
    regions := tset (Vector.replicate 8 {}) 0 { enable := true, size := 1, mask := 1 } }

/-- A half whose firmware runs and whose DRAM is ready. -/
def half1 : HalfState :=
  { ident := { cmdReady := true, memReady := true, bootStage := 8 }
    mem := dram1
    ep := { perstHigh := true, everReleased := true, gen := 4, width := 8, l0pWidth := 8 }
    sys := { bootRom := false } }

/-- Both halves run, and the Mortar link is ACTIVE. -/
def up : State := { a := half1, b := half1, mortar := { st := .active }, sys := { bootStep := 8 } }

/-- With stream 0 bound to link 0, STREAM_ID 0. -/
def st0 (x : Stream) (s : State) : State := { s with streams := tset s.streams 0 { x with bind := some {} } }

/-- With link 0. -/
def ln0 (x : Link) (s : State) : State := { s with links := tset s.links 0 x }

/-- Submission ring 0 of half A. -/
def sq0 (r : SqRec) (s : State) : State := modSq s .A 0 fun _ => r
/-- Completion ring 0 of half A. -/
def cq0 (r : CqRec) (s : State) : State := modCq s .A 0 fun _ => r
/-- The event ring of half A. -/
def ev0 (r : EvRec) (s : State) : State := modCmd s .A fun c => { c with ev := r }
/-- The endpoint of half A. -/
def ep0 (f : Endpoint → Endpoint) (s : State) : State := modEp s .A f
/-- The Mortar link. -/
def mo (m : Mortar) (s : State) : State := { s with mortar := m }
/-- An ACTIVE link on which a control message has come to half A. -/
def rxA (m : Msg) (s : State) : State := mo { st := .active, ba := { rx := tset (Vector.replicate 6 []) (msgClass m) [m] } } s
/-- An island of half A. -/
def il (i : IslandId) (x : Island) (s : State) : State := modIsland s .A i fun _ => x

/-- The pairing state. -/
def pr (p : Pair) (s : State) : State := { s with pair := p }

/-- The active of a formed pair. -/
def act : Pair := { st := .paired, role := 1, enable := true, formed := true, peerSeen := true }

/-! Values that the spec works out (its worked examples). -/

/-- The DEV_NOP entry of chapter 2's example: dwords 0 and 1 give FENCE, NOTIFY, PRIORITY 4 and TAG 0x0042. -/
theorem test_entry_fields :
    (fun c : Cmd => (c.tag, c.fence, c.notify, c.priority, c.target, c.chain, c.indirect)) (parseEntry .A 1 [0x60001, 0x400042]) =
      (0x42, true, true, 4, 0, false, false) := by decide +kernel

/-- Its completion: dword 0 is 0x0000_0042 and dword 1 is 0x0001_00A1; EFFECT_POINT is all ones. -/
theorem test_completion_bytes :
    (fun l : List Word => (l.take 2, l.drop 6))
      (completionBytes { sq := 1, tag := 0x42, exec := 1, pidx := 0 } true 1) =
      ([0x42, 0x100A1], [0xFFFFFFFF, 0xFFFFFFFF]) := by decide +kernel

/-- The patch of chapter 5's example encodes to the bytes 08 11 C8 00 E4 14 A0 00. -/
theorem test_ashlar_block :
    encodeBlock 1 0 4 2 [200, 203, 205, 204, 201, 204, 207, 206] =
      some [0x08, 0x11, 0xC8, 0x00, 0xE4, 0x14, 0xA0, 0x00] := by decide +kernel

/-- They decode to the patch. -/
theorem test_ashlar_decode :
    decodeCoded 1 4 2 [0x08, 0x11, 0xC8, 0x00, 0xE4, 0x14, 0xA0, 0x00] =
      some [200, 203, 205, 204, 201, 204, 207, 206] := by decide +kernel

/-- Its index entry is 0x0100_0800_0000_0000. -/
theorem test_index_entry :
    leNat (idxBytes { offset := 0, length := 8, coded := true }) = 0x0100080000000000 := by decide +kernel

/-- RESULT0 of chapter 3's LINK_ENABLE at speed 7, width 12, no spare, REDUCED is 0x0001_FEC7. -/
theorem test_link_result : linkResult { speed := 7, width := 12, reduced := true } = 0x1FEC7 := by decide +kernel

/-- Units of chapter 6's Twin-head contexts take 855,616 and 440,896 cycles. -/
theorem test_unit_cycles :
    (unitCycles { width := 6144, height := 3240, aw := 6144, ah := 3240 } .A 0,
      unitCycles { width := 6144, height := 3240, aw := 6144, ah := 3240 } .A 1) = (855616, 440896) := by decide +kernel

/-- The 14-bit code 9,003 of the Dome example linearises between its two LUT entries to 576,192. -/
theorem test_linearise :
    linearise ((List.replicate 2250 0) ++ [576000, 576256]).toArray 14 9003 = 576192 := by decide +kernel

/-- Y' = 26,484 is narrow 10-bit code 418, and 26,779 is 422 (chapter 7). -/
theorem test_code_of : ((codeOf false false 10 26484).1, (codeOf false false 10 26779).1) = (418, 422) := by decide +kernel

/-- 0x02_E000 is stored as binary16 0x31C0, and 1 as 0x3C00 (chapter 7). -/
theorem test_half16 : (half16 0x2E000, half16 0x100000) = (0x31C0, 0x3C00) := by decide +kernel

/-- The guard of chapter 9's half B: offset 0 after row 18, 1 after row 19, 2 after row 20. -/
theorem test_guard :
    (guardNext 684000 1800000 19 54 0, guardNext 834000 1800000 20 54 0, guardNext 974000 1800000 21 54 1) = (0, 1, 2) := by
  decide +kernel

/-- Rank 2 of chapter 10's example, hot at 5,600 MT/s: one REFab takes its debt from 17,000 to 14,270. -/
theorem test_refresh_repays :
    (fun s : State => (tget (chanAt s .A 0).rank 0).debt)
      (refreshIssue (modChan up .A 0 fun c => { c with
        spdMax := 5600, rank := tset c.rank 0 { debt := 17000, hot := true, repay := some (10920, 0) } }) .A 0 0 0) = 14270 := by
  decide +kernel

/-- On an empty queue the block idles: reset stays reset. -/
theorem test_reset_idle : step State.reset = .next State.reset := rfl

/-! Ill-formed commands: for each check of WellFormed, an object that the device does not have is refused, and the last one
that it has is not. -/

/-- Objects that do not exist (1). -/
theorem test_wf_refuses_1 : (
   [.writeEntry (List.replicate 17 default), .writeData (List.replicate 4097 default), .readData 4097,
    .sqTailDoorbell default 32 default default, .cqHeadDoorbell default 32 default, .sqEnable default 32 default,
    .sqDisable default 32 default, .cqEnable default 32 default, .cqDisable default 32 default,
    .msixMaskWrite default (.vector 128 default), .quiesced default 32, .entryFetch default 32,
    .entryReadDone default 32, .coalDelayExpiry default 32, .islandWakeRequest default (.ingest 12),
    .islandWakeDone default (.ingest 12), .islandStateEntry default (.ingest 12), .islandFault default (.ingest 12),
    .islandResetDone default (.ingest 12) default, .trigInEdge default 4 default, .triggerHoldoffEnd 16,
    .trigOutPulseEnd 4, .signalEnergyDetected 32, .signalEnergyLost 32] : List Instr).all (fun i => !i.wf) = true := by decide +kernel

/-- Objects that do not exist (2). -/
theorem test_wf_refuses_2 : (
   [.capBlock 96 default, .applied 32, .lockStageDone 96 default, .lockStageTimeout 96,
    .prbsStageDone 32 default default, .capRoundTimeout 32, .linkBackoffExpiry 32, .pslBlock 96 default default,
    .align 32 default, .eidle 32, .train 32, .linkRetrainDone 32 default default, .activeSignalLoss 32,
    .eqTrackEval 96 default default default default, .remapDoneRead 32 default, .spareRetrainDone 32 default,
    .csi2ClockLp11 32, .csi2ShortPacket 32 default default default default,
    .csi2LongPacket 32 default default default default, .frameStart 32 default default, .lineHeader 32 default,
    .pslDataBlock 32 default, .lineCrc 32 default, .frameEnd 32 default default] : List Instr).all (fun i => !i.wf) = true := by decide +kernel

/-- Objects that do not exist (3). -/
theorem test_wf_refuses_3 : (
   [.lineGapWatchdogExpiry 64 default, .frameCloseWrite 64, .qryProgress 64, .blockEncoded default 12,
    .blockDecoded default 4, .trimMeasurementDone 1 64 default, .trimMeasurementDone 2 64 default,
    .trimMeasurementDone 3 32 default, .trimMeasurementDone 4 16 default, .trimMeasurementDone 5 2 default,
    .trimMeasurementDone 0 0 default, .vcuPictureStart 16, .vcuPictureCoded 16 default default,
    .vcuAuDecoded 16 default, .vcuPictureOutput 16, .dramCommandIssue default 8 default default,
    .refreshIssue default 8 3 default, .refreshIssue default 7 4 default, .refreshDebtLimit default 8 3,
    .refreshDebtLimit default 7 4, .mr4Poll default 8 3 default default, .mr4Poll default 7 4 default default,
    .clearingFound default 8 default default, .clearingMade default 8 default default] : List Instr).all (fun i => !i.wf) = true := by decide +kernel

/-- Objects that do not exist (4). -/
theorem test_wf_refuses_4 : (
   [.retrainSample default 8 default, .patrolScrubRead default 8 default, .memScrubPass default 8,
    .rankSpareCopyDone default 8, .dramInitDone default 8, .powerDownEntry default 8 3, .powerDownEntry default 7 4,
    .memFreqChanged default 4 default, .teEdge 4, .vfTeLost 4, .vfRenderDone 4, .vfPushDone 4, .vfSourceArmed 4,
    .vfLinkRestartDone 4, .audioFrame 8 default default default, .clockStop 8, .rateChange 8 default default,
    .effect default default default 64, .admitFrame 32 default default default, .frame 64 default default default,
    .segment (.trigger 16 0), .segment (.freeze 64 0), .segment (.release 64 0), .trim { stream := 64 }] : List Instr).all (fun i => !i.wf) = true := by decide +kernel

/-- Objects that do not exist (5). -/
theorem test_wf_refuses_5 : (
   [.trim { dom := 3 }, .mirrorFrameTimeout 64, .pmbusTelemetryPoll (List.replicate 9 default),
    .pmbAlert (List.replicate 9 default), .devSupplyDip default 9 default, .supplyResetLevel default 9 default,
    .thermalReading default (List.replicate 13 default) (List.replicate 8 default),
    .thermalReading default (List.replicate 12 default) (List.replicate 9 default), .thermtrip default 12,
    .railAboveWarning default 9, .skewCalibration 32, .prbsCheckDone 32 default, .panelSequenceDelayExpiry 4] : List Instr).all (fun i => !i.wf) = true := by decide +kernel

/-- Objects that do (1). -/
theorem test_wf_takes_1 : (
   [.writeEntry (List.replicate 16 default), .writeData (List.replicate 4096 default), .readData 4096,
    .sqTailDoorbell default 31 default default, .cqHeadDoorbell default 31 default, .sqEnable default 31 default,
    .sqDisable default 31 default, .cqEnable default 31 default, .cqDisable default 31 default,
    .msixMaskWrite default (.vector 127 default), .quiesced default 31, .entryFetch default 31,
    .entryReadDone default 31, .coalDelayExpiry default 31, .islandWakeRequest default (.ingest 11),
    .islandWakeDone default (.ingest 11), .islandStateEntry default (.ingest 11), .islandFault default (.ingest 11),
    .islandResetDone default (.ingest 11) default, .trigInEdge default 3 default, .triggerHoldoffEnd 15,
    .trigOutPulseEnd 3, .signalEnergyDetected 31, .signalEnergyLost 31] : List Instr).all (fun i => i.wf) = true := by decide +kernel

/-- Objects that do (2). -/
theorem test_wf_takes_2 : (
   [.capBlock 95 default, .applied 31, .lockStageDone 95 default, .lockStageTimeout 95,
    .prbsStageDone 31 default default, .capRoundTimeout 31, .linkBackoffExpiry 31, .pslBlock 95 default default,
    .align 31 default, .eidle 31, .train 31, .linkRetrainDone 31 default default, .activeSignalLoss 31,
    .eqTrackEval 95 default default default default, .remapDoneRead 31 default, .spareRetrainDone 31 default,
    .csi2ClockLp11 31, .csi2ShortPacket 31 default default default default,
    .csi2LongPacket 31 default default default default, .frameStart 31 default default, .lineHeader 31 default,
    .pslDataBlock 31 default, .lineCrc 31 default, .frameEnd 31 default default] : List Instr).all (fun i => i.wf) = true := by decide +kernel

/-- Objects that do (3). -/
theorem test_wf_takes_3 : (
   [.lineGapWatchdogExpiry 63 default, .frameCloseWrite 63, .qryProgress 63, .blockEncoded default 11,
    .blockDecoded default 3, .trimMeasurementDone 1 63 default, .trimMeasurementDone 2 63 default,
    .trimMeasurementDone 3 31 default, .trimMeasurementDone 4 15 default, .trimMeasurementDone 5 1 default,
    .vcuPictureStart 15, .vcuPictureCoded 15 default default, .vcuAuDecoded 15 default, .vcuPictureOutput 15,
    .dramCommandIssue default 7 default default, .refreshIssue default 7 3 default, .refreshDebtLimit default 7 3,
    .mr4Poll default 7 3 default default, .clearingFound default 7 default default,
    .clearingMade default 7 default default, .retrainSample default 7 default, .patrolScrubRead default 7 default,
    .memScrubPass default 7, .rankSpareCopyDone default 7] : List Instr).all (fun i => i.wf) = true := by decide +kernel

/-- Objects that do (4). -/
theorem test_wf_takes_4 : (
   [.dramInitDone default 7, .powerDownEntry default 7 3, .memFreqChanged default 3 default, .teEdge 3, .vfTeLost 3,
    .vfRenderDone 3, .vfPushDone 3, .vfSourceArmed 3, .vfLinkRestartDone 3, .audioFrame 7 default default default,
    .clockStop 7, .rateChange 7 default default, .effect default default default 63,
    .admitFrame 31 default default default, .frame 63 default default default, .segment (.trigger 15 0),
    .segment (.freeze 63 0), .segment (.release 63 0), .trim { dom := 2, stream := 63 }, .mirrorFrameTimeout 63,
    .pmbusTelemetryPoll (List.replicate 8 default), .pmbAlert (List.replicate 8 default),
    .devSupplyDip default 8 default, .supplyResetLevel default 8 default] : List Instr).all (fun i => i.wf) = true := by decide +kernel

/-- Objects that do (5). -/
theorem test_wf_takes_5 : (
   [.thermalReading default (List.replicate 12 default) (List.replicate 8 default), .thermtrip default 11,
    .railAboveWarning default 8, .skewCalibration 31, .prbsCheckDone 31 default, .panelSequenceDelayExpiry 3] : List Instr).all (fun i => i.wf) = true := by decide +kernel


/-! States and operands that meet the hypotheses of the statements, clause by clause. -/

/-- QRY_CONFIGURE_RING of stream 0: LOOP mode, two buffers of 64 KiB. -/
def ringCmd : Cmd := cm [0x40, 0x100000, 0, 0x200000, 0, 0x300000, 0, 0x400000, 0, 2, 4, 1, 1]

/-- Stream 0 has a geometry, and the buffer list stands in DRAM. -/
def ringSt : State :=
  dramWrite (st0 { cfg := some { width := 16, height := 8, watchdog := 1024 } } up) .A 0x400000 (leBytes 8 0x10010 ++ leBytes 8 0x20010)

theorem met_DevCommandsComplete_0 : ∃ (c : Cmd) (h : Half) (s : State), accepted .devNop c h s = true :=
⟨cm [], .A, .reset, by decide +kernel⟩

theorem met_DevCommandsComplete_1 : ∃ (c : Cmd) (h : Half) (k : Half) (s : State), accepted .devAbort c h s = true ∧ dw c 2
    &&& 0xFFFC0000 = 0 ∧ halfOfCode (pf c 2 17 16) = some k ∧ liveFlight (started .devAbort c h s) k (BitVec.ofNat 16 (pf c
    2 15 0)) = none :=
⟨cm [0x10005], .A, .A, .reset, by decide +kernel, by decide +kernel, by decide +kernel, by decide +kernel⟩

theorem met_DevCommandsComplete_2 : ∃ (c : Cmd) (h : Half) (k : Half) (s : State) (f : Flight) (o : Nat) (t : State),
    accepted .devAbort c h s = true ∧ dw c 2 &&& 0xFFFC0000 = 0 ∧ halfOfCode (pf c 2 17 16) = some k ∧ liveFlight (started
    .devAbort c h s) k (BitVec.ofNat 16 (pf c 2 15 0)) = some f ∧ (holderOf f = h ∨ s.mortar.st ≠ .down) ∧ abortFlight
    (started .devAbort c h s) f = (o, t) :=
⟨cm [0x10001], .A, .A, { up with flights := [{ cmd := { tag := 1 }, op := .devNop }] }, _, _, _, by decide +kernel,
   by decide +kernel, by decide +kernel, rfl, by decide +kernel, rfl⟩

theorem met_DevCommandsComplete_3 : ∃ (c : Cmd) (h : Half) (s : State), accepted .devSetEventMask c h s = true ∧ dw c 2 &&&
    0xFFFFE000 = 0 ∧ dw c 3 &&& 0xFFFFFFFC = 0 :=
⟨cm [0x1FFF, 3], .A, .reset, by decide +kernel, by decide +kernel, by decide +kernel⟩

theorem met_DevCommandsComplete_4 : ∃ (c : Cmd) (h : Half) (s : State) (es : List EventRec) (bs : List Byte), accepted
    .devReadEventLog c h s = true ∧ dw c 5 &&& 0xFFFFF800 = 0 ∧ pq c 2 % 32 = 0 ∧ 0 < pf c 5 10 0 ∧ pf c 5 10 0 ≤ 1024 ∧ es
    = logFrom (half s h).cmd (dw c 4) (pf c 5 10 0) ∧ bs = (es.map fun e => eventBytes e false).flatten ∧ bufferOk s (pq c
    2) bs.length = true :=
⟨cm [0, 0, 0, 1024], .A, .reset, _, _, by decide +kernel, by decide +kernel, by decide +kernel, by decide +kernel,
   by decide +kernel, rfl, rfl, by decide +kernel⟩

theorem met_DevCommandsComplete_5 : ∃ (c : Cmd) (h : Half) (s : State) (bs : List Byte), accepted .devFwStage c h s = true ∧
    dw c 2 &&& 0xFFFFFFFE = 0 ∧ dw c 4 &&& 0xFE000000 = 0 ∧ ((half s h).sys.bootRom = true → pb c 2 0 = true) ∧ (dw c
    3).toNat % 4096 = 0 ∧ 0 < pf c 4 24 0 ∧ pf c 4 24 0 + (dw c 3).toNat ≤ 2 ^ 24 ∧ (if pb c 2 0 then pf c 4 24 0 ≤ 4096 ∧
    pq c 5 = 0 else pq c 5 % 4 = 0) ∧ stageBytes s c = some bs :=
⟨cm [0, 0, 0x1000000, 0, 0], .A, up, _, by decide +kernel, by decide +kernel, by decide +kernel, by decide +kernel,
   by decide +kernel, by decide +kernel, by decide +kernel, by decide +kernel, rfl⟩

theorem met_DevCommandsComplete_6 : ∃ (c : Cmd) (h : Half) (s : State), accepted .devFwVerify c h s = true :=
⟨cm [], .A, .reset, by decide +kernel⟩

theorem met_DevCommandsComplete_7 : ∃ (c : Cmd) (h : Half) (s : State), accepted .devFwActivate c h s = true ∧ dw c 2 &&&
    0xFFFFFFFC = 0 ∧ (tget s.sys.banks (b2n (idleBank s h))).mark = 1 ∧ pb c 2 0 = true ∧ pq c 3 = 0 ∧ pq c 5 = 0 :=
⟨cm [1, 0, 0, 0, 0], .A, { up with sys := { up.sys with banks := Vector.replicate 2 { mark := 1 } } }, by decide +kernel,
   by decide +kernel, by decide +kernel, by decide +kernel, by decide +kernel, by decide +kernel⟩

theorem met_DevCommandsComplete_8 : ∃ (c : Cmd) (h : Half) (s : State), accepted .devFwActivate c h s = true ∧ dw c 2 &&&
    0xFFFFFFFC = 0 ∧ (tget s.sys.banks (b2n (idleBank s h))).mark = 1 ∧ pb c 2 0 = false ∧ firstErr (dramChecks s .A ++
    dramChecks s .B) = none ∧ mortarUp s = true ∧ s.sys.swap = none ∧ stageOk s .A (pq c 3) = true ∧ stageOk s .B (pq c 5) =
    true ∧ (half s h).sys.bootRom = false :=
⟨cm [0, 0, 0, 0, 0], .A, { up with sys := { up.sys with banks := Vector.replicate 2 { mark := 1 } } }, by decide +kernel,
   by decide +kernel, by decide +kernel, by decide +kernel, by decide +kernel, by decide +kernel, by decide +kernel,
   by decide +kernel, by decide +kernel, by decide +kernel⟩

theorem met_DevCommandsComplete_9 : ∃ (c : Cmd) (h : Half) (s : State), accepted .devFwGetStatus c h s = true ∧ dw c 2 = 0 ∧
    pq c 3 % 32 = 0 ∧ bufferOk s (pq c 3) 64 = true :=
⟨cm [0, 0, 0], .A, .reset, by decide +kernel, by decide +kernel, by decide +kernel, by decide +kernel⟩

theorem met_DevCommandsComplete_10 : ∃ (c : Cmd) (h : Half) (s : State), accepted .devReset c h s = true ∧ dw c 2 &&&
    0xFFFFFFFC = 0 ∧ pf c 2 1 0 ≠ 3 :=
⟨cm [2], .A, .reset, by decide +kernel, by decide +kernel, by decide +kernel⟩

theorem met_DevCommandsComplete_11 : ∃ (c : Cmd) (h : Half) (k : Half) (s : State) (bs : List Byte), accepted .devGetHealth
    c h s = true ∧ dw c 2 &&& 0xFFFFFFFC = 0 ∧ halfOfCode (pf c 2 1 0) = some k ∧ pq c 3 % 32 = 0 ∧ (k = h ∨ mortarUp s =
    true) ∧ bs = dwordBytes (healthRecord s k) ∧ bufferOk s (pq c 3) bs.length = true :=
⟨cm [2, 0, 0], .A, .B, up, _, by decide +kernel, by decide +kernel, by decide +kernel, by decide +kernel, by decide +kernel,
   rfl, by decide +kernel⟩

theorem met_DevCommandsComplete_12 : ∃ (c : Cmd) (h : Half) (s : State) (t : Nat) (d : Nat), accepted .devSetThermal c h s =
    true ∧ dw c 2 &&& 0xFFC08080 = 0 ∧ t = (if pf c 2 6 0 = 0 then 100 else pf c 2 6 0) ∧ d = (if pf c 2 14 8 = 0 then 112
    else pf c 2 14 8) ∧ 85 ≤ t ∧ t ≤ 100 ∧ t + 4 ≤ d ∧ d ≤ 112 ∧ pf c 2 21 20 ≠ 0 ∧ mortarUp s = true :=
⟨cm [0x306C64], .A, up, _, _, by decide +kernel, by decide +kernel, rfl, rfl, by decide +kernel, by decide +kernel,
   by decide +kernel, by decide +kernel, by decide +kernel, by decide +kernel⟩

theorem met_LinkCommandsComplete_0 : ∃ (c : Cmd) (h : Half) (s : State), accepted .linkSetQuadMode c h s = true ∧ dw c 2 &&&
    0xFFFFFCE0 = 0 ∧ pf c 2 4 0 < 24 ∧ (∀ l ∈ s.links.toList, l.st = .disabled ∨ ∀ d ∈ cfgLanes l.cfg, d / 4 ≠ pf c 2 4 0)
    :=
⟨cm [0x302], .A, .reset, by decide +kernel, by decide +kernel, by decide +kernel, by decide +kernel⟩

theorem met_LinkCommandsComplete_1 : ∃ (c : Cmd) (h : Half) (s : State) (n : Nat) (mode : Nat), accepted .linkConfigure c h
    s = true ∧ dw c 2 &&& 0x80E080E0 = 0 ∧ dw c 3 &&& 0xF804E000 = 0 ∧ dw c 4 &&& 0xE000FFF0 = 0 ∧ n = pf c 2 4 0 ∧ mode =
    (tget s.quads ((linkCfgOf c).firstLane.toNat / 4)).toNat ∧ lanesOk s n (linkCfgOf c) = true ∧ (mode ≠ 3 → (linkCfgOf
    c).minSpeed.toNat ≤ (linkCfgOf c).maxSpeed.toNat ∧ (linkCfgOf c).maxSpeed.toNat ∈ speedsOf mode ∧ (linkCfgOf
    c).minSpeed.toNat ∈ speedsOf mode) ∧ (if mode = 3 then 80 ≤ (linkCfgOf c).csi2Rate.toNat ∧ (linkCfgOf c).csi2Rate.toNat
    ≤ 4500 else (linkCfgOf c).csi2Rate = 0) ∧ (linkAt s n).st = .disabled :=
⟨cm [0x7F010000, 0x44, 0], .A, { State.reset with quads := Vector.replicate 24 2 }, _, _, by decide +kernel,
   by decide +kernel, by decide +kernel, by decide +kernel, rfl, rfl, by decide +kernel, by decide +kernel,
   by decide +kernel, by decide +kernel⟩

theorem met_LinkCommandsComplete_2 : ∃ (c : Cmd) (h : Half) (s : State) (n : Nat), accepted .linkEnable c h s = true ∧ dw c
    2 &&& 0xFFFFFFE0 = 0 ∧ n = pf c 2 4 0 ∧ (linkAt s n).st = .disabled ∧ (linkAt s n).cfg.configured = true :=
⟨cm [0], .A, ln0 { cfg := { configured := true } } .reset, _, by decide +kernel, by decide +kernel, rfl, by decide +kernel,
   by decide +kernel⟩

theorem met_LinkCommandsComplete_3 : ∃ (c : Cmd) (h : Half) (s : State), accepted .linkDisable c h s = true ∧ dw c 2 &&&
    0xFFFFFFE0 = 0 :=
⟨cm [0xF], .A, .reset, by decide +kernel, by decide +kernel⟩

theorem met_LinkCommandsComplete_4 : ∃ (c : Cmd) (h : Half) (s : State) (n : Nat), accepted .linkRetrain c h s = true ∧ dw c
    2 &&& 0xFFFFFCE0 = 0 ∧ n = pf c 2 4 0 ∧ isCsi s (linkAt s n) = false ∧ ((linkAt s n).st = .down ∨ (linkAt s n).st =
    .silent ∨ pb c 2 8 = true ∧ (linkAt s n).st ≠ .disabled) :=
⟨cm [0x100], .A, ln0 { st := .active } .reset, _, by decide +kernel, by decide +kernel, rfl, by decide +kernel,
   by decide +kernel⟩

theorem met_LinkCommandsComplete_5 : ∃ (c : Cmd) (h : Half) (s : State) (n : Nat), accepted .linkRetrain c h s = true ∧ dw c
    2 &&& 0xFFFFFCE0 = 0 ∧ n = pf c 2 4 0 ∧ isCsi s (linkAt s n) = false ∧ (linkAt s n).st = .active ∧ pb c 2 8 = false :=
⟨cm [0], .A, ln0 { st := .active } .reset, _, by decide +kernel, by decide +kernel, rfl, by decide +kernel,
   by decide +kernel, by decide +kernel⟩

theorem met_LinkCommandsComplete_6 : ∃ (c : Cmd) (h : Half) (s : State) (bs : List Byte), accepted .linkGetStatus c h s =
    true ∧ dw c 2 &&& 0xFFFFFFE0 = 0 ∧ pq c 3 % 32 = 0 ∧ bs = dwordBytes (linkRecords s (pf c 2 4 0)) ∧ bufferOk s (pq c 3)
    bs.length = true :=
⟨cm [0, 0, 0], .A, .reset, _, by decide +kernel, by decide +kernel, by decide +kernel, rfl, by decide +kernel⟩

theorem met_LinkCommandsComplete_7 : ∃ (c : Cmd) (h : Half) (s : State) (n : Nat), accepted .linkClearCounters c h s = true
    ∧ dw c 2 &&& 0xFFFFFFE0 = 0 ∧ n = pf c 2 4 0 :=
⟨cm [0], .A, .reset, _, by decide +kernel, by decide +kernel, rfl⟩

theorem met_LinkCommandsComplete_8 : ∃ (c : Cmd) (h : Half) (s : State) (n : Nat), accepted .linkSetPolicy c h s = true ∧ dw
    c 2 &&& 0xFFFFFFE0 = 0 ∧ dw c 3 &&& 0xFFFFFFE0 = 0 ∧ n = pf c 2 4 0 :=
⟨cm [0, 0x1F], .A, .reset, _, by decide +kernel, by decide +kernel, by decide +kernel, rfl⟩

theorem met_LinkCommandsComplete_9 : ∃ (c : Cmd) (h : Half) (s : State) (n : Nat), accepted .linkRemapLane c h s = true ∧ dw
    c 2 &&& 0xFFFFE0E0 = 0 ∧ n = pf c 2 4 0 ∧ ((linkAt s n).st = .active → pf c 2 12 8 < (linkAt s n).lanes.length) ∧
    canRemap s n = true :=
⟨cm [0x100], .A, st0 { st := .capturing } (ln0 { st := .active, lanes := [0, 1], full := [0, 1], spare := 2 }
   { State.reset with lanes := Vector.replicate 96 { lstate := .spareReady } }), _, by decide +kernel, by decide +kernel,
   rfl, by decide +kernel, by decide +kernel⟩

theorem met_LinkCommandsComplete_10 : ∃ (c : Cmd) (h : Half) (s : State), accepted .linkSetEq c h s = true ∧ dw c 2 &&&
    0xFFFFFF80 = 0 ∧ dw c 3 &&& 0xFFFFFFE0 = 0 ∧ pf c 2 6 0 < 96 :=
⟨cm [0x2F, 0x1F], .A, .reset, by decide +kernel, by decide +kernel, by decide +kernel, by decide +kernel⟩

theorem met_LinkCommandsComplete_11 : ∃ (c : Cmd) (h : Half) (s : State) (n : Nat), accepted .linkPrbsCheck c h s = true ∧
    dw c 2 &&& 0xFFFFFFE0 = 0 ∧ dw c 3 &&& 0xFFFF0000 = 0 ∧ n = pf c 2 4 0 ∧ 20 ≤ pf c 3 15 0 ∧ pf c 3 15 0 ≤ 40 ∧ isCsi s
    (linkAt s n) = false ∧ (linkAt s n).prbsCheck = none ∧ ((linkAt s n).st = .active ∨ (linkAt s n).st = .down) :=
⟨cm [0, 40], .A, ln0 { st := .down } .reset, _, by decide +kernel, by decide +kernel, by decide +kernel, rfl,
   by decide +kernel, by decide +kernel, by decide +kernel, by decide +kernel, by decide +kernel⟩

theorem met_QuarryCommandsComplete_0 : ∃ (c : Cmd) (h : Half) (s : State) (n : Nat) (link : Nat) (b : Binding), accepted
    .qryMapStream c h s = true ∧ dw c 2 &&& 0x80F0E0C0 = 0 ∧ n = pf c 2 5 0 ∧ link = pf c 2 12 8 ∧ b =
    { link, streamId := BitVec.ofNat 4 (pf c 2 19 16), csiDt := BitVec.ofNat 6 (pf c 2 29 24) } ∧ pb c 2 30 = false ∧ (isCsi
    s (linkAt s link) = false → b.csiDt = 0) ∧ (streamAt s n).bind = none ∧ boundStream s link b.streamId = none ∧
    streamBusy (streamAt s n) = false :=
⟨cm [0x30000], .A, .reset, _, _, _, by decide +kernel, by decide +kernel, rfl, rfl, rfl, by decide +kernel,
   by decide +kernel, by decide +kernel, by decide +kernel, by decide +kernel⟩

theorem met_QuarryCommandsComplete_1 : ∃ (c : Cmd) (h : Half) (s : State) (n : Nat) (b : Binding), accepted .qryMapStream c
    h s = true ∧ dw c 2 &&& 0x80F0E0C0 = 0 ∧ n = pf c 2 5 0 ∧ pb c 2 30 = true ∧ (streamAt s n).bind = some b ∧ b.link = pf
    c 2 12 8 ∧ b.streamId = BitVec.ofNat 4 (pf c 2 19 16) ∧ streamBusy (streamAt s n) = false :=
⟨cm [0x40000000], .A, st0 {} .reset, _, _, by decide +kernel, by decide +kernel, rfl, by decide +kernel, rfl,
   by decide +kernel, by decide +kernel, by decide +kernel⟩

theorem met_QuarryCommandsComplete_2 : ∃ (c : Cmd) (h : Half) (s : State) (n : Nat) (g : StreamCfg), accepted
    .qryConfigureStream c h s = true ∧ dw c 2 &&& 0xFF0000C0 = 0 ∧ dw c 3 &&& 0xFFFC0000 = 0 ∧ dw c 4 &&& 0xFFF80000 = 0 ∧ n
    = pf c 2 5 0 ∧ g = cfgOf c ∧ 0 < g.width ∧ g.width ≤ 32768 ∧ 0 < g.height ∧ g.height ≤ 32768 ∧ g.pad.toNat < 2 ^
    depthBits g.depth ∧ g.ashMode.toNat ≤ 5 ∧ 1024 ≤ g.watchdog.toNat ∧ streamBusy (streamAt s n) = false ∧ (∀ r, (streamAt
    s n).ring = some r → entriesOf g ≤ r.stride ∧ holdsTwo r g = true) :=
⟨cm [0x800000, 0x38000, 0x5FFFF, 1024], .A, st0 {} .reset, _, _, by decide +kernel, by decide +kernel, by decide +kernel,
   by decide +kernel, rfl, rfl, by decide +kernel, by decide +kernel, by decide +kernel, by decide +kernel,
   by decide +kernel, by decide +kernel, by decide +kernel, by decide +kernel, by decide +kernel⟩

theorem met_QuarryCommandsComplete_3 : ∃ (c : Cmd) (h : Half) (s : State) (n : Nat) (g : StreamCfg) (r : Ring), accepted
    .qryConfigureRing c h s = true ∧ dw c 2 &&& (if pb c 2 10 then 0xFF00F800 else 0xFFFFF800) = 0 ∧ dw c 11 &&& 0xFF000000
    = 0 ∧ dw c 12 &&& 0xFFFFFFE0 = 0 ∧ n = pf c 2 5 0 ∧ (streamAt s n).cfg = some g ∧ (streamAt s n).bind ≠ none ∧
    streamBusy (streamAt s n) = false ∧ (∀ r0, (streamAt s n).ring = some r0 → frozenSegs r0 = []) ∧ (pb c 2 8 = false → r =
    ringNamed s c h (entriesOf g) 0) ∧ (pb c 2 8 = true → attachOk s c h n = true ∧ entriesOf g ≤ r.stride ∧ r = ringNamed s
    c h ((dramDwords s h (pq c 3) 14).getD 9 0).toNat ((dramDwords s h (pq c 3) 14).getD 13 0)) ∧ pf c 2 7 6 ≠ 3 ∧ 2 ≤ pf c
    11 23 0 ∧ 4 ≤ r.slotsLog2 ∧ r.slotsLog2 ≤ 24 ∧ (pf c 2 7 6 = 1 → r.pre + r.post + 2 ≤ slotCount r) ∧ (pf c 2 7 6 = 2 → 0
    < r.post ∧ r.post + 1 ≤ slotCount r) ∧ (readList s h (pq c 9) (pf c 11 23 0)).isSome = true ∧ regionsOk s n r = true ∧
    (r.pin = true → pinOk s r = true) ∧ holdsTwo r g = true ∧ firstErr (dramChecks s h) = none :=
⟨ringCmd, .A, ringSt, _, _, ringNamed ringSt ringCmd .A 1 0, by decide +kernel, by decide +kernel, by decide +kernel,
   by decide +kernel, rfl, rfl, by decide +kernel, by decide +kernel, by decide +kernel, by decide +kernel,
   by decide +kernel, by decide +kernel, by decide +kernel, by decide +kernel, by decide +kernel, by decide +kernel,
   by decide +kernel, by decide +kernel, by decide +kernel, by decide +kernel, by decide +kernel, by decide +kernel⟩

theorem met_QuarryCommandsComplete_4 : ∃ (c : Cmd) (h : Half) (s : State) (n : Nat), accepted .qryStartStream c h s = true ∧
    dw c 2 &&& 0xFFFFFFC0 = 0 ∧ n = pf c 2 5 0 ∧ firstErr (dramChecks s h) = none ∧ (streamAt s n).st = .idle ∧ (streamAt s
    n).bind ≠ none :=
⟨cm [0], .A, st0 { st := .idle } up, _, by decide +kernel, by decide +kernel, rfl, by decide +kernel, by decide +kernel,
   by decide +kernel⟩

theorem met_QuarryCommandsComplete_5 : ∃ (c : Cmd) (h : Half) (s : State) (n : Nat), accepted .qryStopStream c h s = true ∧
    dw c 2 &&& 0xFFFFFFC0 = 0 ∧ n = pf c 2 5 0 ∧ (streamAt s n).st = .halted :=
⟨cm [0], .A, st0 { st := .halted } .reset, _, by decide +kernel, by decide +kernel, rfl, by decide +kernel⟩

theorem met_QuarryCommandsComplete_6 : ∃ (c : Cmd) (h : Half) (s : State) (n : Nat), accepted .qryStopStream c h s = true ∧
    dw c 2 &&& 0xFFFFFFC0 = 0 ∧ n = pf c 2 5 0 ∧ (streamAt s n).st = .capturing :=
⟨cm [0], .A, st0 { st := .capturing } .reset, _, by decide +kernel, by decide +kernel, rfl, by decide +kernel⟩

theorem met_QuarryCommandsComplete_7 : ∃ (c : Cmd) (h : Half) (s : State) (m : BitVec 64), accepted .qrySetTriggerRule c h s
    = true ∧ dw c 2 &&& 0xFFF0C0E0 = 0 ∧ dw c 3 &&& 0xFE000000 = 0 ∧ m = BitVec.ofNat 64 (pq c 4) ∧ m.getLsbD (pf c 2 13 8)
    = true :=
⟨cm [0x3F00, 0x1FFFFFF, 0, 0x80000000, 0], .A, .reset, _, by decide +kernel, by decide +kernel, by decide +kernel, rfl,
   by decide +kernel⟩

theorem met_QuarryCommandsComplete_8 : ∃ (c : Cmd) (h : Half) (s : State) (n : Nat), accepted .qryArm c h s = true ∧ dw c 2
    &&& 0xFFFFFCC0 = 0 ∧ n = pf c 2 5 0 ∧ noRing s n = false :=
⟨cm [0x300], .A, st0 { ring := some {} } .reset, _, by decide +kernel, by decide +kernel, rfl, by decide +kernel⟩

theorem met_QuarryCommandsComplete_9 : ∃ (c : Cmd) (h : Half) (s : State) (k : Nat), accepted .qryTrigger c h s = true ∧ dw
    c 2 &&& 0xFFFFFFF0 = 0 ∧ k = pf c 2 3 0 ∧ anyArmed s (ruleAt s k) = true :=
⟨cm [15], .A, { st0 { ring := some {}, armed := true } .reset with rules := Vector.replicate 16 { streams := 1 } }, _,
   by decide +kernel, by decide +kernel, rfl, by decide +kernel⟩

theorem met_QuarryCommandsComplete_10 : ∃ (c : Cmd) (h : Half) (s : State) (rd : QryRead), accepted .qryRead c h s = true ∧
    dw c 2 &&& 0xFFFFFFC0 = 0 ∧ 0 < (dw c 5).toNat ∧ pq c 6 % 8 = 0 ∧ firstErr (dramChecks s h) = none ∧ noRing s (pf c 2 5
    0) = false ∧ rd = readNext s
    { cmd := submitted s c, half := h, next := BitVec.ofNat 64 (pq c 3), left := (dw c 5).toNat } ∧ readFits rd = true :=
⟨cm [0, 0, 0, 1, 0, 0, 1], .A, st0 { ring := some {} } up, _, by decide +kernel, by decide +kernel, by decide +kernel,
   by decide +kernel, by decide +kernel, by decide +kernel, rfl, by decide +kernel⟩

theorem met_QuarryCommandsComplete_11 : ∃ (c : Cmd) (h : Half) (s : State) (rd : QryRead), accepted .qryRead c h s = true ∧
    dw c 2 &&& 0xFFFFFFC0 = 0 ∧ 0 < (dw c 5).toNat ∧ pq c 6 % 8 = 0 ∧ firstErr (dramChecks s h) = none ∧ noRing s (pf c 2 5
    0) = false ∧ rd = readNext s
    { cmd := submitted s c, half := h, next := BitVec.ofNat 64 (pq c 3), left := (dw c 5).toNat } ∧ readFits rd = false :=
⟨cm [0, 0, 0, 1, 0, 0, 0], .A, st0 { ring := some {} } up, _, by decide +kernel, by decide +kernel, by decide +kernel,
   by decide +kernel, by decide +kernel, by decide +kernel, rfl, by decide +kernel⟩

theorem met_QuarryCommandsComplete_12 : ∃ (c : Cmd) (h : Half) (s : State) (r : Ring) (bs : List Byte) (p : Bool), accepted
    .qryGetSegments c h s = true ∧ dw c 2 &&& 0xFFFFFFC0 = 0 ∧ dw c 3 &&& 0xFE000000 = 0 ∧ 0 < pf c 3 24 12 ∧ pf c 3 11 0 +
    pf c 3 24 12 ≤ 4096 ∧ pq c 4 % 32 = 0 ∧ firstErr (dramChecks s h) = none ∧ (streamAt s (pf c 2 5 0)).ring = some r ∧
    dramRead s r.half (r.ctrlBase + 0x1000 + 32 * pf c 3 11 0) (32 * pf c 3 24 12) = (bs, p) ∧ bufferOk s (pq c 4) bs.length
    = true :=
⟨cm [0, 0x1FFF, 0, 0], .A, st0 { ring := some {} } up, _, _, _, by decide +kernel, by decide +kernel, by decide +kernel,
   by decide +kernel, by decide +kernel, by decide +kernel, by decide +kernel, rfl, rfl, by decide +kernel⟩

theorem met_QuarryCommandsComplete_13 : ∃ (c : Cmd) (h : Half) (s : State) (gs : List Segment), accepted .qryRelease c h s =
    true ∧ dw c 2 &&& 0xFFFFFFC0 = 0 ∧ firstErr (dramChecks s h) = none ∧ (noRing s (pf c 2 5 0) = true → dw c 3 =
    0xFFFFFFFF) ∧ gs = (frozenSegs (ringOf s (pf c 2 5 0))).filter (fun g => decide (dw c 3 = 0xFFFFFFFF) || decide
    (g.number = dw c 3)) ∧ (gs = [] → dw c 3 = 0xFFFFFFFF) :=
⟨cm [0, 0xFFFFFFFF], .A, st0 {} up, _, by decide +kernel, by decide +kernel, by decide +kernel, by decide +kernel, rfl,
   by decide +kernel⟩

theorem met_QuarryCommandsComplete_14 : ∃ (c : Cmd) (h : Half) (s : State) (n : Nat), accepted .qrySetHostMark c h s = true
    ∧ dw c 2 &&& 0xFFFFFCC0 = 0 ∧ n = pf c 2 5 0 ∧ firstErr (dramChecks s h) = none ∧ pf c 2 9 8 = 0 ∧ (markFrame s n
    (BitVec.ofNat 64 (pq c 5)) (BitVec.ofNat 64 (pq c 3))).1 = ok :=
⟨cm [0, 1, 0, 5, 0], .A, st0 {} up, _, by decide +kernel, by decide +kernel, rfl, by decide +kernel, by decide +kernel,
   by decide +kernel⟩

theorem met_QuarryCommandsComplete_15 : ∃ (c : Cmd) (h : Half) (s : State) (n : Nat), accepted .qrySetHostMark c h s = true
    ∧ dw c 2 &&& 0xFFFFFCC0 = 0 ∧ n = pf c 2 5 0 ∧ firstErr (dramChecks s h) = none ∧ pf c 2 9 8 = 1 :=
⟨cm [0x100, 1, 0, 5, 0], .A, st0 {} up, _, by decide +kernel, by decide +kernel, rfl, by decide +kernel, by decide +kernel⟩

theorem met_QuarryCommandsComplete_16 : ∃ (c : Cmd) (h : Half) (s : State) (n : Nat), accepted .qrySetHostMark c h s = true
    ∧ dw c 2 &&& 0xFFFFFCC0 = 0 ∧ n = pf c 2 5 0 ∧ firstErr (dramChecks s h) = none ∧ pf c 2 9 8 = 2 :=
⟨cm [0x200, 1, 0, 5, 0], .A, st0 {} up, _, by decide +kernel, by decide +kernel, rfl, by decide +kernel, by decide +kernel⟩

theorem met_QuarryCommandsComplete_17 : ∃ (c : Cmd) (h : Half) (s : State) (bs : List Byte), accepted .qryGetStatus c h s =
    true ∧ dw c 2 &&& 0xFFFFFFC0 = 0 ∧ pq c 3 % 32 = 0 ∧ bs = dwordBytes (ringRecord s (pf c 2 5 0)) ∧ bufferOk s (pq c 3)
    bs.length = true :=
⟨cm [0, 0, 0], .A, st0 {} .reset, _, by decide +kernel, by decide +kernel, by decide +kernel, rfl, by decide +kernel⟩

theorem met_QuarryCommandsComplete_18 : ∃ (c : Cmd) (h : Half) (s : State) (n : Nat), accepted .qrySetReporting c h s = true
    ∧ dw c 2 &&& 0xFFFE03C0 = 0 ∧ n = pf c 2 5 0 ∧ pf c 2 11 10 ≠ 3 ∧ 10 ≤ pf c 2 16 12 ∧ pf c 2 16 12 ≤ 24 :=
⟨cm [0x18800], .A, st0 {} .reset, _, by decide +kernel, by decide +kernel, rfl, by decide +kernel, by decide +kernel,
   by decide +kernel⟩

theorem met_QuarryCommandsComplete_19 : ∃ (c : Cmd) (h : Half) (s : State) (r : Ring) (f : Stored), accepted .qryLocate c h
    s = true ∧ dw c 2 &&& 0xFFFFFFC0 = 0 ∧ firstErr (dramChecks s h) = none ∧ r = ringOf s (pf c 2 5 0) ∧ storedFrame r
    (BitVec.ofNat 64 (pq c 3)) = some f :=
⟨cm [0, 5, 0], .A, st0 { ring := some { segs := [{ frames := [{ number := 5 }] }] } } up, _, _, by decide +kernel,
   by decide +kernel, by decide +kernel, rfl, rfl⟩

/-- Context 0. -/
def cx0 (x : Context) (s : State) : State := { s with ctxs := tset s.ctxs 0 x }

/-- A context of half A over a picture of 64 columns and 64 rows, whose source is stream 0. -/
def ctxA : Context :=
  { st := .open_, width := 64, height := 64, aw := 64, ah := 64
    ha := { share := 64, sources := tset (Vector.replicate 8 none) 0 (some {}) } }

/-- Stream 0 carries that picture. -/
def src0 (s : State) : State := st0 { st := .idle, cfg := some { width := 64, height := 64, watchdog := 1024 } } s

theorem nums_zero (k n : Nat) (bs : List Byte) (h : ∀ b ∈ bs, b = 0) : ∀ v ∈ numsOf k n bs, v < 2 ^ 63 := by
  have z : ∀ l : List Byte, (∀ b ∈ l, b = 0) → leNat l = 0 := by
    intro l; induction l with
    | nil => intro _; rfl
    | cons b t ih => intro h; simp [leNat, h b (by simp), ih fun x hx => h x (by simp [hx])]
  induction n generalizing bs with
  | zero => intro v hv; simp [numsOf] at hv
  | succ n ih =>
    intro v hv
    simp only [numsOf, List.mem_cons] at hv
    rcases hv with rfl | hv
    · rw [z _ fun b hb => h b (List.mem_of_mem_take hb)]; decide
    · exact ih _ (fun b hb => h b (List.mem_of_mem_drop hb)) v hv

theorem dram_zero (a n : Nat) (b : Byte) (h : b ∈ (dramRead up .A a n).1) (w : a + n ≤ 2 ^ 30) : b = 0 := by
  simp only [dramRead, List.mem_map, List.mem_range] at h
  obtain ⟨i, hi, rfl⟩ := h
  have e : backed (half up .A).mem (a + i) = true := by
    simp only [backed, regionOf]
    rw [show (half up .A).mem.regions.toList = { enable := true, size := 1, mask := 1 } :: List.replicate 7 {} from rfl]
    simp; omega
  simp only [dramByte, e, if_true]; rfl

theorem met_AshlarCommandsComplete_0 : ∃ (c : Cmd) (h : Half) (s : State) (k : Nat) (w : Nat) (hh : Nat) (row : Nat),
    accepted .ashEncode c h s = true ∧ dw c 2 &&& 0xFFFFC0C0 = 0 ∧ dw c 9 &&& 0xFF000000 = 0 ∧ 1 ≤ pf c 2 12 10 ∧ pf c 2 12
    10 ≤ 5 ∧ k = pf c 2 5 0 ∧ w = pf c 3 15 0 ∧ hh = pf c 3 31 16 ∧ row = (if pb c 2 13 then 2 * w else rowBytes (depthBits
    (BitVec.ofNat 2 (pf c 2 9 8))) w) ∧ 0 < w ∧ w ≤ 32768 ∧ 0 < hh ∧ hh ≤ 32768 ∧ pq c 4 % 8 = 0 ∧ backedRange (half s
    h).mem (pq c 4) ((hh - 1) * (dw c 6).toNat + row) = true ∧ (dw c 6).toNat % 8 = 0 ∧ row ≤ (dw c 6).toNat ∧ 0 < pf c 9 23
    0 ∧ chainOk s h (pq c 7) (pf c 9 23 0) = true ∧ pq c 10 % 8 = 0 ∧ backedRange (half s h).mem (pq c 10) (8 * blockCount w
    hh) = true ∧ firstErr (dramChecks s h) = none ∧ tget (half s h).ash.jobs k = none :=
⟨cmA [0x400, 0x00080010, 0, 0, 24, 0x300000, 0, 1, 0x500000, 0], .A, dramWrite up .A 0x300000 (leBytes 8 0x10010), _, _, _,
   _, by decide +kernel, by decide +kernel, by decide +kernel, by decide +kernel, by decide +kernel, rfl, rfl, rfl, rfl,
   by decide +kernel, by decide +kernel, by decide +kernel, by decide +kernel, by decide +kernel, by decide +kernel,
   by decide +kernel, by decide +kernel, by decide +kernel, by decide +kernel, by decide +kernel, by decide +kernel,
   by decide +kernel, by decide +kernel⟩

theorem met_AshlarCommandsComplete_1 : ∃ (c : Cmd) (h : Half) (s : State), accepted .ashDecode c h s = true ∧ dw c 2 &&&
    0x0000FFFC = 0 ∧ c.params.length = (if pb c 2 0 then 9 else 7) ∧ firstErr (if pb c 2 0 then frameChecks c h s else
    listChecks c h s) = none :=
⟨cmA [0, 0, 0, 0x100, 0, 0, 0], .A, up, by decide +kernel, by decide +kernel, by decide +kernel, by decide +kernel⟩

theorem met_AshlarCommandsComplete_2 : ∃ (c : Cmd) (h : Half) (s : State) (k : Nat) (j : EncJob), accepted .ashContinue c h
    s = true ∧ dw c 2 &&& 0xFFFFFFC0 = 0 ∧ dw c 5 &&& 0xFF000000 = 0 ∧ k = pf c 2 5 0 ∧ 0 < pf c 5 23 0 ∧ chainOk s h (pq c
    3) (pf c 5 23 0) = true ∧ firstErr (dramChecks s h) = none ∧ tget (half s h).ash.jobs k = some j ∧ j.cmd = none ∧
    c.storeRaw = j.storeRaw :=
⟨cmA [0, 0x300000, 0, 1], .A,
   { dramWrite up .A 0x300000 (leBytes 8 0x10010) with a := { (dramWrite up .A 0x300000 (leBytes 8 0x10010)).a with ash := { jobs := Vector.replicate 64 (some {}) } } },
   _, _, by decide +kernel, by decide +kernel, by decide +kernel, rfl, by decide +kernel, by decide +kernel,
   by decide +kernel, rfl, by decide +kernel, by decide +kernel⟩

theorem met_AshlarCommandsComplete_3 : ∃ (c : Cmd) (h : Half) (s : State), accepted .ashDropJob c h s = true ∧ dw c 2 &&&
    0xFFFFFFC0 = 0 ∧ suspended (half s h).ash (pf c 2 5 0) = true :=
⟨cmA [0x3F], .A, { up with a := { half1 with ash := { jobs := Vector.replicate 64 (some {}) } } }, by decide +kernel,
   by decide +kernel, by decide +kernel⟩

theorem met_AshlarCommandsComplete_4 : ∃ (c : Cmd) (h : Half) (s : State) (bs : List Byte), accepted .ashGetStatus c h s =
    true ∧ dw c 2 &&& 0xFFFFFFFE = 0 ∧ pq c 3 % 32 = 0 ∧ bs = dwordBytes (ashRecord (half s h).ash s.sys.fresh) ∧ bufferOk s
    (pq c 3) bs.length = true :=
⟨cmA [1, 0, 0], .A, up, _, by decide +kernel, by decide +kernel, by decide +kernel, rfl, by decide +kernel⟩

theorem met_ContextCommandsComplete_0 : ∃ (c : Cmd) (h : Half) (s : State) (n : Nat) (x : Context), accepted
    .pipeOpenContext c h s = true ∧ dw c 2 &&& 0x8000 = 0 ∧ dw c 6 &&& 0x8080 = 0 ∧ n = pf c 2 4 0 ∧ x = ctxNamed c ∧ x.cfa
    ≤ 4 ∧ (if x.span then pf c 2 7 6 = 0 ∧ seamOk x = true else (pf c 2 7 6 = 1 ∨ pf c 2 7 6 = 2) ∧ x.seamX = 0) ∧ 2 ≤
    x.width ∧ x.width ≤ 32768 ∧ x.width % 2 = 0 ∧ 2 ≤ x.height ∧ x.height ≤ 32768 ∧ x.height % 2 = 0 ∧ activeOk x = true ∧
    shareOk x .A = true ∧ shareOk x .B = true ∧ 0 < x.divisor ∧ (ctxAt s n).st = .closed ∧ (∀ k ∈ halvesOf x, (openIn s
    k).length < 16 ∧ (ctxPart x k).share + ((openIn s k).map fun y => (ctxPart y k).share).sum ≤ 64) :=
⟨cm [0x40, 0x400040, 0, 0x400040, 0x10001, 0], .A, up, _, _, by decide +kernel, by decide +kernel, by decide +kernel, rfl,
   rfl, by decide +kernel, by decide +kernel, by decide +kernel, by decide +kernel, by decide +kernel, by decide +kernel,
   by decide +kernel, by decide +kernel, by decide +kernel, by decide +kernel, by decide +kernel, by decide +kernel,
   by decide +kernel, by decide +kernel⟩

theorem met_ContextCommandsComplete_1 : ∃ (c : Cmd) (h : Half) (own : Half) (s : State) (n : Nat) (x : Context) (z :
    Source), accepted .pipeSetSource c h s = true ∧ dw c 2 &&& 0xFFFF8000 = 0 ∧ n = pf c 2 4 0 ∧ x = ctxAt s n ∧ streamHalf
    s (pf c 2 13 8) = some own ∧ own ∈ halvesOf x ∧ x.st = .open_ ∧ z =
    { stream := pf c 2 13 8, x := pf c 3 15 0, y := pf c 3 31 16, fnOffset := signed 32 (dw c 4).toNat } ∧ (pb c 2 14 =
    false → (streamAt s (pf c 2 13 8)).cfg ≠ none ∧ (streamAt s (pf c 2 13 8)).st ≠ .unconfigured ∧ placedOk s x own (pf c 2
    7 5) z = true ∧ (pf c 2 7 5 = 0 → own = refHalf s x → z.fnOffset = 0)) :=
⟨cm [0, 0, 0], .A, .A, cx0 ctxA (src0 up), _, _, _, by decide +kernel, by decide +kernel, rfl, rfl, by decide +kernel,
   by decide +kernel, by decide +kernel, rfl, by decide +kernel⟩

theorem met_ContextCommandsComplete_2 : ∃ (c : Cmd) (h : Half) (s : State) (n : Nat) (x : Context) (f : Count64) (play :
    Bool), accepted .pipeStartContext c h s = true ∧ dw c 2 &&& 0xFFFFFFE0 = 0 ∧ n = pf c 2 4 0 ∧ x = ctxAt s n ∧ f =
    BitVec.ofNat 64 (pq c 3) ∧ play = decide (f ≠ noPoint) ∧ (play = true → x.quarry = true) ∧ x.st = .open_ ∧ sourcesOk s x
    = true ∧ (x.quarry = false → ∀ k ∈ halvesOf x, frameNeed s x k ≤ (ctxPart x k).share * 2 ^ 20) :=
⟨cm [0, 0xFFFFFFFF, 0xFFFFFFFF, 0], .A, cx0 ctxA (src0 up), _, _, _, _, by decide +kernel, by decide +kernel, rfl, rfl, rfl,
   rfl, by decide +kernel, by decide +kernel, by decide +kernel, by decide +kernel⟩

theorem met_ContextCommandsComplete_3 : ∃ (c : Cmd) (h : Half) (s : State) (n : Nat) (x : Context), accepted
    .pipeStopContext c h s = true ∧ dw c 2 &&& 0xFFFFFFE0 = 0 ∧ n = pf c 2 4 0 ∧ x = ctxAt s n ∧ x.st = .running :=
⟨cm [0], .A, cx0 { ctxA with st := .running } up, _, _, by decide +kernel, by decide +kernel, rfl, rfl, by decide +kernel⟩

theorem met_ContextCommandsComplete_4 : ∃ (c : Cmd) (h : Half) (s : State) (n : Nat), accepted .pipeCloseContext c h s =
    true ∧ dw c 2 &&& 0xFFFFFFE0 = 0 ∧ n = pf c 2 4 0 ∧ (ctxAt s n).st = .open_ :=
⟨cm [0], .A, cx0 ctxA up, _, by decide +kernel, by decide +kernel, rfl, by decide +kernel⟩

theorem met_ContextCommandsComplete_5 : ∃ (c : Cmd) (h : Half) (s : State) (n : Nat), accepted .pipeSetSlotMask c h s = true
    ∧ dw c 2 &&& 0xFFFFFFE0 = 0 ∧ n = pf c 2 4 0 ∧ (ctxAt s n).st ≠ .closed :=
⟨cm [0, 0, 0], .A, cx0 ctxA up, _, by decide +kernel, by decide +kernel, rfl, by decide +kernel⟩

theorem met_ContextCommandsComplete_6 : ∃ (c : Cmd) (h : Half) (s : State) (n : Nat), accepted .pipeSetPriority c h s = true
    ∧ dw c 2 &&& 0xFFFFF8E0 = 0 ∧ n = pf c 2 4 0 ∧ (ctxAt s n).st ≠ .closed :=
⟨cm [0x700], .A, cx0 ctxA up, _, by decide +kernel, by decide +kernel, rfl, by decide +kernel⟩

theorem met_ContextCommandsComplete_7 : ∃ (c : Cmd) (h : Half) (s : State), accepted .pipeSetSlotTime c h s = true ∧ dw c 2
    &&& 0xFC = 0 ∧ halfOfCode (pf c 2 1 0) = some h ∧ 1200 ≤ pf c 2 31 8 :=
⟨cm [0x4B001], .A, up, by decide +kernel, by decide +kernel, by decide +kernel, by decide +kernel⟩

theorem met_ContextCommandsComplete_8 : ∃ (c : Cmd) (h : Half) (s : State) (n : Nat) (bs : List Byte), accepted
    .pipeGetContextStatus c h s = true ∧ dw c 2 &&& 0xFFFFFFE0 = 0 ∧ n = pf c 2 4 0 ∧ pq c 3 % 32 = 0 ∧ (ctxAt s n).st ≠
    .closed ∧ bs = dwordBytes (ctxRecords s n (halvesOf (ctxAt s n))).1 ∧ bufferOk s (pq c 3) bs.length = true :=
⟨cm [0, 0, 0], .A, cx0 ctxA up, _, _, by decide +kernel, by decide +kernel, rfl, by decide +kernel, by decide +kernel, rfl,
   by decide +kernel⟩

theorem met_PictureCommandsComplete_0 : ∃ (c : Cmd) (h : Half) (s : State) (n : Nat) (g : StreamCfg) (lut : List Byte) (xt :
    List Byte), accepted .pipeSetStreamCorr c h s = true ∧ dw c 2 &&& 0xFFC0C0C0 = 0 ∧ n = pf c 2 5 0 ∧ (streamAt s n).bind
    ≠ none ∧ (streamAt s n).cfg = some g ∧ (pb c 2 8 = true → pq c 3 % 4096 = 0 ∧ ∀ v ∈ numsOf 4 4096 lut, v < 2 ^ 24) ∧
    readTable s (pb c 2 8) (pq c 3) 16384 = some lut ∧ (pb c 2 9 = true → dw c 5 &&& 0xF8000000 = 0 ∧ dw c 6 &&& 0xFF000000
    = 0 ∧ dw c 7 &&& 0xFF000000 = 0 ∧ dw c 8 &&& 0xFF000000 = 0 ∧ dw c 9 &&& 0xFF000000 = 0 ∧ pf c 5 22 16 ≤ 64 ∧ pf c 5 26
    23 ≤ 8) ∧ (pb c 2 10 = true → pq c 12 % 8 = 0) ∧ readTable s (pb c 2 10) (pq c 12) 200 = some xt ∧ (pb c 2 11 = true →
    dw c 14 &&& 0xFF00FE00 = 0 ∧ pf c 14 8 0 ≤ 256) ∧ (pb c 2 12 = true → dw c 18 &&& 0xFFFF0000 = 0 ∧ (dw c 17).toNat % 64
    = 0 ∧ misplaced (half s h).mem true (pq c 15) 64 ((g.height - 1) * (dw c 17).toNat + 2 * g.width) = false ∧ misplaced
    (half s h).mem true (pq c 19) 64 (2 * g.width) = false ∧ misplaced (half s h).mem true (pq c 21) 64 (2 * g.height) =
    false) ∧ (pb c 2 13 = true → dw c 25 &&& 0xFF000000 = 0 ∧ dw c 26 &&& 0xFFFFFC00 = 0 ∧ misplaced (half s h).mem false
    (pq c 23) 4096 (2 ^ 25) = false) ∧ (pb c 2 12 = true ∨ pb c 2 13 = true → firstErr (dramChecks s h) = none) :=
⟨cm (List.replicate 25 0), .A, src0 up, _, _, _, _, by decide +kernel, by decide +kernel, rfl, by decide +kernel, rfl,
   by decide +kernel, rfl, by decide +kernel, by decide +kernel, rfl, by decide +kernel, by decide +kernel,
   by decide +kernel, by decide +kernel⟩

theorem met_PictureCommandsComplete_1 : ∃ (c : Cmd) (h : Half) (s : State) (n : Nat) (sh : List Byte), accepted
    .pipeSetContextCorr c h s = true ∧ dw c 2 &&& 0xFFF8F8E0 = 0 ∧ n = pf c 2 4 0 ∧ (ctxAt s n).st ≠ .closed ∧ (pb c 2 8 =
    true → pq c 3 % 8 = 0) ∧ readTable s (pb c 2 8) (pq c 3) 17160 = some sh ∧ (pb c 2 10 = true → dw c 9 &&& 0xFFFE0000 = 0
    ∧ 0 < pf c 9 7 0 ∧ pf c 9 16 8 ≤ 256) :=
⟨cm (List.replicate 8 0), .A, cx0 ctxA up, _, _, by decide +kernel, by decide +kernel, rfl, by decide +kernel,
   by decide +kernel, rfl, by decide +kernel⟩

theorem met_PictureCommandsComplete_2 : ∃ (c : Cmd) (h : Half) (s : State) (n : Nat) (mt : List Byte) (sh : List Byte),
    accepted .pipeSetColour c h s = true ∧ dw c 2 &&& 0xFF8080E0 = 0 ∧ dw c 3 &&& 0xFFFFFE00 = 0 ∧ n = pf c 2 4 0 ∧ (ctxAt s
    n).st ≠ .closed ∧ (pb c 2 8 = true → pf c 2 13 12 ≤ 1 ∧ pf c 3 8 0 ≤ 256) ∧ (pb c 2 11 = true → pf c 2 22 20 ≤ 4) ∧ (pb
    c 2 9 = true → pq c 4 % 4 = 0 ∧ matrixOk (intsOf 4 9 mt) (intsOf 4 3 (mt.drop 36)) = true) ∧ readTable s (pb c 2 9) (pq
    c 4) 48 = some mt ∧ (pb c 2 10 = true → pq c 6 % 4 = 0 ∧ (∀ v ∈ numsOf 2 12288 sh, v ≤ 0x8000) ∧ (pb c 2 14 = true →
    lutUsable s (ctxAt s n) (pf c 2 19 16) = true)) ∧ readTable s (pb c 2 10) (pq c 6) 24576 = some sh :=
⟨cm (List.replicate 6 0), .A, cx0 ctxA up, _, _, _, by decide +kernel, by decide +kernel, by decide +kernel, rfl,
   by decide +kernel, by decide +kernel, by decide +kernel, by decide +kernel, rfl, by decide +kernel, rfl⟩

theorem met_PictureCommandsComplete_3 : ∃ (c : Cmd) (h : Half) (s : State) (len : Nat), accepted .pipeLoadLut c h s = true ∧
    dw c 2 &&& 0xFFFFFF80 = 0 ∧ lutHalves c ≠ [] ∧ (pb c 2 4 = true → pf c 2 3 0 % 4 = 0) ∧ len = 8 * lutNodes (pb c 2 4) ∧
    (∀ k ∈ lutHalves c, misplaced (half s k).mem false (lutSrc c k) 4096 len = false ∧ firstErr (dramChecks s k) = none ∧ (∀
    v ∈ numsOf 8 (lutNodes (pb c 2 4)) (dramRead s k (lutSrc c k) len).1, v < 2 ^ 63) ∧ ∀ id ∈ overwritten (half s k).pipe
    (pf c 2 3 0) (pb c 2 4), lutReferenced s k id = false) :=
⟨cm [0x20, 0, 0, 0, 0], .A, up, _, by decide +kernel, by decide +kernel, by decide +kernel, by decide +kernel, rfl, (by
   intro k hk; obtain rfl : k = .A := (by revert k; decide); exact ⟨by decide +kernel, by decide +kernel, fun v hv =>
   nums_zero _ _ _ (fun b hb => dram_zero _ _ b hb (by decide)) v hv, by decide +kernel⟩)⟩

theorem met_PictureCommandsComplete_4 : ∃ (c : Cmd) (h : Half) (s : State) (n : Nat) (t : Nat) (blk : List Byte) (k :
    TapCfg), accepted .pipeSetTap c h s = true ∧ dw c 6 &&& 0xFFFF0000 = 0 ∧ n = pf c 2 4 0 ∧ t = pf c 2 8 5 ∧ (ctxAt s
    n).st ≠ .closed ∧ readCustom s c = some blk ∧ k = tapCfgOf c blk ∧ k.gamut ≠ 5 ∧ k.gamut ≠ 6 ∧ k.tf ≠ 7 ∧ k.filter ≠ 3 ∧
    k.report ≠ 3 ∧ k.reportLog2 ≤ 20 ∧ 1 ≤ k.cw ∧ k.cw ≤ 32768 ∧ 1 ≤ k.ch ∧ k.ch ≤ 32768 ∧ 2 ≤ k.ow ∧ k.ow ≤ 32768 ∧ 2 ≤
    k.oh ∧ k.oh ≤ 32768 ∧ (k.tf = 3 → k.tfParam ≤ 10000) ∧ (k.tf ≠ 3 → k.tf ≠ 4 → k.tfParam = 0) ∧ (if k.gamut = 7 ∨ k.tf =
    6 ∨ k.filter = 2 then pq c 7 % 64 = 0 else pq c 7 = 0) ∧ t < tapCount (ctxAt s n) ∧ roleOk (ctxAt s n) t k = true ∧
    cropOk (ctxAt s n) k = true ∧ customOk k = true ∧ (k.enable = true → ringsOk (ctxAt s n) (tget (ctxAt s n).taps t) k =
    true) :=
⟨cm [0x1000, 0, 0x00100010, 0x00100010, 0], .A, cx0 ctxA up, _, _, _, _, by decide +kernel, by decide +kernel, rfl, rfl,
   by decide +kernel, rfl, rfl, by decide +kernel, by decide +kernel, by decide +kernel, by decide +kernel,
   by decide +kernel, by decide +kernel, by decide +kernel, by decide +kernel, by decide +kernel, by decide +kernel,
   by decide +kernel, by decide +kernel, by decide +kernel, by decide +kernel, by decide +kernel, by decide +kernel,
   by decide +kernel, by decide +kernel, by decide +kernel, by decide +kernel, by decide +kernel, by decide +kernel⟩

theorem met_PictureCommandsComplete_5 : ∃ (c : Cmd) (h : Half) (hf : Half) (s : State) (n : Nat) (t : Nat) (r : TapRing),
    accepted .pipeSetTapRing c h s = true ∧ dw c 2 &&& 0xFFFC0000 = 0 ∧ n = pf c 2 4 0 ∧ t = pf c 2 8 5 ∧ halfOfCode (pf c 2
    10 9) = some hf ∧ r = tapRingNamed c ∧ 2 ≤ r.count ∧ r.count ≤ 64 ∧ (ctxAt s n).st ≠ .closed ∧ t < tapCount (ctxAt s n)
    ∧ hf ∈ halvesOf (ctxAt s n) ∧ r.base % 4096 = 0 ∧ r.recBase % 4096 = 0 ∧ r.pitch0 % 64 = 0 ∧ r.pitch1 % 64 = 0 ∧ 0 <
    r.stride ∧ (∀ z ∈ tapRegions r, backedRange (half s hf).mem z.1 z.2 = true) ∧ disjoint (tapRegions r) = true ∧ apart
    (tapRegions r) (otherRegions s hf 64 ++ tapRingsIn s hf n t ++ statRingsIn s hf 32) = true ∧ firstErr (dramChecks s hf)
    = none ∧ tapEnabled s n t = false ∧ tapHeld (tget (ctxAt s n).taps t) = false :=
⟨cm [0x1200, 0, 0, 1, 0x40, 0x40, 0, 0, 0x100000, 0], .A, .A, cx0 ctxA up, _, _, _, by decide +kernel, by decide +kernel,
   rfl, rfl, by decide +kernel, rfl, by decide +kernel, by decide +kernel, by decide +kernel, by decide +kernel,
   by decide +kernel, by decide +kernel, by decide +kernel, by decide +kernel, by decide +kernel, by decide +kernel,
   by decide +kernel, by decide +kernel, by decide +kernel, by decide +kernel, by decide +kernel, by decide +kernel⟩

theorem met_PictureCommandsComplete_6 : ∃ (c : Cmd) (h : Half) (s : State) (n : Nat) (t : Nat) (k : Nat) (tap : Tap) (b :
    TapBuf), accepted .pipeTapBuffer c h s = true ∧ dw c 2 &&& 0xFFFE0000 = 0 ∧ n = pf c 2 4 0 ∧ t = pf c 2 8 5 ∧ (ctxAt s
    n).st ≠ .closed ∧ t < tapCount (ctxAt s n) ∧ tap = tget (ctxAt s n).taps t ∧ b = bufInfo (ctxAt s n) tap k ∧ (pf c 2 10
    9 = 0 ∧ newestBuf (ctxAt s n) tap = some k ∨ pf c 2 10 9 = 1 ∧ c.params.length = 3 ∧ (List.range (ringCount tap
    (halvesOf (ctxAt s n)))).find? (fun j => bufReady (ctxAt s n) tap j && decide ((bufInfo (ctxAt s n) tap j).frame =
    BitVec.ofNat 64 (pq c 3))) = some k ∨ pf c 2 10 9 = 2 ∧ k = pf c 2 16 11 ∧ b.hostHold = true) :=
⟨cm [0], .A, cx0
   { ctxA with taps := Vector.replicate 12 { ringA := some { count := 2, bufs := [{ st := .ready, seq := 1 }, {}] } } } up,
   _, _, 0, _, _, by decide +kernel, by decide +kernel, rfl, rfl, by decide +kernel, by decide +kernel, rfl, rfl,
   by decide +kernel⟩

theorem met_PictureCommandsComplete_7 : ∃ (c : Cmd) (h : Half) (s : State) (n : Nat) (t : Nat) (bs : List Byte), accepted
    .pipeGetTapStatus c h s = true ∧ dw c 2 &&& 0xFFFFFE00 = 0 ∧ pq c 3 % 32 = 0 ∧ n = pf c 2 4 0 ∧ t = pf c 2 8 5 ∧ (ctxAt
    s n).st ≠ .closed ∧ t < tapCount (ctxAt s n) ∧ bs = dwordBytes ((halvesOf (ctxAt s n)).flatMap (tapRecord s n t)) ∧
    bufferOk s (pq c 3) bs.length = true :=
⟨cm [0x40, 0, 0], .A, cx0 ctxA up, _, _, _, by decide +kernel, by decide +kernel, by decide +kernel, rfl, rfl,
   by decide +kernel, by decide +kernel, rfl, by decide +kernel⟩

theorem met_StatAndTrimCommandsComplete_0 : ∃ (c : Cmd) (h : Half) (hf : Half) (s : State) (n : Nat), accepted
    .statConfigure c h s = true ∧ dw c 2 &&& 0xFFFFC000 = 0 ∧ dw c 6 &&& 0xFF000000 = 0 ∧ dw c 7 &&& 0xFF000000 = 0 ∧ n = pf
    c 2 4 0 ∧ (ctxAt s n).st ≠ .closed ∧ hf = refHalf s (ctxAt s n) ∧ pf c 2 8 7 ≠ 3 ∧ pf c 2 13 9 ≤ 20 ∧ 2 ≤ pf c 3 15 0 ∧
    pf c 3 15 0 ≤ 4096 ∧ clipCodeOk s (ctxAt s n) (pf c 3 31 16) = true ∧ pq c 4 % 4096 = 0 ∧ backedRange (half s hf).mem
    (pq c 4) (98304 * pf c 3 15 0) = true ∧ apart [(pq c 4, 98304 * pf c 3 15 0)] (otherRegions s hf 64 ++ tapRingsIn s hf
    32 0) = true ∧ (pb c 2 5 = true → pb c 2 6 = true → hdrTaken s n = false) ∧ firstErr (dramChecks s hf) = none :=
⟨cm [0x20, 2, 0x100000, 0, 0, 0], .A, .A, cx0 ctxA up, _, by decide +kernel, by decide +kernel, by decide +kernel,
   by decide +kernel, rfl, by decide +kernel, by decide +kernel, by decide +kernel, by decide +kernel, by decide +kernel,
   by decide +kernel, by decide +kernel, by decide +kernel, by decide +kernel, by decide +kernel, by decide +kernel,
   by decide +kernel⟩

theorem met_StatAndTrimCommandsComplete_1 : ∃ (c : Cmd) (h : Half) (s : State) (n : Nat) (zx : Nat) (zy : Nat) (x0 : Nat)
    (x1 : Nat) (y0 : Nat) (y1 : Nat), accepted .statSetContentTrigger c h s = true ∧ dw c 2 &&& 0xFFFFE080 = 0 ∧ dw c 3 &&&
    0xC0C0C0C0 = 0 ∧ dw c 4 &&& 0xF0000000 = 0 ∧ dw c 5 &&& 0xFFFFFF00 = 0 ∧ n = pf c 2 12 8 ∧ (zx, zy) = zoneGrid (geoOf
    (ctxAt s n)) ∧ x0 = pf c 3 5 0 ∧ x1 = pf c 3 13 8 ∧ y0 = pf c 3 21 16 ∧ y1 = pf c 3 29 24 ∧ pf c 2 6 5 ≠ 3 ∧ 0 < pf c 4
    15 0 ∧ pf c 4 15 0 ≤ 32767 ∧ 0 < pf c 5 7 0 ∧ x0 ≤ x1 ∧ y0 ≤ y1 ∧ x1 < zx ∧ y1 < zy ∧ 0 < pf c 4 27 16 ∧ pf c 4 27 16 ≤
    (x1 + 1 - x0) * (y1 + 1 - y0) ∧ (ctxAt s n).stat.enable = true :=
⟨cm [0, 0x0101, 0x10001, 1], .A, cx0 { ctxA with stat := { enable := true } } up, 0, 32, 32, _, _, _, _, by decide +kernel,
   by decide +kernel, by decide +kernel, by decide +kernel, by decide +kernel, by decide +kernel, by decide +kernel, rfl,
   rfl, rfl, rfl, by decide +kernel, by decide +kernel, by decide +kernel, by decide +kernel, by decide +kernel,
   by decide +kernel, by decide +kernel, by decide +kernel, by decide +kernel, by decide +kernel, by decide +kernel⟩

theorem met_StatAndTrimCommandsComplete_2 : ∃ (c : Cmd) (h : Half) (s : State) (n : Nat) (q : Nat) (bs : List Byte) (p :
    Bool), accepted .statRead c h s = true ∧ dw c 2 &&& 0xFFFFFFC0 = 0 ∧ pq c 5 % 32 = 0 ∧ n = pf c 2 4 0 ∧ (ctxAt s n).st ≠
    .closed ∧ firstErr (dramChecks s (refHalf s (ctxAt s n))) = none ∧ statFind s n (if pb c 2 5 then none else some (pq c
    3)) = some q ∧ dramRead s (refHalf s (ctxAt s n)) (statAddr (ctxAt s n).stat q) 98304 = (bs, p) ∧ bufferOk s (pq c 5)
    bs.length = true :=
⟨cm [0x20, 0, 0, 0, 0], .A, cx0 { ctxA with stat := { enable := true, params := [0, 2, 0x100000, 0] }, statSeq := 1 }
   (dramWrite up .A 0x100000 (leBytes 4 0x57A7 ++ leBytes 4 0 ++ leBytes 8 5 ++ leBytes 8 1)), _, 1, _, _,
   by decide +kernel, by decide +kernel, by decide +kernel, rfl, by decide +kernel, by decide +kernel, by decide +kernel,
   rfl, by decide +kernel⟩

theorem met_StatAndTrimCommandsComplete_3 : ∃ (c : Cmd) (h : Half) (s : State), accepted .trimSetPolicy c h s = true ∧ dw c
    2 &&& (if trimDom c ≤ 2 then 0xF000FFE0 else 0xE000FFE0) = 0 ∧ (trimDom c ≤ 3 → dw c 6 = 0) ∧ trimDomains c ≠ [] ∧
    trimInst c < trimCount (trimDom c) :=
⟨cm [1, 0, 0, 0, 0], .A, src0 up, by decide +kernel, by decide +kernel, by decide +kernel, by decide +kernel,
   by decide +kernel⟩

theorem met_StatAndTrimCommandsComplete_4 : ∃ (c : Cmd) (h : Half) (s : State) (i : Nat) (g : StreamCfg), accepted
    .trimMeasure c h s = true ∧ dw c 2 &&& 0x8000FFE0 = 0 ∧ trimDomains c ≠ [] ∧ i = trimInst c ∧ i < trimCount (trimDom c)
    ∧ trimBusy s c = false ∧ trimDom c ≤ 2 ∧ c.params.length = 13 ∧ dw c 3 &&& 0xFFFFFE00 = 0 ∧ dw c 13 &&& 0xFF000000 = 0 ∧
    dw c 14 &&& 0xFFFFFF00 = 0 ∧ 0 < pf c 3 8 0 ∧ pf c 3 8 0 ≤ 256 ∧ (streamAt s i).cfg = some g ∧ (streamAt s i).bind ≠
    none ∧ (dw c 8).toNat % 64 = 0 ∧ 2 * g.width ≤ (dw c 8).toNat ∧ firstErr (trimRegions c h s) = none ∧ firstErr
    (dramChecks s h) = none :=
⟨cm [1, 256, 0x100000, 0, 0x200000, 0, 128, 0x300000, 0, 0x400000, 0, 0, 0], .A, src0 up, _, _, by decide +kernel,
   by decide +kernel, by decide +kernel, rfl, by decide +kernel, by decide +kernel, by decide +kernel, by decide +kernel,
   by decide +kernel, by decide +kernel, by decide +kernel, by decide +kernel, by decide +kernel, rfl, by decide +kernel,
   by decide +kernel, by decide +kernel, by decide +kernel, by decide +kernel⟩

theorem met_StatAndTrimCommandsComplete_5 : ∃ (c : Cmd) (h : Half) (s : State) (i : Nat), accepted .trimMeasure c h s = true
    ∧ dw c 2 &&& 0x8000FFE0 = 0 ∧ trimDomains c ≠ [] ∧ i = trimInst c ∧ i < trimCount (trimDom c) ∧ trimBusy s c = false ∧ 3
    ≤ trimDom c ∧ c.params.length = 1 ∧ (trimDom c = 3 → isCsi s (linkAt s i) = false ∧ (linkAt s i).st = .active) ∧
    (trimDom c = 4 → usable (chanAt s (halfOf i 8) (i % 8)) = true) :=
⟨cm [8], .A, up, _, by decide +kernel, by decide +kernel, by decide +kernel, rfl, by decide +kernel, by decide +kernel,
   by decide +kernel, by decide +kernel, by decide +kernel, by decide +kernel⟩

theorem met_StatAndTrimCommandsComplete_6 : ∃ (c : Cmd) (h : Half) (s : State) (ready : List Nat), accepted .trimCommit c h
    s = true ∧ dw c 2 &&& 0xF000FFE0 = 0 ∧ trimDomains c ≠ [] ∧ trimInst c < trimCount (trimDom c) ∧ ready = (trimDomains
    c).filter (fun d => decide ((trimAt s d (trimInst c)).st = .staged)) ∧ ready ≠ [] :=
⟨cm [1], .A, { src0 up with trim := { up.trim with d1 := Vector.replicate 64 { st := .staged } } }, _, by decide +kernel,
   by decide +kernel, by decide +kernel, by decide +kernel, rfl, by decide +kernel⟩

theorem met_StatAndTrimCommandsComplete_7 : ∃ (c : Cmd) (h : Half) (s : State) (t : State) (d : Nat) (i : Nat) (v :
    TrimVals) (r : Reply), accepted .trimLoad c h s = true ∧ dw c 2 &&& 0xC000FFE0 = 0 ∧ d = trimDom c ∧ trimDomains c = [d]
    ∧ i = trimInst c ∧ i < trimCount d ∧ d ≠ 3 ∧ d ≠ 4 ∧ pb c 2 28 = true ∧ (trimAt s d i).committed = some v ∧ (d ≤ 2 →
    (streamAt s i).bind ≠ none ∧ (streamAt s i).cfg ≠ none ∧ (trimAt s d i).geom = geomOf s i) ∧ trimBusy s c = false ∧ (d =
    2 → firstErr (dramChecks s (trimHalf s 2 i)) = none) ∧ loadVals (started .trimLoad c h s) (submitted s c) d i v [] = (r,
    t) :=
⟨cm [0x10000010, 0, 0], .A,
   { up with trim := { up.trim with d5 := Vector.replicate 2 { committed := some (.telemetry [] []) } } }, _, _, _, _, _,
   by decide +kernel, by decide +kernel, rfl, by decide +kernel, rfl, by decide +kernel, by decide +kernel,
   by decide +kernel, by decide +kernel, rfl, by decide +kernel, by decide +kernel, by decide +kernel, rfl⟩

theorem met_StatAndTrimCommandsComplete_8 : ∃ (c : Cmd) (h : Half) (s : State) (t : State) (d : Nat) (i : Nat) (cnt : Nat)
    (hd : List Byte) (tail : List Byte) (b : List Byte) (r : Reply), accepted .trimLoad c h s = true ∧ dw c 2 &&& 0xC000FFE0
    = 0 ∧ d = trimDom c ∧ trimDomains c = [d] ∧ i = trimInst c ∧ i < trimCount d ∧ d ≠ 3 ∧ d ≠ 4 ∧ pb c 2 28 = false ∧ pq c
    3 % 32 = 0 ∧ hostRead s (pq c 3) (64 + bodyBytes d) = some hd ∧ b = hd.drop 64 ∧ leNat ((hd.drop 28).take 4) = bodyBytes
    d ∧ cnt = (if d = 2 then leNat ((b.drop 8).take 4) else 0) ∧ hostRead s (pq c 3 + 80) (4 * min cnt 4194305) = some tail
    ∧ arraysOk (half s (trimHalf s d i)).mem ((streamAt s i).cfg.getD {}) (valsOfBody d b) = true ∧ (d ≤ 2 → (streamAt s
    i).bind ≠ none ∧ (streamAt s i).cfg ≠ none) ∧ trimBusy s c = false ∧ (d = 2 → firstErr (dramChecks s (trimHalf s 2 i)) =
    none) ∧ loadVals (started .trimLoad c h s) (submitted s c) d i (valsOfBody d b) (numsOf 4 cnt tail) = (r, t) :=
⟨cm [0x10, 0, 0], .A, { up with hostMem := { cells := [(28, 40)] } }, _, _, _, _, _, _, _, _, by decide +kernel,
   by decide +kernel, rfl, by decide +kernel, rfl, by decide +kernel, by decide +kernel, by decide +kernel,
   by decide +kernel, by decide +kernel, rfl, rfl, by decide +kernel, rfl, rfl, by decide +kernel, by decide +kernel,
   by decide +kernel, by decide +kernel, rfl⟩

theorem met_StatAndTrimCommandsComplete_9 : ∃ (c : Cmd) (h : Half) (s : State) (d : Nat) (i : Nat) (v : TrimVals) (now :
    TrimVals) (bs : List Byte) (body : List Byte), accepted .trimRead c h s = true ∧ dw c 2 &&& 0xE000FFE0 = 0 ∧ d = trimDom
    c ∧ trimDomains c = [d] ∧ i = trimInst c ∧ i < trimCount d ∧ pq c 3 % 32 = 0 ∧ now = (if d = 4 then valsInForce s d i
    else (trimAt s d i).committed.getD (valsInForce s d i)) ∧ (if pb c 2 28 then (trimAt s d i).staged = some v else v =
    now) ∧ body = valsBytes (trimSet s d i) v ∧ bs = trimHeader s d i body.length ++ body ∧ bufferOk s (pq c 3) bs.length =
    true :=
⟨cm [0x10, 0, 0], .A, up, _, _, _, _, _, _, by decide +kernel, by decide +kernel, rfl, by decide +kernel, rfl,
   by decide +kernel, by decide +kernel, rfl, rfl, rfl, rfl, by decide +kernel⟩

/-- Session 0. -/
def ss0 (x : Session) (s : State) : State := { s with sessions := tset s.sessions 0 x }

/-- An encode session of half A of 128 by 128 pictures from the host, at level 4. -/
def sessA : Session :=
  { st := .open_, rate := some {}
    outA := some { size := 20, recs := 4 }
    cfg := { half := 1, hostInput := true, level := 120, width := 128, height := 128, rateNum := 30, gopLen := 30 } }

/-- A decode session of half A. -/
def sessD : Session := { st := .running, cfg := { decode := true, half := 1, level := 120, width := 128, height := 128 } }

/-- Output 0. -/
def vo0 (x : VfOut) (s : State) : State := { s with outs := tset s.outs 0 x }

/-- Audio port 0. -/
def ap0 (x : AudPort) (s : State) : State := { s with ports := tset s.ports 0 x }

/-- Half A's DRAM with channel 0 changed. -/
def ch0 (f : Chan → Chan) (s : State) : State := modChan s .A 0 f

theorem met_EncodeCommandsComplete_0 : ∃ (c : Cmd) (h : Half) (s : State) (n : Nat) (k : SessCfg), accepted .vcuOpenSession
    c h s = true ∧ dw c 2 &&& 0xFF008000 = 0 ∧ dw c 4 &&& 0xFE000000 = 0 ∧ dw c 7 &&& 0xF8000000 = 0 ∧ dw c 8 &&& 0xFFC000C0
    = 0 ∧ n = pf c 2 3 0 ∧ k = sessCfgOf c ∧ (k.decode = true → k.hostInput = false) ∧ (k.half ≠ 3 → k.slices = false) ∧
    (k.avc = true → k.highTier = false) ∧ (k.half ≠ 3 → k.splitPos = 0) ∧ k.half ≠ 0 ∧ (.A ∉ cfgHalves k → dw c 9 = 0 ∧ dw c
    10 = 0 ∧ dw c 11 = 0) ∧ (.B ∉ cfgHalves k → dw c 12 = 0 ∧ dw c 13 = 0 ∧ dw c 14 = 0) ∧ (k.decode = false → k.hostInput =
    false → k.tap ≤ 11) ∧ 0 < k.rateNum ∧ 0 < k.rateDen ∧ (if k.decode then 0 < k.dpb ∧ k.dpb ≤ 16 else 0 < k.gopLen ∧ 0 <
    k.numRef ∧ k.numRef ≤ 4) ∧ (k.decode = false → k.qpMin ≤ k.qpMax ∧ k.qpMax ≤ 51 ∧ (k.hostInput = true → pf c 8 16 14 ≠ 5
    ∧ pf c 8 16 14 ≠ 6 ∧ pf c 8 19 17 ≠ 7)) ∧ formatOk k = true ∧ splitOk k = true ∧ (sessAt s n).st = .closed ∧ (∀ i ∈
    cfgHalves k, refsOk s k i = true ∧ firstErr (dramChecks s i) = none ∧ carries (k :: sessionsOf s i) i = true) :=
⟨cm [0x780040, 0x800080, 0, 30, 1, 0x4001E, 0x3300, 0, 0, 64, 0, 0, 0], .A, up, _, _, by decide +kernel, by decide +kernel,
   by decide +kernel, by decide +kernel, by decide +kernel, rfl, rfl, by decide +kernel, by decide +kernel,
   by decide +kernel, by decide +kernel, by decide +kernel, by decide +kernel, by decide +kernel, by decide +kernel,
   by decide +kernel, by decide +kernel, by decide +kernel, by decide +kernel, by decide +kernel, by decide +kernel,
   by decide +kernel, by decide +kernel⟩

theorem met_EncodeCommandsComplete_1 : ∃ (c : Cmd) (h : Half) (hf : Half) (s : State) (n : Nat) (k : SessCfg) (o : SessOut),
    accepted .vcuSetOutput c h s = true ∧ dw c 2 &&& 0xFFFFFF00 = 0 ∧ dw c 6 &&& 0xFFFFFF80 = 0 ∧ dw c 9 = 0 ∧ n = pf c 2 3
    0 ∧ k = (sessAt s n).cfg ∧ (sessAt s n).st = .open_ ∧ (if k.decode ∧ k.half = 3 then halfOfCode (pf c 2 7 6) = some hf
    else hf = h) ∧ o = sessOutOf c k.decode ∧ (if k.decode then decOutOk s k hf o else encOutOk s hf o) = true ∧ (o.inDram =
    true → firstErr (dramChecks s hf) = none) :=
⟨cm [0, 0, 0, 20, 4, 0x100000, 0, 0], .A, .A, ss0 sessA up, _, _, _, by decide +kernel, by decide +kernel,
   by decide +kernel, by decide +kernel, rfl, rfl, by decide +kernel, by decide +kernel, rfl, by decide +kernel,
   by decide +kernel⟩

theorem met_EncodeCommandsComplete_2 : ∃ (c : Cmd) (h : Half) (s : State) (n : Nat) (r : RateCfg), accepted .vcuSetRate c h
    s = true ∧ dw c 2 &&& 0xFFFFFF00 = 0 ∧ n = pf c 2 3 0 ∧ r = rateOf c ∧ r.mode ≤ 3 ∧ 0 < r.initFull ∧ r.initFull ≤ 100 ∧
    r.qpI ≤ 51 ∧ r.qpP ≤ 51 ∧ r.qpB ≤ 51 ∧ (sessAt s n).cfg.decode = false ∧ rateOk (sessAt s n).cfg r = true ∧ (sessAt s
    n).st ∈ ([.open_, .starting, .running, .stopping] : List SessState) :=
⟨cm [0, 10000, 0, 10000, 50, 0], .A, ss0 sessA up, _, _, by decide +kernel, by decide +kernel, rfl, rfl, by decide +kernel,
   by decide +kernel, by decide +kernel, by decide +kernel, by decide +kernel, by decide +kernel, by decide +kernel,
   by decide +kernel, by decide +kernel⟩

theorem met_EncodeCommandsComplete_3 : ∃ (c : Cmd) (h : Half) (s : State) (n : Nat) (k : SessCfg) (t : TapCfg), accepted
    .vcuStart c h s = true ∧ dw c 2 &&& 0xFFFFFFF0 = 0 ∧ n = pf c 2 3 0 ∧ k = (sessAt s n).cfg ∧ k.decode = false ∧ splitOk
    k = true ∧ (k.hostInput = false → tapInvalid s (sessAt s n) = false) ∧ (sessAt s n).st = .open_ ∧ encOut s (sessAt s n)
    ≠ none ∧ rateSoon s n ≠ none ∧ t = (tget (ctxAt s k.ctx).taps k.tap).cfg :=
⟨cm [0], .A, ss0 sessA up, _, _, _, by decide +kernel, by decide +kernel, rfl, rfl, by decide +kernel, by decide +kernel,
   by decide +kernel, by decide +kernel, by decide +kernel, by decide +kernel, rfl⟩

theorem met_EncodeCommandsComplete_4 : ∃ (c : Cmd) (h : Half) (s : State) (n : Nat) (x : Session), accepted .vcuStop c h s =
    true ∧ dw c 2 &&& 0xFFFFFFF0 = 0 ∧ n = pf c 2 3 0 ∧ x = sessAt s n ∧ x.cfg.decode = false ∧ x.st = .running :=
⟨cm [0], .A, ss0 { sessA with st := .running } up, _, _, by decide +kernel, by decide +kernel, rfl, rfl, by decide +kernel,
   by decide +kernel⟩

theorem met_EncodeCommandsComplete_5 : ∃ (c : Cmd) (h : Half) (s : State) (n : Nat), accepted .vcuRequestIrap c h s = true ∧
    dw c 2 &&& 0xFFFFFFF0 = 0 ∧ n = pf c 2 3 0 ∧ (sessAt s n).cfg.decode = false ∧ ((sessAt s n).st = .starting ∨ (sessAt s
    n).st = .running) :=
⟨cm [0], .A, ss0 { sessA with st := .running } up, _, by decide +kernel, by decide +kernel, rfl, by decide +kernel,
   by decide +kernel⟩

theorem met_EncodeCommandsComplete_6 : ∃ (c : Cmd) (h : Half) (s : State) (n : Nat), accepted .vcuCloseSession c h s = true
    ∧ dw c 2 &&& 0xFFFFFFF0 = 0 ∧ n = pf c 2 3 0 ∧ ((sessAt s n).st = .open_ ∨ (sessAt s n).cfg.decode = true ∧ (sessAt s
    n).st = .running ∧ (sessAt s n).chunks = []) :=
⟨cm [0], .A, ss0 sessA up, _, by decide +kernel, by decide +kernel, rfl, by decide +kernel⟩

theorem met_EncodeCommandsComplete_7 : ∃ (c : Cmd) (h : Half) (s : State) (n : Nat) (x : Session) (num : Count64), accepted
    .vcuSubmitPicture c h s = true ∧ dw c 2 &&& 0xFFFFFFC0 = 0 ∧ n = pf c 2 3 0 ∧ x = sessAt s n ∧ num = BitVec.ofNat 64 (pq
    c 12) ∧ x.cfg.decode = false ∧ x.cfg.hostInput = true ∧ (x.cfg.half ≠ 3 → dw c 8 = 0 ∧ dw c 9 = 0 ∧ dw c 10 = 0 ∧ dw c
    11 = 0) ∧ (dw c 7).toNat % 64 = 0 ∧ (partSize x.cfg h).1 * sampleBytes x.cfg ≤ (dw c 7).toNat ∧ planesBad s x.cfg c (if
    x.cfg.half = 3 then .A else h) 3 = false ∧ (x.cfg.half = 3 → planesBad s x.cfg c .B 8 = false) ∧ (∀ p, x.lastPic = some
    p → p < num) ∧ (x.st = .starting ∨ x.st = .running) ∧ heldCount x < x.cfg.bFrames + 2 :=
⟨cm [0, 0x10000, 0, 0x20000, 0, 128, 0, 0, 0, 0, 5, 0, 0, 0], .A, ss0 { sessA with st := .running, lastPic := some 4 } up,
   _, _, _, by decide +kernel, by decide +kernel, rfl, rfl, rfl, by decide +kernel, by decide +kernel, by decide +kernel,
   by decide +kernel, by decide +kernel, by decide +kernel, by decide +kernel, (by intro p hp; cases hp; decide),
   by decide +kernel, by decide +kernel⟩

theorem met_EncodeCommandsComplete_8 : ∃ (c : Cmd) (h : Half) (s : State) (n : Nat) (dh : Nat) (rh : Nat) (x : Session),
    accepted .vcuConsumed c h s = true ∧ dw c 2 &&& 0xFFFFFFF0 = 0 ∧ n = pf c 2 3 0 ∧ x = sessAt s n ∧ x.cfg.decode = false
    ∧ x.st ≠ .closed ∧ x.st ≠ .draining ∧ dh = pq c 3 ∧ rh % 2 ^ 32 = (dw c 5).toNat ∧ x.recHead ≤ rh ∧ rh ≤ x.recPos ∧
    x.recPos < x.recHead + 2 ^ 32 ∧ x.dataHead ≤ dh ∧ dh ≤ x.dataPos :=
⟨cm [0, 8, 0, 1], .A, ss0 { sessA with st := .running, recPos := 2, dataPos := 64 } up, _, _, 1, _, by decide +kernel,
   by decide +kernel, rfl, rfl, by decide +kernel, by decide +kernel, by decide +kernel, rfl, by decide +kernel,
   by decide +kernel, by decide +kernel, by decide +kernel, by decide +kernel, by decide +kernel⟩

theorem met_DecodeCommandsComplete_0 : ∃ (c : Cmd) (h : Half) (s : State) (n : Nat), accepted .vcuDecodeData c h s = true ∧
    dw c 2 &&& 0xFFFFFF80 = 0 ∧ dw c 5 &&& 0xFF000000 = 0 ∧ n = pf c 2 3 0 ∧ 0 < pf c 5 23 0 ∧ (sessAt s n).cfg.decode =
    true ∧ ((sessAt s n).st = .running ∨ (sessAt s n).st = .draining) ∧ (if pb c 2 6 then backedRange (half s h).mem (pq c
    3) (pf c 5 23 0) else hostOk s (pq c 3) (pf c 5 23 0)) = true :=
⟨cm [0, 0, 0, 100, 0, 0], .A, ss0 sessD up, _, by decide +kernel, by decide +kernel, by decide +kernel, rfl,
   by decide +kernel, by decide +kernel, by decide +kernel, by decide +kernel⟩

theorem met_DecodeCommandsComplete_1 : ∃ (c : Cmd) (h : Half) (s : State) (n : Nat), accepted .vcuFlush c h s = true ∧ dw c
    2 &&& 0xFFFFFFF0 = 0 ∧ n = pf c 2 3 0 ∧ (sessAt s n).cfg.decode = true ∧ (sessAt s n).st = .running :=
⟨cm [0], .A, ss0 sessD up, _, by decide +kernel, by decide +kernel, rfl, by decide +kernel, by decide +kernel⟩

theorem met_DecodeCommandsComplete_2 : ∃ (c : Cmd) (h : Half) (hf : Half) (s : State) (n : Nat) (k : Nat) (x : Session),
    accepted .vcuPictureBuffer c h s = true ∧ dw c 2 &&& 0xFFFFF000 = 0 ∧ n = pf c 2 3 0 ∧ k = pf c 2 9 4 ∧ x = sessAt s n ∧
    x.cfg.decode = true ∧ (x.st = .open_ ∨ x.st = .running ∨ x.st = .draining) ∧ (if x.cfg.compat ∧ x.cfg.half = 3 then
    halfOfCode (pf c 2 11 10) = some hf else hf = h) ∧ (if x.cfg.compat then ((marksIn x hf).getD k {}).hostHeld else
    x.hostBufs.contains k) = true :=
⟨cm [0x10], .A, .A, ss0 { sessD with hostBufs := [1] } up, _, _, _, by decide +kernel, by decide +kernel, rfl, rfl, rfl,
   by decide +kernel, by decide +kernel, by decide +kernel, by decide +kernel⟩

theorem met_DecodeCommandsComplete_3 : ∃ (c : Cmd) (h : Half) (hf : Half) (s : State) (n : Nat) (bs : List Byte), accepted
    .vcuGetPool c h s = true ∧ dw c 2 &&& 0xFFFFFFC0 = 0 ∧ n = pf c 2 3 0 ∧ halfOfCode (pf c 2 5 4) = some hf ∧ (sessAt s
    n).st ≠ .closed ∧ sessIn (sessAt s n) hf = true ∧ pq c 3 % 32 = 0 ∧ bs = dwordBytes ((List.range 32).flatMap fun i =>
    markWords ((marksIn (sessAt s n) hf).getD i {})) ∧ bufferOk s (pq c 3) bs.length = true :=
⟨cm [0x10, 0, 0], .A, .A, ss0 sessD up, _, _, by decide +kernel, by decide +kernel, rfl, by decide +kernel,
   by decide +kernel, by decide +kernel, by decide +kernel, rfl, by decide +kernel⟩

theorem met_DecodeCommandsComplete_4 : ∃ (c : Cmd) (h : Half) (s : State) (n : Nat) (bs : List Byte), accepted .vcuGetStatus
    c h s = true ∧ dw c 2 &&& 0xFFFFFFF0 = 0 ∧ n = pf c 2 3 0 ∧ (sessAt s n).st ≠ .closed ∧ pq c 3 % 32 = 0 ∧ bs =
    dwordBytes ((sessHalves (sessAt s n)).flatMap fun i => sessRecord s n i (s.sys.fresh + 2 * halfIdx i)) ∧ bufferOk s (pq
    c 3) bs.length = true :=
⟨cm [0, 0, 0], .A, ss0 sessD up, _, _, by decide +kernel, by decide +kernel, rfl, by decide +kernel, by decide +kernel, rfl,
   by decide +kernel⟩

theorem met_MemCommandsComplete_0 : ∃ (c : Cmd) (h : Half) (s : State) (bs : List Byte), accepted .memGetStatus c h s = true
    ∧ dw c 2 &&& 0xFFFFFFE0 = 0 ∧ pq c 3 % 32 = 0 ∧ bs = dwordBytes (chanRecord (half (hubsRead s h (namedChan c)) h).mem h
    (namedChan c)) ∧ bufferOk s (pq c 3) bs.length = true :=
⟨cmA [0, 0, 0], .A, up, _, by decide +kernel, by decide +kernel, by decide +kernel, rfl, by decide +kernel⟩

theorem met_MemCommandsComplete_1 : ∃ (c : Cmd) (h : Half) (s : State) (m : HalfMem) (m1 : HalfMem) (r : MemRegion) (k :
    Nat) (n : Nat), accepted .memSetRegion c h s = true ∧ dw c 2 &&& 0xFFFF8000 = 0 ∧ dw c 3 &&& 0xFFFF0000 = 0 ∧ dw c 4 &&&
    0xFFFF0000 = 0 ∧ m = (half s h).mem ∧ k = pf c 2 2 0 ∧ r =
    { enable := pb c 2 3, base := pf c 3 15 0, size := pf c 4 15 0, mask := BitVec.ofNat 8 (pf c 2 11 4), order := BitVec.ofNat 2 (pf c 2 13 12) }
    ∧ n = (maskChans r.mask).length ∧ m1 = { m with regions := tset m.regions k r } ∧ (n = 1 ∨ n = 2 ∨ n = 4 ∨ n = 8) ∧ (∀ j
    ∈ maskChans r.mask, usable (tget m.chans j) = true) ∧ 0 < r.size ∧ r.size ≤ 2048 ∧ r.size % n = 0 ∧ (r.enable = true → ∀
    j < 8, j ≠ k → overlap (regionRange (tget m.regions j)).1 (regionRange (tget m.regions j)).2 (regionRange r).1
    (regionRange r).2 = false) ∧ (r.enable = true → ∀ j < 8, cbase m1 8 j ≤ usableGib (tget m.chans j)) ∧ firstErr
    (dramChecks s h) = none ∧ pb c 2 14 = true ∧ (∀ y ∈ structures s h, overlap (regionRange (tget m.regions k)).1
    (regionRange (tget m.regions k)).2 y.1 y.2 = false ∧ overlap (regionRange r).1 (regionRange r).2 y.1 y.2 = false) :=
⟨cmA [0x4011, 1, 1], .A, up, _, _, _, _, _, by decide +kernel, by decide +kernel, by decide +kernel, by decide +kernel, rfl,
   rfl, rfl, rfl, rfl, by decide +kernel, by decide +kernel, by decide +kernel, by decide +kernel, by decide +kernel,
   by decide +kernel, by decide +kernel, by decide +kernel, by decide +kernel, by decide +kernel⟩

theorem met_MemCommandsComplete_2 : ∃ (c : Cmd) (h : Half) (s : State), accepted .memSetPolicy c h s = true ∧ dw c 2 &&&
    0xFFFFF000 = 0 ∧ dw c 3 &&& 0xFF000000 = 0 ∧ dw c 4 &&& 0xFFFF0000 = 0 ∧ pf c 2 6 5 ≠ 3 ∧ pf c 3 7 0 ≤ 168 ∧ firstErr
    (dramChecks s h) = none ∧ (pb c 2 4 = false → usable (chanAt s h (namedChan c)) = true) :=
⟨cmA [0, 168, 0], .A, up, by decide +kernel, by decide +kernel, by decide +kernel, by decide +kernel, by decide +kernel,
   by decide +kernel, by decide +kernel, by decide +kernel⟩

theorem met_MemCommandsComplete_3 : ∃ (c : Cmd) (h : Half) (s : State) (ks : List Nat), accepted .memTrain c h s = true ∧ dw
    c 2 &&& 0xFFFFFFE0 = 0 ∧ firstErr (dramChecks s h) = none ∧ (pb c 2 4 = false → usable (chanAt s h (namedChan c)) =
    true) ∧ ks = (if pb c 2 4 then usableChans (half s h).mem else [namedChan c]) ∧ (∀ k ∈ ks, (chanAt s h k).sweep = none)
    :=
⟨cmA [0], .A, up, _, by decide +kernel, by decide +kernel, by decide +kernel, by decide +kernel, rfl, by decide +kernel⟩

theorem met_MemCommandsComplete_4 : ∃ (c : Cmd) (h : Half) (s : State), accepted .memSetFreq c h s = true ∧ dw c 2 &&&
    0xFFFFFFF8 = 0 ∧ firstErr (dramChecks s h) = none ∧ (setTrained (half s h).mem (pf c 2 1 0) = true ∨ quietHalf s h =
    true) ∧ (half s h).mem.freq = none :=
⟨cmA [0], .A, up, by decide +kernel, by decide +kernel, by decide +kernel, by decide +kernel, by decide +kernel⟩

theorem met_MemCommandsComplete_5 : ∃ (c : Cmd) (h : Half) (s : State) (r : TimingRec) (bs : List Byte), accepted
    .memReadTiming c h s = true ∧ dw c 2 &&& 0xFFFFFE00 = 0 ∧ pq c 3 % 32 = 0 ∧ r = tget (tget (if pb c 2 8 then (chanAt s h
    (pf c 2 3 0 % 8)).base else (chanAt s h (pf c 2 3 0 % 8)).sets) (pf c 2 5 4)) (pf c 2 7 6) ∧ bs = timingBytes (pf c 2 5
    4) (pf c 2 7 6) r ∧ bufferOk s (pq c 3) bs.length = true :=
⟨cmA [0, 0, 0], .A, up, _, _, by decide +kernel, by decide +kernel, by decide +kernel, rfl, rfl, by decide +kernel⟩

theorem met_MemCommandsComplete_6 : ∃ (c : Cmd) (h : Half) (s : State) (k : Nat) (r : Nat), accepted .memRepair c h s = true
    ∧ k = namedChan c ∧ r = pf c 2 7 6 ∧ r < mapRanks (chanAt s h k) ∧ firstErr (dramChecks s h) = none ∧ usable (chanAt s h
    k) = true ∧ pb c 2 4 = false ∧ dw c 2 &&& 0xFFFFE000 = 0 ∧ dw c 3 &&& 0xFFFE0000 = 0 ∧ pf c 3 16 0 < bankRows (chanAt s
    h k) :=
⟨cmA [0, 2047], .A, up, _, _, by decide +kernel, rfl, rfl, by decide +kernel, by decide +kernel, by decide +kernel,
   by decide +kernel, by decide +kernel, by decide +kernel, by decide +kernel⟩

theorem met_MemCommandsComplete_7 : ∃ (c : Cmd) (h : Half) (s : State) (k : Nat) (r : Nat), accepted .memRepair c h s = true
    ∧ k = namedChan c ∧ r = pf c 2 7 6 ∧ r < mapRanks (chanAt s h k) ∧ firstErr (dramChecks s h) = none ∧ usable (chanAt s h
    k) = true ∧ pb c 2 4 = true ∧ dw c 2 &&& 0xFFFFFF20 = 0 ∧ dw c 3 = 0 ∧ hasSpare (chanAt s h k) = true ∧ (chanAt s h
    k).spared = none ∧ (chanAt s h k).sparing = none :=
⟨cmA [0x10, 0], .A, ch0 (fun c => { c with dimms := 2, policy := { c.policy with spareReserve := true } }) up, _, _,
   by decide +kernel, rfl, rfl, by decide +kernel, by decide +kernel, by decide +kernel, by decide +kernel,
   by decide +kernel, by decide +kernel, by decide +kernel, by decide +kernel, by decide +kernel⟩

theorem met_MemCommandsComplete_8 : ∃ (c : Cmd) (h : Half) (s : State), accepted .memSaveTraining c h s = true ∧ dw c 2 = 0
    ∧ anyTrained (half s h).mem = true :=
⟨cmA [0], .A, ch0 (fun c => { c with sets := Vector.replicate 4 (Vector.replicate 4 { valid := true }) }) up,
   by decide +kernel, by decide +kernel, by decide +kernel⟩

theorem met_MemCommandsComplete_9 : ∃ (c : Cmd) (h : Half) (s : State), accepted .memInjectError c h s = true ∧ dw c 2 &&&
    0xFFFFFFC0 = 0 ∧ pf c 2 1 0 ≠ 3 ∧ pf c 2 5 2 ≤ 9 ∧ pq c 3 % 64 = 0 ∧ firstErr (dramChecks s h) = none ∧ backed (half s
    h).mem (pq c 3) = true :=
⟨cmA [0x24, 64, 0], .A, up, by decide +kernel, by decide +kernel, by decide +kernel, by decide +kernel, by decide +kernel,
   by decide +kernel, by decide +kernel⟩

theorem met_ViewfinderCommandsComplete_0 : ∃ (c : Cmd) (h : Half) (s : State) (z : VfSource), accepted .vfSetSource c h s =
    true ∧ z = sourceIn c s.a.vf.serials ∧ (z.host = true → dw c 2 &&& 0xFFFFC3FE = 0 ∧ firstErr (dramChecks s z.half) =
    none) ∧ (z.host = false → dw c 2 &&& 0xFFFFFC00 = 0 ∧ dw c 3 = 0 ∧ dw c 4 = 0 ∧ dw c 5 = 0 ∧ dw c 6 = 0) ∧ sourceOk s c
    z = true ∧ peerOk s z .A = true ∧ peerOk s z .B = true ∧ (vfRuns s (otherHalf h) = true → mortarUp s = true) ∧
    runningOuts s = [] :=
⟨cm [0x1001, 0, 0, 64, 0x10002, 0, 0, 0, 0], .A, up, _, by decide +kernel, rfl, by decide +kernel, by decide +kernel,
   by decide +kernel, by decide +kernel, by decide +kernel, by decide +kernel, by decide +kernel⟩

theorem met_ViewfinderCommandsComplete_1 : ∃ (c : Cmd) (h : Half) (s : State) (z : VfSource), accepted .vfSetSource c h s =
    true ∧ z = sourceIn c s.a.vf.serials ∧ (z.host = true → dw c 2 &&& 0xFFFFC3FE = 0 ∧ firstErr (dramChecks s z.half) =
    none) ∧ (z.host = false → dw c 2 &&& 0xFFFFFC00 = 0 ∧ dw c 3 = 0 ∧ dw c 4 = 0 ∧ dw c 5 = 0 ∧ dw c 6 = 0) ∧ sourceOk s c
    z = true ∧ peerOk s z .A = true ∧ peerOk s z .B = true ∧ (vfRuns s (otherHalf h) = true → mortarUp s = true) ∧
    runningOuts s ≠ [] :=
⟨cm [0x1001, 0, 0, 64, 0x10002, 0, 0, 0, 0], .A, vo0 { cfg := { run := 2 } } up, _, by decide +kernel, rfl,
   by decide +kernel, by decide +kernel, by decide +kernel, by decide +kernel, by decide +kernel, by decide +kernel,
   by decide +kernel⟩

theorem met_ViewfinderCommandsComplete_2 : ∃ (c : Cmd) (h : Half) (s : State) (k : VfCfg), accepted .vfConfigureOutput c h s
    = true ∧ dw c 2 &&& 0xF0000000 = 0 ∧ dw c 8 &&& 0xFF000000 = 0 ∧ dw c 11 &&& 0xFFFFF800 = 0 ∧ k = vfCfgIn c ∧ k.run ≠ 3
    ∧ (k.lanes = 1 ∨ k.lanes = 2 ∨ k.lanes = 4) ∧ 0 < k.teDiv ∧ 80 ≤ k.mbps ∧ k.mbps ≤ 2500 ∧ 0 < k.maxPkt ∧ k.maxPkt ≤ 1024
    ∧ 16 ≤ k.panelW ∧ k.panelW ≤ 3840 ∧ 16 ≤ k.panelH ∧ k.panelH ≤ 3840 ∧ k.panelW * k.panelH ≤ 8294400 ∧ 0 < k.outW ∧ 0 <
    k.outH ∧ k.outX + k.outW ≤ k.panelW ∧ k.outY + k.outH ≤ k.panelH ∧ k.srcX % 2 = 0 ∧ k.srcY % 2 = 0 ∧ vfCropOk s k = true
    ∧ firstErr (dramChecks s h) = none ∧ k.renderBase % 4096 = 0 ∧ backedRange (half s h).mem k.renderBase (renderPitch k *
    k.panelH) = true ∧ (k.run = 2 → peerMissing s h = false) :=
⟨cm [0x500210, 0x100010, 0, 0x100010, 0, 0, 0, 0, 0, 0x400, 0], .A, up, _, by decide +kernel, by decide +kernel,
   by decide +kernel, by decide +kernel, rfl, by decide +kernel, by decide +kernel, by decide +kernel, by decide +kernel,
   by decide +kernel, by decide +kernel, by decide +kernel, by decide +kernel, by decide +kernel, by decide +kernel,
   by decide +kernel, by decide +kernel, by decide +kernel, by decide +kernel, by decide +kernel, by decide +kernel,
   by decide +kernel, by decide +kernel, by decide +kernel, by decide +kernel, by decide +kernel, by decide +kernel,
   by decide +kernel⟩

theorem met_ViewfinderCommandsComplete_3 : ∃ (c : Cmd) (h : Half) (s : State) (o : Nat) (pkts : _), accepted
    .vfPanelSequence c h s = true ∧ dw c 2 &&& 0xFFFFFE00 = 0 ∧ o = pf c 2 1 0 ∧ 0 < pf c 2 8 2 ∧ pf c 2 8 2 ≤ 64 ∧ pq c 3 %
    8 = 0 ∧ (outAt s o).cfg.run ≠ 0 ∧ readSeq s (pf c 2 8 2) (pq c 3) [] = .ok pkts :=
⟨cm [4, 0, 0], .A, vo0 { cfg := { run := 1 } } { up with hostMem := { cells := [(0, 5), (2, 1), (8, 0x29)] } }, _, _,
   by decide +kernel, by decide +kernel, rfl, by decide +kernel, by decide +kernel, by decide +kernel, by decide +kernel,
   rfl⟩

theorem met_ViewfinderCommandsComplete_4 : ∃ (c : Cmd) (h : Half) (s : State) (o : Nat), accepted .vfPanelSequence c h s =
    true ∧ dw c 2 &&& 0xFFFFFE00 = 0 ∧ o = pf c 2 1 0 ∧ 0 < pf c 2 8 2 ∧ pf c 2 8 2 ≤ 64 ∧ pq c 3 % 8 = 0 ∧ (outAt s
    o).cfg.run ≠ 0 ∧ readSeq s (pf c 2 8 2) (pq c 3) [] = .error .invalid :=
⟨cm [4, 0, 0], .A, vo0 { cfg := { run := 1 } } { up with hostMem := { cells := [(0, 1)] } }, _, by decide +kernel,
   by decide +kernel, rfl, by decide +kernel, by decide +kernel, by decide +kernel, by decide +kernel, rfl⟩

theorem met_ViewfinderCommandsComplete_5 : ∃ (c : Cmd) (h : Half) (s : State) (o : Nat), accepted .vfSetCheck c h s = true ∧
    dw c 2 &&& 0xFFFFFF00 = 0 ∧ o = pf c 2 1 0 ∧ 0 < pf c 4 15 0 ∧ 0 < pf c 4 31 16 ∧ pf c 3 15 0 + pf c 4 15 0 ≤ (outAt s
    o).cfg.panelW ∧ pf c 3 31 16 + pf c 4 31 16 ≤ (outAt s o).cfg.panelH :=
⟨cm [0, 0xF000F, 0x10001, 0], .A, up, _, by decide +kernel, by decide +kernel, rfl, by decide +kernel, by decide +kernel,
   by decide +kernel, by decide +kernel⟩

theorem met_ViewfinderCommandsComplete_6 : ∃ (c : Cmd) (h : Half) (s : State), accepted .vfResume c h s = true ∧ dw c 2 &&&
    0xFFFFFFFC = 0 ∧ (outAt s (pf c 2 1 0)).frozen = true :=
⟨cm [0], .A, vo0 { frozen := true } up, by decide +kernel, by decide +kernel, by decide +kernel⟩

theorem met_ViewfinderCommandsComplete_7 : ∃ (c : Cmd) (h : Half) (s : State) (bs : List Byte), accepted .vfGetStatus c h s
    = true ∧ dw c 2 &&& 0xFFFFFFFC = 0 ∧ pq c 3 % 32 = 0 ∧ bs = dwordBytes (vfRecord (outAt s (pf c 2 1 0)) (pf c 2 1 0)) ∧
    bufferOk s (pq c 3) bs.length = true :=
⟨cm [0, 0, 0], .A, up, _, by decide +kernel, by decide +kernel, by decide +kernel, rfl, by decide +kernel⟩

theorem met_AudioCommandsComplete_0 : ∃ (c : Cmd) (h : Half) (s : State) (k : AudCfg) (p : Nat) (root : Nat), accepted
    .audConfigure c h s = true ∧ k = audCfgIn c ∧ p = pf c 2 2 0 ∧ root = 4 * (p / 4) + k.clkPort.toNat ∧ dw c 2 &&& (if
    k.clkSrc = 2 then 0xFFFFC000 else 0xFFFFCC00) = 0 ∧ dw c 3 &&& 0xFFF80000 = 0 ∧ dw c 6 &&& 0xFFFFFFE0 = 0 ∧ dw c 7 &&&
    0xFFFE0000 = 0 ∧ pf c 2 6 5 ≠ 3 ∧ pf c 2 9 8 ≠ 3 ∧ (k.clkSrc = 2 → root ≠ p ∧ (portAt s root).cfg.clkSrc ≠ 2) ∧ 32000 ≤
    pf c 3 18 0 ∧ pf c 3 18 0 ≤ 384000 ∧ (k.clkSrc = 1 → leaderFamily (pf c 3 18 0) ≠ none) ∧ 12 ≤ k.ringLog2 ∧ k.ringLog2 ≤
    26 ∧ 64 ≤ k.resume ∧ k.resume ≤ 65536 ∧ firstErr (dramChecks s h) = none ∧ k.ringBase % 4096 = 0 ∧ k.markBase % 4096 = 0
    ∧ backedRange (half s h).mem k.ringBase (2 ^ k.ringLog2) = true ∧ backedRange (half s h).mem k.markBase 131072 = true ∧
    disjoint (audRegions k) = true ∧ apart (audRegions k) (audOthers s h p) = true ∧ (portAt s p).st ≠ .running ∧ (portAt s
    p).st ≠ .waiting ∧ (k.clkSrc = 1 → otherLeader s p = true → (half s h).audFamily = leaderFamily (pf c 3 18 0)) :=
⟨cm [0, 48000, 0, 0, 12, 0, 0x100000, 0], .A, up, _, _, _, by decide +kernel, rfl, rfl, rfl, by decide +kernel,
   by decide +kernel, by decide +kernel, by decide +kernel, by decide +kernel, by decide +kernel, by decide +kernel,
   by decide +kernel, by decide +kernel, by decide +kernel, by decide +kernel, by decide +kernel, by decide +kernel,
   by decide +kernel, by decide +kernel, by decide +kernel, by decide +kernel, by decide +kernel, by decide +kernel,
   by decide +kernel, by decide +kernel, by decide +kernel, by decide +kernel, by decide +kernel⟩

theorem met_AudioCommandsComplete_1 : ∃ (c : Cmd) (h : Half) (s : State) (ps : List Nat), accepted .audStart c h s = true ∧
    dw c 2 &&& 0xFFFFFFF0 = 0 ∧ ps = (portsOf h).filter (fun p => (pf c 2 3 0).testBit (p % 4)) ∧ ps ≠ [] ∧ (∀ p ∈ ps,
    (portAt s p).st = .stopped) ∧ (∀ p ∈ ps, (portAt s p).cfg.output = true → (portAt s p).cfg.resume ≤ audAhead (portAt s
    p)) :=
⟨cmA [1], .A, ap0 { st := .stopped } up, _, by decide +kernel, by decide +kernel, rfl, by decide +kernel, by decide +kernel,
   by decide +kernel⟩

theorem met_AudioCommandsComplete_2 : ∃ (c : Cmd) (h : Half) (s : State) (u2 : State) (ps : List Nat) (busy : List Nat),
    accepted .audStop c h s = true ∧ dw c 2 &&& 0xFFFFFFF0 = 0 ∧ ps = (portsOf h).filter (fun p => (pf c 2 3 0).testBit (p %
    4)) ∧ u2 = (ps.filter fun p => decide ((portAt s p).st = .running) && !framing (portAt s p)).foldl audStop ((ps.filter
    fun p => decide ((portAt s p).st = .waiting)).foldl unwait (started .audStop c h s)) ∧ busy = (ps.filter fun p => decide
    ((portAt u2 p).st = .running)) :=
⟨cmA [1], .A, ap0 { st := .running } up, _, _, _, by decide +kernel, by decide +kernel, rfl, rfl, rfl⟩

theorem met_AudioCommandsComplete_3 : ∃ (c : Cmd) (h : Half) (s : State) (p : Nat), accepted .audAdvance c h s = true ∧ dw c
    2 &&& 0xFFFFFFF8 = 0 ∧ p = pf c 2 2 0 ∧ (portAt s p).st ≠ .unconfigured ∧ (portAt s p).hostPos.toNat ≤ pq c 3 ∧ ((portAt
    s p).cfg.output = true → pq c 3 ≤ (portAt s p).ringPos.toNat + audCap (portAt s p).cfg) ∧ ((portAt s p).cfg.output =
    false → pq c 3 ≤ audWritten (portAt s p)) :=
⟨cm [0, 0, 0], .A, ap0 { st := .stopped } up, _, by decide +kernel, by decide +kernel, rfl, by decide +kernel,
   by decide +kernel, by decide +kernel, by decide +kernel⟩

theorem met_AudioCommandsComplete_4 : ∃ (c : Cmd) (h : Half) (s : State), accepted .audSetLatch c h s = true ∧ pf c 2 9 3 =
    0x7F :=
⟨cm [0x3F8], .A, up, by decide +kernel, by decide +kernel⟩

theorem met_AudioCommandsComplete_5 : ∃ (c : Cmd) (h : Half) (s : State), accepted .audSetLatch c h s = true ∧ pf c 2 9 3 ≤
    63 :=
⟨cm [0x1F8], .A, up, by decide +kernel, by decide +kernel⟩

theorem met_AudioCommandsComplete_6 : ∃ (c : Cmd) (h : Half) (s : State) (bs : List Byte), accepted .audGetStatus c h s =
    true ∧ dw c 2 &&& 0xFFFFFFF8 = 0 ∧ pq c 3 % 32 = 0 ∧ bs = dwordBytes (audRecord (portAt s (pf c 2 2 0)) (pf c 2 2 0)) ∧
    bufferOk s (pq c 3) bs.length = true :=
⟨cm [0, 0, 0], .A, up, _, by decide +kernel, by decide +kernel, by decide +kernel, rfl, by decide +kernel⟩

theorem met_PairAndPowerCommandsComplete_0 : ∃ (c : Cmd) (h : Half) (s : State), accepted .pairConfigure c h s = true ∧ dw c
    2 &&& 0xFFFFF000 = 0 ∧ (pf c 2 11 8 = 0 ∨ 4 ≤ pf c 2 11 8) ∧ pb c 2 0 = true ∧ (pf c 2 2 1 = 1 ∨ pf c 2 2 1 = 2) ∧
    s.pair.sameDram = true ∧ s.pair.compatible = true :=
⟨cm [3], .A, up, by decide +kernel, by decide +kernel, by decide +kernel, by decide +kernel, by decide +kernel,
   by decide +kernel, by decide +kernel⟩

theorem met_PairAndPowerCommandsComplete_1 : ∃ (c : Cmd) (h : Half) (s : State), accepted .pairConfigure c h s = true ∧ dw c
    2 &&& 0xFFFFF000 = 0 ∧ (pf c 2 11 8 = 0 ∨ 4 ≤ pf c 2 11 8) ∧ pb c 2 0 = false :=
⟨cm [0], .A, up, by decide +kernel, by decide +kernel, by decide +kernel, by decide +kernel⟩

theorem met_PairAndPowerCommandsComplete_2 : ∃ (c : Cmd) (h : Half) (s : State) (bs : List Byte), accepted .pairGetStatus c
    h s = true ∧ dw c 2 = 0 ∧ pq c 3 % 32 = 0 ∧ bs = dwordBytes (pairRecord s.pair) ∧ bufferOk s (pq c 3) bs.length = true
    :=
⟨cm [0, 0, 0], .A, up, _, by decide +kernel, by decide +kernel, by decide +kernel, rfl, by decide +kernel⟩

theorem met_PairAndPowerCommandsComplete_3 : ∃ (c : Cmd) (h : Half) (s : State), accepted .pairSwitchover c h s = true ∧ dw
    c 2 &&& 0xFFFFFF00 = 0 ∧ pairUp s = true ∧ s.pair.draining = false ∧ s.pair.fenced = false :=
⟨cm [0], .A, { up with pair := { role := 1, hasMirror := true, st := .paired } }, by decide +kernel, by decide +kernel,
   by decide +kernel, by decide +kernel, by decide +kernel⟩

theorem met_PairAndPowerCommandsComplete_4 : ∃ (c : Cmd) (h : Half) (s : State), accepted .pairTakeover c h s = true ∧ dw c
    2 &&& 0xFFFFFFFE = 0 ∧ s.pair.role = 2 ∧ (s.pair.st = .paired ∨ s.pair.st = .linkLost) ∧ s.pair.epoch.toNat < (dw c
    3).toNat :=
⟨cm [0, 1], .A, { up with pair := { role := 2, st := .paired } }, by decide +kernel, by decide +kernel, by decide +kernel,
   by decide +kernel, by decide +kernel⟩

theorem met_PairAndPowerCommandsComplete_5 : ∃ (c : Cmd) (h : Half) (s : State), accepted .pwrSetWakeBudget c h s = true ∧
    dw c 2 &&& 0xFFFFF800 = 0 ∧ pf c 2 10 9 ≠ 0 ∧ ((pf c 2 10 9).testBit (halfIdx (otherHalf h)) = true → mortarUp s = true)
    :=
⟨cm [0x600, 0], .A, up, by decide +kernel, by decide +kernel, by decide +kernel, by decide +kernel⟩

theorem met_PairAndPowerCommandsComplete_6 : ∃ (c : Cmd) (h : Half) (k : Half) (s : State) (bs : List Byte), accepted
    .pwrGetState c h s = true ∧ dw c 2 &&& 0xFFFFFFFC = 0 ∧ halfOfCode (pf c 2 1 0) = some k ∧ pq c 3 % 32 = 0 ∧ (k = h ∨
    mortarUp s = true) ∧ bs = dwordBytes (powerRecord (started .pwrGetState c h s) k) ∧ bufferOk s (pq c 3) bs.length = true
    :=
⟨cm [1, 0, 0], .A, .A, up, _, by decide +kernel, by decide +kernel, by decide +kernel, by decide +kernel, by decide +kernel,
   rfl, by decide +kernel⟩

theorem met_PairAndPowerCommandsComplete_7 : ∃ (c : Cmd) (h : Half) (k : Half) (s : State) (bs : List Byte), accepted
    .hostGetLinkStatus c h s = true ∧ dw c 2 &&& 0xFFFFFFFC = 0 ∧ halfOfCode (pf c 2 1 0) = some k ∧ pq c 3 % 32 = 0 ∧ (k =
    h ∨ mortarUp s = true) ∧ bs = dwordBytes (linkRecord s k) ∧ bufferOk s (pq c 3) bs.length = true :=
⟨cm [2, 0, 0], .A, .B, up, _, by decide +kernel, by decide +kernel, by decide +kernel, by decide +kernel, by decide +kernel,
   rfl, by decide +kernel⟩

theorem met_RegisterRowsComplete_0 : ∃ (h : Half) (n : Nat) (v : Word) (env : HostUpdate) (s : State) (u : State), ready
    (.sqTailDoorbell h n v env) s = true ∧ u = linkWake (hostUpdate s env) h ∧ (sqAt s h n).enable = true ∧ (sqAt s h
    n).error = false :=
⟨.A, 0, 15, {}, sq0 { sizeLog2 := 4, enable := true } up, _, by decide +kernel, rfl, by decide +kernel, by decide +kernel⟩

theorem met_RegisterRowsComplete_1 : ∃ (h : Half) (n : Nat) (adv : Nat) (v : Word) (s : State) (u : State) (r : CqRec),
    ready (.cqHeadDoorbell h n v) s = true ∧ u = linkWake s h ∧ r = cqAt s h n ∧ r.enable = true ∧ r.error = false ∧ adv =
    ringDist r.sizeLog2 r.head (BitVec.setWidth 16 v) :=
⟨.A, 0, _, 3, cq0 { sizeLog2 := 4, enable := true, tail := 3 } up, _, _, by decide +kernel, rfl, rfl, by decide +kernel,
   by decide +kernel, rfl⟩

theorem met_RegisterRowsComplete_2 : ∃ (h : Half) (v : Word) (s : State) (u : State) (r : EvRec), ready (.headDb h v) s =
    true ∧ u = linkWake s h ∧ r = (half s h).cmd.ev ∧ r.enable = true ∧ r.error = false :=
⟨.A, 15, ev0 { sizeLog2 := 4, enable := true } up, _, _, by decide +kernel, rfl, rfl, by decide +kernel, by decide +kernel⟩

theorem met_RegisterRowsComplete_3 : ∃ (h : Half) (n : Nat) (v : Word) (s : State) (u : State), ready (.sqEnable h n v) s =
    true ∧ u = linkWake s h ∧ (sqAt s h n).enable = false :=
⟨.A, 31, 0x10010, up, _, by decide +kernel, rfl, by decide +kernel⟩

theorem met_RegisterRowsComplete_4 : ∃ (h : Half) (n : Nat) (v : Word) (s : State) (u : State), ready (.sqDisable h n v) s =
    true ∧ u = linkWake s h ∧ (sqAt s h n).enable = true :=
⟨.A, 0, 0, sq0 { sizeLog2 := 4, enable := true } up, _, by decide +kernel, rfl, by decide +kernel⟩

theorem met_RegisterRowsComplete_5 : ∃ (h : Half) (n : Nat) (v : Word) (s : State) (u : State), ready (.cqEnable h n v) s =
    true ∧ u = linkWake s h ∧ (cqAt s h n).enable = false :=
⟨.A, 31, 0x10010, up, _, by decide +kernel, rfl, by decide +kernel⟩

theorem met_RegisterRowsComplete_6 : ∃ (h : Half) (n : Nat) (v : Word) (s : State) (u : State), ready (.cqDisable h n v) s =
    true ∧ u = linkWake s h ∧ (cqAt s h n).enable = true :=
⟨.A, 0, 0, cq0 { sizeLog2 := 4, enable := true } up, _, by decide +kernel, rfl, by decide +kernel⟩

theorem met_RegisterRowsComplete_7 : ∃ (h : Half) (v : Word) (s : State) (u : State), ready (.eventRingEnable h v) s = true
    ∧ u = linkWake s h ∧ (half s h).cmd.ev.enable = false :=
⟨.A, 0x10004, up, _, by decide +kernel, rfl, by decide +kernel⟩

theorem met_RegisterRowsComplete_8 : ∃ (h : Half) (v : Word) (s : State), ready (.eventRingDisable h v) s = true ∧ (half s
    h).cmd.ev.enable = true :=
⟨.A, 0, ev0 { sizeLog2 := 4, enable := true } up, by decide +kernel, by decide +kernel⟩

theorem met_RegisterRowsComplete_9 : ∃ (h : Half) (n : Nat) (m : Bool) (s : State), ready (.msixMaskWrite h (.vector n m)) s
    = true :=
⟨.A, 127, true, up, by decide +kernel⟩

theorem met_RegisterRowsComplete_10 : ∃ (h : Half) (en : Bool) (fm : Bool) (s : State), ready (.msixMaskWrite h (.control en
    fm)) s = true :=
⟨.A, true, false, up, by decide +kernel⟩

theorem met_RegisterRowsComplete_11 : ∃ (h : Half) (n : Nat) (v : BitVec 64) (s : State), ready (.registerWrite h (.bar0
    (0x1000 + 32 * n) 4 v)) s = true ∧ n < 32 ∧ (sqAt s h n).enable = false :=
⟨.A, 31, 0x1234F000, up, by decide +kernel, by decide +kernel, by decide +kernel⟩

theorem met_RegisterRowsComplete_12 : ∃ (h : Half) (off : Nat) (size : Nat) (v : BitVec 64) (s : State), ready
    (.registerWrite h (.bar0 off size v)) s = true ∧ ¬ (size = 4 ∧ off % 4 = 0) ∧ ¬ (size = 8 ∧ off % 8 = 0) :=
⟨.A, 0x1000, 2, 0, up, by decide +kernel, by decide +kernel, by decide +kernel⟩

theorem met_FetchAndWindowRowsComplete_0 : ∃ (h : Half) (off : Nat) (len : Nat) (s : State) (bs : List Byte) (p : Bool),
    ready (.bar2Read h off len) s = true ∧ inWindow (half s h).ep off len = true ∧ (half s h).ep.peer = false ∧ dramRead s h
    (bar2Addr (half s h).ep off) len = (bs, p) :=
⟨.A, 0xFFFFFFC, 4, up, _, _, by decide +kernel, by decide +kernel, by decide +kernel, rfl⟩

theorem met_FetchAndWindowRowsComplete_1 : ∃ (h : Half) (off : Nat) (bs : List Byte) (s : State), ready (.bar2Write h off
    bs) s = true ∧ inWindow (half s h).ep off bs.length = true ∧ (half s h).ep.peer = false :=
⟨.A, 0xFFFFFFC, [1, 2, 3, 4], up, by decide +kernel, by decide +kernel, by decide +kernel⟩

theorem met_FetchAndWindowRowsComplete_2 : ∃ (h : Half) (off : Nat) (bs : List Byte) (s : State), ready (.bar2Write h off
    bs) s = true ∧ inWindow (half s h).ep off bs.length = true ∧ (half s h).ep.peer = true ∧ aperFails s = false :=
⟨.A, 0, [1], ep0 (fun p => { p with peer := true }) up, by decide +kernel, by decide +kernel, by decide +kernel,
   by decide +kernel⟩

theorem met_FetchAndWindowRowsComplete_3 : ∃ (h : Half) (n : Nat) (s : State), ready (.quiesced h n) s = true ∧ ((sqAt s h
    n).enable = false ∨ (sqAt s h n).error = true) ∧ (sqAt s h n).fetching = [] :=
⟨.A, 0, up, by decide +kernel, by decide +kernel, by decide +kernel⟩

theorem met_FetchAndWindowRowsComplete_4 : ∃ (h : Half) (n : Nat) (need : Nat) (s : State) (bs : List Byte), ready
    (.entryFetch h n) s = true ∧ fetches s h n = true ∧ hostRead (linkWake s h) ((sqAt s h n).base.toNat + 64 * (sqAt s h
    n).head.toNat) 64 = some bs ∧ need = slotsNeeded ((bytesDwords 16 bs).headD 0) ∧ (sqAt s h n).preReserved = 0 :=
⟨.A, 0, _, sq0 { sizeLog2 := 4, enable := true, head := 15, lastTail := 0 } up, _, by decide +kernel, by decide +kernel,
   rfl, rfl, by decide +kernel⟩

theorem met_FetchAndWindowRowsComplete_5 : ∃ (h : Half) (n : Nat) (s : State), ready (.coalDelayExpiry h n) s = true ∧ (cqAt
    s h n).enable = true ∧ (cqAt s h n).error = false ∧ (cqAt s h n).intEnable = true ∧ 0 < (cqAt s h n).unsignalled ∧ (cqAt
    s h n).coalDelay ≠ 0 :=
⟨.A, 0, cq0 { sizeLog2 := 4, enable := true, intEnable := true, unsignalled := 1, coalDelay := 1 } up, by decide +kernel,
   by decide +kernel, by decide +kernel, by decide +kernel, by decide +kernel, by decide +kernel⟩

theorem met_FetchAndWindowRowsComplete_6 : ∃ (h : Half) (pmeEn : Bool) (s : State), ready (.dStateWrite h true pmeEn) s =
    true ∧ (half s h).ep.d3hot = false :=
⟨.A, true, up, by decide +kernel, by decide +kernel⟩

theorem met_FetchAndWindowRowsComplete_7 : ∃ (h : Half) (pmeEn : Bool) (s : State), ready (.dStateWrite h false pmeEn) s =
    true ∧ (half s h).ep.d3hot = true :=
⟨.A, false, ep0 (fun p => { p with d3hot := true }) up, by decide +kernel, by decide +kernel⟩

theorem met_FetchAndWindowRowsComplete_8 : ∃ (h : Half) (s : State), ready (.aspmL1Entry h) s = true ∧ (half s h).ep.gen ≠ 0
    ∧ 9 ≤ linkChoice s h ∧ (half s h).ep.lstate.toNat < 9 :=
⟨.A, ep0 (fun p => { p with aspmL1 := true })
   { up with a := { half1 with ep := half1.ep, power := { budget := Vector.replicate 9 100 } } }, by decide +kernel,
   by decide +kernel, by decide +kernel, by decide +kernel⟩

theorem met_FetchAndWindowRowsComplete_9 : ∃ (h : Half) (need : Nat) (w : Nat) (s : State), ready (.l0pEval h need) s = true
    ∧ (half s h).ep.gen ≠ 0 ∧ (half s h).ep.l0p = true ∧ (half s h).ep.flit = true ∧ (half s h).ep.lstate.toNat < 9 ∧ w =
    min (half s h).ep.width.toNat (if need ≤ 1 then 1 else if need ≤ 2 then 2 else if need ≤ 4 then 4 else 8) :=
⟨.A, 4, _, ep0 (fun p => { p with l0p := true, flit := true }) up, by decide +kernel, by decide +kernel, by decide +kernel,
   by decide +kernel, by decide +kernel, rfl⟩

theorem met_FetchAndWindowRowsComplete_10 : ∃ (h : Half) (gen : BitVec 3) (width : BitVec 4) (flit : Bool) (s : State),
    ready (.hostLinkChange h gen width flit) s = true ∧ (half s h).ep.perstHigh = true ∧ gen ≠ 0 :=
⟨.A, 4, 8, true, up, by decide +kernel, by decide +kernel, by decide +kernel⟩

theorem met_ManagementPortRowsComplete_0 : ∃ (s : State), ready .readCompletion s = true ∧ portServed s = true :=
⟨up, by decide +kernel, by decide +kernel⟩

theorem met_ManagementPortRowsComplete_1 : ∃ (s : State), ready .readEvent s = true ∧ portServed s = true ∧ s.mgmt.events =
    [] :=
⟨up, by decide +kernel, by decide +kernel, by decide +kernel⟩

theorem met_ManagementPortRowsComplete_2 : ∃ (s : State) (e : EventRec) (t : List EventRec), ready .readEvent s = true ∧
    portServed s = true ∧ s.mgmt.events = e :: t :=
⟨{ up with mgmt := { events := [{}] } }, _, _, by decide +kernel, by decide +kernel, rfl⟩

theorem met_ManagementPortRowsComplete_3 : ∃ (bytes : List Byte) (s : State), ready (.writeData bytes) s = true ∧ portServed
    s = true :=
⟨List.replicate 4096 0, up, by decide +kernel, by decide +kernel⟩

theorem met_ManagementPortRowsComplete_4 : ∃ (n : Nat) (s : State), ready (.readData n) s = true ∧ portServed s = true :=
⟨4096, up, by decide +kernel, by decide +kernel⟩

theorem met_ManagementPortRowsComplete_5 : ∃ (s : State) (st : Nat), ready .readStatus s = true ∧ portServed s = true ∧ st =
    (if s.mgmt.completion = none then 0 else 1) + (if s.mgmt.events = [] then 0 else 2) + (if s.mgmt.running = false ∧
    s.mgmt.completion = none then 0 else 4) + (if (half s (leadHalf s)).sys.bootRom = true then 0 else 8) :=
⟨up, _, by decide +kernel, by decide +kernel, rfl⟩

theorem met_ManagementPortRowsComplete_6 : ∃ (ws : List Word) (c : Cmd) (s : State), ready (.writeEntry ws) s = true ∧
    portServed s = true ∧ portBusy s = false ∧ c = { parseEntry (leadHalf s) 0 ws with port := true } ∧ opOfCode ((ws.getD 0
    0).toNat % 65536) = none :=
⟨List.replicate 16 0xFFFF, _, up, by decide +kernel, by decide +kernel, by decide +kernel, rfl, by decide +kernel⟩

theorem met_ManagementPortRowsComplete_7 : ∃ (ws : List Word) (c : Cmd) (s : State) (op : Op), ready (.writeEntry ws) s =
    true ∧ portServed s = true ∧ portBusy s = false ∧ c = { parseEntry (leadHalf s) 0 ws with port := true } ∧ opOfCode
    ((ws.getD 0 0).toNat % 65536) = some op ∧ firstErr (portChecks op c (ws.getD 0 0) (ws.getD 1 0) (half s (leadHalf
    s)).sys.bootRom) = none :=
⟨1 :: List.replicate 15 0, _, up, .devNop, by decide +kernel, by decide +kernel, by decide +kernel, rfl, by decide +kernel,
   by decide +kernel⟩

theorem met_MortarRowsComplete_0 : ∃ (h : Half) (s : State) (d : MortarDir) (f : _), ready (.mortarFlitSend h) s = true ∧
    mortarCarries s = true ∧ d = dirFrom s.mortar h ∧ 0 < d.replayLeft ∧ d.replayBuf[d.replayBuf.length - d.replayLeft]? =
    some f :=
⟨.A, mo { st := .replay, ab := { replayBuf := [{}], replayLeft := 1 } } up, _, {}, by decide +kernel, by decide +kernel,
   rfl, by decide +kernel, by decide +kernel⟩

theorem met_MortarRowsComplete_1 : ∃ (h : Half) (s : State) (d : MortarDir) (k : _) (d2 : _), ready (.mortarFlitSend h) s =
    true ∧ mortarCarries s = true ∧ d = dirFrom s.mortar h ∧ d.replayLeft = 0 ∧ d.replayBuf.length < 512 ∧ pickClass d =
    some (k, d2) :=
⟨.A, mo { st := .active, ab := { queue := Vector.replicate 6 [.aperWrite 0 []] } } up, _, _, _, by decide +kernel,
   by decide +kernel, rfl, by decide +kernel, by decide +kernel, rfl⟩

theorem met_MortarRowsComplete_2 : ∃ (h : Half) (ok : Bool) (s : State) (d : MortarDir) (f : Flit) (rest : List Flit), ready
    (.mortarFlitReceived h ok) s = true ∧ mortarCarries s = true ∧ d = dirFrom s.mortar (otherHalf h) ∧ d.wire = f :: rest ∧
    f.seq ≠ d.expSeq :=
⟨.A, true, mo { st := .active, ba := { wire := [{ seq := 4095 }] } } up, _, _, _, by decide +kernel, by decide +kernel, rfl,
   rfl, by decide +kernel⟩

theorem met_MortarRowsComplete_3 : ∃ (h : Half) (ok : Bool) (s : State) (d : MortarDir) (f : Flit) (rest : List Flit), ready
    (.mortarFlitReceived h ok) s = true ∧ mortarCarries s = true ∧ d = dirFrom s.mortar (otherHalf h) ∧ d.wire = f :: rest ∧
    f.seq = d.expSeq ∧ ok = true :=
⟨.A, true, mo { st := .active, ba := { wire := [{}] } } up, _, _, _, by decide +kernel, by decide +kernel, rfl, rfl,
   by decide +kernel, by decide +kernel⟩

theorem met_MortarRowsComplete_4 : ∃ (h : Half) (ok : Bool) (s : State) (d : MortarDir) (f : Flit) (rest : List Flit), ready
    (.mortarFlitReceived h ok) s = true ∧ mortarCarries s = true ∧ d = dirFrom s.mortar (otherHalf h) ∧ d.wire = f :: rest ∧
    f.seq = d.expSeq ∧ ok = false :=
⟨.A, false, mo { st := .active, ba := { wire := [{}], fails := 3 } } up, _, _, _, by decide +kernel, by decide +kernel, rfl,
   rfl, by decide +kernel, by decide +kernel⟩

theorem met_MortarRowsComplete_5 : ∃ (h : Half) (seq : BitVec 12) (s : State), ready (.mortarReplayRequest h seq) s = true ∧
    mortarCarries s = true :=
⟨.A, 4095, up, by decide +kernel, by decide +kernel⟩

theorem met_MortarRowsComplete_6 : ∃ (h : Half) (seq : BitVec 12) (s : State) (u : State), ready (.mortarFlitAck h seq) s =
    true ∧ mortarCarries s = true ∧ u = modMortarDir s h (fun d => { d with replayBuf := ackBuf d.replayBuf seq }) :=
⟨.A, 4095, up, _, by decide +kernel, by decide +kernel, rfl⟩

theorem met_MortarRowsComplete_7 : ∃ (h : Half) (s : State), ready (.mortarUnackTimeout h) s = true ∧ mortarCarries s = true
    ∧ (dirFrom s.mortar h).replayBuf ≠ [] :=
⟨.A, mo { st := .active, ab := { replayBuf := [{}] } } up, by decide +kernel, by decide +kernel, by decide +kernel⟩

theorem met_MortarRowsComplete_8 : ∃ (ok : Bool) (cy : Nat) (s : State) (u : State) (m : Mortar), ready
    (.mortarTrainingAttemptDone ok cy) s = true ∧ u = bootRomsRun s ∧ m = u.mortar ∧ (m.st = .retrain ∨ m.st = .training) :=
⟨true, 0, mo { st := .training } up, _, _, by decide +kernel, rfl, rfl, by decide +kernel⟩

theorem met_MortarRowsComplete_9 : ∃ (ok : Bool) (cy : Nat) (s : State) (u : State) (m : Mortar), ready
    (.mortarTrainingAttemptDone ok cy) s = true ∧ u = bootRomsRun s ∧ m = u.mortar ∧ m.st = .down ∧ m.attempting = true :=
⟨true, 0, mo { st := .down, attempting := true } up, _, _, by decide +kernel, rfl, rfl, by decide +kernel,
   by decide +kernel⟩

theorem met_MortarRowsComplete_10 : ∃ (s : State), ready .mortarBackoffExpiry s = true ∧ s.mortar.st = .down :=
⟨mo { st := .down } up, by decide +kernel, by decide +kernel⟩

theorem met_MortarRowsComplete_11 : ∃ (s : State), ready .mortarIdleEntry s = true ∧ s.mortar.st = .active ∧ dirIdle
    s.mortar.ab = true ∧ dirIdle s.mortar.ba = true ∧ domainChoice s .A 8 = 12 ∧ domainChoice s .B 8 = 12 :=
⟨{ up with a := { half1 with power := { budget := Vector.replicate 9 1 } }, b := { half1 with power := { budget := Vector.replicate 9 1 } } },
   by decide +kernel, by decide +kernel, by decide +kernel, by decide +kernel, by decide +kernel, by decide +kernel⟩

theorem met_MortarRowsComplete_12 : ∃ (h : Half) (a : Nat) (n : Nat) (s : State) (bs : List Byte) (p : Bool), ready
    (.aperRequestReceived h) s = true ∧ mortarHead s h 5 = some (.aperRead a n) ∧ dramRead s h a n = (bs, p) :=
⟨.A, 0, 4, rxA (.aperRead 0 4) up, _, _, by decide +kernel, by decide +kernel, rfl⟩

theorem met_MortarRowsComplete_13 : ∃ (h : Half) (a : Nat) (bs : List Byte) (s : State), ready (.aperRequestReceived h) s =
    true ∧ mortarHead s h 5 = some (.aperWrite a bs) :=
⟨.A, 0, [1], rxA (.aperWrite 0 [1]) up, by decide +kernel, by decide +kernel⟩

theorem met_CommandPathRowsComplete_0 : ∃ (h : Half) (n : Nat) (slots : Nat) (ws : List Word) (rest : List (Nat × List
    Word)) (s : State), ready (.entryReadDone h n) s = true ∧ (sqAt s h n).fetching = (slots, ws) :: rest ∧ inSwap s = false
    :=
⟨.A, 0, 1, List.replicate 16 0, [], sq0 { sizeLog2 := 4, enable := true, fetching := [(1, List.replicate 16 0)] } up,
   by decide +kernel, by decide +kernel, by decide +kernel⟩

theorem met_CommandPathRowsComplete_1 : ∃ (h : Half) (tag : BitVec 16) (f : Flight) (s : State), ready (.paramBlockReadDone
    h tag) s = true ∧ liveFlight s h tag = some f ∧ f.st = .readingBlock ∧ s.pair.fenced = false ∧ inSwap s = false :=
⟨.A, 0xFFFF, { cmd := { tag := 0xFFFF }, op := .devNop, st := .readingBlock },
   { up with flights := [{ cmd := { tag := 0xFFFF }, op := .devNop, st := .readingBlock }] }, by decide +kernel,
   by decide +kernel, by decide +kernel, by decide +kernel, by decide +kernel⟩

theorem met_CommandPathRowsComplete_2 : ∃ (h : Half) (k : Nat) (f : Flight) (s : State), ready (.commandStart h) s = true ∧
    (half s h).ident.cmdReady = true ∧ inSwap s = false ∧ s.pair.draining = false ∧ s.pair.fenced = false ∧ chooseRival s h
    = some (k, f) :=
⟨.A, 0, { cmd := {}, op := .devNop }, { up with flights := [{ cmd := {}, op := .devNop }] }, by decide +kernel,
   by decide +kernel, by decide +kernel, by decide +kernel, by decide +kernel, by decide +kernel⟩

theorem met_CommandPathRowsComplete_3 : ∃ (h : Half) (f : Flight) (s : State), ready (.forwardedCommandReceived h) s = true
    ∧ mortarHead s h 0 = some (.command f) :=
⟨.A, { cmd := {}, op := .devNop }, rxA (.command { cmd := {}, op := .devNop }) up, by decide +kernel, by decide +kernel⟩

theorem met_CommandPathRowsComplete_4 : ∃ (h : Half) (k : Half) (c : Completion) (s : State), ready
    (.forwardedReportReceived h) s = true ∧ mortarHead s h 0 = some (.completion k c) ∧ c.serial ≠ 0 :=
⟨.A, .A, { serial := 1 }, rxA (.completion .A { serial := 1 }) up, by decide +kernel, by decide +kernel, by decide +kernel⟩

theorem met_CommandPathRowsComplete_5 : ∃ (h : Half) (k : Half) (r : EffectReport) (s : State), ready
    (.forwardedReportReceived h) s = true ∧ mortarHead s h 0 = some (.effect k r) :=
⟨.A, .A, {}, rxA (.effect .A {}) up, by decide +kernel, by decide +kernel⟩

theorem met_CommandPathRowsComplete_6 : ∃ (h : Half) (s : State), ready (.peerCommandReady h) s = true ∧ (half s
    h).ident.cmdReady = true ∧ mortarUp s = true :=
⟨.A, up, by decide +kernel, by decide +kernel, by decide +kernel⟩

theorem met_IslandRowsComplete_0 : ∃ (h : Half) (i : IslandId) (s : State), ready (.islandWakeRequest h i) s = true ∧ wakes
    i = true ∧ asleep s h i = true ∧ (islandAt s h i).resetting = false ∧ shedIsland s h i = false ∧ (half s h).sys.inReset
    = false :=
⟨.A, .ashlar, il .ashlar { pstate := .gated } up, by decide +kernel, by decide +kernel, by decide +kernel,
   by decide +kernel, by decide +kernel, by decide +kernel⟩

theorem met_IslandRowsComplete_1 : ∃ (h : Half) (i : IslandId) (s : State), ready (.islandWakeDone h i) s = true ∧ (islandAt
    s h i).waking = true ∧ i ≠ .dram ∧ (islandAt s h i).pstate ≠ .off :=
⟨.A, .ashlar, il .ashlar { pstate := .gated, waking := true } up, by decide +kernel, by decide +kernel, by decide +kernel,
   by decide +kernel⟩

theorem met_IslandRowsComplete_2 : ∃ (h : Half) (i : IslandId) (s : State), ready (.islandWakeDone h i) s = true ∧ (islandAt
    s h i).waking = true ∧ i ≠ .dram ∧ (islandAt s h i).pstate = .off :=
⟨.A, .ashlar, il .ashlar { pstate := .off, waking := true } up, by decide +kernel, by decide +kernel, by decide +kernel,
   by decide +kernel⟩

theorem met_IslandRowsComplete_3 : ∃ (h : Half) (i : IslandId) (s : State), ready (.islandWakeDone h i) s = true ∧ (islandAt
    s h i).waking = true ∧ i = .dram ∧ (islandAt s h i).pstate ≠ .off :=
⟨.A, .dram, il .dram { pstate := .gated, waking := true } up, by decide +kernel, by decide +kernel, by decide +kernel,
   by decide +kernel⟩

theorem met_IslandRowsComplete_4 : ∃ (h : Half) (i : IslandId) (d : Nat) (c : Nat) (s : State), ready (.islandStateEntry h
    i) s = true ∧ (islandAt s h i).resetting = false ∧ (islandAt s h i).waking = false ∧ islandBusy s h i = false ∧
    shedIsland s h i = false ∧ (half s h).sys.inReset = false ∧ (∀ q, i ≠ .ingest q) ∧ i ≠ .dram ∧ islandDomain i = some d ∧
    c = domainChoice s h d ∧ pstateCode (islandAt s h i).pstate < c :=
⟨.A, .ashlar, _, _, { up with a := { half1 with power := { budget := Vector.replicate 9 5000 } } }, by decide +kernel,
   by decide +kernel, by decide +kernel, by decide +kernel, by decide +kernel, by decide +kernel, (fun q h => by cases h),
   by decide +kernel, rfl, rfl, by decide +kernel⟩

theorem met_IslandRowsComplete_5 : ∃ (h : Half) (q : Nat) (s : State), ready (.islandStateEntry h (.ingest q)) s = true ∧
    (islandAt s h (.ingest q)).resetting = false ∧ (islandAt s h (.ingest q)).waking = false ∧ islandBusy s h (.ingest q) =
    false ∧ shedIsland s h (.ingest q) = false ∧ (half s h).sys.inReset = false ∧ (∀ n ∈ quadLinks s h q, (linkAt s n).st =
    .disabled) :=
⟨.A, 11, up, by decide +kernel, by decide +kernel, by decide +kernel, by decide +kernel, by decide +kernel,
   by decide +kernel, by decide +kernel⟩

theorem met_IslandRowsComplete_6 : ∃ (h : Half) (s : State), ready (.islandStateEntry h .dram) s = true ∧ (islandAt s h
    .dram).resetting = false ∧ (islandAt s h .dram).waking = false ∧ islandBusy s h .dram = false ∧ shedIsland s h .dram =
    false ∧ (half s h).sys.inReset = false ∧ (half s h).mem.pstate.toNat < dramChoice s h ∧ (half s h).mem.freq = none :=
⟨.A, { up with a := { half1 with power := { budget := Vector.replicate 9 5000 } } }, by decide +kernel, by decide +kernel,
   by decide +kernel, by decide +kernel, by decide +kernel, by decide +kernel, by decide +kernel, by decide +kernel⟩

theorem met_IslandRowsComplete_7 : ∃ (h : Half) (i : IslandId) (s : State), ready (.islandFault h i) s = true ∧ (i =
    .keystone ∨ i = .fabric) :=
⟨.A, .keystone, up, by decide +kernel, by decide +kernel⟩

theorem met_IslandRowsComplete_8 : ∃ (h : Half) (i : IslandId) (s : State), ready (.islandFault h i) s = true ∧ i = .pcie :=
⟨.A, .pcie, up, by decide +kernel, by decide +kernel⟩

theorem met_IslandRowsComplete_9 : ∃ (h : Half) (i : IslandId) (s : State), ready (.islandFault h i) s = true ∧ (i = .dram ∨
    i = .ashlar ∨ i = .pipeline ∨ i = .vcu ∨ i = .viewfinder ∨ i = .audio ∨ (∃ q, i = .ingest q)) :=
⟨.A, .ingest 11, up, by decide +kernel, (Or.inr (Or.inr (Or.inr (Or.inr (Or.inr (Or.inr ⟨11, rfl⟩))))))⟩

theorem met_IslandRowsComplete_10 : ∃ (h : Half) (i : IslandId) (cycles : Nat) (code : Nat) (q : Nat) (s : State) (u :
    State), ready (.islandResetDone h i cycles) s = true ∧ (islandAt s h i).resetting = true ∧ islandCode i = some (code, q)
    ∧ u = resetWork (modIsland s h i fun _ => {}) h cycles i :=
⟨.A, .ashlar, 5, _, _, il .ashlar { resetting := true } up, _, by decide +kernel, by decide +kernel, rfl, rfl⟩

theorem met_IslandRowsComplete_11 : ∃ (h : Half) (s : State), ready (.slotPointerAdvance h) s = true ∧ islandRuns s h
    .pipeline = true :=
⟨.A, up, by decide +kernel, by decide +kernel⟩

theorem met_TriggerRowsComplete_0 : ∃ (h : Half) (b : Nat) (rising : Bool) (s : State) (u : State), ready (.trigInEdge h b
    rising) s = true ∧ u = modDev s (fun d =>
    { d with trigIn := if rising then d.trigIn ||| BitVec.ofNat 4 (2 ^ b) else d.trigIn &&& ~~~(BitVec.ofNat 4 (2 ^ b)) })
    :=
⟨.A, 3, true, up, _, by decide +kernel, rfl⟩

theorem met_TriggerRowsComplete_1 : ∃ (h : Half) (t : TriggerT) (s : State), ready (.triggerTReceived h) s = true ∧
    mortarHead s h 0 = some (.trigger t) :=
⟨.A, {}, rxA (.trigger {}) up, by decide +kernel, by decide +kernel⟩

theorem met_TriggerRowsComplete_2 : ∃ (k : Nat) (s : State) (u : State), ready (.triggerHoldoffEnd k) s = true ∧ (ruleAt s
    k).holdLeft = 1 ∧ u = modRule s k (fun r => { r with holdLeft := 0, suppressed := 0 }) :=
⟨15, { up with rules := tset up.rules 15 { holdLeft := 1 } }, _, by decide +kernel, by decide +kernel, rfl⟩

theorem met_TriggerRowsComplete_3 : ∃ (b : Nat) (s : State), ready (.trigOutPulseEnd b) s = true :=
⟨3, up, by decide +kernel⟩

/-- Device lane 0. -/
def la0 (x : Lane) (s : State) : State := { s with lanes := tset s.lanes 0 x }

/-- The mode of lane quad 0. -/
def qd0 (m : BitVec 2) (s : State) : State := { s with quads := tset s.quads 0 m }

/-- An eye. -/
def eye (c : BitVec 4) (w h : BitVec 8) : EyeResult := { code := c, w, h }

theorem met_LinkRowsComplete_0 : ∃ (n : Nat) (s : State), ready (.signalEnergyDetected n) s = true ∧ (linkAt s n).st =
    .detect ∧ isCsi s (linkAt s n) = false :=
⟨0, ln0 { st := .detect } up, by decide +kernel, by decide +kernel, by decide +kernel⟩

theorem met_LinkRowsComplete_1 : ∃ (n : Nat) (s : State), ready (.signalEnergyDetected n) s = true ∧ (linkAt s n).st =
    .silent :=
⟨31, { up with links := tset up.links 31 { st := .silent } }, by decide +kernel, by decide +kernel⟩

theorem met_LinkRowsComplete_2 : ∃ (n : Nat) (s : State), ready (.signalEnergyDetected n) s = true ∧ (linkAt s n).st = .idle
    ∧ linkMode s (linkAt s n) = 2 :=
⟨0, qd0 2 (ln0 { st := .idle } up), by decide +kernel, by decide +kernel, by decide +kernel⟩

theorem met_LinkRowsComplete_3 : ∃ (n : Nat) (s : State), ready (.signalEnergyLost n) s = true ∧ ((linkAt s n).st = .cap ∨
    (linkAt s n).st = .train) :=
⟨0, ln0 { st := .train } up, by decide +kernel, by decide +kernel⟩

theorem met_LinkRowsComplete_4 : ∃ (lane : Nat) (n : Nat) (p : BitVec 56) (s : State) (u : State), ready (.capBlock lane p)
    s = true ∧ linkOf s lane = some n ∧ (linkAt s n).st = .cap ∧ u = modLane s lane (fun x =>
    { x with capRun := if x.capBits = p ∧ 0 < x.capRun then x.capRun + 1 else 1, capBits := p }) :=
⟨0, 0, 7, la0 { capBits := 7, capRun := 1 } (ln0 { st := .cap, lanes := [0] } up), _, by decide +kernel, by decide +kernel,
   by decide +kernel, rfl⟩

theorem met_LinkRowsComplete_5 : ∃ (n : Nat) (s : State), ready (.applied n) s = true :=
⟨0, ln0 { st := .train, awaitApplied := true } up, by decide +kernel⟩

theorem met_LinkRowsComplete_6 : ∃ (lane : Nat) (n : Nat) (sweep : List EyeResult) (s : State) (e : _), ready
    (.lockStageDone lane sweep) s = true ∧ linkOf s lane = some n ∧ inStage (linkAt s n) = true ∧ lane ∈ devs (linkAt s n) ∧
    (laneAt s lane).lstate ≠ .down ∧ bestEye (((linkAt s n).cap.map (·.eqHint)).getD 0) sweep = some e :=
⟨0, 0, [eye 3 10 10, eye 4 12 12], ln0 { st := .train, lanes := [0], sensor := { txMode := 2 } } up, _, by decide +kernel,
   by decide +kernel, by decide +kernel, by decide +kernel, by decide +kernel, rfl⟩

theorem met_LinkRowsComplete_7 : ∃ (lane : Nat) (n : Nat) (sweep : List EyeResult) (s : State), ready (.lockStageDone lane
    sweep) s = true ∧ linkOf s lane = some n ∧ inStage (linkAt s n) = true ∧ lane ∈ devs (linkAt s n) ∧ (laneAt s
    lane).lstate ≠ .down ∧ bestEye (((linkAt s n).cap.map (·.eqHint)).getD 0) sweep = none :=
⟨0, 0, [eye 3 0 10], ln0 { st := .train, lanes := [0], sensor := { txMode := 2 } } up, by decide +kernel, by decide +kernel,
   by decide +kernel, by decide +kernel, by decide +kernel, by decide +kernel⟩

theorem met_LinkRowsComplete_8 : ∃ (lane : Nat) (n : Nat) (s : State), ready (.lockStageTimeout lane) s = true ∧ linkOf s
    lane = some n ∧ inStage (linkAt s n) = true ∧ lane ∈ devs (linkAt s n) ∧ (laneAt s lane).lstate ≠ .down :=
⟨0, 0, ln0 { st := .train, lanes := [0], sensor := { txMode := 2 } } up, by decide +kernel, by decide +kernel,
   by decide +kernel, by decide +kernel, by decide +kernel⟩

theorem met_LinkRowsComplete_9 : ∃ (n : Nat) (cycles : Nat) (errs : List Nat) (s : State) (u : State), ready (.prbsStageDone
    n errs cycles) s = true ∧ inStage (linkAt s n) = true ∧ (∀ d ∈ devs (linkAt s n), (laneAt s d).lstate = .down ∨ (laneAt
    s d).stageLocked = true) ∧ (∀ i, errs.getD i 0 = 0) ∧ u = modLink ((devs (linkAt s n)).foldl (fun s d => modLane s d fun
    x => { x with prbsErr := 0, prbsResult := some 0 }) s) n (fun l => { l with trainCycles := BitVec.ofNat 32 cycles }) :=
⟨0, 1000, [], la0 { stageLocked := true } (ln0 { st := .train, lanes := [0], sensor := { txMode := 2 } } up), _,
   by decide +kernel, by decide +kernel, by decide +kernel, fun i => by simp, rfl⟩

theorem met_LinkRowsComplete_10 : ∃ (n : Nat) (s : State), ready (.capRoundTimeout n) s = true ∧ isCsi s (linkAt s n) =
    false ∧ ((linkAt s n).st = .detect ∨ (linkAt s n).st = .cap) :=
⟨0, ln0 { st := .cap } up, by decide +kernel, by decide +kernel, by decide +kernel⟩

theorem met_LinkRowsComplete_11 : ∃ (n : Nat) (s : State), ready (.linkBackoffExpiry n) s = true ∧ (linkAt s n).st =
    .backoff :=
⟨0, ln0 { st := .backoff } up, by decide +kernel, by decide +kernel⟩

theorem met_LinkRowsComplete_12 : ∃ (lane : Nat) (n : Nat) (hdr : BitVec 2) (p : BitVec 64) (s : State) (y : Lane), ready
    (.pslBlock lane hdr p) s = true ∧ linkOf s lane = some n ∧ y = laneBlock (laneAt s lane) hdr p :=
⟨0, 0, 2, 0x1E, la0 { locked := true } (ln0 { st := .active, lanes := [0] } up), _, by decide +kernel, by decide +kernel,
   rfl⟩

theorem met_LinkRowsComplete_13 : ∃ (n : Nat) (blocks : List AlignBlock) (s : State), ready (.align n blocks) s = true :=
⟨0, [{ lane := 0, marker := 0xFFFF, skew := 7 }], la0 { locked := true } (ln0 { st := .active, lanes := [0] } up),
   by decide +kernel⟩

theorem met_LinkRowsComplete_14 : ∃ (n : Nat) (s : State), ready (.eidle n) s = true ∧ (linkAt s n).st = .active ∧ (linkAt s
    n).sensor.idleAllow = true ∧ frameOpen s n = false :=
⟨0, ln0 { st := .active, sensor := { idleAllow := true } } up, by decide +kernel, by decide +kernel, by decide +kernel,
   by decide +kernel⟩

theorem met_LinkRowsComplete_15 : ∃ (n : Nat) (ls : List Nat) (s : State), ready (.train n) s = true ∧ (linkAt s n).st =
    .active ∧ (linkAt s n).pendingRetrain = some (2, ls) ∧ frameOpen s n = false :=
⟨0, [0], ln0 { st := .active, pendingRetrain := some (2, [0]) } up, by decide +kernel, by decide +kernel, by decide +kernel,
   by decide +kernel⟩

theorem met_LinkRowsComplete_16 : ∃ (n : Nat) (ls : List Nat) (s : State), ready (.train n) s = true ∧ (linkAt s n).st =
    .exit ∧ (linkAt s n).pendingRetrain = some (3, ls) :=
⟨0, [0], ln0 { st := .exit, pendingRetrain := some (3, [0]) } up, by decide +kernel, by decide +kernel, by decide +kernel⟩

theorem met_LinkRowsComplete_17 : ∃ (n : Nat) (cycles : Nat) (sweeps : List (List EyeResult)) (s : State), ready
    (.linkRetrainDone n sweeps cycles) s = true ∧ (linkAt s n).st = .retrain :=
⟨0, 100, [[eye 3 10 10]], ln0 { st := .retrain, lanes := [0], retraining := some (2, [0]) } up, by decide +kernel,
   by decide +kernel⟩

theorem met_LinkRowsComplete_18 : ∃ (n : Nat) (s : State), ready (.activeSignalLoss n) s = true ∧ (linkAt s n).st = .active
    :=
⟨0, ln0 { st := .active } up, by decide +kernel, by decide +kernel⟩

theorem met_LinkRowsComplete_19 : ∃ (lane : Nat) (n : Nat) (density : Nat) (b : EyeResult) (m : EyeResult) (a : EyeResult)
    (s : State), ready (.eqTrackEval lane b m a density) s = true ∧ linkOf s lane = some n ∧ (linkAt s n).st = .active ∧
    (linkAt s n).policy.trackOff = false ∧ (laneAt s lane).eqForced = false ∧ linkMode s (linkAt s n) ≠ 3 ∧ (density < 30 ∨
    1024 < (laneAt s lane).idleRun) :=
⟨0, 0, 29, {}, {}, {}, ln0 { st := .active, lanes := [0] } up, by decide +kernel, by decide +kernel, by decide +kernel,
   by decide +kernel, by decide +kernel, by decide +kernel, by decide +kernel⟩

theorem met_LinkRowsComplete_20 : ∃ (lane : Nat) (n : Nat) (density : Nat) (b : EyeResult) (m : EyeResult) (a : EyeResult)
    (s : State) (c : _), ready (.eqTrackEval lane b m a density) s = true ∧ linkOf s lane = some n ∧ (linkAt s n).st =
    .active ∧ (linkAt s n).policy.trackOff = false ∧ (laneAt s lane).eqForced = false ∧ linkMode s (linkAt s n) ≠ 3 ∧ 30 ≤
    density ∧ (laneAt s lane).idleRun ≤ 1024 ∧ trackMove b m a = some c ∧ codeDist c (laneAt s lane).eqTrained ≤ 2 :=
⟨0, 0, 30, eye 3 1 1, eye 4 8 8, eye 5 8 9, la0 { eqTrained := 4 } (ln0 { st := .active, lanes := [0] } up), _,
   by decide +kernel, by decide +kernel, by decide +kernel, by decide +kernel, by decide +kernel, by decide +kernel,
   by decide +kernel, by decide +kernel, rfl, by decide +kernel⟩

theorem met_LinkRowsComplete_21 : ∃ (n : Nat) (done : Bool) (r : Remap) (s : State), ready (.remapDoneRead n done) s = true
    ∧ (linkAt s n).remap = some r ∧ r.applied = true ∧ r.restore = false ∧ done = true :=
⟨0, _, _, ln0 { st := .active, remap := some { logical := 0, oldLane := 0, newLane := 8, applied := true } } up,
   by decide +kernel, rfl, by decide +kernel, by decide +kernel, rfl⟩

theorem met_LinkRowsComplete_22 : ∃ (n : Nat) (done : Bool) (r : Remap) (s : State), ready (.remapDoneRead n done) s = true
    ∧ (linkAt s n).remap = some r ∧ r.applied = true ∧ r.restore = false ∧ done = false :=
⟨0, _, _, ln0 { st := .active, remap := some { logical := 0, oldLane := 0, newLane := 8, applied := true } } up,
   by decide +kernel, rfl, by decide +kernel, by decide +kernel, rfl⟩

theorem met_LinkRowsComplete_23 : ∃ (n : Nat) (sweep : List EyeResult) (s : State), ready (.spareRetrainDone n sweep) s =
    true :=
⟨0, [eye 3 10 10], ln0 { st := .active, background := some 8 } up, by decide +kernel⟩

theorem met_LinkRowsComplete_24 : ∃ (n : Nat) (s : State), ready (.csi2ClockLp11 n) s = true ∧ isCsi s (linkAt s n) = true ∧
    (linkAt s n).st = .detect :=
⟨0, qd0 3 (ln0 { st := .detect } up), by decide +kernel, by decide +kernel, by decide +kernel⟩

theorem met_LinkRowsComplete_25 : ∃ (n : Nat) (s : State), ready (.skewCalibration n) s = true ∧ isCsi s (linkAt s n) = true
    :=
⟨0, qd0 3 (ln0 { st := .train } up), by decide +kernel, by decide +kernel⟩

theorem met_LinkRowsComplete_26 : ∃ (n : Nat) (k : Nat) (c : Cmd) (errs : List Nat) (s : State), ready (.prbsCheckDone n
    errs) s = true ∧ (linkAt s n).prbsCheck = some (c, k) :=
⟨0, 8, {}, [0], ln0 { st := .active, prbsCheck := some ({}, 8) } up, by decide +kernel, by decide +kernel⟩

/-- A packet block with its HCRC. -/
def blk (b : BitVec 64) : BitVec 64 := b ||| ((hcrc b).setWidth 64 <<< 56)

/-- Half A with this pipeline. -/
def pipeA (p : Pipe) : State := { up with a := { half1 with pipe := p } }

/-- Half A with this Ashlar unit. -/
def ashA (p : Ashlar) : State := { up with a := { half1 with ash := p } }

/-- Session 0. -/
def se0 (x : Session) (s : State) : State := { s with sessions := tset s.sessions 0 x }

/-- A stream of 64 x 1 pixels that takes frames. -/
def cfg1 : Stream := { cfg := some { width := 64, height := 1 }, st := .capturing }

/-- A read that meets no poison. -/
theorem read_clean {s : State} {h : Half} {a n : Nat} (e : (dramRead s h a n).2 = false) :
    dramRead s h a n = ((dramRead s h a n).1, false) := Prod.ext rfl e

theorem met_IngestRowsComplete_0 : ∃ (link : Nat) (n : Nat) (vc : BitVec 4) (dt : BitVec 6) (v : BitVec 16) (period : Nat)
    (s : State) (u : State), ready (.csi2ShortPacket link vc dt v period) s = true ∧ isCsi s (linkAt s link) = true ∧ u =
    csiPacket s link ∧ delivers u link = true ∧ boundStream u link vc = some n ∧ (streamAt u n).cfg ≠ none ∧ dt = 0 :=
⟨0, 0, 0, 0, 1, 5, qd0 3 (st0 cfg1 (ln0 { st := .active } up)), _, by decide +kernel, by decide +kernel, rfl,
   by decide +kernel, by decide +kernel, by decide +kernel, by decide +kernel⟩

theorem met_IngestRowsComplete_1 : ∃ (link : Nat) (n : Nat) (vc : BitVec 4) (dt : BitVec 6) (v : BitVec 16) (period : Nat)
    (s : State) (u : State), ready (.csi2ShortPacket link vc dt v period) s = true ∧ isCsi s (linkAt s link) = true ∧ u =
    csiPacket s link ∧ delivers u link = true ∧ boundStream u link vc = some n ∧ (streamAt u n).cfg ≠ none ∧ dt = 1 :=
⟨0, 0, 0, 1, 1, 5, qd0 3 (st0 cfg1 (ln0 { st := .active } up)), _, by decide +kernel, by decide +kernel, rfl,
   by decide +kernel, by decide +kernel, by decide +kernel, by decide +kernel⟩

theorem met_IngestRowsComplete_2 : ∃ (link : Nat) (n : Nat) (vc : BitVec 4) (dt : BitVec 6) (v : BitVec 16) (period : Nat)
    (s : State) (u : State), ready (.csi2ShortPacket link vc dt v period) s = true ∧ isCsi s (linkAt s link) = true ∧ u =
    csiPacket s link ∧ delivers u link = true ∧ boundStream u link vc = some n ∧ (streamAt u n).cfg ≠ none ∧ dt = 2 :=
⟨0, 0, 0, 2, 1, 5, qd0 3 (st0 cfg1 (ln0 { st := .active } up)), _, by decide +kernel, by decide +kernel, rfl,
   by decide +kernel, by decide +kernel, by decide +kernel, by decide +kernel⟩

theorem met_IngestRowsComplete_3 : ∃ (link : Nat) (n : Nat) (vc : BitVec 4) (dt : BitVec 6) (bs : List Byte) (ok : Bool) (s
    : State) (u : State), ready (.csi2LongPacket link vc dt bs ok) s = true ∧ isCsi s (linkAt s link) = true ∧ u = csiPacket
    s link ∧ delivers u link = true ∧ boundStream u link vc = some n ∧ (streamAt u n).cfg ≠ none :=
⟨0, 0, 0, 0x2A, [1, 2], true, qd0 3 (st0 cfg1 (ln0 { st := .active } up)), _, by decide +kernel, by decide +kernel, rfl,
   by decide +kernel, by decide +kernel, by decide +kernel⟩

theorem met_IngestRowsComplete_4 : ∃ (link : Nat) (period : Nat) (b : BitVec 64) (s : State), delivers s link = true ∧
    hcrcOk b = false ∧ ready (.frameStart link b period) s = true :=
⟨0, 0, 1, ln0 { st := .active } up, by decide +kernel, by decide +kernel, by decide +kernel⟩

theorem met_IngestRowsComplete_5 : ∃ (link : Nat) (period : Nat) (b : BitVec 64) (s : State), delivers s link = true ∧
    hcrcOk b = false ∧ ready (.lineHeader link b) s = true :=
⟨0, 0, 1, ln0 { st := .active } up, by decide +kernel, by decide +kernel, by decide +kernel⟩

theorem met_IngestRowsComplete_6 : ∃ (link : Nat) (period : Nat) (b : BitVec 64) (s : State), delivers s link = true ∧
    hcrcOk b = false ∧ ready (.frameEnd link b period) s = true :=
⟨0, 0, 1, ln0 { st := .active } up, by decide +kernel, by decide +kernel, by decide +kernel⟩

theorem met_IngestRowsComplete_7 : ∃ (link : Nat) (n : Nat) (period : Nat) (b : BitVec 64) (s : State) (u : State), delivers
    s link = true ∧ hcrcOk b = true ∧ u = breakPacket s link ∧ boundStream u link (blockSid b) = some n ∧ (streamAt u n).cfg
    ≠ none ∧ ready (.frameStart link b period) s = true :=
⟨0, 0, 0, blk 0x80, st0 cfg1 (ln0 { st := .active } up), _, by decide +kernel, by decide +kernel, rfl, by decide +kernel,
   by decide +kernel, by decide +kernel⟩

theorem met_IngestRowsComplete_8 : ∃ (link : Nat) (n : Nat) (period : Nat) (b : BitVec 64) (s : State) (u : State), delivers
    s link = true ∧ hcrcOk b = true ∧ u = breakPacket s link ∧ boundStream u link (blockSid b) = some n ∧ (streamAt u n).cfg
    ≠ none ∧ ready (.lineHeader link b) s = true :=
⟨0, 0, 0, blk 0x40000000087, st0 cfg1 (ln0 { st := .active } up), _, by decide +kernel, by decide +kernel, rfl,
   by decide +kernel, by decide +kernel, by decide +kernel⟩

theorem met_IngestRowsComplete_9 : ∃ (link : Nat) (n : Nat) (period : Nat) (b : BitVec 64) (s : State) (u : State), delivers
    s link = true ∧ hcrcOk b = true ∧ u = breakPacket s link ∧ boundStream u link (blockSid b) = some n ∧ (streamAt u n).cfg
    ≠ none ∧ ready (.frameEnd link b period) s = true :=
⟨0, 0, 0, blk 0x99, st0 cfg1 (ln0 { st := .active } up), _, by decide +kernel, by decide +kernel, rfl, by decide +kernel,
   by decide +kernel, by decide +kernel⟩

theorem met_IngestRowsComplete_10 : ∃ (link : Nat) (period : Nat) (b : BitVec 64) (s : State), ready (.frameStart link b
    period) s = true ∧ delivers s link = true ∧ hcrcOk b = true ∧ boundStream (breakPacket s link) link (blockSid b) = none
    :=
⟨0, 0, blk 0x180, st0 cfg1 (ln0 { st := .active } up), by decide +kernel, by decide +kernel, by decide +kernel,
   by decide +kernel⟩

theorem met_IngestRowsComplete_11 : ∃ (link : Nat) (w : BitVec 64) (s : State), ready (.pslDataBlock link w) s = true ∧
    delivers s link = true :=
⟨0, 7, ln0 { st := .active } up, by decide +kernel, by decide +kernel⟩

theorem met_IngestRowsComplete_12 : ∃ (link : Nat) (b : BitVec 64) (p : LinePkt) (s : State), ready (.lineCrc link b) s =
    true ∧ delivers s link = true ∧ (tget s.rx link).pkt = some p ∧ hcrcOk b = true ∧ crc32c p.data = BitVec.ofNat 32
    (b.toNat / 2 ^ 16) :=
⟨0, blk (0xFFFFFFFF <<< 16 &&& 0), _, { ln0 { st := .active } up with rx := tset up.rx 0 { pkt := some {} } },
   by decide +kernel, by decide +kernel, rfl, by decide +kernel, by decide +kernel⟩

theorem met_IngestRowsComplete_13 : ∃ (link : Nat) (b : BitVec 64) (p : LinePkt) (s : State), ready (.lineCrc link b) s =
    true ∧ delivers s link = true ∧ (tget s.rx link).pkt = some p ∧ hcrcOk b = true ∧ crc32c p.data ≠ BitVec.ofNat 32
    (b.toNat / 2 ^ 16) :=
⟨0, blk (1 <<< 16), _, { ln0 { st := .active } up with rx := tset up.rx 0 { pkt := some {} } }, by decide +kernel,
   by decide +kernel, rfl, by decide +kernel, by decide +kernel⟩

theorem met_IngestRowsComplete_14 : ∃ (n : Nat) (period : Nat) (s : State), ready (.lineGapWatchdogExpiry n period) s = true
    :=
⟨0, 9, st0 cfg1 up, by decide +kernel⟩

theorem met_IngestRowsComplete_15 : ∃ (n : Nat) (w : WFrame) (rest : List WFrame) (s : State) (u : State), ready
    (.frameCloseWrite n) s = true ∧ (streamAt s n).writing = w :: rest ∧ w.closed = true ∧ blockCount w.cfg.width
    w.cfg.height ≤ w.nextBlock ∧ (s.pair.role = 2 → w.given ≠ none) ∧ (islandAt s (ringOf s n).half .dram).resetting = false
    ∧ u = storeFrame s n w :=
⟨0, _, _, st0
   { cfg1 with writing := [{ closed := true, cfg := { width := 64, height := 1 }, nextBlock := 1 }], ring := some {} } up,
   _, by decide +kernel, rfl, by decide +kernel, by decide +kernel, by decide +kernel, by decide +kernel, rfl⟩

theorem met_IngestRowsComplete_16 : ∃ (n : Nat) (s : State) (p : Reporting), ready (.qryProgress n) s = true ∧ p = (streamAt
    s n).reporting ∧ p.report ≠ 0 ∧ p.perFrame = false ∧ 2 ^ p.progressLog2 ≤ p.sinceReport :=
⟨0, st0 { cfg1 with reporting := { report := 1, sinceReport := 65536 } } up, _, by decide +kernel, rfl, by decide +kernel,
   by decide +kernel, by decide +kernel⟩

theorem met_IngestRowsComplete_17 : ∃ (h : Half) (tag : BitVec 16) (rd : QryRead) (s : State), ready (.qryReadRecordCopied h
    tag) s = true ∧ s.reads.find? (fun x => decide (x.cmd.recv = h ∧ x.cmd.tag = tag)) = some rd :=
⟨.A, 3, _, { up with reads := [{ cmd := { tag := 3 } }] }, by decide +kernel, rfl⟩

theorem met_AshlarRowsComplete_0 : ∃ (h : Half) (e : Nat) (b : BlockJob) (t : List BlockJob) (s : State), ready
    (.encoderTakeBlock h) s = true ∧ islandRuns s h .ashlar = true ∧ idleEnc (half s h).ash = some e ∧ (half s
    h).ash.waiting = b :: t :=
⟨.A, 0, _, _, ashA { waiting := [{}] }, by decide +kernel, by decide +kernel, by decide +kernel, rfl⟩

theorem met_AshlarRowsComplete_1 : ∃ (h : Half) (e : Nat) (k : Nat) (j : EncJob) (s : State), ready (.encoderTakeBlock h) s
    = true ∧ islandRuns s h .ashlar = true ∧ idleEnc (half s h).ash = some e ∧ (half s h).ash.waiting = [] ∧ encPick (half s
    h).ash = some k ∧ tget (half s h).ash.jobs k = some j :=
⟨.A, 0, 0, _, ashA { jobs := tset (Vector.replicate 64 none) 0 (some { cmd := some {}, width := 64, height := 1 }) },
   by decide +kernel, by decide +kernel, by decide +kernel, by decide +kernel, by decide +kernel, rfl⟩

theorem met_AshlarRowsComplete_2 : ∃ (h : Half) (e : Nat) (n : Nat) (b : BlockJob) (s : State) (u : State) (bs : _), ready
    (.blockEncoded h e) s = true ∧ islandRuns s h .ashlar = true ∧ tget (half s h).ash.enc e = some b ∧ b.stream = some n ∧
    u = modAsh s h (fun a => { a with enc := tset a.enc e none, encBlocks := a.encBlocks + 1 }) ∧ encodeBlock b.depth b.err
    b.w b.h b.px = some bs :=
⟨.A, 0, 0, _, ashA
   { enc := tset (Vector.replicate 12 none) 0 (some { stream := some 0, w := 8, h := 8, px := List.replicate 64 7 }) }, _,
   (encodeBlock 0 0 8 8 (List.replicate 64 7)).getD [], by decide +kernel, by decide +kernel, rfl, by decide +kernel, rfl,
   by decide +kernel⟩

theorem met_AshlarRowsComplete_3 : ∃ (h : Half) (e : Nat) (n : Nat) (b : BlockJob) (s : State) (u : State), ready
    (.blockEncoded h e) s = true ∧ islandRuns s h .ashlar = true ∧ tget (half s h).ash.enc e = some b ∧ b.stream = some n ∧
    u = modAsh s h (fun a => { a with enc := tset a.enc e none, encBlocks := a.encBlocks + 1 }) ∧ encodeBlock b.depth b.err
    b.w b.h b.px = none :=
⟨.A, 0, 0, _, ashA { enc := tset (Vector.replicate 12 none) 0 (some { stream := some 0, w := 1, h := 1, px := [7] }) }, _,
   by decide +kernel, by decide +kernel, rfl, by decide +kernel, rfl, by decide +kernel⟩

theorem met_AshlarRowsComplete_4 : ∃ (h : Half) (e : Nat) (t : DecTask) (rest : List DecTask) (s : State), ready
    (.decoderTakeBlock h) s = true ∧ islandRuns s h .ashlar = true ∧ idleDec (half s h).ash = some e ∧ (half s
    h).ash.pipeWaiting = t :: rest :=
⟨.A, 0, _, _, ashA { pipeWaiting := [.pipe 0 0 0 0] }, by decide +kernel, by decide +kernel, by decide +kernel, rfl⟩

theorem met_AshlarRowsComplete_5 : ∃ (h : Half) (e : Nat) (s : State) (u : State) (n : _) (f : _) (stream : _) (block : _),
    islandRuns s h .ashlar = true ∧ u = modAsh s h (fun a => { a with dec := tset a.dec e none }) ∧ ready (.blockDecoded h
    e) s = true ∧ tget (half s h).ash.dec e = some (.pipe n f stream block) :=
⟨.A, 0, ashA { dec := tset (Vector.replicate 4 none) 0 (some (.pipe 0 0 0 0)) }, _, 0, 0, 0, 0, by decide +kernel, rfl,
   by decide +kernel, by decide +kernel⟩

theorem met_AshlarRowsComplete_6 : ∃ (h : Half) (e : Nat) (s : State) (u : State) (recv : _) (tag : _) (i : _), islandRuns s
    h .ashlar = true ∧ u = modAsh s h (fun a => { a with dec := tset a.dec e none }) ∧ ready (.blockDecoded h e) s = true ∧
    tget (half s h).ash.dec e = some (.job recv tag i) :=
⟨.A, 0, ashA { dec := tset (Vector.replicate 4 none) 0 (some (.job .A 1 0)) }, _, .A, 1, 0, by decide +kernel, rfl,
   by decide +kernel, by decide +kernel⟩

theorem met_PipelineRowsComplete_0 : ∃ (h : Half) (s : State) (u1 : State) (u2 : State) (u : State), ready (.unitAdmit h) s
    = true ∧ (half s h).pipe.running = none ∧ islandRuns s h .pipeline = true ∧ u1 = (List.range 32).foldl (fun w n => if
    ctxIn (ctxAt w n) h && takesFrames (ctxAt w n) then skipLost w n h 65536 else w) s ∧ u2 = (if u1.pair.gating then
    (List.range 32).foldl (fun w n => passOver w n h) u1 else u1) ∧ u = (List.range 32).foldl (fun w n => starve w n h) u2
    :=
⟨.A, up, _, _, _, by decide +kernel, by decide +kernel, by decide +kernel, rfl, rfl, rfl⟩

theorem met_PipelineRowsComplete_1 : ∃ (h : Half) (x : RunUnit) (r : CtxFrame) (s : State) (u : State), ready (.unitFinish
    h) s = true ∧ (half s h).pipe.running = some x ∧ frameOf (ctxAt s x.ctx) h x.f = some r ∧ islandRuns s h .pipeline =
    true ∧ unitDone s h (ctxAt s x.ctx) r x = true ∧ u = modFrame (modPipe s h fun p => { p with running := none }) x.ctx h
    x.f (fun r => { r with unitsDone := x.k + 1, rowsDone := 0 }) :=
⟨.A, _, _, cx0 { st := .running, ha := { frames := [{}] }, latched := [(0, {})] } (pipeA { running := some {} }), _,
   by decide +kernel, rfl, rfl, by decide +kernel, by decide +kernel, rfl⟩

theorem met_PipelineRowsComplete_2 : ∃ (h : Half) (x : RunUnit) (s : State), ready (.unitRowProcessed h) s = true ∧ (half s
    h).pipe.running = some x :=
⟨.A, _, pipeA { running := some {} }, by decide +kernel, rfl⟩

theorem met_PipelineRowsComplete_3 : ∃ (h : Half) (n : Nat) (f : Count64) (row : Nat) (px : List (BitVec 16)) (s : State),
    ready (.seamBandRowReceived h) s = true ∧ mortarHead s h 1 = some (.seamRow n f row px) :=
⟨.A, 0, 0, 0, [], rxA (.seamRow 0 0 0 []) up, by decide +kernel, by decide +kernel⟩

theorem met_PipelineRowsComplete_4 : ∃ (h : Half) (n : Nat) (f : Count64) (s : State), mortarHead s h 0 = some (.sideClosed
    n f) ∧ ready (.spanSideClosedReceived h) s = true :=
⟨.A, 0, 0, rxA (.sideClosed 0 0) up, by decide +kernel, by decide +kernel⟩

theorem met_PipelineRowsComplete_5 : ∃ (h : Half) (n : Nat) (f : Count64) (s : State), mortarHead s h 0 = some (.fallback n
    f) ∧ ready (.spanFallbackNotice h) s = true :=
⟨.A, 0, 0, rxA (.fallback 0 0) up, by decide +kernel, by decide +kernel⟩

theorem met_PipelineRowsComplete_6 : ∃ (h : Half) (n : Nat) (t : Nat) (buf : Nat) (f : Count64) (s : State), mortarHead s h
    0 = some (.tapWritten n t buf f) ∧ ready (.spanTapWrittenReceived h) s = true ∧ (ctxAt s n).span = true ∧ (ctxAt s n).st
    ≠ .closed :=
⟨.A, 0, 0, 0, 0, cx0 { st := .running, span := true } (rxA (.tapWritten 0 0 0 0) up), by decide +kernel, by decide +kernel,
   by decide +kernel, by decide +kernel⟩

theorem met_PipelineRowsComplete_7 : ∃ (h : Half) (n : Nat) (f : Count64) (rec_ : List Byte) (s : State), mortarHead s h 2 =
    some (.statPartial n f rec_) ∧ ready (.statPartialReceived h) s = true ∧ (ctxAt s n).span = true ∧ (ctxAt s n).st ≠
    .closed :=
⟨.A, 0, 0, [], cx0 { st := .running, span := true } (rxA (.statPartial 0 0 []) up), by decide +kernel, by decide +kernel,
   by decide +kernel, by decide +kernel⟩

theorem met_PipelineRowsComplete_8 : ∃ (i : Nat) (a : Accum) (s : State), accumOf s i = some a ∧ ready (.trimMeasurementDone
    1 i .frames) s = true ∧ trimDue a 1 = true :=
⟨0, _, { up with trim := { up.trim with accums := [(0, { cmd := {}, domains := 1, taken := 1 })] } }, rfl,
   by decide +kernel, by decide +kernel⟩

theorem met_PipelineRowsComplete_9 : ∃ (i : Nat) (a : Accum) (s : State), accumOf s i = some a ∧ ready (.trimMeasurementDone
    2 i .frames) s = true ∧ trimDue a 2 = true :=
⟨0, _, { up with trim := { up.trim with accums := [(0, { cmd := {}, domains := 2, taken := 1 })] } }, rfl,
   by decide +kernel, by decide +kernel⟩

theorem met_PipelineRowsComplete_10 : ∃ (i : Nat) (t : List Int) (v : List Int) (s : State), ready (.trimMeasurementDone 5 i
    (.calibration t v)) s = true ∧ (trimAt s 5 i).st = .measuring :=
⟨1, [1], [2], { up with trim := { up.trim with d5 := tset up.trim.d5 1 { st := .measuring } } }, by decide +kernel,
   by decide +kernel⟩

theorem met_PipelineRowsComplete_11 : ∃ (h : Half) (s : State), ready (.telemetryCalPeriod h) s = true ∧ (trimAt s 5
    (halfIdx h)).auto = true ∧ (trimAt s 5 (halfIdx h)).st = .idle :=
⟨.A, up, by decide +kernel, by decide +kernel, by decide +kernel⟩

theorem met_PipelineRowsComplete_12 : ∃ (i : Nat) (eyes : List EyeResult) (k : Nat × List Nat) (s : State), ready
    (.trimMeasurementDone 3 i (.eyes eyes)) s = true ∧ (trimAt s 3 i).st = .measuring ∧ (linkAt s i).retraining = some k ∧
    k.1 ≠ 0 :=
⟨0, [], _, ln0 { st := .retrain, retraining := some (2, [0]) }
   { up with trim := { up.trim with d3 := tset up.trim.d3 0 { st := .measuring } } }, by decide +kernel, by decide +kernel,
   rfl, by decide +kernel⟩

theorem met_PipelineRowsComplete_13 : ∃ (h : Half) (id : Nat) (src : Nat) (serial : Nat) (big : Bool) (rest : List (Nat ×
    Bool × Nat × Nat)) (bs : List Byte) (f : Flight) (s : State) (u : State), ready (.lutLoadDone h) s = true ∧ (half s
    h).pipe.loading = (id, big, src, serial) :: rest ∧ dramRead s h src (8 * lutNodes big) = (bs, false) ∧ u = modPipe s h
    (fun p =>
    { p with loading := rest, loadSeq := p.loadSeq + 1, luts := tset ((overwritten p id big).foldl (fun t k => tset t k none) p.luts) id (some { big, loadSeq := p.loadSeq + 1, loadId := serial, src, nodes := (numsOf 8 (lutNodes big) bs).map nodeOf }) })
    ∧ flightOf u serial = some f :=
⟨.A, 0, 0, 7, false, _, _, _,
   { pipeA { loading := [(0, false, 0, 7)] } with flights := [{ cmd := { serial := 7 }, op := .devNop }] }, _,
   by decide +kernel, rfl, read_clean (by decide +kernel), rfl, rfl⟩

theorem met_VcuRowsComplete_0 : ∃ (n : Nat) (x : Session) (r : RateCfg) (f : Count64) (p : EncPic) (plan : List (Count64 ×
    Nat × Bool × Bool)) (times : List Count64) (s : State), ready (.vcuPictureStart n) s = true ∧ x = sessAt s n ∧ x.coding
    = none ∧ x.cfg.decode = false ∧ (x.st = .starting ∨ x.st = .running ∨ x.st = .stopping) ∧ (∀ h ∈ sessHalves x,
    islandRuns s h .vcu = true) ∧ plan = (if x.plan = [] then nextPlan x (s.staged.any fun z => decide (z.key = .vcuIrap n))
    else x.plan) ∧ times = (if x.plan = [] then (x.held.take plan.length).map (·.f) else x.times) ∧ plan.head?.map (·.1) =
    some f ∧ x.held.find? (fun q => decide (q.f = f)) = some p ∧ x.bands = 0 ∧ r = (rateSoon s n).getD {} :=
⟨0, _, _, _, _, _, _, se0 { st := .running, held := [{}] } up, by decide +kernel, rfl, by decide +kernel, by decide +kernel,
   by decide +kernel, by decide +kernel, rfl, rfl, rfl, rfl, by decide +kernel, rfl⟩

theorem met_VcuRowsComplete_1 : ∃ (n : Nat) (h : Half) (p : PartResult) (x : Session) (c : Coding) (s : State) (u : State),
    ready (.vcuPictureCoded n h p) s = true ∧ x = sessAt s n ∧ x.coding = some c ∧ isSplit x = false ∧ sessIn x h = true ∧
    sessHalves x = [h] ∧ c.partA = none ∧ c.partB = none ∧ c.owed = 0 ∧ islandRuns s h .vcu = true ∧ u = modSess s n (fun x
    => { x with coding := some (if h = .A then { c with partA := some p } else { c with partB := some p }) }) :=
⟨0, .A, {}, _, _, se0 { st := .running, coding := some {} } up, _, by decide +kernel, rfl, rfl, by decide +kernel,
   by decide +kernel, by decide +kernel, by decide +kernel, by decide +kernel, by decide +kernel, by decide +kernel, rfl⟩

theorem met_VcuRowsComplete_2 : ∃ (n : Nat) (h : Half) (f : Count64) (p : PartResult) (c : Coding) (c1 : Coding) (s : State)
    (u : State), ready (.vcuSubstreamReceived h) s = true ∧ mortarHead s h 4 = some (.substream n f p) ∧ (sessAt s n).coding
    = some c ∧ c.pic.f = f ∧ 0 < c.owed ∧ c1 = { c with owed := c.owed - 1 } ∧ u = modSess (mortarTake s h 4) n (fun x =>
    { x with coding := some c1 }) :=
⟨0, .A, 0, {}, _, _, se0 { st := .running, coding := some { owed := 1 } } (rxA (.substream 0 0 {}) up), _,
   by decide +kernel, by decide +kernel, rfl, by decide +kernel, by decide +kernel, rfl, rfl⟩

theorem met_VcuRowsComplete_3 : ∃ (n : Nat) (bytes : Nat) (h : Half) (f : Count64) (s : State), ready (.vcuRefBandReceived
    h) s = true ∧ mortarHead s h 4 = some (.refBand n f bytes) :=
⟨0, 4096, .A, 0, rxA (.refBand 0 0 4096) up, by decide +kernel, by decide +kernel⟩

theorem met_VcuRowsComplete_4 : ∃ (n : Nat) (au : AuResult) (x : Session) (chunks : List Chunk) (marks : List (Option
    Count64)) (s : State), ready (.vcuAuDecoded n au) s = true ∧ x = sessAt s n ∧ mayDecode s n = true ∧ au.read ≤ readable
    x ∧ (∀ o ∈ au.starts, o < au.read) ∧ au.ended = false ∧ feedChunks x.chunks au.read au.starts = (chunks, marks) :=
⟨0, { read := 4, starts := [0], ended := false }, _, _, _, se0
   { st := .running, cfg := { decode := true }, chunks := [{ cmd := {}, length := 10 }] } up, by decide +kernel, rfl,
   by decide +kernel, by decide +kernel, by decide +kernel, by decide +kernel, rfl⟩

theorem met_VcuRowsComplete_5 : ∃ (n : Nat) (k : Nat) (idx : Nat) (x : Session) (o : SessOut) (p : DecPic) (h : Half) (num :
    Count64) (s : State) (s1 : State) (s2 : State) (s3 : State) (s4 : State), ready (.vcuPictureOutput n) s = true ∧ x =
    sessAt s n ∧ nextOut x = some p ∧ outBuffer s x p = some k ∧ outputDue x = true ∧ x.cfg.decode = true ∧ h = sessHalf s x
    ∧ o = (sessOutIn x h).getD {} ∧ num = x.outputNumber ∧ s1 = (if x.cfg.compat then s else (sessHalves x).foldl (fun s h
    => writePic s x.cfg h (((sessOutIn x h).getD {}).base + k * ((sessOutIn x h).getD {}).size * 4096) p) s) ∧ idx =
    num.toNat % max 1 (if x.cfg.compat then (refOf x.cfg h).2 else o.recs) ∧ s2 = dramWrite s1 h (o.recBase + 256 * idx)
    (withCrc (picRecord n x.cfg p k num)) ∧ s3 = modSess s2 n (fun x =>
    { x with dpb := x.dpb.map fun e => if e.decodeNumber = p.decodeNumber ∧ e.waits then { e with waits := false } else e, outputNumber := num + 1, outSinceFlush := x.outSinceFlush + 1, stalled := false, hostBufs := if x.cfg.compat then x.hostBufs else insertUp k x.hostBufs, poolA := match p.poolA with | some i => x.poolA.modify i fun m => { m with hostHeld := true, number := num } | none => x.poolA, poolB := match p.poolB with | some i => x.poolB.modify i fun m => { m with hostHeld := true, number := num } | none => x.poolB })
    ∧ s4 = (if o.report then sessEvent (settleDpb s3 n) n 0x6005 0 num idx p.flags.toNat 0 else settleDpb s3 n) :=
⟨0, _, _, _, _, _, .A, _, se0
   { st := .draining, cfg := { decode := true }, outA := some { recs := 2, size := 1 }, dpb := [{}] } up, _, _, _, _,
   by decide +kernel, rfl, rfl, rfl, by decide +kernel, by decide +kernel, by decide +kernel, rfl, rfl, rfl, rfl, rfl, rfl,
   rfl⟩

/-- Channel 0 of half A. -/
def mch (f : Chan → Chan) (s : State) : State := modChan s .A 0 f

/-- Its subchannel 0. -/
def msub (b : SubChan) : State := mch (fun c => { c with sub0 := b }) up

/-- Its rank 0. -/
def mrank (r : RankRefresh) : State := mch (fun c => { c with rank := tset c.rank 0 r }) up

/-- Output 0. -/
def ou0 (x : VfOut) (s : State) : State := { s with outs := tset s.outs 0 x }

/-- Audio port 0. -/
def po0 (x : AudPort) (s : State) : State := { s with ports := tset s.ports 0 x }

/-- The mirror. -/
def mir : Pair := { st := .paired, role := 2, enable := true, formed := true, peerSeen := true }

/-- The boot and flash state. -/
def sy (x : DevSys) (s : State) : State := { s with sys := x }

/-- A viewfinder source with a peer buffer in half B, and the same in half A. -/
def vsrc : VfSource := { peerA := 4096, peerB := 4096, serial := 1 }

/-- No run of domain 5 measures. -/
theorem not_calibrating {s : State} {h : Half} (e : (trimAt s 5 (halfIdx h)).st ≠ .measuring) :
    calibrating s h = (none, s) := if_neg e

theorem met_DramRowsComplete_0 : ∃ (h : Half) (r : DramReq) (p : Place) (q : SubChan) (s : State), ready (.dramRequestAccept
    h r) s = true ∧ (islandAt s h .dram).resetting = false ∧ (half s h).mem.selfRefresh = false ∧ memPlace (half s h).mem
    r.addr = some p ∧ q = subAt (tget (half s h).mem.chans p.chan) p.sub ∧ r.write = true ∧ (q.writeQ.length < 64 ∨ (∃ x ∈
    q.writeQ, x.burst = r.addr)) :=
⟨.A, { write := true }, _, _, up, by decide +kernel, by decide +kernel, by decide +kernel, rfl, rfl, by decide +kernel,
   by decide +kernel⟩

theorem met_DramRowsComplete_1 : ∃ (h : Half) (r : DramReq) (p : Place) (q : SubChan) (s : State), ready (.dramRequestAccept
    h r) s = true ∧ (islandAt s h .dram).resetting = false ∧ (half s h).mem.selfRefresh = false ∧ memPlace (half s h).mem
    r.addr = some p ∧ q = subAt (tget (half s h).mem.chans p.chan) p.sub ∧ r.write = true ∧ 64 ≤ q.writeQ.length ∧ (∀ x ∈
    q.writeQ, x.burst ≠ r.addr) :=
⟨.A, { write := true }, _, _, msub { writeQ := List.replicate 64 { burst := 128 } }, by decide +kernel, by decide +kernel,
   by decide +kernel, rfl, rfl, by decide +kernel, by decide +kernel, by decide +kernel⟩

theorem met_DramRowsComplete_2 : ∃ (h : Half) (r : DramReq) (p : Place) (x : MemReq) (s : State), ready (.dramRequestAccept
    h r) s = true ∧ (islandAt s h .dram).resetting = false ∧ (half s h).mem.selfRefresh = false ∧ memPlace (half s h).mem
    r.addr = some p ∧ r.write = false ∧ x ∈ (subAt (tget (half s h).mem.chans p.chan) p.sub).writeQ ∧ x.burst = r.addr ∧
    x.mask = BitVec.allOnes 64 :=
⟨.A, {}, _, {}, msub { writeQ := [{}] }, by decide +kernel, by decide +kernel, by decide +kernel, rfl, by decide +kernel,
   by decide +kernel, by decide +kernel, by decide +kernel⟩

theorem met_DramRowsComplete_3 : ∃ (h : Half) (k : Nat) (sub : Bool) (e : EccResult) (q : MemReq) (p : Place) (s : State)
    (s0 : State) (m : HalfMem) (b0 : SubChan), ready (.dramCommandIssue h k sub e) s = true ∧ (islandAt s h .dram).resetting
    = false ∧ m.selfRefresh = false ∧ s0 = (fresh s).2 ∧ m = (half s h).mem ∧ b0 = subAt (tget m.chans k) sub ∧ nextIssue m
    (tget m.chans k) b0 (Config.freeBool (fresh s).1) = some (q, true) ∧ memPlace m q.burst = some p ∧ q.mask =
    BitVec.allOnes 64 :=
⟨.A, 0, false, .clean, {}, _, msub { writeQ := [{}] }, _, _, _, by decide +kernel, by decide +kernel, by decide +kernel,
   rfl, rfl, rfl, by generalize Config.freeBool _ = b; cases b <;> decide +kernel, rfl, by decide +kernel⟩

theorem met_DramRowsComplete_4 : ∃ (h : Half) (k : Nat) (r : Nat) (cycles : Nat) (s : State) (u : State), ready
    (.refreshIssue h k r cycles) s = true ∧ (islandAt s h .dram).resetting = false ∧ (half s h).mem.selfRefresh = false ∧
    rankThere s h k r = true ∧ u = passCycles s h k r cycles ∧ (tget (chanAt u h k).rank r).repay ≠ none :=
⟨.A, 0, 0, 9, mrank { repay := some (5, 0) }, _, by decide +kernel, by decide +kernel, by decide +kernel, by decide +kernel,
   rfl, by decide +kernel⟩

theorem met_DramRowsComplete_5 : ∃ (h : Half) (k : Nat) (r : Nat) (d : Nat) (s : State), ready (.refreshDebtLimit h k r) s =
    true ∧ (islandAt s h .dram).resetting = false ∧ (half s h).mem.selfRefresh = false ∧ rankThere s h k r = true ∧ (tget
    (chanAt s h k).rank r).repay = none ∧ d = max (tget (chanAt s h k).rank r).debt (debtLimit (half s h).mem (chanAt s h k)
    r) :=
⟨.A, 0, 0, _, up, by decide +kernel, by decide +kernel, by decide +kernel, by decide +kernel, by decide +kernel, rfl⟩

theorem met_DramRowsComplete_6 : ∃ (h : Half) (k : Nat) (r : Nat) (cycles : Nat) (t : Mr4Temp) (s : State) (u : State) (x :
    RankRefresh) (y : RankRefresh), ready (.mr4Poll h k r t cycles) s = true ∧ (islandAt s h .dram).resetting = false ∧
    (half s h).mem.selfRefresh = false ∧ rankThere s h k r = true ∧ u = passCycles s h k r cycles ∧ x = tget (chanAt u h
    k).rank r ∧ y = mr4Rank t x ∧ x.hot = y.hot ∧ x.limited = y.limited :=
⟨.A, 0, 0, 9, .normal, up, _, _, _, by decide +kernel, by decide +kernel, by decide +kernel, by decide +kernel, rfl, rfl,
   rfl, by decide +kernel, by decide +kernel⟩

theorem met_DramRowsComplete_7 : ∃ (h : Half) (k : Nat) (r : Nat) (cycles : Nat) (t : Mr4Temp) (s : State) (u : State) (x :
    RankRefresh) (y : RankRefresh), ready (.mr4Poll h k r t cycles) s = true ∧ (islandAt s h .dram).resetting = false ∧
    (half s h).mem.selfRefresh = false ∧ rankThere s h k r = true ∧ u = passCycles s h k r cycles ∧ x = tget (chanAt u h
    k).rank r ∧ y = mr4Rank t x ∧ x.hot = false ∧ y.hot = true ∧ x.limited = y.limited :=
⟨.A, 0, 0, 9, .above85, up, _, _, _, by decide +kernel, by decide +kernel, by decide +kernel, by decide +kernel, rfl, rfl,
   rfl, by decide +kernel, by decide +kernel, by decide +kernel⟩

theorem met_DramRowsComplete_8 : ∃ (h : Half) (k : Nat) (r : Nat) (cycles : Nat) (t : Mr4Temp) (s : State) (u : State) (x :
    RankRefresh) (y : RankRefresh), ready (.mr4Poll h k r t cycles) s = true ∧ (islandAt s h .dram).resetting = false ∧
    (half s h).mem.selfRefresh = false ∧ rankThere s h k r = true ∧ u = passCycles s h k r cycles ∧ x = tget (chanAt u h
    k).rank r ∧ y = mr4Rank t x ∧ x.hot = true ∧ y.hot = false ∧ x.limited = y.limited :=
⟨.A, 0, 0, 9, .normal, mrank { hot := true, coolReads := 1 }, _, _, _, by decide +kernel, by decide +kernel,
   by decide +kernel, by decide +kernel, rfl, rfl, rfl, by decide +kernel, by decide +kernel, by decide +kernel⟩

theorem met_DramRowsComplete_9 : ∃ (h : Half) (k : Nat) (sub : Bool) (r : ClearResult) (s : State), (islandAt s h
    .dram).resetting = false ∧ (half s h).mem.selfRefresh = false ∧ usable (chanAt s h k) = true ∧ clearingNeeded s h k sub
    = true ∧ ready (.clearingMade h k sub r) s = true :=
⟨.A, 0, false, {}, msub { work := [.sweep] }, by decide +kernel, by decide +kernel, by decide +kernel, by decide +kernel,
   by decide +kernel⟩

theorem met_DramRowsComplete_10 : ∃ (h : Half) (k : Nat) (sub : Bool) (r : ClearResult) (s : State), (islandAt s h
    .dram).resetting = false ∧ (half s h).mem.selfRefresh = false ∧ usable (chanAt s h k) = true ∧ clearingNeeded s h k sub
    = true ∧ ready (.clearingFound h k sub r) s = true ∧ (subAt (chanAt s h k) sub).readQ = [] ∧ (subAt (chanAt s h k)
    sub).writeQ = [] :=
⟨.A, 0, false, {}, msub { work := [.sweep] }, by decide +kernel, by decide +kernel, by decide +kernel, by decide +kernel,
   by decide +kernel, by decide +kernel, by decide +kernel⟩

theorem met_DramRowsComplete_11 : ∃ (h : Half) (k : Nat) (xs : List SubSample) (s : State) (u : State), ready
    (.retrainSample h k xs) s = true ∧ (islandAt s h .dram).resetting = false ∧ (half s h).mem.selfRefresh = false ∧ usable
    (chanAt s h k) = true ∧ (trimAt s 4 (devChan h k)).auto = true ∧ (chanAt s h k).policy.track = true ∧ (trimAt s 4
    (devChan h k)).st ≠ .measuring ∧ u = modChan (countClearing (countClearing s h) h) h k (fun c =>
    { c with oscDrift := BitVec.ofNat 16 (min (largestDrift xs) 0xFFFF) }) ∧ propose (recsInForce (half u h).mem (chanAt s h
    k)) xs = recsInForce (half u h).mem (chanAt s h k) :=
⟨.A, 0, [], mch (fun c => { c with policy := { c.policy with track := true } }) up, _, by decide +kernel, by decide +kernel,
   by decide +kernel, by decide +kernel, by decide +kernel, by decide +kernel, by decide +kernel, rfl, by decide +kernel⟩

theorem met_DramRowsComplete_12 : ∃ (h : Half) (k : Nat) (e : EccResult) (c : Chan) (a : Option Nat) (s : State), ready
    (.patrolScrubRead h k e) s = true ∧ (islandAt s h .dram).resetting = false ∧ (half s h).mem.selfRefresh = false ∧ c =
    chanAt s h k ∧ usable c = true ∧ c.scrubPtr < chanBursts c ∧ a = ofChan (half s h).mem k (c.scrubPtr * 64) :=
⟨.A, 0, .clean, _, _, up, by decide +kernel, by decide +kernel, by decide +kernel, rfl, by decide +kernel,
   by decide +kernel, rfl⟩

theorem met_DramRowsComplete_13 : ∃ (h : Half) (k : Nat) (s : State), ready (.memScrubPass h k) s = true ∧ (islandAt s h
    .dram).resetting = false ∧ (half s h).mem.selfRefresh = false ∧ usable (chanAt s h k) = true ∧ chanBursts (chanAt s h k)
    ≤ (chanAt s h k).scrubPtr :=
⟨.A, 0, mch (fun c => { c with scrubPtr := 2 ^ 24 }) up, by decide +kernel, by decide +kernel, by decide +kernel,
   by decide +kernel, by decide +kernel⟩

theorem met_DramRowsComplete_14 : ∃ (h : Half) (k : Nat) (r : Nat) (c : Option Cmd) (s : State), ready (.rankSpareCopyDone h
    k) s = true ∧ (islandAt s h .dram).resetting = false ∧ (half s h).mem.selfRefresh = false ∧ (chanAt s h k).sparing =
    some (r, c) ∧ ClearWork.spare r ∉ (chanAt s h k).sub0.work ∧ ClearWork.spare r ∉ (chanAt s h k).sub1.work :=
⟨.A, 0, 0, none, mch (fun c => { c with sparing := some (0, none) }) up, by decide +kernel, by decide +kernel,
   by decide +kernel, by decide +kernel, by decide +kernel, by decide +kernel⟩

theorem met_DramRowsComplete_15 : ∃ (h : Half) (k : Nat) (s : State), ready (.dramInitDone h k) s = true ∧ (islandAt s h
    .dram).resetting = false ∧ (half s h).mem.selfRefresh = false ∧ usable (chanAt s h k) = true ∧ (half s h).ident.memReady
    = true :=
⟨.A, 0, up, by decide +kernel, by decide +kernel, by decide +kernel, by decide +kernel, by decide +kernel⟩

theorem met_DramRowsComplete_16 : ∃ (h : Half) (k : Nat) (r : Nat) (s : State), ready (.powerDownEntry h k r) s = true ∧
    (islandAt s h .dram).resetting = false ∧ (half s h).mem.selfRefresh = false ∧ rankThere s h k r = true ∧ rankQueued
    (half s h).mem (chanAt s h k) r = false ∧ (∀ b ∈ [(chanAt s h k).sub0, (chanAt s h k).sub1], ∀ x ∈ b.banks, x.key / 32 =
    r → x.rowOpen = false) ∧ (tget (chanAt s h k).rank r).repay = none :=
⟨.A, 0, 0, up, by decide +kernel, by decide +kernel, by decide +kernel, by decide +kernel, by decide +kernel,
   by decide +kernel, by decide +kernel⟩

theorem met_DramRowsComplete_17 : ∃ (h : Half) (chans : List ChanTraining) (s : State), ready (.dramTrainingDone h chans) s
    = true ∧ (half s h).ident.bootStage = 3 ∧ (half s h).mem.selfRefresh = true :=
⟨.A, [], { up with a := { half1 with ident := { bootStage := 3 }, mem := { dram1 with selfRefresh := true } } },
   by decide +kernel, by decide +kernel, by decide +kernel⟩

theorem met_DramRowsComplete_18 : ∃ (h : Half) (chans : List ChanTraining) (s : State) (m1 : HalfMem), ready
    (.dramTrainingDone h chans) s = true ∧ (half s h).ident.bootStage = 3 ∧ (half s h).mem.selfRefresh = false ∧ tget
    s.sys.saved (halfIdx h) = none ∧ m1 =
    { (half s h).mem with stored := false, set := 0, chans := Vector.ofFn fun i => match chans.find? fun (t : ChanTraining) => decide (t.chan = i.val) with | some t => trainedChan (tget (half s h).mem.chans i.val) t [] | none => { policy := (tget (half s h).mem.chans i.val).policy } }
    :=
⟨.A, [], { up with a := { half1 with ident := { bootStage := 3 } } }, _, by decide +kernel, by decide +kernel,
   by decide +kernel, by decide +kernel, rfl⟩

theorem met_DramRowsComplete_19 : ∃ (h : Half) (set : Nat) (tr : List TimingRecIn) (m : HalfMem) (f : FreqChange) (c : Cmd)
    (ks : List Nat) (s : State) (u : State) (v : State), ready (.memFreqChanged h set tr) s = true ∧ m = (half s h).mem ∧
    (half s h).ident.memReady = true ∧ m.selfRefresh = false ∧ (islandAt s h .dram).resetting = false ∧ m.freq = some f ∧
    f.newSet = set ∧ f.cmd = some c ∧ setTrained m set = true ∧ ks = usableChans m ∧ u = ks.foldl (fun s k => commitChan s h
    k) (countClearing (ks.foldl (fun s k => drainChan s h k) s) h) ∧ v = event (ks.foldl (fun s k => restartSweep s h k set)
    (modMem u h fun m => { m with set := BitVec.ofNat 2 set, freq := none })) h 0x7008 0 0x71 (halfIdx h) (clearingsOf u h)
    m.set.toNat set 0 :=
⟨.A, 1, [], _, _, _, _,
   { up with a := { half1 with mem := { dram1 with freq := some { cmd := some {}, newSet := 1 }, chans := tset dram1.chans 0 { dimms := 1, ranks := 1, capacity := 1, sets := Vector.replicate 4 (Vector.replicate 4 { valid := true }) } } } },
   _, _, by decide +kernel, rfl, by decide +kernel, by decide +kernel, by decide +kernel, rfl, by decide +kernel, rfl,
   by decide +kernel, rfl, rfl, rfl⟩

theorem met_ViewfinderRowsComplete_0 : ∃ (o : Nat) (s : State) (u : State), ready (.teEdge o) s = true ∧ edgesCount s o =
    true ∧ u = (if (outAt s o).teLost then vfEvent (modOut s o fun x => { x with teLost := false }) o 0x8003 1 0 0 0 else s)
    :=
⟨0, ou0 { cfg := { run := 2 } } up, _, by decide +kernel, by decide +kernel, rfl⟩

theorem met_ViewfinderRowsComplete_1 : ∃ (o : Nat) (s : State), ready (.vfTeLost o) s = true ∧ edgesCount s o = true :=
⟨0, ou0 { cfg := { run := 2 } } up, by decide +kernel, by decide +kernel⟩

theorem met_ViewfinderRowsComplete_2 : ∃ (o : Nat) (z : VfSource) (fr : VfFrame) (img : Array Nat) (sigs : List Word) (s :
    State) (u : State) (rects : List (Nat × Nat × Nat × Nat)), ready (.vfRenderDone o) s = true ∧ (outAt s o).phase =
    .rendering ∧ (outAt s o).src = some z ∧ (outAt s o).frame = some fr ∧ img = panelImage (outAt s o).cfg (yuvOf s z fr
    (outHalf o)) fr.ycc fr.full ∧ sigs = tileSigs (outAt s o).cfg img ∧ u = (List.range 8).foldl (runCheck o img) (modOut
    (writePanel s (outHalf o) (outAt s o).cfg img) o fun x => { x with newSigs := sigs }) ∧ rects = pushRects (outAt s
    o).cfg (outAt u o).sigs sigs (outAt u o).fullDue :=
⟨0, _, _, _, _, ou0 { cfg := { run := 2 }, phase := .rendering, src := some {}, frame := some {} } up, _, _,
   by decide +kernel, by decide +kernel, rfl, rfl, rfl, rfl, rfl, rfl⟩

theorem met_ViewfinderRowsComplete_3 : ∃ (o : Nat) (x : VfOut) (s : State), ready (.vfPushDone o) s = true ∧ x = outAt s o ∧
    x.phase = .pushing :=
⟨0, _, ou0 { cfg := { run := 2 }, phase := .pushing } up, by decide +kernel, rfl, by decide +kernel⟩

theorem met_ViewfinderRowsComplete_4 : ∃ (o : Nat) (s : State), ready (.vfSourceArmed o) s = true :=
⟨0, up, by decide +kernel⟩

theorem met_ViewfinderRowsComplete_5 : ∃ (h : Half) (z : VfSource) (fr : VfFrame) (s : State), ready (.vfPeerFrameSend h) s
    = true ∧ toSend s h = some (z, fr) ∧ mortarUp s = true ∧ vfRuns s (otherHalf h) = true ∧ peerFree s (otherHalf h)
    z.serial ≠ none ∧ islandRuns s h .viewfinder = true :=
⟨.A, vsrc, { serial := 1, f := 0 },
   { up with outs := tset up.outs 2 { cfg := { run := 2 } }, vfSrc := some vsrc, a := { half1 with vf := { holds := [{ serial := 1, f := 0 }] } } },
   by decide +kernel, by decide +kernel, by decide +kernel, by decide +kernel, by decide +kernel, by decide +kernel⟩

theorem met_ViewfinderRowsComplete_6 : ∃ (h : Half) (z : VfSource) (fr : VfFrame) (data : List Byte) (k : Nat) (l : Nat) (n
    : Nat) (s : State) (u : State), ready (.vfPeerFrameReceived h) s = true ∧ mortarHead s h 3 = some (.vfFrame fr data) ∧
    sourceOf s fr.serial = some z ∧ peerFree s h fr.serial = some k ∧ u = mortarTake s h 3 ∧ framePart u z fr (otherHalf h)
    = (l, n) :=
⟨.A, vsrc, { serial := 1 }, [], 0, 0, 0, { rxA (.vfFrame { serial := 1 } []) up with vfSrc := some vsrc }, _,
   by decide +kernel, by decide +kernel, by decide +kernel, by decide +kernel, rfl, by decide +kernel⟩

theorem met_ViewfinderRowsComplete_7 : ∃ (o : Nat) (c : Cmd) (k : VfCfg) (rest : List VfJob) (s : State), ready
    (.vfLinkRestartDone o) s = true ∧ (outAt s o).phase = .restarting ∧ (outAt s o).jobs = .config c k :: rest :=
⟨0, {}, {}, [], ou0 { phase := .restarting, jobs := [.config {} {}] } up, by decide +kernel, by decide +kernel,
   by decide +kernel⟩

theorem met_ViewfinderRowsComplete_8 : ∃ (o : Nat) (c : Cmd) (p : PanelPkt) (q : PanelPkt) (t : List PanelPkt) (rest : List
    VfJob) (s : State), (outAt s o).phase = .sequence ∧ ready (.panelSequenceDelayExpiry o) s = true ∧ (outAt s o).jobs =
    .sequence c [p] :: rest :=
⟨0, {}, {}, {}, [], [], ou0 { phase := .sequence, jobs := [.sequence {} [{}]] } up, by decide +kernel, by decide +kernel,
   by decide +kernel⟩

theorem met_ViewfinderRowsComplete_9 : ∃ (o : Nat) (c : Cmd) (p : PanelPkt) (q : PanelPkt) (t : List PanelPkt) (rest : List
    VfJob) (s : State), (outAt s o).phase = .sequence ∧ ready (.panelSequenceDelayExpiry o) s = true ∧ (outAt s o).jobs =
    .sequence c (p :: q :: t) :: rest :=
⟨0, {}, {}, {}, [], [], ou0 { phase := .sequence, jobs := [.sequence {} [{}, {}]] } up, by decide +kernel,
   by decide +kernel, by decide +kernel⟩

theorem met_AudioRowsComplete_0 : ∃ (p : Nat) (gap : Nat) (l : Int) (r : Int) (s : State), islandRuns s (audHalf p) .audio =
    true ∧ ready (.audioFrame p l r (.ok gap)) s = true :=
⟨0, 1, 5, -5, up, by decide +kernel, by decide +kernel⟩

theorem met_AudioRowsComplete_1 : ∃ (p : Nat) (gap : Nat) (l : Int) (r : Int) (s : State), islandRuns s (audHalf p) .audio =
    true ∧ ready (.audioFrame p l r .offRate) s = true :=
⟨0, 1, 5, -5, up, by decide +kernel, by decide +kernel⟩

theorem met_AudioRowsComplete_2 : ∃ (p : Nat) (gap : Nat) (l : Int) (r : Int) (s : State), islandRuns s (audHalf p) .audio =
    true ∧ ready (.audioFrame p l r (.glitch gap)) s = true ∧ canFault s p = true :=
⟨0, 1, 5, -5, up, by decide +kernel, by decide +kernel, by decide +kernel⟩

theorem met_AudioRowsComplete_3 : ∃ (p : Nat) (s : State), ready (.clockStop p) s = true ∧ canFault s p = true ∧ islandRuns
    s (audHalf p) .audio = true :=
⟨0, up, by decide +kernel, by decide +kernel, by decide +kernel⟩

theorem met_AudioRowsComplete_4 : ∃ (p : Nat) (hz : Nat) (gap : Nat) (s : State), ready (.rateChange p hz gap) s = true ∧
    islandRuns s (audHalf p) .audio = true ∧ clockGroup s p = [p] ∧ (portAt s p).st = .running ∧ (portAt s p).phase =
    .measuring ∧ 256 ≤ (portAt s p).measured :=
⟨0, 48000, 1, po0 { st := .running, phase := .measuring, measured := 256 } up, by decide +kernel, by decide +kernel,
   by decide +kernel, by decide +kernel, by decide +kernel, by decide +kernel⟩

theorem met_AudioRowsComplete_5 : ∃ (h : Half) (phases : List (Nat × Nat)) (n : Nat) (number : Count64) (s : State), ready
    (.remoteLatch h phases) s = true ∧ mortarHead s h 0 = some (.remoteLatch n number) :=
⟨.A, [], 0, 0, rxA (.remoteLatch 0 0) up, by decide +kernel, by decide +kernel⟩

theorem met_HostResetRowsComplete_0 : ∃ (h : Half) (s : State), ready (.pcieDlDown h) s = true ∧ (half s h).ep.gen ≠ 0 :=
⟨.A, up, by decide +kernel, by decide +kernel⟩

theorem met_HostResetRowsComplete_1 : ∃ (h : Half) (s : State), ready (.flr h) s = true ∧ inWider s h = false ∧ (half s
    h).ep.perstHigh = true :=
⟨.A, up, by decide +kernel, by decide +kernel, by decide +kernel⟩

theorem met_HostResetRowsComplete_2 : ∃ (h : Half) (s : State) (u : State), ready (.perstAssert h) s = true ∧ (half s
    h).ep.perstHigh = true ∧ u = modEp s h (fun p => { p with perstHigh := false }) :=
⟨.A, up, _, by decide +kernel, by decide +kernel, rfl⟩

theorem met_HostResetRowsComplete_3 : ∃ (h : Half) (s : State), ready (.perstRelease h) s = true :=
⟨.A, ep0 (fun p => { p with perstHigh := false }) up, by decide +kernel⟩

theorem met_HostResetRowsComplete_4 : ∃ (h : Half) (s : State), ready (.keystoneFault h) s = true ∧ inWider s h = false ∧
    (half s (otherHalf h)).sys.inReset = false :=
⟨.A, up, by decide +kernel, by decide +kernel, by decide +kernel⟩

theorem met_HostResetRowsComplete_5 : ∃ (h : Half) (s : State), ready (.keystoneFault h) s = true ∧ inWider s h = false ∧
    (half s (otherHalf h)).sys.inReset = true :=
⟨.A, { up with b := { half1 with sys := { inReset := true } } }, by decide +kernel, by decide +kernel, by decide +kernel⟩

theorem met_PairRowsComplete_0 : ∃ (live : Word) (s : State), ready (.heartbeatSend live) s = true ∧ s.pair.enable = true ∧
    s.pair.portsUp ≠ 0 :=
⟨7, pr { act with portsUp := 1 } up, by decide +kernel, by decide +kernel, by decide +kernel⟩

theorem met_PairRowsComplete_1 : ∃ (b : Heartbeat) (s : State) (u : State), ready (.heartbeatReceived b) s = true ∧
    s.pair.enable = true ∧ u = modPair s (fun p => noteBeat p b) ∧ s.pair.formed = false ∧ u.pair.formed = false :=
⟨{ epoch := 1 }, pr { enable := true } up, _, by decide +kernel, by decide +kernel, rfl, by decide +kernel,
   by decide +kernel⟩

theorem met_PairRowsComplete_2 : ∃ (b : Heartbeat) (s : State) (u : State), ready (.heartbeatReceived b) s = true ∧
    s.pair.enable = true ∧ u = modPair s (fun p => noteBeat p b) ∧ u.pair.formed = true ∧ u.pair.role = 1 ∧
    u.pair.epoch.toNat < b.epoch.toNat :=
⟨{ epoch := 1 }, pr act up, _, by decide +kernel, by decide +kernel, rfl, by decide +kernel, by decide +kernel,
   by decide +kernel⟩

theorem met_PairRowsComplete_3 : ∃ (b : Heartbeat) (s : State) (u : State), ready (.heartbeatReceived b) s = true ∧
    s.pair.enable = true ∧ u = modPair s (fun p => noteBeat p b) ∧ u.pair.formed = true ∧ u.pair.role = 1 ∧ u.pair.claim = 0
    ∧ b.epoch.toNat ≤ u.pair.epoch.toNat ∧ u.pair.fenced = false ∧ s.pair.peerSeen = true ∧ b.live ≠ s.pair.peerLive :=
⟨{ live := 1 }, pr act up, _, by decide +kernel, by decide +kernel, rfl, by decide +kernel, by decide +kernel,
   by decide +kernel, by decide +kernel, by decide +kernel, by decide +kernel, by decide +kernel⟩

theorem met_PairRowsComplete_4 : ∃ (s : State), ready .heartbeatPeriodEnd s = true ∧ s.pair.enable = true ∧ s.pair.formed =
    true ∧ s.pair.peerSeen = true ∧ s.pair.hbSwap = false ∧ s.pair.hbGood = true :=
⟨pr { act with hbGood := true } up, by decide +kernel, by decide +kernel, by decide +kernel, by decide +kernel,
   by decide +kernel, by decide +kernel⟩

theorem met_PairRowsComplete_5 : ∃ (s : State), ready .heartbeatPeriodEnd s = true ∧ s.pair.enable = true ∧ s.pair.formed =
    true ∧ s.pair.peerSeen = true ∧ s.pair.hbSwap = false ∧ s.pair.hbGood = false ∧ (satMissed s.pair.hbMissed).toNat <
    s.pair.hbMiss :=
⟨pr { act with hbMissed := 6 } up, by decide +kernel, by decide +kernel, by decide +kernel, by decide +kernel,
   by decide +kernel, by decide +kernel, by decide +kernel⟩

theorem met_PairRowsComplete_6 : ∃ (s : State), ready .heartbeatPeriodEnd s = true ∧ s.pair.enable = true ∧ s.pair.formed =
    true ∧ s.pair.peerSeen = true ∧ s.pair.hbSwap = false ∧ s.pair.hbGood = false ∧ s.pair.hbMiss ≤ (satMissed
    s.pair.hbMissed).toNat :=
⟨pr { act with hbMissed := 7 } up, by decide +kernel, by decide +kernel, by decide +kernel, by decide +kernel,
   by decide +kernel, by decide +kernel, by decide +kernel⟩

theorem met_PairRowsComplete_7 : ∃ (s : State), ready .livenessFence s = true ∧ s.pair.enable = true ∧ s.pair.fenced = false
    ∧ 4 ≤ s.pair.stall :=
⟨pr { act with stall := 4 } up, by decide +kernel, by decide +kernel, by decide +kernel, by decide +kernel⟩

theorem met_PairRowsComplete_8 : ∃ (s : State), ready .pairArbPulse s = true ∧ s.pair.pulses = false :=
⟨pr act up, by decide +kernel, by decide +kernel⟩

theorem met_PairRowsComplete_9 : ∃ (s : State), s.pair.arbDriven = false ∧ ready (.pairArbLowSeen true) s = true ∧
    (s.pair.role = 1 ∨ s.pair.claim ≠ 0) :=
⟨pr act up, by decide +kernel, by decide +kernel, by decide +kernel⟩

theorem met_PairRowsComplete_10 : ∃ (s : State), s.pair.arbDriven = false ∧ ready (.pairArbLowSeen false) s = true ∧
    s.pair.claim = 1 :=
⟨pr { mir with claim := 1 } up, by decide +kernel, by decide +kernel, by decide +kernel⟩

theorem met_PairRowsComplete_11 : ∃ (s : State), ready .claimWaitEnd s = true ∧ s.pair.claim = 1 :=
⟨pr { mir with claim := 1 } up, by decide +kernel, by decide +kernel⟩

theorem met_PairRowsComplete_12 : ∃ (high : Bool) (cycles : Nat) (s : State) (u : State), ready (.claimDriveEnd high cycles)
    s = true ∧ s.pair.claim = 2 ∧ u = modPair s (fun p => { p with arbDriven := false }) :=
⟨true, 9, pr { mir with claim := 2 } up, _, by decide +kernel, by decide +kernel, rfl⟩

theorem met_PairRowsComplete_13 : ∃ (h : Half) (rq : BitVec 2) (e : Word) (act : Bool) (same : Bool) (comp : Bool) (s :
    State), ready (.pairPortTrained h rq e act same comp) s = true :=
⟨.A, 0, 0, false, true, true, pr act up, by decide +kernel⟩

theorem met_PairRowsComplete_14 : ∃ (c : Cmd) (s : State), ready .switchoverDrainEnd s = true ∧ s.pair.draining = true ∧
    s.pair.cmd = some c :=
⟨_, pr { act with draining := true, cmd := some {} } up, by decide +kernel, by decide +kernel, rfl⟩

theorem met_PairRowsComplete_15 : ∃ (h : Half) (s : State), ready (.pairLinkReplayRequest h) s = true ∧ s.pair.portsUp &&&
    halfCode h ≠ 0 :=
⟨.A, pr { act with portsUp := 1 } up, by decide +kernel, by decide +kernel⟩

theorem met_MirrorRowsComplete_0 : ∃ (r : AcceptRec) (s : State), ready (.accept r) s = true ∧ s.pair.role = 2 ∧ s.pair.st =
    .paired :=
⟨{}, pr mir up, by decide +kernel, by decide +kernel, by decide +kernel⟩

theorem met_MirrorRowsComplete_1 : ∃ (c : Completion) (t : PairTag) (s : State) (u : State), ready (.apply c) s = true ∧
    s.pair.role = 2 ∧ s.pair.st = .paired ∧ u = modTag s c.recv c.tag (fun t => { t with apply := some c }) ∧
    u.pair.tags.find? (isTag c.recv c.tag) = some t :=
⟨{ tag := 3 }, { cmd := { tag := 3 }, op := .devNop, apply := some { tag := 3 } }, pr
   { mir with tags := [{ cmd := { tag := 3 }, op := .devNop }] } up, _, by decide +kernel, by decide +kernel,
   by decide +kernel, rfl, by decide +kernel⟩

theorem met_MirrorRowsComplete_2 : ∃ (h : Half) (tag : BitVec 16) (s : State), s.pair.role = 2 ∧ s.pair.st = .paired ∧ ready
    (.posted h tag true) s = true :=
⟨.A, 3, pr mir up, by decide +kernel, by decide +kernel, by decide +kernel⟩

theorem met_MirrorRowsComplete_3 : ∃ (h : Half) (tag : BitVec 16) (s : State), s.pair.role = 2 ∧ s.pair.st = .paired ∧ ready
    (.posted h tag false) s = true :=
⟨.A, 3, pr mir up, by decide +kernel, by decide +kernel, by decide +kernel⟩

theorem met_MirrorRowsComplete_4 : ∃ (h : Half) (tag : BitVec 16) (s : State), s.pair.role = 2 ∧ s.pair.st = .paired ∧ ready
    (.stage h tag) s = true :=
⟨.A, 3, pr mir up, by decide +kernel, by decide +kernel, by decide +kernel⟩

theorem met_MirrorRowsComplete_5 : ∃ (h : Half) (tag : BitVec 16) (point : Count64) (n : Nat) (t : PairTag) (s : State) (u :
    State), ready (.effect h tag point n) s = true ∧ s.pair.role = 2 ∧ s.pair.st = .paired ∧ s.pair.tags.find? (isTag h tag)
    = some t ∧ u = (if point = noPoint then unstageSilent s t else if isSilent s t.cmd.serial then modPair s fun p =>
    { p with effects := p.effects ++ [(h, tag, point)] } else s) :=
⟨.A, 3, 9, 0, { cmd := { tag := 3 }, op := .devNop }, pr { mir with tags := [{ cmd := { tag := 3 }, op := .devNop }] } up,
   _, by decide +kernel, by decide +kernel, by decide +kernel, by decide +kernel, rfl⟩

theorem met_MirrorRowsComplete_6 : ∃ (n : Nat) (cycles : Nat) (h : Half) (f : Count64) (s : State), ready (.admitFrame n h f
    cycles) s = true ∧ s.pair.role = 2 ∧ s.pair.st = .paired :=
⟨0, 9, .A, 4, pr mir up, by decide +kernel, by decide +kernel, by decide +kernel⟩

theorem met_MirrorRowsComplete_7 : ∃ (n : Nat) (fn : Word) (number : Count64) (mark : Option Count64) (w : WFrame) (s :
    State), ready (.frame n fn number mark) s = true ∧ s.pair.role = 2 ∧ s.pair.st = .paired ∧ (streamAt s n).writing.find?
    (fun w => decide (w.carried = fn) && w.given.isNone) = some w :=
⟨0, 0, 0, none, {}, st0 { writing := [{}] } (pr mir up), by decide +kernel, by decide +kernel, by decide +kernel,
   by decide +kernel⟩

theorem met_MirrorRowsComplete_8 : ∃ (k : Nat) (t : Count64) (s : State), ready (.segment (.trigger k t)) s = true ∧
    s.pair.role = 2 ∧ s.pair.st = .paired ∧ (∀ e ∈ s.pair.firings, e.1 ≠ k) :=
⟨0, 9, pr mir up, by decide +kernel, by decide +kernel, by decide +kernel, by decide +kernel⟩

theorem met_MirrorRowsComplete_9 : ∃ (n : Nat) (last : Count64) (g : Segment) (s : State), ready (.segment (.freeze n last))
    s = true ∧ s.pair.role = 2 ∧ s.pair.st = .paired ∧ (ringOf s n).segs.find? (fun g => decide (g.st ≠ .frozen) &&
    g.frames.any fun f => decide (f.number = last)) = some g :=
⟨0, 5, { frames := [{ number := 5 }] }, st0 { ring := some { segs := [{ frames := [{ number := 5 }] }] } } (pr mir up),
   by decide +kernel, by decide +kernel, by decide +kernel, by decide +kernel⟩

theorem met_MirrorRowsComplete_10 : ∃ (n : Nat) (number : Word) (g : Segment) (s : State), ready (.segment (.release n
    number)) s = true ∧ s.pair.role = 2 ∧ s.pair.st = .paired ∧ (frozenSegs (ringOf s n)).find? (fun g => decide (g.number =
    number)) = some g :=
⟨0, 4, { number := 4, st := .frozen }, st0 { ring := some { segs := [{ number := 4, st := .frozen }] } } (pr mir up),
   by decide +kernel, by decide +kernel, by decide +kernel, by decide +kernel⟩

theorem met_MirrorRowsComplete_11 : ∃ (r : TrimRec) (s : State), ready (.trim r) s = true ∧ s.pair.role = 2 ∧ s.pair.st =
    .paired :=
⟨{}, pr mir up, by decide +kernel, by decide +kernel, by decide +kernel⟩

theorem met_MirrorRowsComplete_12 : ∃ (h : Half) (tag : BitVec 16) (f : Flight) (s : State), ready (.mirrorAckReceived h
    tag) s = true ∧ liveFlight s h tag = some f :=
⟨.A, 3, { cmd := { tag := 3 }, op := .devNop }, { up with flights := [{ cmd := { tag := 3 }, op := .devNop }] },
   by decide +kernel, by decide +kernel⟩

theorem met_MirrorRowsComplete_13 : ∃ (recs : List MirrorRec) (s : State), ready (.snapshotApplied recs) s = true ∧
    s.pair.role = 2 ∧ s.pair.st = .syncing :=
⟨[], pr { mir with st := .syncing } up, by decide +kernel, by decide +kernel, by decide +kernel⟩

theorem met_MirrorRowsComplete_14 : ∃ (n : Nat) (w : WFrame) (number : Count64) (s : State), ready (.mirrorFrameTimeout n) s
    = true ∧ s.pair.role = 2 ∧ (streamAt s n).writing.find? (fun w => w.closed && w.given.isNone) = some w ∧ number =
    ((streamAt s n).lastStored.map (· + 1)).getD w.number :=
⟨0, { closed := true }, _, st0 { writing := [{ closed := true }] } (pr mir up), by decide +kernel, by decide +kernel,
   by decide +kernel, rfl⟩

theorem met_FirmwareRowsComplete_0 : ∃ (ok : Bool) (w : LiveSwap) (image : List Byte) (s : State), ready (.fwStageCopyDone
    ok) s = true ∧ s.sys.swap = some w ∧ w.step = 1 ∧ image = s.sys.flash.readBytes flashDefault (bankBase (idleBank s
    w.half)) (2 ^ 24) :=
⟨true, _, _, sy { up.sys with swap := some {} } up, by decide +kernel, rfl, by decide +kernel, rfl⟩

theorem met_FirmwareRowsComplete_1 : ∃ (w : LiveSwap) (s : State), ready .fwSwapClearing s = true ∧ s.sys.swap = some w ∧
    w.step = 2 ∧ s.a.ident.cmdReady = true ∧ s.b.ident.cmdReady = true ∧ commitDue s = false :=
⟨_, sy { up.sys with swap := some { step := 2 } } up, by decide +kernel, rfl, by decide +kernel, by decide +kernel,
   by decide +kernel, by decide +kernel⟩

theorem met_FirmwareRowsComplete_2 : ∃ (img : ImageInfo) (cycles : Nat) (w : LiveSwap) (s : State) (u : State), ready
    (.fwSwapDone img cycles) s = true ∧ s.sys.swap = some w ∧ w.step = 3 ∧ u = swapReports (modPair (modDev s fun d =>
    { d with swap := none }) fun p => { p with swap := false }) w :=
⟨{}, 9, _, sy { up.sys with swap := some { step := 3 } } up, _, by decide +kernel, rfl, by decide +kernel, rfl⟩

theorem met_FirmwareRowsComplete_3 : ∃ (ok : Bool) (j : FlashJob) (t : List FlashJob) (a : Nat) (bs : List Byte) (rest :
    List (Nat × List Byte)) (s : State), ready (.qspiProgramDone ok) s = true ∧ s.sys.jobs = j :: t ∧ j.busy = true ∧
    j.pieces = (a, bs) :: rest :=
⟨true, _, _, 0, [1], [], sy { up.sys with jobs := [{ busy := true, pieces := [(0, [1])] }] } up, by decide +kernel, rfl,
   by decide +kernel, by decide +kernel⟩

theorem met_FirmwareRowsComplete_4 : ∃ (img : ImageCheck) (c : Cmd) (h : Half) (t : List (Cmd × Half)) (s : State) (u :
    State), ready (.imageCheckDone img) s = true ∧ s.sys.verifyCmd = (c, h) :: t ∧ u = modDev s (fun d =>
    { d with verifyCmd := t }) :=
⟨{}, {}, .B, [], sy { up.sys with verifyCmd := [({}, .B)] } up, _, by decide +kernel, by decide +kernel, rfl⟩

theorem met_BootRowsComplete_0 : ∃ (s : State), ready .warmResetNAssert s = true ∧ s.sys.warmHeld = false :=
⟨up, by decide +kernel, by decide +kernel⟩

theorem met_BootRowsComplete_1 : ∃ (s : State), ready .warmResetNRelease s = true :=
⟨sy { up.sys with warmHeld := true } up, by decide +kernel⟩

theorem met_BootRowsComplete_2 : ∃ (k : BitVec 2) (t : List (BitVec 2)) (s : State) (u : State), ready .devResetDelayExpiry
    s = true ∧ s.sys.devReset = k :: t ∧ u = modDev s (fun d => { d with devReset := t }) :=
⟨2, [], sy { up.sys with devReset := [2] } up, _, by decide +kernel, by decide +kernel, rfl⟩

theorem met_BootRowsComplete_3 : ∃ (h : Half) (s : State), ready (.devWatchdog h) s = true ∧ inWider s h = false :=
⟨.A, up, by decide +kernel, by decide +kernel⟩

theorem met_BootRowsComplete_4 : ∃ (h : Half) (img : ImageCheck) (s : State), ready (.bootImageVerified h img) s = true ∧
    (half s h).sys.inReset = false ∧ (half s h).ident.bootStage = 0 ∧ imageAtHand s h = true ∧ imageCause img = 0 :=
⟨.B, {}, { up with b := {} }, by decide +kernel, by decide +kernel, by decide +kernel, by decide +kernel, by decide +kernel⟩

theorem met_BootRowsComplete_5 : ∃ (h : Half) (img : ImageCheck) (s : State), ready (.bootImageVerified h img) s = true ∧
    (half s h).sys.inReset = false ∧ (half s h).ident.bootStage = 0 ∧ imageAtHand s h = true ∧ imageCause img ≠ 0 ∧
    halfBoots s h = false :=
⟨.A, { digest := false }, sy { up.sys with bootStep := 3 } { up with a := {} }, by decide +kernel, by decide +kernel,
   by decide +kernel, by decide +kernel, by decide +kernel, by decide +kernel⟩

theorem met_BootRowsComplete_6 : ∃ (h : Half) (img : ImageInfo) (env : BootEnv) (s : State) (u1 : State) (u2 : State) (u3 :
    State), ready (.bootFirmwareLoaded h img env) s = true ∧ (half s h).ident.bootStage = 2 ∧ img.partsOk = false :=
⟨.A, { partsOk := false }, {}, { up with a := { half1 with ident := { bootStage := 2 } } }, up, up, up, by decide +kernel,
   by decide +kernel, by decide +kernel⟩

theorem met_BootRowsComplete_7 : ∃ (h : Half) (img : ImageInfo) (env : BootEnv) (s : State) (u1 : State) (u2 : State) (u3 :
    State), ready (.bootFirmwareLoaded h img env) s = true ∧ (half s h).ident.bootStage = 2 ∧ img.partsOk = true ∧ u1 =
    modSys (modIdent s h fun i =>
    { i with cmdReady := true, bootStage := 3, fwMajor := img.major, fwMinor := img.minor, fwPatch := img.patch, fwBank := s.sys.bootBank })
    h (fun x => derive (takeReadings (modIdent s h fun i =>
    { i with cmdReady := true, bootStage := 3, fwMajor := img.major, fwMinor := img.minor, fwPatch := img.patch, fwBank := s.sys.bootBank })
    h env.temps env.rails { x with bootRom := false }) env.vcore) ∧ u2 = (half u1 h).sys.shedOrder.foldl (fun w k =>
    modIsland w h (shedTarget k) fun i => { i with pstate := .off }) u1 ∧ u3 = event u2 h 0x0030 0 0x71 (halfIdx h) noPoint
    (half s h).sys.resetKind.toNat (half s h).sys.lastReset.toNat (min env.cycles 0xFFFFFFFF) :=
⟨.A, { major := 2 }, { temps := [1], cycles := 2 ^ 33 }, { up with a := { half1 with ident := { bootStage := 2 } } }, _, _,
   _, by decide +kernel, by decide +kernel, by decide +kernel, rfl, rfl, rfl⟩

theorem met_BootRowsComplete_8 : ∃ (s : State), ready .bootWatchdogExpiry s = true ∧ deviceBoots s = true ∧ (starting s .A =
    true ∨ starting s .B = true) :=
⟨sy { up.sys with bootStep := 3 } { up with a := { half1 with ident := { bootStage := 2 } } }, by decide +kernel,
   by decide +kernel, by decide +kernel⟩

theorem met_BootRowsComplete_9 : ∃ (s : State), ready .qspiSelfReadTimeout s = true ∧ deviceBoots s = true ∧ s.mortar.st ≠
    .active ∧ s.mortar.st ≠ .idle :=
⟨sy { up.sys with bootStep := 3 } (mo { st := .reset } up), by decide +kernel, by decide +kernel, by decide +kernel,
   by decide +kernel⟩

theorem met_SupplyRowsComplete_0 : ∃ (s : State), ready (.devClockLoss .sysClk) s = true ∧ s.sys.sysClkLost = false :=
⟨up, by decide +kernel, by decide +kernel⟩

theorem met_SupplyRowsComplete_1 : ∃ (h : Half) (s : State), ready (.devClockLoss (.lane h)) s = true :=
⟨.A, up, by decide +kernel⟩

theorem met_SupplyRowsComplete_2 : ∃ (h : Half) (s : State), ready (.devClockLoss (.pcie h)) s = true :=
⟨.A, up, by decide +kernel⟩

theorem met_SupplyRowsComplete_3 : ∃ (h : Half) (s : State), ready (.devClockLoss .audMclk) s = true :=
⟨.A, up, by decide +kernel⟩

theorem met_SupplyRowsComplete_4 : ∃ (s : State), ready .sysClkRestored s = true :=
⟨sy { up.sys with sysClkLost := true } up, by decide +kernel⟩

theorem met_SupplyRowsComplete_5 : ∃ (h : Half) (r : AvsRead) (s : State), ready (.avsMonitorRead h r) s = true ∧ fwRuns s h
    = true ∧ (half s h).sys.avsFault = false :=
⟨.A, { lowest := 700 }, up, by decide +kernel, by decide +kernel, by decide +kernel⟩

theorem met_SupplyRowsComplete_6 : ∃ (h : Half) (s : State), ready (.avsRetry h true) s = true ∧ fwRuns s h = true ∧ (half s
    h).sys.avsFault = true :=
⟨.A, { up with a := { half1 with sys := { bootRom := false, avsFault := true } } }, by decide +kernel, by decide +kernel,
   by decide +kernel⟩

theorem met_SupplyRowsComplete_7 : ∃ (v : List Word) (s : State), ready (.pmbusTelemetryPoll v) s = true ∧ fwRuns s
    (leadHalf s) = true :=
⟨List.replicate 8 5, up, by decide +kernel, by decide +kernel⟩

theorem met_SupplyRowsComplete_8 : ∃ (v : List Word) (s : State), ready (.pmbAlert v) s = true ∧ fwRuns s (leadHalf s) =
    true :=
⟨List.replicate 8 5, up, by decide +kernel, by decide +kernel⟩

theorem met_SupplyRowsComplete_9 : ∃ (h : Half) (rail : Nat) (mv : Nat) (s : State), ready (.devSupplyDip h rail mv) s =
    true ∧ (half s h).sys.railLow.getLsbD rail = false :=
⟨.A, 3, 700, up, by decide +kernel, by decide +kernel⟩

theorem met_SupplyRowsComplete_10 : ∃ (h : Half) (cycles : Nat) (s : State), ready (.devGuardEnd h cycles) s = true ∧ (half
    s h).sys.guard = true ∧ (half s h).sys.railLow = 0 :=
⟨.A, 9, { up with a := { half1 with sys := { bootRom := false, guard := true } } }, by decide +kernel, by decide +kernel,
   by decide +kernel⟩

theorem met_SupplyRowsComplete_11 : ∃ (h : Half) (rail : Nat) (mv : Nat) (s : State) (u : State), ready (.supplyResetLevel h
    rail mv) s = true ∧ u = supplyDip s h rail mv true :=
⟨.A, 3, 600, up, _, by decide +kernel, rfl⟩

theorem met_SupplyRowsComplete_12 : ∃ (h : Half) (t : List Int) (r : List Nat) (k : Option Nat) (s : State) (u : State),
    ready (.thermalReading h t r) s = true ∧ fwRuns s h = true ∧ calibrating (telemetryClearing s h) h = (k, u) :=
⟨.A, List.replicate 12 40, List.replicate 8 700, none, up, _, by decide +kernel, by decide +kernel, not_calibrating
   (by decide +kernel)⟩

theorem met_SupplyRowsComplete_13 : ∃ (h : Half) (sensor : Nat) (s : State), ready (.thermtrip h sensor) s = true :=
⟨.A, 0, up, by decide +kernel⟩

/-- The next state that a row answers. -/
def nextOf (i : Instr) (s : State) : State := match exec i s with | .next t => t | _ => s

/-- Whether a row answers a next state. -/
def goesOn (i : Instr) (s : State) : Bool := match exec i s with | .next _ => true | _ => false

/-- A row that goes on answers that state. -/
theorem exec_nextOf {i : Instr} {s : State} (e : goesOn i s = true) : exec i s = .next (nextOf i s) := by
  unfold goesOn at e
  unfold nextOf
  cases h : exec i s <;> simp [h] at e ⊢

/-- A queue is well formed where each of its commands is. -/
theorem queue_wf {s : State} (e : s.pending.all (·.wf) = true) : QueueWf s := fun i h => List.all_eq_true.mp e i h

/-- A log whose numbers run on is well formed. -/
theorem log_wf {x : HalfCmd} (n : x.log.length ≤ 1024)
    (e : (x.log.zipIdx.all fun p => p.1.seq == x.nextSeq - BitVec.ofNat 32 (x.log.length - p.2)) = true) : LogWf x :=
  ⟨n, fun i r h => by simpa using List.all_eq_true.mp e (r, i) (List.mk_mem_zipIdx_iff_getElem?.mpr h)⟩

/-- A tripped device with a command that waits. -/
def tripq : State := { up with sys := { up.sys with tripped := true }, pending := [.devNop {}] }

/-- No power-on waits there. -/
theorem tripq_noPowerOn : ∀ x y, Instr.powerOn x y ∉ tripq.pending := by
  intro x y h
  simp [tripq] at h

/-- 65,536 commands in flight. -/
def fullHouse : State := { up with flights := List.replicate 65536 { cmd := {}, op := .devNop } }

/-- They are all counted. -/
theorem many_inFlight (n : Nat) :
    inFlight { up with flights := List.replicate n { cmd := {}, op := .devNop } } = n := by
  simp [inFlight, List.filter_replicate]

/-- In a full house too. -/
theorem fullHouse_inFlight : 65536 ≤ inFlight fullHouse := Nat.le_of_eq (many_inFlight 65536).symm

/-- A command of this number in flight. -/
def fl (k : Nat) (c : Cmd) : Flight := { cmd := { c with serial := k }, op := .devNop }

/-- A log of two records. -/
def log2 : HalfCmd := { log := [{ seq := 5 }, { seq := 6 }], nextSeq := 7 }

/-- It is well formed. -/
theorem log2_wf : LogWf log2 := log_wf (by decide +kernel) (by decide +kernel)

/-- A block of four pixels. -/
def px4 : List Nat := [10, 12, 11, 15]

theorem met_StepTakesFrontCommand_0 : ∃ (i : Instr) (rest : List Instr) (s : State), s.pending = i :: rest :=
⟨.devNop {}, [.devNop {}], { up with pending := [.devNop {}, .devNop {}] }, rfl⟩

theorem met_EmptyQueueIdles_0 : ∃ (s : State), s.pending = [] :=
⟨up, by decide +kernel⟩

theorem met_StopsOnlyForMissingObjects_0 : ∃ (i : Instr) (s : State), i.wf = false :=
⟨.signalEnergyDetected 32, up, by decide +kernel⟩

theorem met_StopsOnlyForMissingObjects_1 : ∃ (i : Instr) (s : State), i.wf = true :=
⟨.signalEnergyDetected 31, up, by decide +kernel⟩

theorem met_EveryStepGoesOn_0 : ∃ (s : State), QueueWf s :=
⟨{ up with pending := [.devNop {}] }, queue_wf (by decide +kernel)⟩

theorem met_QueueDrains_0 : ∃ (s : State), QueueWf s :=
⟨{ up with pending := [.devNop {}] }, queue_wf (by decide +kernel)⟩

theorem met_TrippedDeviceStandsStill_0 : ∃ (s0 : State) (s : State) (t : State), QueueWf s ∧ TrippedAs s0 s ∧ step s = .next
    t :=
⟨tripq, tripq, { tripq with pending := [] }, queue_wf (by decide +kernel), ⟨rfl, tripq_noPowerOn, rfl⟩, rfl⟩

theorem met_TrippedDeviceStandsStill_1 : ∃ (s : State), QueueWf s ∧ s.sys.tripped = true ∧ (∀ x y, Instr.powerOn x y ∉
    s.pending) :=
⟨tripq, queue_wf (by decide +kernel), by decide +kernel, tripq_noPowerOn⟩

theorem met_ResetState_0 : ∃ (h : Half) (n : Nat), n < 32 :=
⟨.B, 31, by decide +kernel⟩

theorem met_ResetState_1 : ∃ (n : Nat), n < 24 :=
⟨23, by decide +kernel⟩

theorem met_ResetState_2 : ∃ (n : Nat), n < 32 :=
⟨31, by decide +kernel⟩

theorem met_ResetState_3 : ∃ (n : Nat), n < 64 :=
⟨63, by decide +kernel⟩

theorem met_ResetState_4 : ∃ (n : Nat), n < 16 :=
⟨15, by decide +kernel⟩

theorem met_ResetState_5 : ∃ (n : Nat), n < 4 :=
⟨3, by decide +kernel⟩

theorem met_ResetState_6 : ∃ (n : Nat), n < 8 :=
⟨7, by decide +kernel⟩

theorem met_FirstFailingCheckCompletes_0 : ∃ (op : Op) (c : Cmd) (k : Cmd) (s : State) (u : State), ready (rowOf op c) s =
    true ∧ k = submitted s c ∧ u = enterFlight (numberTaken s) k op c.recv 0 (sqAt s c.recv c.sq.toNat).cqId.toNat ∧ 65536 ≤
    inFlight s :=
⟨.devNop, {}, _, fullHouse, _, by decide +kernel, rfl, rfl, fullHouse_inFlight⟩

theorem met_FirstFailingCheckCompletes_1 : ∃ (op : Op) (c : Cmd) (k : Cmd) (s : State) (u : State), ready (rowOf op c) s =
    true ∧ k = submitted s c ∧ u = enterFlight (numberTaken s) k op c.recv 0 (sqAt s c.recv c.sq.toNat).cqId.toNat ∧
    inFlight s < 65536 ∧ liveFlight s c.recv c.tag ≠ none :=
⟨.devNop, cmA [], _, { up with flights := [fl 0 {}] }, _, by decide +kernel, rfl, rfl, by decide +kernel, by decide +kernel⟩

theorem met_FirstFailingCheckCompletes_2 : ∃ (op : Op) (c : Cmd) (k : Cmd) (s : State) (u : State), ready (rowOf op c) s =
    true ∧ k = submitted s c ∧ u = enterFlight (numberTaken s) k op c.recv 0 (sqAt s c.recv c.sq.toNat).cqId.toNat ∧
    inFlight s < 65536 ∧ liveFlight s c.recv c.tag = none ∧ c.storeRaw = true ∧ op ≠ .ashEncode ∧ op ≠ .ashContinue :=
⟨.devNop, { storeRaw := true }, _, up, _, by decide +kernel, rfl, rfl, by decide +kernel, by decide +kernel,
   by decide +kernel, by decide +kernel, by decide +kernel⟩

theorem met_FirstFailingCheckCompletes_3 : ∃ (op : Op) (c : Cmd) (k : Cmd) (s : State) (u : State), ready (rowOf op c) s =
    true ∧ k = submitted s c ∧ u = enterFlight (numberTaken s) k op c.recv 0 (sqAt s c.recv c.sq.toNat).cqId.toNat ∧
    inFlight s < 65536 ∧ liveFlight s c.recv c.tag = none ∧ c.storeRaw = false ∧ paramCountOk op c.params.length = false :=
⟨.devNop, cm [1], _, up, _, by decide +kernel, rfl, rfl, by decide +kernel, by decide +kernel, by decide +kernel,
   by decide +kernel⟩

theorem met_WrongHalfIsBadTarget_0 : ∃ (op : Op) (c : Cmd) (h : Half) (k : Half) (s : State), ready (rowOf op c) s = true ∧
    firstErr (tagChecks s c ++ shapeChecks op c) = none ∧ (ownerOf op c s = .half h ∨ ownerOf op c s = .targetOf h) ∧
    halfOfCode c.target.toNat = some k ∧ k ≠ h :=
⟨.linkDisable, { params := [0], target := 2 }, .A, .B, up, by decide +kernel, by decide +kernel, .inl rfl,
   by decide +kernel, by decide +kernel⟩

theorem met_RejectedCommandChangesNothing_0 : ∃ (op : Op) (c : Cmd) (s : State), ready (rowOf op c) s = true ∧ (firstErr
    (tagChecks s (submitted s c) ++ shapeChecks op (submitted s c)) ≠ none ∨ placeOf op (submitted s c) (numberTaken s) =
    none) :=
⟨.devNop, cm [1], up, by decide +kernel, .inl (by decide +kernel)⟩

theorem met_RefusedAtStartChangesNothing_0 : ∃ (op : Op) (c : Cmd) (h : Half) (s : State), ready (rowOf op c) s = true ∧
    firstErr (tagChecks s (submitted s c) ++ shapeChecks op (submitted s c)) = none ∧ placeOf op (submitted s c)
    (numberTaken s) = some h ∧ mirrorRefuses s op (submitted s c) = true :=
⟨.linkDisable, cm [0], .A, pr { st := .paired, role := 2 } up, by decide +kernel, by decide +kernel, by decide +kernel,
   by decide +kernel⟩

theorem met_RefusedAtStartChangesNothing_1 : ∃ (op : Op) (c : Cmd) (h : Half) (s : State), ready (rowOf op c) s = true ∧
    firstErr (tagChecks s (submitted s c) ++ shapeChecks op (submitted s c)) = none ∧ placeOf op (submitted s c)
    (numberTaken s) = some h ∧ mirrorRefuses s op (submitted s c) = false ∧ h ≠ c.recv ∧ s.mortar.st = .down :=
⟨.linkDisable, cm [31], .B, mo { st := .down } up, by decide +kernel, by decide +kernel, by decide +kernel,
   by decide +kernel, by decide +kernel, by decide +kernel⟩

theorem met_RefusedAtStartChangesNothing_2 : ∃ (op : Op) (c : Cmd) (h : Half) (s : State), ready (rowOf op c) s = true ∧
    firstErr (tagChecks s (submitted s c) ++ shapeChecks op (submitted s c)) = none ∧ placeOf op (submitted s c)
    (numberTaken s) = some h ∧ mirrorRefuses s op (submitted s c) = false ∧ h = c.recv ∧ islandResets op c h s = true :=
⟨.memSetRegion, { params := List.replicate 3 0, target := 1 }, .A, il .dram { resetting := true } up, by decide +kernel,
   by decide +kernel, by decide +kernel, by decide +kernel, by decide +kernel, by decide +kernel⟩

theorem met_CompletionEntryWritten_0 : ∃ (s : State) (t : State) (h : Half) (n : Nat) (a : Nat) (c : Completion) (r : CqRec)
    (e : MsixVec), s.hostMem.wf hostDefault = true ∧ s.pair.fenced = false ∧ n < 32 ∧ r = cqAt s h n ∧ a = r.base.toNat + 32
    * r.tail.toNat ∧ hostOk s a 32 = true ∧ e = tget (half s h).ep.msix r.vector.toNat ∧ t = writeCompletion s h n c ∧
    (e.addr.toNat + 4 ≤ a ∨ a + 32 ≤ e.addr.toNat) :=
⟨cq0 { base := 0x1000, sizeLog2 := 4, enable := true, tail := 15 } up, _, .A, 0, _, {}, _, _, by decide +kernel,
   by decide +kernel, by decide +kernel, rfl, rfl, by decide +kernel, rfl, rfl, by decide +kernel⟩

theorem met_CompletionEntryWritten_1 : ∃ (s : State) (t : State) (h : Half) (n : Nat) (a : Nat) (c : Completion) (r : CqRec)
    (e : MsixVec) (x : Nat), s.hostMem.wf hostDefault = true ∧ s.pair.fenced = false ∧ n < 32 ∧ r = cqAt s h n ∧ a =
    r.base.toNat + 32 * r.tail.toNat ∧ hostOk s a 32 = true ∧ e = tget (half s h).ep.msix r.vector.toNat ∧ t =
    writeCompletion s h n c ∧ (x < a ∨ a + 32 ≤ x) ∧ (x < e.addr.toNat ∨ e.addr.toNat + 4 ≤ x) :=
⟨cq0 { base := 0x1000, sizeLog2 := 4, enable := true } up, _, .A, 0, _, {}, _, _, 0x1020, by decide +kernel,
   by decide +kernel, by decide +kernel, rfl, rfl, by decide +kernel, rfl, rfl, by decide +kernel, by decide +kernel⟩

theorem met_CompletionEntryWritten_2 : ∃ (s : State) (t : State) (h : Half) (n : Nat) (a : Nat) (c : Completion) (r : CqRec)
    (e : MsixVec), s.hostMem.wf hostDefault = true ∧ s.pair.fenced = false ∧ n < 32 ∧ r = cqAt s h n ∧ a = r.base.toNat + 32
    * r.tail.toNat ∧ hostOk s a 32 = true ∧ e = tget (half s h).ep.msix r.vector.toNat ∧ t = writeCompletion s h n c :=
⟨cq0 { base := 0x1000, sizeLog2 := 4, enable := true } up, _, .A, 0, _, {}, _, _, by decide +kernel, by decide +kernel,
   by decide +kernel, rfl, rfl, by decide +kernel, rfl, rfl⟩

theorem met_EventLogged_0 : ∃ (s : State) (t : State) (h : Half) (e : EventRec), t = raise s h e :=
⟨up, _, .A, { code := 0x30 }, rfl⟩

theorem met_EventLogged_1 : ∃ (s : State) (t : State) (h : Half) (e : EventRec) (k : _), t = raise s h e ∧ LogWf (half s
    k).cmd :=
⟨up, _, .A, { code := 0x30 }, .A, rfl, log_wf (by decide +kernel) (by decide +kernel)⟩

theorem met_EventLogged_2 : ∃ (s : State) (t : State) (h : Half) (e : EventRec), t = raise s h e ∧ e.severity = 3 :=
⟨up, _, .A, { severity := 3 }, rfl, by decide +kernel⟩

theorem met_EventLogRead_0 : ∃ (x : HalfCmd) (first : Word) (d : Word) (count : Nat), LogWf x ∧ d = x.nextSeq - 1 - first ∧
    x.log = [] :=
⟨{ nextSeq := 7 }, 5, _, 1, log_wf (by decide +kernel) (by decide +kernel), rfl, by decide +kernel⟩

theorem met_EventLogRead_1 : ∃ (x : HalfCmd) (first : Word) (d : Word) (count : Nat), LogWf x ∧ d = x.nextSeq - 1 - first ∧
    2 ^ 31 ≤ d.toNat :=
⟨log2, 7, _, 1, log2_wf, rfl, by decide +kernel⟩

theorem met_EventLogRead_2 : ∃ (x : HalfCmd) (first : Word) (d : Word) (count : Nat), LogWf x ∧ d = x.nextSeq - 1 - first ∧
    d.toNat < x.log.length :=
⟨log2, 6, _, 9, log2_wf, rfl, by decide +kernel⟩

theorem met_EventLogRead_3 : ∃ (x : HalfCmd) (first : Word) (d : Word) (count : Nat) (i : Nat) (e : EventRec), LogWf x ∧ d =
    x.nextSeq - 1 - first ∧ d.toNat < x.log.length ∧ (logFrom x first count)[i]? = some e :=
⟨log2, 6, _, 9, 0, { seq := 6 }, log2_wf, rfl, by decide +kernel, by decide +kernel⟩

theorem met_EventLogRead_4 : ∃ (x : HalfCmd) (first : Word) (d : Word) (count : Nat), LogWf x ∧ d = x.nextSeq - 1 - first ∧
    x.log.length ≤ d.toNat ∧ d.toNat < 2 ^ 31 :=
⟨log2, 4, _, 9, log2_wf, rfl, by decide +kernel, by decide +kernel⟩

theorem met_EventLogRead_5 : ∃ (x : HalfCmd) (first : Word) (d : Word) (count : Nat) (i : Nat) (e : EventRec), LogWf x ∧ d =
    x.nextSeq - 1 - first ∧ x.log.length ≤ d.toNat ∧ d.toNat < 2 ^ 31 ∧ (logFrom x first count)[i]? = some e :=
⟨log2, 4, _, 9, 1, { seq := 6 }, log2_wf, rfl, by decide +kernel, by decide +kernel, by decide +kernel⟩

theorem met_FenceHoldsCommands_0 : ∃ (s : State) (f : Flight) (before : List Flight) (after : List Flight), s.flights =
    before ++ f :: after ∧ (∀ x ∈ before, x.cmd.serial ≠ f.cmd.serial) ∧ f.cmd.fence = true ∧ (∃ g ∈ before, g.cmd.recv =
    f.cmd.recv ∧ g.cmd.sq = f.cmd.sq ∧ g.dropped = false ∧ g.silent = false) :=
⟨{ up with flights := [fl 0 {}, fl 1 { fence := true }] }, fl 1 { fence := true }, [fl 0 {}], [], rfl, by decide +kernel,
   by decide +kernel, by decide +kernel⟩

theorem met_FenceHoldsCommands_1 : ∃ (s : State) (f : Flight) (before : List Flight) (after : List Flight) (h : Half) (k :
    Nat), s.flights = before ++ f :: after ∧ (∀ x ∈ before, x.cmd.serial ≠ f.cmd.serial) ∧ f.cmd.fence = true ∧ (∃ g ∈
    before, g.cmd.recv = f.cmd.recv ∧ g.cmd.sq = f.cmd.sq ∧ g.dropped = false ∧ g.silent = false) :=
⟨{ up with flights := [fl 0 {}, fl 1 { fence := true }] }, fl 1 { fence := true }, [fl 0 {}], [], .A, 0, rfl,
   by decide +kernel, by decide +kernel, by decide +kernel⟩

theorem met_FenceHoldsCommands_2 : ∃ (s : State) (f : Flight) (before : List Flight) (after : List Flight), s.flights =
    before ++ f :: after ∧ (∀ x ∈ before, x.cmd.serial ≠ f.cmd.serial) ∧ f.cmd.fence = true ∧ (∀ g ∈ before, g.cmd.recv =
    f.cmd.recv → g.cmd.sq = f.cmd.sq → g.dropped = true ∨ g.silent = true) :=
⟨{ up with flights := [fl 0 { sq := 1 }, fl 1 { fence := true }] }, fl 1 { fence := true }, [fl 0 { sq := 1 }], [], rfl,
   by decide +kernel, by decide +kernel, by decide +kernel⟩

theorem met_PriorityDecidesStarts_0 : ∃ (s : State) (h : Half) (k : Nat) (f : Flight), chooseRival s h = some (k, f) :=
⟨{ up with flights := [fl 0 {}] }, .A, 0, fl 0 {}, by decide +kernel⟩

theorem met_PriorityDecidesStarts_1 : ∃ (s : State) (h : Half) (k : Nat) (f : Flight), k < 64 ∧ rivalHead s h k = some f ∧
    startable s f = true :=
⟨{ up with flights := [fl 0 {}] }, .A, 0, fl 0 {}, by decide +kernel, by decide +kernel, by decide +kernel⟩

theorem met_DoorbellRule_0 : ∃ (h : Half) (n : Nat) (v : BitVec 64) (s : State), n < 32 :=
⟨.A, 31, 0xFFFFFFFFFFFFFFFF, up, by decide +kernel⟩

theorem met_DoorbellRule_1 : ∃ (h : Half) (n : Nat) (v : BitVec 64) (s : State), n < 32 ∧ s.sys.tripped = false :=
⟨.A, 31, 0xFFFFFFFFFFFFFFFF, up, by decide +kernel, by decide +kernel⟩

theorem met_DoorbellRule_2 : ∃ (h : Half) (n : Nat) (v : Word) (w : Word) (env : HostUpdate) (s : State), v.toNat % 65536 =
    w.toNat % 65536 :=
⟨.A, 31, 0x10005, 5, {}, up, by decide +kernel⟩

theorem met_DoorbellRule_3 : ∃ (h : Half) (n : Nat) (v : Word) (env : HostUpdate) (s : State), n < 32 ∧ s.sys.tripped =
    false ∧ ((sqAt s h n).enable = false ∨ (sqAt s h n).error = true) :=
⟨.A, 31, 5, {}, up, by decide +kernel, by decide +kernel, by decide +kernel⟩

theorem met_DoorbellRule_4 : ∃ (h : Half) (n : Nat) (v : Word) (env : HostUpdate) (s : State), n < 32 ∧ s.sys.tripped =
    false ∧ ((cqAt s h n).enable = false ∨ (cqAt s h n).error = true) :=
⟨.A, 31, 5, {}, up, by decide +kernel, by decide +kernel, by decide +kernel⟩

theorem met_DoorbellRule_5 : ∃ (h : Half) (n : Nat) (v : Word) (env : HostUpdate) (s : State), n < 32 ∧ s.sys.tripped =
    false ∧ ((half s h).cmd.ev.enable = false ∨ (half s h).cmd.ev.error = true) :=
⟨.A, 31, 5, {}, up, by decide +kernel, by decide +kernel, by decide +kernel⟩

theorem met_BaseLockedWhileEnabled_0 : ∃ (h : Half) (k : Half) (off : Nat) (size : Nat) (v : BitVec 64) (s : State) (t :
    State) (n : Nat), exec (.registerWrite h (.bar0 off size v)) s = .next t ∧ n < 32 ∧ (sqAt s k n).enable = true :=
⟨.A, .A, 0x1000, 4, 0x10001, sq0 { enable := true, sizeLog2 := 4 } up, nextOf (.registerWrite .A (.bar0 0x1000 4 0x10001))
   (sq0 { enable := true, sizeLog2 := 4 } up), 0, exec_nextOf (by decide +kernel), by decide +kernel, by decide +kernel⟩

theorem met_BaseLockedWhileEnabled_1 : ∃ (h : Half) (k : Half) (off : Nat) (size : Nat) (v : BitVec 64) (s : State) (t :
    State) (n : Nat), exec (.registerWrite h (.bar0 off size v)) s = .next t ∧ n < 32 ∧ (cqAt s k n).enable = true :=
⟨.A, .A, 0x1000, 4, 0x10001, cq0 { enable := true, sizeLog2 := 4 } up, nextOf (.registerWrite .A (.bar0 0x1000 4 0x10001))
   (cq0 { enable := true, sizeLog2 := 4 } up), 0, exec_nextOf (by decide +kernel), by decide +kernel, by decide +kernel⟩

theorem met_BaseLockedWhileEnabled_2 : ∃ (h : Half) (k : Half) (off : Nat) (size : Nat) (v : BitVec 64) (s : State) (t :
    State), exec (.registerWrite h (.bar0 off size v)) s = .next t ∧ (half s k).cmd.ev.enable = true :=
⟨.A, .A, 0x1000, 4, 0x10001, ev0 { enable := true, sizeLog2 := 4 } up, nextOf (.registerWrite .A (.bar0 0x1000 4 0x10001))
   (ev0 { enable := true, sizeLog2 := 4 } up), exec_nextOf (by decide +kernel), by decide +kernel⟩

theorem met_RingRowsKeepUnits_0 : ∃ (i : Instr) (s : State) (t : State), (∃ (h : Half) (n : Nat) (v : Word), (∃ env, i =
    .sqTailDoorbell h n v env) ∨ i = .cqHeadDoorbell h n v ∨ i = .headDb h v ∨ i = .sqEnable h n v ∨ i = .sqDisable h n v ∨
    i = .cqEnable h n v ∨ i = .cqDisable h n v ∨ i = .eventRingEnable h v ∨ i = .eventRingDisable h v ∨ (∃ w, i =
    .msixMaskWrite h w) ∨ (∃ off size w, i = .registerWrite h (.bar0 off size w)) ∨ i = .quiesced h n ∨ i = .coalDelayExpiry
    h n) ∧ exec i s = .next t :=
⟨.headDb .A 5, up, nextOf (.headDb .A 5) up, ⟨.A, 0, 5, .inr (.inr (.inl rfl))⟩, exec_nextOf (by decide +kernel)⟩

theorem met_FencedDeviceWritesNothing_0 : ∃ (s : State) (h : Half) (c : Cmd) (st : BitVec 16) (rs : BitVec 8) (pi : BitVec
    16) (r0 : Word) (r1 : Word) (r2 : Word), s.pair.fenced = true :=
⟨pr { act with fenced := true } up, .A, {}, 0, 0, 0, 1, 2, 3, by decide +kernel⟩

theorem met_FencedDeviceWritesNothing_1 : ∃ (s : State) (h : Half) (e : EventRec), s.pair.fenced = true :=
⟨pr { act with fenced := true } up, .A, {}, by decide +kernel⟩

theorem met_FencedDeviceWritesNothing_2 : ∃ (s : State) (h : Half) (n : Nat) (c : Completion), s.pair.fenced = true :=
⟨pr { act with fenced := true } up, .A, 0, {}, by decide +kernel⟩

theorem met_FencedDeviceWritesNothing_3 : ∃ (s : State) (h : Half) (n : Nat), s.pair.fenced = true :=
⟨pr { act with fenced := true } up, .A, 0, by decide +kernel⟩

theorem met_DramReadsBackWrites_0 : ∃ (s : State) (t : State) (h : Half) (a : Nat) (bs : List Byte), (half s h).mem.mem.wf
    dramDefault = true ∧ t = dramWrite s h a bs :=
⟨up, _, .A, 60, [1, 2], by decide +kernel, rfl⟩

theorem met_DramReadsBackWrites_1 : ∃ (s : State) (t : State) (h : Half) (a : Nat) (bs : List Byte) (i : Nat) (b : Byte),
    (half s h).mem.mem.wf dramDefault = true ∧ t = dramWrite s h a bs ∧ bs[i]? = some b ∧ backed (half s h).mem (a + i) =
    true :=
⟨up, _, .A, 60, [1, 2], 1, 2, by decide +kernel, rfl, by decide +kernel, by decide +kernel⟩

theorem met_DramReadsBackWrites_2 : ∃ (s : State) (t : State) (h : Half) (a : Nat) (bs : List Byte) (x : Nat), (half s
    h).mem.mem.wf dramDefault = true ∧ t = dramWrite s h a bs ∧ backed (half s h).mem x = false :=
⟨up, _, .A, 60, [1, 2], 2 ^ 30, by decide +kernel, rfl, by decide +kernel⟩

theorem met_DramReadsBackWrites_3 : ∃ (s : State) (t : State) (h : Half) (a : Nat) (bs : List Byte) (x : Nat), (half s
    h).mem.mem.wf dramDefault = true ∧ t = dramWrite s h a bs ∧ (x < a ∨ a + bs.length ≤ x) :=
⟨up, _, .A, 60, [1, 2], 62, by decide +kernel, rfl, by decide +kernel⟩

theorem met_DramReadsBackWrites_4 : ∃ (s : State) (t : State) (h : Half) (a : Nat) (bs : List Byte) (b : Nat), (half s
    h).mem.mem.wf dramDefault = true ∧ t = dramWrite s h a bs ∧ a ≤ 64 * b ∧ 64 * b + 64 ≤ a + bs.length ∧ backed (half s
    h).mem (64 * b) = true :=
⟨up, _, .A, 64, List.replicate 64 7, 1, by decide +kernel, rfl, by decide +kernel, by decide +kernel, by decide +kernel⟩

theorem met_DramReadsBackWrites_5 : ∃ (s : State) (t : State) (h : Half) (a : Nat) (bs : List Byte) (b : Nat), (half s
    h).mem.mem.wf dramDefault = true ∧ t = dramWrite s h a bs ∧ ¬ (a ≤ 64 * b ∧ 64 * b + 64 ≤ a + bs.length) :=
⟨up, _, .A, 64, List.replicate 63 7, 1, by decide +kernel, rfl, by decide +kernel⟩

theorem met_PixelsAndIndexRoundTrip_0 : ∃ (d : Nat) (px : List Nat), (∀ p ∈ px, p < 2 ^ d) :=
⟨10, [0, 1023], by decide +kernel⟩

theorem met_PixelsAndIndexRoundTrip_1 : ∃ (depth : BitVec 2) (w : Nat) (h : Nat) (px : List Nat), px.length = w * h ∧ (∀ p ∈
    px, p < 2 ^ depthBits depth) :=
⟨1, 2, 1, [0, 1023], by decide +kernel, by decide +kernel⟩

theorem met_PixelsAndIndexRoundTrip_2 : ∃ (e : IndexEntry), e.offset < 2 ^ 40 ∧ e.length < 2 ^ 16 :=
⟨{ offset := 2 ^ 40 - 1, length := 2 ^ 16 - 1 }, by decide +kernel, by decide +kernel⟩

theorem met_AshlarBlocksDecodeWithinBound_0 : ∃ (depth : BitVec 2) (err : BitVec 3) (w : Nat) (h : Nat) (px : List Nat), 0 <
    w ∧ w ≤ 128 ∧ 0 < h ∧ h ≤ 8 ∧ err.toNat ≤ 4 ∧ px.length = w * h ∧ (∀ p ∈ px, p < 2 ^ depthBits depth) :=
⟨0, 4, 128, 8, List.replicate 1024 255, by decide +kernel, by decide +kernel, by decide +kernel, by decide +kernel,
   by decide +kernel, by decide +kernel, by decide +kernel⟩

theorem met_AshlarBlocksDecodeWithinBound_2 : ∃ (depth : BitVec 2) (err : BitVec 3) (w : Nat) (h : Nat) (px : List Nat), 0 <
    w ∧ w ≤ 128 ∧ 0 < h ∧ h ≤ 8 ∧ err.toNat ≤ 4 ∧ px.length = w * h ∧ (∀ p ∈ px, p < 2 ^ depthBits depth) ∧ err = 0 :=
⟨0, 0, 1, 1, [255], by decide +kernel, by decide +kernel, by decide +kernel, by decide +kernel, by decide +kernel,
   by decide +kernel, by decide +kernel, by decide +kernel⟩

theorem met_AshlarBlocksDecodeWithinBound_3 : ∃ (depth : BitVec 2) (err : BitVec 3) (w : Nat) (h : Nat) (px : List Nat), 0 <
    w ∧ w ≤ 128 ∧ 0 < h ∧ h ≤ 8 ∧ err.toNat ≤ 4 ∧ px.length = w * h ∧ (∀ p ∈ px, p < 2 ^ depthBits depth) ∧ 2 * errBound err
    < pxMax px - pxMin px :=
⟨0, 1, 4, 1, px4, by decide +kernel, by decide +kernel, by decide +kernel, by decide +kernel, by decide +kernel,
   by decide +kernel, by decide +kernel, by decide +kernel⟩

theorem met_AshlarBlocksDecodeWithinBound_4 : ∃ (depth : BitVec 2) (err : BitVec 3) (w : Nat) (h : Nat) (px : List Nat) (bs
    : List Byte), 0 < w ∧ w ≤ 128 ∧ 0 < h ∧ h ≤ 8 ∧ err.toNat ≤ 4 ∧ px.length = w * h ∧ (∀ p ∈ px, p < 2 ^ depthBits depth)
    :=
⟨0, 1, 4, 1, px4, codedBlock 0 1 4 px4, by decide +kernel, by decide +kernel, by decide +kernel, by decide +kernel,
   by decide +kernel, by decide +kernel, by decide +kernel⟩

theorem met_AshlarBlocksDecodeWithinBound_1 : ∃ (ys : List Nat) (x y : Nat),
    decodeCoded 0 4 1 (codedBlock 0 1 4 px4) = some ys ∧ px4[3]? = some x ∧ ys[3]? = some y :=
  ⟨(decodeCoded 0 4 1 (codedBlock 0 1 4 px4)).getD [], 15,
   ((decodeCoded 0 4 1 (codedBlock 0 1 4 px4)).getD []).getD 3 0, by decide +kernel, by decide +kernel, by decide +kernel⟩

theorem met_DramUpkeepKeepsData_0 : ∃ (i : Instr) (s : State) (t : State) (h : Half) (k : Nat) (r : Nat) (x : Half) (a :
    Nat), ((∃ cycles, i = .refreshIssue h k r cycles) ∨ i = .refreshDebtLimit h k r ∨ (∃ temp cycles, i = .mr4Poll h k r
    temp cycles) ∨ i = .powerDownEntry h k r) ∧ exec i s = .next t :=
⟨.refreshIssue .A 0 0 9, up, nextOf (.refreshIssue .A 0 0 9) up, .A, 0, 0, .A, 0, .inl ⟨9, rfl⟩, exec_nextOf
   (by decide +kernel)⟩

end Sys2Proof.Tests
end

section
/-! Placement against the TARGET field (R33): how a submitted command that no rule places completes, and when the TARGET is why. -/

namespace Sys2Proof.Machine

open Sys2Proof.Safety

/-- Every opcode's row submits its command: the opcodes differ in their meanings alone. -/
theorem exec_rowOf_eq_submit (op : Op) (c : Cmd) (s : State) :
    ∃ f : Meaning, exec (rowOf op c) s = submit (rowOf op c) op f c s := by
  cases op <;> exact ⟨_, rfl⟩

theorem firstErr_tagChecks_submitted (op : Op) (c : Cmd) (s : State) :
    firstErr (tagChecks (numberTaken s) (submitted s c) ++ shapeChecks op (submitted s c)) =
      firstErr (tagChecks s c ++ shapeChecks op c) := rfl

theorem placeOf_submitted (op : Op) (c : Cmd) (s : State) :
    placeOf op (submitted s c) (numberTaken s) = placeOf op c s := rfl

/-- A half's code is not 0, the TARGET that leaves the choice to the device. -/
theorem ne_zero_of_halfOfCode_eq_some {n : Nat} {t : BitVec n} {k : Half} (h : halfOfCode t.toNat = some k) : t ≠ 0 := by
  rintro rfl
  simp [halfOfCode] at h

/-- A TARGET that names the half which does not own the object leaves the command without a place. -/
theorem placeOf_eq_none_of_target_ne_owner {op : Op} {c : Cmd} {s : State} {h k : Half}
    (owner : ownerOf op c s = .half h ∨ ownerOf op c s = .targetOf h) (target : halfOfCode c.target.toNat = some k)
    (ne : k ≠ h) : placeOf op c s = none := by
  have nonzero := ne_zero_of_halfOfCode_eq_some target
  rcases owner with owner | owner <;> simp only [placeOf, if_neg nonzero, target, owner, if_neg ne]

/-- A command that passes the entry checks and has no place is rejected with BAD_TARGET. -/
theorem carryOut_of_placeOf_eq_none {op : Op} {c : Cmd} {s : State} (f : Meaning)
    (checks : firstErr (tagChecks s c ++ shapeChecks op c) = none) (place : placeOf op c s = none) :
    carryOut op f c s =
      reject (enterFlight (numberTaken s) (submitted s c) op c.recv 0 (sqAt s c.recv c.sq.toNat).cqId.toNat)
        (submitted s c) badTarget := by
  simp only [carryOut, firstErr_tagChecks_submitted, checks, placeOf_submitted, place]
  rfl

/-- Settles O44: such a TARGET leaves the command without a place, so its row rejects it, and BAD_TARGET at dword 1 is what
the rejection posts before the command leaves flight. -/
theorem wrongHalfIsBadTarget : Obligations.WrongHalfIsBadTarget := by
  intro op c h k s hready checks owner target ne
  obtain ⟨f, row⟩ := exec_rowOf_eq_submit op c s
  have place := placeOf_eq_none_of_target_ne_owner owner target ne
  exact acts_of _ s _ _ hready row (carryOut_of_placeOf_eq_none f checks place)

end Sys2Proof.Machine
end

section
/-! FENCE (R52): what stands before a command of its ring, and what the start of a half is chosen from. -/

namespace Sys2Proof.Machine

open Sys2Proof.Safety

/-- A competitor is a ring of a half: two commands compete as one only where one ring received both (R51). -/
theorem rivalIdx_eq_iff (f g : Flight) : rivalIdx g = rivalIdx f ↔ g.cmd.recv = f.cmd.recv ∧ g.cmd.sq = f.cmd.sq := by
  have hf := f.cmd.sq.isLt
  have hg := g.cmd.sq.isLt
  have sq : g.cmd.sq = f.cmd.sq ↔ g.cmd.sq.toNat = f.cmd.sq.toNat := BitVec.toNat_inj.symm
  rw [sq]
  unfold rivalIdx
  cases g.cmd.recv <;> cases f.cmd.recv <;> simp [halfIdx] <;> omega

/-- The flights that `earlierLeft` looks through are those before the command itself. -/
theorem takeWhile_not_isFlight {f : Flight} {before after : List Flight}
    (distinct : ∀ x ∈ before, x.cmd.serial ≠ f.cmd.serial) :
    (before ++ f :: after).takeWhile (fun x => !isFlight f.cmd.serial x) = before := by
  rw [List.takeWhile_append_of_pos (by simpa [isFlight] using distinct)]
  simp [isFlight]

theorem earlierLeft_iff {s : State} {f : Flight} {before after : List Flight} (split : s.flights = before ++ f :: after)
    (distinct : ∀ x ∈ before, x.cmd.serial ≠ f.cmd.serial) :
    earlierLeft s f = true ↔
      ∃ g ∈ before, g.cmd.recv = f.cmd.recv ∧ g.cmd.sq = f.cmd.sq ∧ g.dropped = false ∧ g.silent = false := by
  simp only [earlierLeft, split, takeWhile_not_isFlight distinct, List.any_eq_true, Bool.and_eq_true, decide_eq_true_eq,
    rivalIdx_eq_iff, Bool.not_eq_true', and_assoc]

theorem startable_eq_false_of_fence {s : State} {f : Flight} (fence : f.cmd.fence = true) (left : earlierLeft s f = true) :
    startable s f = false := by
  simp [startable, fence, left]

/-- Where no earlier command of the ring is left, FENCE has no part in whether the command starts. -/
theorem startable_eq_without_fence {s : State} {f : Flight} (left : earlierLeft s f = false) :
    startable s f = startable s { f with cmd := { f.cmd with fence := false } } := by
  simp [startable, left]

theorem startable_of_mem_rivals {s : State} {h : Half} {k : Nat} {f : Flight} (mem : (k, f) ∈ rivals s h) :
    startable s f = true := by
  obtain ⟨j, -, head⟩ := List.mem_filterMap.mp mem
  split at head
  next g _ =>
    split at head
    next can => cases head; exact can
    next => cases head
  next => cases head

theorem mem_rivals_of_chooseRival {s : State} {h : Half} {r : Nat × Flight} (chosen : chooseRival s h = some r) :
    r ∈ rivals s h := by
  simp only [chooseRival] at chosen
  split at chosen
  next overdue => cases chosen; exact List.mem_of_find?_eq_some overdue
  next => exact List.mem_of_find?_eq_some chosen

/-- Settles O51: the earlier commands of the ring are those that `earlierLeft` finds before the command in flight, and a half
starts only commands that are startable. -/
theorem fenceHoldsCommands : Obligations.FenceHoldsCommands := by
  intro s f before after split distinct fence
  have left := earlierLeft_iff split distinct
  constructor
  · intro earlier
    have held := startable_eq_false_of_fence fence (left.mpr earlier)
    refine ⟨held, fun h k chosen => ?_⟩
    have can := startable_of_mem_rivals (mem_rivals_of_chooseRival chosen)
    simp [held] at can
  · intro gone
    refine startable_eq_without_fence (Bool.eq_false_iff.mpr fun found => ?_)
    obtain ⟨g, mem, recv, sq, dropped, silent⟩ := left.mp found
    simpa [dropped, silent] using gone g mem recv sq

end Sys2Proof.Machine
end

section
/-! Doorbells (R37, R397, R405): what a wake of the link leaves, where the register map has the doorbells, and when a doorbell
is discarded. -/

namespace Sys2Proof.Machine

open Sys2Proof.Safety

/-! A wake of the link and the host's own stores leave every ring. -/

@[simp] theorem linkWake_half_cmd (s : State) (h k : Half) : (half (linkWake s h) k).cmd = (half s k).cmd := by
  simp only [linkWake]
  split
  · cases h <;> cases k <;> rfl
  · rfl

@[simp] theorem sqAt_linkWake (s : State) (h k : Half) (n : Nat) : sqAt (linkWake s h) k n = sqAt s k n := by simp [sqAt]

@[simp] theorem cqAt_linkWake (s : State) (h k : Half) (n : Nat) : cqAt (linkWake s h) k n = cqAt s k n := by simp [cqAt]

@[simp] theorem sqAt_hostUpdate (s : State) (u : HostUpdate) (k : Half) (n : Nat) :
    sqAt (hostUpdate s u) k n = sqAt s k n := by
  cases k <;> rfl

@[simp] theorem hostUpdate_empty (s : State) : hostUpdate s {} = s := rfl

/-! A doorbell depends on bits [15:0], and is discarded at a ring that is disabled or stopped. -/

theorem fld_15_0_eq {v w : Word} (low : v.toNat % 65536 = w.toNat % 65536) : fld v 15 0 = fld w 15 0 := by
  simpa [fld] using low

theorem sqDoorbell_of_stopped {s : State} {h : Half} {n : Nat} (v : Word)
    (stopped : (sqAt s h n).enable = false ∨ (sqAt s h n).error = true) : sqDoorbell s h n v = s := by
  simp only [sqDoorbell]
  exact if_pos (by simpa using stopped)

theorem cqDoorbell_of_stopped {s : State} {h : Half} {n : Nat} (v : Word)
    (stopped : (cqAt s h n).enable = false ∨ (cqAt s h n).error = true) : cqDoorbell s h n v = s := by
  simp only [cqDoorbell]
  exact if_pos (by simpa using stopped)

theorem evDoorbell_of_stopped {s : State} {h : Half} (v : Word)
    (stopped : (half s h).cmd.ev.enable = false ∨ (half s h).cmd.ev.error = true) : evDoorbell s h v = s := by
  simp only [evDoorbell]
  exact if_pos (by simpa using stopped)

/-! The doorbells in the register map of BAR0 (R397). -/

theorem bar0Write_sqDoorbell (s : State) (h : Half) {n : Nat} (v : Word) (hn : n < 32) :
    bar0Write s h (0x10000 + 8 * n) v = sqDoorbell s h n v := by
  have index : (0x10000 + 8 * n - 0x10000) / 8 = n := by omega
  simp only [bar0Write, index]
  rw [if_neg (by omega), if_neg (by omega), if_pos (by omega), if_pos (by omega)]

theorem bar0Write_cqDoorbell (s : State) (h : Half) {n : Nat} (v : Word) (hn : n < 32) :
    bar0Write s h (0x10800 + 8 * n) v = cqDoorbell s h n v := by
  have index : (0x10800 + 8 * n - 0x10800) / 8 = n := by omega
  simp only [bar0Write, index]
  rw [if_neg (by omega), if_neg (by omega), if_neg (by omega), if_pos (by omega), if_pos (by omega)]

/-- The upper dword of a tail doorbell holds nothing. -/
theorem bar0Write_sqDoorbell_upper (s : State) (h : Half) {n : Nat} (v : Word) (hn : n < 32) :
    bar0Write s h (0x10004 + 8 * n) v = s := by
  simp only [bar0Write]
  rw [if_neg (by omega), if_neg (by omega), if_pos (by omega), if_neg (by omega)]

/-- The upper dword of a head doorbell holds nothing. -/
theorem bar0Write_cqDoorbell_upper (s : State) (h : Half) {n : Nat} (v : Word) (hn : n < 32) :
    bar0Write s h (0x10804 + 8 * n) v = s := by
  simp only [bar0Write]
  rw [if_neg (by omega), if_neg (by omega), if_neg (by omega), if_pos (by omega), if_neg (by omega)]

theorem regWrite_dword (s : State) (h : Half) {off : Nat} (v : BitVec 64) (aligned : off % 4 = 0) :
    regWrite s h (.bar0 off 4 v) = bar0Write s h off (BitVec.setWidth 32 v) := by
  simp [regWrite, aligned]

theorem regWrite_qword (s : State) (h : Half) {off : Nat} (v : BitVec 64) (aligned : off % 8 = 0) :
    regWrite s h (.bar0 off 8 v) =
      bar0Write (bar0Write s h off (BitVec.setWidth 32 v)) h (off + 4) (hi32 v.toNat) := by
  have low : lo32 v.toNat = BitVec.setWidth 32 v := by simp [lo32]
  simp [regWrite, aligned, low]

theorem regWrite_sqDoorbell (s : State) (h : Half) {n size : Nat} (v : BitVec 64) (hn : n < 32)
    (hsize : size = 4 ∨ size = 8) :
    regWrite s h (.bar0 (0x10000 + 8 * n) size v) = sqDoorbell s h n (BitVec.setWidth 32 v) := by
  rcases hsize with rfl | rfl
  · rw [regWrite_dword s h v (by omega), bar0Write_sqDoorbell s h _ hn]
  · rw [regWrite_qword s h v (by omega), bar0Write_sqDoorbell s h _ hn, Nat.add_right_comm,
      bar0Write_sqDoorbell_upper _ h _ hn]

theorem regWrite_cqDoorbell (s : State) (h : Half) {n size : Nat} (v : BitVec 64) (hn : n < 32)
    (hsize : size = 4 ∨ size = 8) :
    regWrite s h (.bar0 (0x10800 + 8 * n) size v) = cqDoorbell s h n (BitVec.setWidth 32 v) := by
  rcases hsize with rfl | rfl
  · rw [regWrite_dword s h v (by omega), bar0Write_cqDoorbell s h _ hn]
  · rw [regWrite_qword s h v (by omega), bar0Write_cqDoorbell s h _ hn, Nat.add_right_comm,
      bar0Write_cqDoorbell_upper _ h _ hn]

/-! The rows. -/

theorem exec_registerWrite (h : Half) (w : RegWrite) (s : State) :
    exec (.registerWrite h w) s = act (.registerWrite h w) s (regWrite (linkWake s h) h w) := rfl

theorem exec_sqTailDoorbell (h : Half) (n : Nat) (v : Word) (env : HostUpdate) (s : State) :
    exec (.sqTailDoorbell h n v env) s =
      act (.sqTailDoorbell h n v env) s (sqDoorbell (linkWake (hostUpdate s env) h) h n v) := rfl

theorem exec_cqHeadDoorbell (h : Half) (n : Nat) (v : Word) (s : State) :
    exec (.cqHeadDoorbell h n v) s = act (.cqHeadDoorbell h n v) s (cqDoorbell (linkWake s h) h n v) := rfl

theorem exec_headDb (h : Half) (v : Word) (s : State) :
    exec (.headDb h v) s = act (.headDb h v) s (evDoorbell (linkWake s h) h v) := rfl

/-- A row's objects and its effect are all that its answer depends on. -/
theorem act_congr {i j : Instr} {s t u : State} (wf : i.wf = j.wf) (effect : t = u) : act i s t = act j s u := by
  simp only [act, wf, effect]

/-- A row that names objects of the device acts as its effect says while the device has not tripped. -/
theorem acts_of_wf {i : Instr} {s t u : State} (wf : i.wf = true) (running : s.sys.tripped = false)
    (row : exec i s = act i s t) (effect : t = u) : Acts i s u :=
  acts_of i s u t (by simp [ready, wf, running]) row effect

theorem exec_registerWrite_sqDoorbell (h : Half) {n size : Nat} (v : BitVec 64) (s : State) (hn : n < 32)
    (hsize : size = 4 ∨ size = 8) :
    exec (.registerWrite h (.bar0 (0x10000 + 8 * n) size v)) s =
      exec (.sqTailDoorbell h n (BitVec.setWidth 32 v) {}) s := by
  rw [exec_registerWrite, exec_sqTailDoorbell, hostUpdate_empty]
  exact act_congr (by simp [Instr.wf, hn]) (regWrite_sqDoorbell _ h v hn hsize)

theorem exec_registerWrite_cqDoorbell (h : Half) {n size : Nat} (v : BitVec 64) (s : State) (hn : n < 32)
    (hsize : size = 4 ∨ size = 8) :
    exec (.registerWrite h (.bar0 (0x10800 + 8 * n) size v)) s =
      exec (.cqHeadDoorbell h n (BitVec.setWidth 32 v)) s := by
  rw [exec_registerWrite, exec_cqHeadDoorbell]
  exact act_congr (by simp [Instr.wf, hn]) (regWrite_cqDoorbell _ h v hn hsize)

/-- A dword write that the register map ignores wakes the link and does nothing more (R397, R405). -/
theorem acts_registerWrite_of_ignored {h : Half} {off : Nat} {v : BitVec 64} {s : State} (aligned : off % 4 = 0)
    (ignored : ∀ t w, bar0Write t h off w = t) (running : s.sys.tripped = false) :
    Acts (.registerWrite h (.bar0 off 4 v)) s (linkWake s h) :=
  acts_of_wf rfl running (exec_registerWrite h _ s) ((regWrite_dword _ h v aligned).trans (ignored _ _))

theorem exec_sqTailDoorbell_eq {v w : Word} (h : Half) (n : Nat) (env : HostUpdate) (s : State)
    (low : v.toNat % 65536 = w.toNat % 65536) :
    exec (.sqTailDoorbell h n v env) s = exec (.sqTailDoorbell h n w env) s := by
  rw [exec_sqTailDoorbell, exec_sqTailDoorbell]
  exact act_congr rfl (by simp only [sqDoorbell, fld_15_0_eq low])

theorem exec_cqHeadDoorbell_eq {v w : Word} (h : Half) (n : Nat) (s : State)
    (low : v.toNat % 65536 = w.toNat % 65536) : exec (.cqHeadDoorbell h n v) s = exec (.cqHeadDoorbell h n w) s := by
  rw [exec_cqHeadDoorbell, exec_cqHeadDoorbell]
  exact act_congr rfl (by simp only [cqDoorbell, fld_15_0_eq low])

theorem exec_headDb_eq {v w : Word} (h : Half) (s : State) (low : v.toNat % 65536 = w.toNat % 65536) :
    exec (.headDb h v) s = exec (.headDb h w) s := by
  rw [exec_headDb, exec_headDb]
  exact act_congr rfl (by simp only [evDoorbell, fld_15_0_eq low])

theorem acts_sqTailDoorbell_of_stopped {h : Half} {n : Nat} {v : Word} {env : HostUpdate} {s : State} (hn : n < 32)
    (running : s.sys.tripped = false) (stopped : (sqAt s h n).enable = false ∨ (sqAt s h n).error = true) :
    Acts (.sqTailDoorbell h n v env) s (linkWake (hostUpdate s env) h) :=
  acts_of_wf (by simp [Instr.wf, hn]) running (exec_sqTailDoorbell h n v env s)
    (sqDoorbell_of_stopped v (by simpa using stopped))

theorem acts_cqHeadDoorbell_of_stopped {h : Half} {n : Nat} {v : Word} {s : State} (hn : n < 32)
    (running : s.sys.tripped = false) (stopped : (cqAt s h n).enable = false ∨ (cqAt s h n).error = true) :
    Acts (.cqHeadDoorbell h n v) s (linkWake s h) :=
  acts_of_wf (by simp [Instr.wf, hn]) running (exec_cqHeadDoorbell h n v s)
    (cqDoorbell_of_stopped v (by simpa using stopped))

theorem acts_headDb_of_stopped {h : Half} {v : Word} {s : State} (running : s.sys.tripped = false)
    (stopped : (half s h).cmd.ev.enable = false ∨ (half s h).cmd.ev.error = true) :
    Acts (.headDb h v) s (linkWake s h) :=
  acts_of_wf rfl running (exec_headDb h v s) (evDoorbell_of_stopped v (by simpa using stopped))

/-- Settles O53: the register map sends the lower dword to the doorbell and ignores the upper one, a doorbell reads the field
[15:0] alone, and its first test, which the wake of the link does not change, discards it. -/
theorem doorbellRule : Obligations.DoorbellRule := by
  refine ⟨fun h n v s hn => ⟨?_, ?_, ?_, ?_, fun running => ⟨?_, ?_⟩⟩, fun h n v w env s low => ⟨?_, ?_, ?_⟩,
    fun h n v env s hn running => ⟨?_, ?_, ?_⟩⟩
  · exact exec_registerWrite_sqDoorbell h v s hn (.inl rfl)
  · exact exec_registerWrite_sqDoorbell h v s hn (.inr rfl)
  · exact exec_registerWrite_cqDoorbell h v s hn (.inl rfl)
  · exact exec_registerWrite_cqDoorbell h v s hn (.inr rfl)
  · exact acts_registerWrite_of_ignored (by omega) (fun t w => bar0Write_sqDoorbell_upper t h w hn) running
  · exact acts_registerWrite_of_ignored (by omega) (fun t w => bar0Write_cqDoorbell_upper t h w hn) running
  · exact exec_sqTailDoorbell_eq h n env s low
  · exact exec_cqHeadDoorbell_eq h n s low
  · exact exec_headDb_eq h s low
  · exact acts_sqTailDoorbell_of_stopped hn running
  · exact acts_cqHeadDoorbell_of_stopped hn running
  · exact acts_headDb_of_stopped running

end Sys2Proof.Machine
end

section
/-! The queue of commands: what a row answers by its objects alone, and how a well-formed queue is worked off. -/

namespace Sys2Proof.Machine

open Sys2Proof.Safety

theorem exec_of_not_wf {i : Instr} (s : State) (bad : i.wf = false) : exec i s = .fault .noSuchObject := by
  rcases exec_row i s with ⟨x, y, rfl⟩ | ⟨t, row⟩
  · cases bad
  · rw [row, bad, actIf_bad]

theorem exec_of_wf {i : Instr} (s : State) (good : i.wf = true) : ∃ t, exec i s = .next t ∧ t.pending = s.pending := by
  rcases exec_row i s with ⟨x, y, rfl⟩ | ⟨t, row⟩
  · exact ⟨_, rfl, rfl⟩
  · cases tripped : s.sys.tripped with
    | false => exact ⟨withQueueOf s t, by rw [row, good, actIf_live s t tripped], rfl⟩
    | true => exact ⟨s, by rw [row, good, actIf_tripped s t tripped], rfl⟩

/-- Settles O37: a row's answer turns on whether it is well formed. -/
theorem stopsOnlyForMissingObjects : Obligations.StopsOnlyForMissingObjects :=
  fun _ s => ⟨exec_of_not_wf s, exec_of_wf s⟩

theorem step_of_pending_nil {s : State} (empty : s.pending = []) : step s = .next s := by
  simp [step, empty]

theorem step_of_pending_cons {i : Instr} {rest : List Instr} {s : State} (front : s.pending = i :: rest) :
    step s = exec i { s with pending := rest } := by
  simp [step, front]

/-- Settles O35. -/
theorem stepTakesFrontCommand : Obligations.StepTakesFrontCommand :=
  fun _ _ _ front => step_of_pending_cons front

/-- Settles O36. -/
theorem emptyQueueIdles : Obligations.EmptyQueueIdles :=
  fun _ empty => step_of_pending_nil empty

/-- A step of a well-formed queue takes its front command and no other. -/
theorem step_of_queueWf {s : State} (wf : QueueWf s) : ∃ t, step s = .next t ∧ t.pending = s.pending.tail := by
  cases queue : s.pending with
  | nil => exact ⟨s, step_of_pending_nil queue, queue⟩
  | cons i rest =>
    have good : i.wf = true := wf i (by simp [queue])
    obtain ⟨t, answer, left⟩ := exec_of_wf { s with pending := rest } good
    exact ⟨t, (step_of_pending_cons queue).trans answer, left⟩

/-- A queue's rest is well formed where the queue is. -/
theorem queueWf_of_tail {s t : State} (wf : QueueWf s) (left : t.pending = s.pending.tail) : QueueWf t :=
  fun i mem => wf i (List.mem_of_mem_tail (left ▸ mem))

/-- Settles O38: a step's answer is that of its front command, which names objects of the device, and the rest of the queue
does so still. -/
theorem everyStepGoesOn : Obligations.EveryStepGoesOn := by
  intro s wf
  obtain ⟨t, answer, left⟩ := step_of_queueWf wf
  exact ⟨t, answer, queueWf_of_tail wf left, left⟩

/-- A well-formed queue of this length is worked off in as many steps. -/
theorem runs_of_queueWf (n : Nat) : ∀ s : State, QueueWf s → s.pending.length = n → ∃ t, Runs n s t ∧ t.pending = [] := by
  induction n with
  | zero => exact fun s _ len => ⟨s, rfl, List.length_eq_zero_iff.mp len⟩
  | succ n ih =>
    intro s wf len
    obtain ⟨u, answer, left⟩ := step_of_queueWf wf
    obtain ⟨t, runs, empty⟩ := ih u (queueWf_of_tail wf left) (by simp [left, len])
    exact ⟨t, ⟨u, answer, runs⟩, empty⟩

/-- Settles O39, by induction on the length of the queue. -/
theorem queueDrains : Obligations.QueueDrains :=
  fun s wf => runs_of_queueWf _ s wf rfl

end Sys2Proof.Machine
end

section
/-! The reset state: the queue, the memories and the logs, and the entries of its tables (R35, R36, R40, R63). -/

namespace Sys2Proof.Machine

open Sys2Proof.Safety

theorem logWf_of_log_nil {x : HalfCmd} (empty : x.log = []) : LogWf x := by
  simp [LogWf, empty]

/-- Settles O41: the queue and the logs are empty, and no byte of a memory has been written. -/
theorem resetHoldsInvariants : Obligations.ResetHoldsInvariants := by
  obtain ⟨host, dramA, dramB, flash⟩ := reset_memories_wf
  refine ⟨fun i mem => ?_, ⟨host, flash, fun h => ?_⟩, fun h => ?_⟩
  · cases mem
  · cases h
    · exact dramA
    · exact dramB
  · cases h <;> exact logWf_of_log_nil rfl

theorem tget_replicate {α : Type} [Inhabited α] {n i : Nat} (x : α) (hi : i < n) : tget (Vector.replicate n x) i = x := by
  simp [tget, Vector.getD, hi]

/-- Settles O42: every table of the reset state holds one entry throughout, and every other value is written in it. -/
theorem resetState : Obligations.ResetState := by
  have sq (h : Half) {n : Nat} (hn : n < 32) : sqAt State.reset h n = {} := by
    cases h <;> exact tget_replicate _ hn
  have cq (h : Half) {n : Nat} (hn : n < 32) : cqAt State.reset h n = {} := by
    cases h <;> exact tget_replicate _ hn
  refine ⟨rfl, rfl, rfl, rfl, fun h n hn => ?_, fun h => ?_, fun n hn => ?_, fun n hn => ?_, fun n hn => ?_,
    fun n hn => ?_, fun n hn => ?_, fun n hn => ?_, fun n hn => ?_, rfl, rfl⟩
  · rw [sq h hn, cq h hn]
    exact ⟨rfl, rfl, rfl, rfl, rfl, rfl⟩
  · cases h <;> exact ⟨rfl, rfl, rfl, rfl, rfl, rfl, rfl, rfl, rfl, rfl⟩
  · exact tget_replicate 0 hn
  · exact congrArg Link.st (tget_replicate _ hn)
  · exact congrArg Stream.st (tget_replicate _ hn)
  · exact congrArg Context.st (tget_replicate _ hn)
  · exact congrArg Session.st (tget_replicate _ hn)
  · exact congrArg (fun o : VfOut => o.cfg.run) (tget_replicate _ hn)
  · exact congrArg AudPort.st (tget_replicate _ hn)

end Sys2Proof.Machine
end

section
/-! Rows of opcodes, run symbolically: an opcode's meaning is a list of checks and then an effect, and what both read of a
command and of the state in which it starts is what they held before. -/

namespace Sys2Proof.Machine

open Sys2Proof.Safety

/-- An opcode whose meaning is checks and then an effect answers with that effect where every check is passed. -/
theorem answers_of_passed {i : Instr} {op : Op} {m : Meaning} {c : Cmd} {h : Half} {s : State} {f : State → State}
    {r : Reply} {checks : List (Bool × Reply)} {effect : Reply × State} (row : exec i s = submit i op m c s)
    (wf : i.wf = true) (acc : accepted op c h s = true)
    (meaning : m (submitted s c) h (started op c h s) =
      match firstErr checks with
      | some e => (e, started op c h s)
      | none => effect)
    (passed : checks.all (fun p => !p.1) = true) (answer : effect = (r, f (started op c h s))) : Answers i op c h s f r := by
  refine answers_of i op m c h s f r row wf acc ?_
  rw [meaning, firstErr_none passed, answer]

/-- Such an opcode answers with the error of the first check that fails, and without effect. -/
theorem answers_of_refused {i : Instr} {op : Op} {m : Meaning} {c : Cmd} {h : Half} {s : State} {f : State → State}
    {r : Reply} {checks : List (Bool × Reply)} {effect : Reply × State} (row : exec i s = submit i op m c s)
    (wf : i.wf = true) (acc : accepted op c h s = true)
    (meaning : m (submitted s c) h (started op c h s) =
      match firstErr checks with
      | some e => (e, started op c h s)
      | none => effect)
    (refused : firstErr checks = some r) (stays : f (started op c h s) = started op c h s) : Answers i op c h s f r := by
  refine answers_of i op m c h s f r row wf acc ?_
  rw [meaning, refused, stays]

/-- A value that the start of a command does not change: it is the same whatever the islands, their wakes, the flights, the
number of the next submission and the records for a mirror are. -/
theorem read_started {β : Type} (read : State → β) {op : Op} {c : Cmd} {h : Half} {s : State}
    (same : ∀ ia pa ib pb o fl, read { s with
      a := { s.a with islands := ia, power := pa }
      b := { s.b with islands := ib, power := pb }
      pair := { s.pair with out := o }
      flights := fl
      nextSerial := s.nextSerial + 1 } = read s) : read (started op c h s) = read s := by
  obtain ⟨ia, pa, ib, pb, o, fl, shape⟩ := started_shape op c h s
  rw [shape, same]

/-- A copy of bytes that may be poisoned, to a buffer that takes it. -/
theorem copyOut_poison {u : State} {a : Nat} {bs : List Byte} (p : Bool) (r : Reply) (fits : bufferOk u a bs.length = true) :
    copyOut u a bs p r = (if p then err stDataCorrupt 0x71 else r, storeHost a bs u) := by
  simp only [bufferOk, Bool.and_eq_true, Bool.not_eq_true'] at fits
  simp [copyOut, hostWrite, fits.1, fits.2, storeHost]

@[simp] theorem bufferOk_modDev (s : State) (f : DevSys → DevSys) (a n : Nat) :
    bufferOk (modDev s f) a n = bufferOk s a n := rfl
@[simp] theorem bufferOk_modHalf (s : State) (h : Half) (f : HalfState → HalfState) (a n : Nat) :
    bufferOk (modHalf s h f) a n = bufferOk s a n := by cases h <;> rfl
@[simp] theorem bufferOk_modAsh (s : State) (h : Half) (f : Ashlar → Ashlar) (a n : Nat) :
    bufferOk (modAsh s h f) a n = bufferOk s a n := bufferOk_modHalf ..
@[simp] theorem bufferOk_modMem (s : State) (h : Half) (f : HalfMem → HalfMem) (a n : Nat) :
    bufferOk (modMem s h f) a n = bufferOk s a n := bufferOk_modHalf ..

end Sys2Proof.Machine
end

section
/-! The DEV_ opcodes (R58, R65, R66, R72, R472, R473, R480, R507, R508). -/

namespace Sys2Proof.Machine

open Sys2Proof.Safety

@[simp] theorem stageBytes_started (op : Op) (c d : Cmd) (h : Half) (s : State) :
    stageBytes (started op c h s) (submitted s d) = stageBytes s d :=
  read_started (stageBytes · (submitted s d)) fun _ _ _ _ _ _ => rfl
@[simp] theorem idleBank_started (op : Op) (c : Cmd) (h k : Half) (s : State) :
    idleBank (started op c h s) k = idleBank s k := by simp [idleBank]
@[simp] theorem stageOk_started (op : Op) (c : Cmd) (h k : Half) (s : State) (a : Nat) :
    stageOk (started op c h s) k a = stageOk s k a := by simp [stageOk]
@[simp] theorem healthRecord_started (op : Op) (c : Cmd) (h k : Half) (s : State) :
    healthRecord (started op c h s) k = healthRecord s k := by simp [healthRecord]

/-- The checks of a command that reads a record of one half, where that half can be reached. -/
theorem halfRecordChecks_passed {c : Cmd} {h k : Half} {s : State} (reserved : dw c 2 &&& 0xFFFFFFFC = 0)
    (named : halfOfCode (pf c 2 1 0) = some k) (aligned : pq c 3 % 32 = 0) (host : c.port = false)
    (reach : k = h ∨ mortarUp s = true) : (halfRecordChecks c h s).all (fun p => !p.1) = true := by
  have near : k = otherHalf h → mortarUp s = true := by
    rintro rfl
    exact reach.resolve_left (otherHalf_ne h)
  simp_all [halfRecordChecks, rsv, bad]
  tauto

theorem mod_of_stageOk {s : State} {h : Half} {a : Nat} (backed : stageOk s h a = true) : a % 4096 = 0 := by
  simp only [stageOk, Bool.and_eq_true, decide_eq_true_eq] at backed
  exact backed.1

theorem selectorJob_started (op : Op) (c : Cmd) (d : Cmd) (h : Half) (s : State) (k : Half) (w : Word) :
    selectorJob (started op c h s) d k w = selectorJob s d k w := 
  read_started (selectorJob · d k w) fun _ _ _ _ _ _ => by cases k <;> rfl

/-- Settles O1: each opcode's checks are passed, and what is left of its meaning is the effect stated. DEV_FW_ACTIVATE splits
on the free value that tells whether the running image can hand its state over. -/
theorem devCommandsComplete : Obligations.DevCommandsComplete := by
  refine ⟨?nop, ?abort, ?setEventMask, ?readEventLog, ?fwStage, ?fwVerify, ?fwActivate, ?fwGetStatus, ?reset,
    ?getHealth, ?setThermal⟩
  case nop =>
    intro c h s acc
    exact answers_of _ _ _ c h s _ _ rfl rfl acc rfl
  case abort =>
    intro c h k s acc res half
    refine ⟨fun gone => ?_, fun f o t live reach abort => ?_⟩
    · refine answers_of_passed rfl rfl acc rfl (by simp_all [rsv, bad]) ?_
      simp [half, gone]
    · refine answers_of_passed rfl rfl acc rfl (by simp_all [rsv, bad]) ?_
      have near : ¬ (holderOf f ≠ h ∧ s.mortar.st = .down) := by tauto
      simp only [pf_submitted, half, Option.getD_some, live, started_mortar, if_neg near, abort]
  case setEventMask =>
    intro c h s acc res2 res3
    exact answers_of_passed rfl rfl acc rfl (by simp_all [rsv]) rfl
  case readEventLog =>
    intro c h s es bs acc res align size most records bytes fits
    refine answers_of_passed rfl rfl acc rfl (by simp_all -implicitDefEqProofs [rsv, bad]; omega) ?_
    simp only [pq_submitted, dw_submitted, pf_submitted, port_submitted, started_half_cmd, Bool.false_eq_true, if_false]
    rw [← records, ← bytes, writeRecord_ok _ _ _ _ _ _ (by simpa using fits)]
    cases es <;> rfl
  case fwStage =>
    intro c h s bs acc res2 res4 rom align size fit port bytes
    refine answers_of_passed rfl rfl acc rfl ?_ ?_
    · cases viaPort : pb c 2 0 <;> simp_all -implicitDefEqProofs [rsv, bad] <;> omega
    · simp [bytes]
  case fwVerify =>
    intro c h s acc
    exact answers_of _ _ _ c h s _ _ rfl rfl acc rfl
  case fwActivate =>
    intro c h s acc res mark
    refine ⟨fun next a b => ?_, fun next mem up noSwap okA okB rom => ?_⟩
    · refine answers_of_passed rfl rfl acc rfl ?_ ?_
      · simp_all -implicitDefEqProofs [rsv, bad]
      · simp [next, selectorJob_started]
    · have alignedA := mod_of_stageOk okA
      have alignedB := mod_of_stageOk okB
      cases compatible : Config.freeBool s.sys.fresh
      · refine answers_of_passed rfl rfl acc rfl ?_ ?_
        · simp_all -implicitDefEqProofs [rsv, bad, firstErr_eq_none]
        · simp [next]
          rfl
      · refine answers_of_refused rfl rfl acc rfl ?_ rfl
        rw [firstErr_append_none (firstErr_none _)]
        · simp [next, compatible, firstErr, rom]
        · simp_all -implicitDefEqProofs [rsv, bad, firstErr_eq_none]
  case fwGetStatus =>
    intro c h s acc res align fits
    refine answers_of_passed rfl rfl acc rfl ?_ ?_
    · simp_all -implicitDefEqProofs [rsv, bad, recordChecks]
    · simp only [fresh_started, pq_submitted]
      rw [writeRecord_ok _ _ _ _ _ _ (by simpa [bufferOk, hostOk] using fits)]
  case reset =>
    intro c h s acc res kind
    exact answers_of_passed rfl rfl acc rfl (by simp_all [rsv, bad]) rfl
  case getHealth =>
    rintro c h k s bs acc res half align up rfl fits
    refine answers_of _ _ _ c h s _ _ rfl rfl acc ?_
    simp only [opDevGetHealth]
    rw [firstErr_none]
    · simp [half, writeRecord_ok, fits]
    · exact halfRecordChecks_passed res half align rfl (by simpa using up)
  case setThermal =>
    rintro c h s t d acc res rfl rfl t1 t2 d1 d2 named up
    refine answers_of_passed rfl rfl acc rfl ?_ rfl
    simp_all -implicitDefEqProofs [rsv]

end Sys2Proof.Machine
end

section
/-! LINK_SET_EQ with FORCE on a lane whose values of trim domain 3 are staged (R96, R98, R307): it discards them, which the
statement of the LINK_ opcodes leaves out. -/

namespace Sys2Proof.Machine

open Sys2Proof.Safety

/-- Link 0 is down on lane 0, and trim domain 3 holds staged values for it. -/
def stagedEqState : State :=
  { State.reset with
    links := tset State.reset.links 0 { st := .down, cfg := { configured := true, width := 1 } }
    trim := { State.reset.trim with d3 := tset State.reset.trim.d3 0 { st := .staged } } }

/-- LINK_SET_EQ of lane 0 with FORCE. -/
def forcedEq : Cmd := { params := [0, 0x10] }

/-- The state of the link's run in trim domain 3 that an outcome leaves. -/
def eqTrimAfter : Host.Outcome State Fault Refusal → Option TrimState
  | .next t => some (trimAt t 3 0).st
  | _ => none

theorem forcedEq_discards_staged : eqTrimAfter (exec (.linkSetEq forcedEq) stagedEqState) = some .idle := by
  decide +kernel

/-- Refutes O2: LINK_SET_EQ with FORCE also takes back the staged values of trim domain 3 of the lane's link, where the
statement has it change the lane alone. -/
theorem not_linkCommandsComplete : ¬ Obligations.LinkCommandsComplete := by
  rintro ⟨-, -, -, -, -, -, -, -, -, setEq, -⟩
  have answer := setEq forcedEq .A stagedEqState (by decide +kernel) (by decide) (by decide) (by decide)
  unfold Answers at answer
  have idle := forcedEq_discards_staged
  rw [answer] at idle
  exact absurd idle (by decide +kernel)

end Sys2Proof.Machine
end

section
/-! The QRY_ opcodes (R125, R132, R134, R142, R144 to R146, R148 to R150, R152, R153, R155, R157 to R161). -/

namespace Sys2Proof.Machine

open Sys2Proof.Safety

@[simp] theorem cfgOf_submitted (s : State) (c : Cmd) : cfgOf (submitted s c) = cfgOf c := rfl
@[simp] theorem isCsi_started (op : Op) (c : Cmd) (h : Half) (s : State) (l : Link) :
    isCsi (started op c h s) l = isCsi s l :=
  read_started (isCsi · l) fun _ _ _ _ _ _ => rfl
@[simp] theorem boundStream_started (op : Op) (c : Cmd) (h : Half) (s : State) (n : Nat) (i : BitVec 4) :
    boundStream (started op c h s) n i = boundStream s n i :=
  read_started (boundStream · n i) fun _ _ _ _ _ _ => rfl
@[simp] theorem noRing_started (op : Op) (c : Cmd) (h : Half) (s : State) (n : Nat) :
    noRing (started op c h s) n = noRing s n := by simp [noRing]
@[simp] theorem ringOf_started (op : Op) (c : Cmd) (h : Half) (s : State) (n : Nat) :
    ringOf (started op c h s) n = ringOf s n := by simp [ringOf]
@[simp] theorem readList_started (op : Op) (c : Cmd) (h k : Half) (s : State) (a n : Nat) :
    readList (started op c h s) k a n = readList s k a n := by simp [readList]
@[simp] theorem ringNamed_started (op : Op) (c : Cmd) (h k : Half) (s : State) (n : Nat) (w : Word) :
    ringNamed (started op c h s) (submitted s c) k n w = ringNamed s c k n w := by simp [ringNamed]
@[simp] theorem attachOk_started (op : Op) (c : Cmd) (h k : Half) (s : State) (n : Nat) :
    attachOk (started op c h s) (submitted s c) k n = attachOk s c k n := by simp [attachOk]
@[simp] theorem otherRegions_started (op : Op) (c : Cmd) (h k : Half) (s : State) (n : Nat) :
    otherRegions (started op c h s) k n = otherRegions s k n := by simp [otherRegions]
@[simp] theorem regionsOk_started (op : Op) (c : Cmd) (h : Half) (s : State) (n : Nat) (r : Ring) :
    regionsOk (started op c h s) n r = regionsOk s n r := by simp [regionsOk]
@[simp] theorem pinOk_started (op : Op) (c : Cmd) (h : Half) (s : State) (r : Ring) :
    pinOk (started op c h s) r = pinOk s r := by simp only [pinOk, started_half_mem]
@[simp] theorem dramDwords_started (op : Op) (c : Cmd) (h k : Half) (s : State) (a n : Nat) :
    dramDwords (started op c h s) k a n = dramDwords s k a n := by simp [dramDwords]
@[simp] theorem anyArmed_started (op : Op) (c : Cmd) (h : Half) (s : State) (r : TrigRule) :
    anyArmed (started op c h s) r = anyArmed s r :=
  read_started (anyArmed · r) fun _ _ _ _ _ _ => rfl
@[simp] theorem packBlocks_started (op : Op) (c : Cmd) (h : Half) (s : State) (r : Ring) (g : Nat) (es : List IndexEntry) :
    ∀ pos, packBlocks (started op c h s) r g es pos = packBlocks s r g es pos := by
  induction es with
  | nil => intro pos; rfl
  | cons e es ih => intro pos; simp only [packBlocks, dramRead_started, ih]
@[simp] theorem frameRecord_started (op : Op) (c : Cmd) (h : Half) (s : State) (r : Ring) (f : Stored) :
    frameRecord (started op c h s) r f = frameRecord s r f := by simp [frameRecord]
@[simp] theorem readNext_started (op : Op) (c : Cmd) (h : Half) (s : State) (rd : QryRead) :
    readNext (started op c h s) rd = readNext s rd := by simp [readNext]
@[simp] theorem markFrame_started_fst (op : Op) (c : Cmd) (h : Half) (s : State) (n : Nat) (f m : Count64) :
    (markFrame (started op c h s) n f m).1 = (markFrame s n f m).1 := by
  simp only [markFrame, streamAt_started, ringOf_started]
  split
  · rfl
  · simp only [apply_ite Prod.fst]
@[simp] theorem ringRecord_started (op : Op) (c : Cmd) (h : Half) (s : State) (n : Nat) :
    ringRecord (started op c h s) n = ringRecord s n :=
  read_started (ringRecord · n) fun _ _ _ _ _ _ => rfl

/-- Settles O3: each opcode's checks are passed, and what is left of its meaning is the effect stated. -/
theorem quarryCommandsComplete : Obligations.QuarryCommandsComplete := by
  refine ⟨?map, ?unmap, ?stream, ?ring, ?start, ?stop, ?rule, ?arm, ?trigger, ?read, ?segments, ?release, ?mark, ?status,
    ?reporting, ?locate⟩
  case map =>
    rintro c h s n link b acc res rfl rfl rfl keep csi unbound free idle
    refine answers_of_passed rfl rfl acc rfl ?_ (by simp [keep])
    cases psl : isCsi s (linkAt s (pf c 2 12 8)) <;> simp_all -implicitDefEqProofs [rsv, bad]
  case unmap =>
    rintro c h s n b acc res rfl unmap bound link sid idle
    refine answers_of_passed rfl rfl acc rfl ?_ ?_
    · simp_all -implicitDefEqProofs [rsv, bad]
    · cases shut : (streamAt s (pf c 2 5 0)).openFrame <;> simp [unmap, shut]
  case stream =>
    rintro c h s n g acc res2 res3 res4 rfl rfl w0 w h0 h1 pad mode dog idle fits
    refine answers_of_passed rfl rfl acc rfl ?_ rfl
    cases ring : (streamAt s (pf c 2 5 0)).ring <;>
      simp_all -implicitDefEqProofs [rsv, bad, Nat.pos_iff_ne_zero]
  case ring =>
    rintro c h s n g r acc res2 res11 res12 rfl configured bound idle thawed fresh attach mode two slots0 slots prePost post
      list regions pin twoFit mem
    have good : pb c 2 8 = true → attachOk s c h (pf c 2 5 0) = true := fun on => (attach on).1
    have named : r = ringNamed s c h
        (if pb c 2 8 && attachOk s c h (pf c 2 5 0) then ((dramDwords s h (pq c 3) 14).getD 9 0).toNat else entriesOf g)
        (if pb c 2 8 && attachOk s c h (pf c 2 5 0) then (dramDwords s h (pq c 3) 14).getD 13 0 else 0) := by
      cases on : pb c 2 8
      · exact fresh on
      · simpa [good on] using (attach on).2.2
    have stride : entriesOf g ≤ r.stride := by
      cases on : pb c 2 8
      · rw [fresh on]
        exact le_rfl
      · exact (attach on).2.1
    have thaw : ((streamAt s (pf c 2 5 0)).ring.map frozenSegs).getD [] = [] := by
      cases ring : (streamAt s (pf c 2 5 0)).ring
      · rfl
      · exact thawed _ ring
    refine answers_of_passed rfl rfl acc rfl ?_ ?_
    · simp -implicitDefEqProofs only [ringNamed_started, attachOk_started, pf_submitted, pb_submitted, pq_submitted,
        dramDwords_started, streamAt_started, configured, Option.getD_some, ← named]
      clear fresh attach named thawed
      cases on : pb c 2 8 <;> simp_all -implicitDefEqProofs [rsv, bad, firstErr_eq_none, Option.isSome_iff_ne_none] <;>
        grind
    · simp -implicitDefEqProofs only [ringNamed_started, attachOk_started, pf_submitted, pb_submitted, pq_submitted,
        dramDwords_started, streamAt_started, configured, Option.getD_some, ← named]
  case start => 
    rintro c h s n acc res rfl mem idle bound
    refine answers_of_passed rfl rfl acc rfl ?_ rfl
    simp_all -implicitDefEqProofs [rsv, firstErr_eq_none, Option.isSome_iff_ne_none]
  case stop => 
    rintro c h s n acc res rfl
    refine ⟨fun halted => ?_, fun capturing => ?_⟩
    · refine answers_of_passed rfl rfl acc rfl ?_ ?_
      · simp_all -implicitDefEqProofs [rsv]
      · simp [halted]
    · refine answers_of_passed rfl rfl acc rfl ?_ ?_
      · simp_all -implicitDefEqProofs [rsv]
      · simp [capturing]
  case rule => 
    rintro c h s m acc res2 res3 rfl lead
    refine answers_of_passed rfl rfl acc rfl ?_ rfl
    simp_all -implicitDefEqProofs [rsv, bad]
  case arm => 
    rintro c h s n acc res rfl ring
    refine answers_of_passed rfl rfl acc rfl ?_ rfl
    simp_all -implicitDefEqProofs [rsv]
  case trigger => 
    rintro c h s k acc res rfl armed
    refine answers_of_passed rfl rfl acc rfl ?_ ?_
    · simp_all -implicitDefEqProofs [rsv]
    · simp
  case read => 
    rintro c h s rd acc res some align mem ring rfl
    refine ⟨fun fits => ?_, fun full => ?_⟩
    · refine answers_of_passed rfl rfl acc rfl ?_ ?_
      · simp_all -implicitDefEqProofs [rsv, bad, firstErr_eq_none, Nat.pos_iff_ne_zero]
      · simp [fits]
    · refine answers_of_passed rfl rfl acc rfl ?_ ?_
      · simp_all -implicitDefEqProofs [rsv, bad, firstErr_eq_none, Nat.pos_iff_ne_zero]
      · simp [full]
  case segments => 
    rintro c h s r bs p acc res2 res3 some most align mem ring bytes fits
    refine answers_of_passed rfl rfl acc rfl ?_ ?_
    · simp_all -implicitDefEqProofs [rsv, bad, firstErr_eq_none, noRing, Nat.pos_iff_ne_zero]
    · simp [ringOf, ring, bytes, copyOut_poison, fits]
  case release =>
    rintro c h s gs acc res mem ring rfl some
    refine answers_of_passed rfl rfl acc rfl ?_ (by simp -implicitDefEqProofs)
    cases every : decide (dw c 3 = 0xFFFFFFFF) <;> simp_all -implicitDefEqProofs [rsv, firstErr_eq_none]
  case mark => 
    rintro c h s n acc res rfl mem
    refine ⟨fun mode mark => ?_, fun mode => ?_, fun mode => ?_⟩
    · refine answers_of_passed rfl rfl acc rfl ?_ ?_
      · simp_all -implicitDefEqProofs [rsv, bad, firstErr_eq_none]
      · simp only [pf_submitted, pq_submitted, mode, if_true]
        exact Prod.ext (by simpa using mark) rfl
    · refine answers_of_passed rfl rfl acc rfl ?_ ?_
      · simp_all -implicitDefEqProofs [rsv, bad, firstErr_eq_none]
      · simp [mode]
    · refine answers_of_passed rfl rfl acc rfl ?_ ?_
      · simp_all -implicitDefEqProofs [rsv, bad, firstErr_eq_none]
      · simp [mode]
  case status => 
    rintro c h s bs acc res align rfl fits
    refine answers_of_passed rfl rfl acc rfl (by simp_all [rsv, bad]) ?_
    simp [writeRecord_ok, fits]
  case reporting => 
    rintro c h s n acc res rfl kind low high
    refine answers_of_passed rfl rfl acc rfl ?_ rfl
    simp_all -implicitDefEqProofs [rsv, bad]
  case locate => 
    rintro c h s r f acc res mem rfl found
    refine answers_of_passed rfl rfl acc rfl ?_ ?_
    · simp_all -implicitDefEqProofs [rsv, firstErr_eq_none]
    · simp [found]

end Sys2Proof.Machine
end

section
/-! The AUD_ opcodes (R434, R436, R438, R444, R448 to R451). -/

namespace Sys2Proof.Machine

open Sys2Proof.Safety

@[simp] theorem audCfgIn_submitted (s : State) (c : Cmd) : audCfgIn (submitted s c) = audCfgIn c := rfl
@[simp] theorem portsNamed_submitted (s : State) (c : Cmd) (h : Half) : portsNamed (submitted s c) h = portsNamed c h := rfl

@[simp] theorem audOthers_started (op : Op) (c : Cmd) (h k : Half) (s : State) (p : Nat) :
    audOthers (started op c h s) k p = audOthers s k p :=
  read_started (audOthers · k p) fun _ _ _ _ _ _ => by cases k <;> rfl
@[simp] theorem otherLeader_started (op : Op) (c : Cmd) (h : Half) (s : State) (p : Nat) :
    otherLeader (started op c h s) p = otherLeader s p :=
  read_started (otherLeader · p) fun _ _ _ _ _ _ => rfl

/-- Settles O12: each opcode's checks are passed, and what is left of its meaning is the effect stated. -/
theorem audioCommandsComplete : Obligations.AudioCommandsComplete := by
  refine ⟨?configure, ?start, ?stop, ?advance, fun c h s acc => ⟨?unlatched, ?latch⟩, ?status⟩
  case configure =>
    rintro c h s k p root acc rfl rfl rfl
    intros
    refine answers_of_passed rfl rfl acc rfl ?_ (by simp -implicitDefEqProofs)
    simp_all -implicitDefEqProofs [rsv, firstErr_eq_none, audRegions, Option.isSome_iff_ne_none]
    grind
  case start =>
    rintro c h s ps acc res rfl named stopped ahead
    refine answers_of_passed rfl rfl acc rfl ?_ rfl
    simp_all -implicitDefEqProofs [rsv, portsNamed]
  case stop =>
    rintro c h s u2 ps busy acc res named stops still
    refine answers_of_passed rfl rfl acc rfl (by simp_all [rsv]) ?_
    have names : portsNamed (submitted s c) h = ps := named.symm
    simp only [names, portAt_started, ← stops, ← still]
    cases busy <;> rfl
  case advance =>
    rintro c h s p acc res rfl conf low out inp
    refine answers_of_passed rfl rfl acc rfl ?_ rfl
    simp_all [rsv]
    split <;> simp_all
  case unlatched =>
    intro none
    exact answers_of_passed rfl rfl acc rfl (by simp [bad, none]) (by simp [none])
  case latch =>
    intro stream
    refine answers_of_passed rfl rfl acc rfl (by simp -implicitDefEqProofs [bad, stream]) ?_
    have named : pf c 2 9 3 ≠ 0x7F := by omega
    have divisor : max 1 (pf c 2 31 10) = if pf c 2 31 10 = 0 then 1 else pf c 2 31 10 := by split <;> omega
    simp only [pf_submitted, if_neg named, divisor]
  case status =>
    rintro c h s bs acc res align rfl fits
    refine answers_of_passed rfl rfl acc rfl ?_ ?_
    · simp_all [rsv, bad]
    · simp [writeRecord_ok, fits]

end Sys2Proof.Machine
end

section
/-! The ASH_ opcodes (R186, R190, R194, R195, R197, R198, R200). -/

namespace Sys2Proof.Machine

open Sys2Proof.Safety

@[simp] theorem chainOk_started (op : Op) (c : Cmd) (h k : Half) (s : State) (a n : Nat) :
    chainOk (started op c h s) k a n = chainOk s k a n := by
  have backed : bufsBacked (started op c h s) k = bufsBacked s k := by
    funext l
    simp only [bufsBacked, started_half_mem]
  simp only [chainOk, started_half_mem, readList_started, backed]
@[simp] theorem decRect_submitted (s : State) (c : Cmd) : decRect (submitted s c) = decRect c := rfl
@[simp] theorem entryPlaced_submitted (m : HalfMem) (s : State) (c : Cmd) : entryPlaced m (submitted s c) = entryPlaced m c := rfl
@[simp] theorem frameGeom_started (op : Op) (c : Cmd) (h : Half) (s : State) (r : Ring) (f : Stored) :
    frameGeom (started op c h s) r f = frameGeom s r f := by
  simp only [frameGeom, dramRead_started]
@[simp] theorem frameChecks_started (op : Op) (c : Cmd) (h k : Half) (s : State) :
    frameChecks (submitted s c) k (started op c h s) = frameChecks c k s := by
  simp -implicitDefEqProofs only [frameChecks, rsv, pf_submitted, pb_submitted, pq_submitted, dw_submitted, decRect_submitted, started_half_mem,
    ringOf_started, frameGeom_started, dramChecks_started]
@[simp] theorem listEntry_started (op : Op) (c : Cmd) (h k : Half) (s : State) (a : Nat) :
    listEntry (started op c h s) k a = listEntry s k a := by
  funext i
  simp only [listEntry, dramRead_started]
@[simp] theorem listChecks_started (op : Op) (c : Cmd) (h k : Half) (s : State) :
    listChecks (submitted s c) k (started op c h s) = listChecks c k s := by
  simp -implicitDefEqProofs only [listChecks, rsv, pf_submitted, pq_submitted, dw_submitted, entryPlaced_submitted, started_half_mem,
    listEntry_started, dramChecks_started]

/-- Settles O4: each opcode's checks are passed, and what is left of its meaning is the effect stated. -/
theorem ashlarCommandsComplete : Obligations.AshlarCommandsComplete := by
  refine ⟨?encode, ?decode, ?resume, ?drop, ?status⟩
  case encode =>
    rintro c h s k w hh row acc res2 res9 mode0 mode rfl rfl rfl rfl w0 w1 h0 h1 align src pitch fits count chain ialign index
      mem free
    refine answers_of_passed rfl rfl acc rfl ?_ (by simp)
    simp_all -implicitDefEqProofs [rsv, bad, firstErr_eq_none, Nat.pos_iff_ne_zero]
    omega
  case decode =>
    rintro c h s acc res len placed
    refine answers_of_passed rfl rfl acc rfl ?_ (by simp -implicitDefEqProofs [fromQuarry, decRect])
    cases whole : pb c 2 0 <;> simp_all -implicitDefEqProofs [rsv, fromQuarry, firstErr_eq_none]
  case resume =>
    rintro c h s k j acc res2 res5 rfl count chain mem job idle raw
    refine answers_of_passed rfl rfl acc rfl ?_ (by simp [job])
    simp_all -implicitDefEqProofs [rsv, bad, firstErr_eq_none, Nat.pos_iff_ne_zero, suspended]
  case drop =>
    rintro c h s acc res idle
    refine answers_of_passed rfl rfl acc rfl ?_ rfl
    simp_all [rsv]
  case status =>
    rintro c h s bs acc res align rfl fits
    refine answers_of_passed rfl rfl acc rfl (by simp_all [rsv, bad]) ?_
    cases clear : pb c 2 0 <;> simp [writeRecord_ok, fits, clear]

end Sys2Proof.Machine
end

section
/-! The PIPE_ opcodes of contexts (R202 to R206, R212, R217, R218, R223, R241). -/

namespace Sys2Proof.Machine

open Sys2Proof.Safety

@[simp] theorem ctxNamed_submitted (s : State) (c : Cmd) : ctxNamed (submitted s c) = ctxNamed c := rfl
@[simp] theorem startFrame_submitted (s : State) (c : Cmd) : startFrame (submitted s c) = startFrame c := rfl
@[simp] theorem openIn_started (op : Op) (c : Cmd) (h k : Half) (s : State) : openIn (started op c h s) k = openIn s k :=
  read_started (openIn · k) fun _ _ _ _ _ _ => rfl
@[simp] theorem streamHalf_started (op : Op) (c : Cmd) (h : Half) (s : State) (n : Nat) :
    streamHalf (started op c h s) n = streamHalf s n := by simp only [streamHalf, streamAt_started]
@[simp] theorem placedOk_started (op : Op) (c : Cmd) (h k : Half) (s : State) (x : Context) (i : Nat) (z : Source) :
    placedOk (started op c h s) x k i z = placedOk s x k i z :=
  read_started (placedOk · x k i z) fun _ _ _ _ _ _ => rfl
@[simp] theorem sourcesOk_started (op : Op) (c : Cmd) (h : Half) (s : State) (x : Context) :
    sourcesOk (started op c h s) x = sourcesOk s x :=
  read_started (sourcesOk · x) fun _ _ _ _ _ _ => rfl
@[simp] theorem refHalf_started (op : Op) (c : Cmd) (h : Half) (s : State) (x : Context) :
    refHalf (started op c h s) x = refHalf s x :=
  read_started (refHalf · x) fun _ _ _ _ _ _ => rfl
@[simp] theorem refStream_started (op : Op) (c : Cmd) (h : Half) (s : State) (x : Context) :
    refStream (started op c h s) x = refStream s x :=
  read_started (refStream · x) fun _ _ _ _ _ _ => rfl
@[simp] theorem frameNeed_started (op : Op) (c : Cmd) (h k : Half) (s : State) (x : Context) :
    frameNeed (started op c h s) x k = frameNeed s x k :=
  read_started (frameNeed · x k) fun _ _ _ _ _ _ => rfl
@[simp] theorem firstFrame_started (op : Op) (c : Cmd) (h : Half) (s : State) (x : Context) :
    firstFrame (started op c h s) x = firstFrame s x :=
  read_started (firstFrame · x) fun _ _ _ _ _ _ => rfl
@[simp] theorem notState_started (op : Op) (c : Cmd) (h : Half) (s : State) (n : Nat) (l : List CtxState) :
    notState (started op c h s) n l = notState s n l := by simp only [notState, ctxAt_started]
@[simp] theorem ctxRecord_started (op : Op) (c : Cmd) (h k : Half) (s : State) (n v : Nat) :
    ctxRecord (started op c h s) n k v = ctxRecord s n k v :=
  read_started (ctxRecord · n k v) fun _ _ _ _ _ _ => rfl

@[simp] theorem notState_anyOpen (s : State) (n : Nat) : (notState s n anyOpen).1 = decide ((ctxAt s n).st = .closed) := by
  simp only [notState]
  cases (ctxAt s n).st <;> rfl

/-- The records of a context's halves come with a free value each, the first of them the next. -/
theorem ctxRecords_eq (n : Nat) (hs : List Half) (s : State) :
    ctxRecords s n hs = ((hs.zipIdx s.sys.fresh).flatMap fun p => ctxRecord s n p.1 p.2,
      modDev s fun d => { d with fresh := d.fresh + hs.length }) := by
  induction hs generalizing s with
  | nil => rfl
  | cons k hs ih =>
    have kept (k : Half) (v : Nat) : ctxRecord (fresh s).2 n k v = ctxRecord s n k v := rfl
    simp only [ctxRecords, ih, kept, List.zipIdx_cons, List.flatMap_cons, List.length_cons, Prod.mk.injEq]
    exact ⟨rfl, by simp [fresh, modDev, Nat.add_assoc, Nat.add_comm 1]⟩

/-- Settles O5: each opcode's checks are passed, and what is left of its meaning is the effect stated. -/
theorem contextCommandsComplete : Obligations.ContextCommandsComplete := by
  refine ⟨?openCtx, ?source, ?start, ?stop, ?close, ?slotMask, ?priority, ?slotTime, ?status⟩
  case openCtx =>
    rintro c h s n x acc res2 res6 rfl rfl cfa span w0 w w2 h0 hh h2 active a b div closed room
    refine answers_of_passed rfl rfl acc rfl ?_ rfl
    cases both : (ctxNamed c).span <;> simp_all -implicitDefEqProofs [rsv, bad] <;> omega
  case source =>
    rintro c h own s n x z acc res rfl rfl half mem isOpen rfl set
    refine answers_of_passed rfl rfl acc rfl ?_ ?_
    · cases gone : pb c 2 14 <;> simp_all -implicitDefEqProofs [rsv, bad, notState]
      tauto
    · simp -implicitDefEqProofs [half]
  case start =>
    rintro c h s n x f play acc res rfl rfl rfl rfl quarry isOpen src need
    refine answers_of_passed rfl rfl acc rfl ?_ ?_
    · cases whole : (ctxAt s (pf c 2 4 0)).quarry <;> simp_all -implicitDefEqProofs [rsv, bad, notState, startFrame]
    · simp -implicitDefEqProofs [startFrame]
  case stop =>
    rintro c h s n x acc res rfl rfl running
    refine answers_of_passed rfl rfl acc rfl ?_ ?_
    · simp_all [rsv, notState]
    · cases idle : (ctxAt s (pf c 2 4 0)).latched.isEmpty <;> simp [idle]
  case close =>
    rintro c h s n acc res rfl isOpen
    refine answers_of_passed rfl rfl acc rfl ?_ rfl
    simp_all [rsv, notState]
  case slotMask =>
    rintro c h s n acc res rfl isOpen
    refine answers_of_passed rfl rfl acc rfl ?_ ?_
    · simp_all [rsv]
    · simp [stageEpochs]
  case priority =>
    rintro c h s n acc res rfl isOpen
    refine answers_of_passed rfl rfl acc rfl ?_ ?_
    · simp_all [rsv]
    · simp [stageEpochs]
  case slotTime =>
    rintro c h s acc res half low
    refine answers_of_passed rfl rfl acc rfl ?_ rfl
    simp_all -implicitDefEqProofs [rsv, bad]
  case status =>
    rintro c h s n bs acc res rfl align isOpen rfl fits
    refine answers_of_passed rfl rfl acc rfl ?_ ?_
    · simp_all [rsv, bad]
    · simp only [ctxRecords_eq] at fits ⊢
      simp [writeRecord_ok, fits]

end Sys2Proof.Machine
end

section
/-! The PIPE_ opcodes of corrections, colour, taps and tables (R226 to R242, R245 to R256, R258 to R283). -/

namespace Sys2Proof.Machine

open Sys2Proof.Safety

@[simp] theorem tapCfgOf_submitted (s : State) (c : Cmd) (data : List Byte) : tapCfgOf (submitted s c) data = tapCfgOf c data :=
  rfl
@[simp] theorem tapRingNamed_submitted (s : State) (c : Cmd) : tapRingNamed (submitted s c) = tapRingNamed c := rfl
@[simp] theorem lutHalves_submitted (s : State) (c : Cmd) : lutHalves (submitted s c) = lutHalves c := rfl
@[simp] theorem lutSrc_submitted (s : State) (c : Cmd) : lutSrc (submitted s c) = lutSrc c := rfl
@[simp] theorem readTable_started (op : Op) (c : Cmd) (h : Half) (s : State) (need : Bool) (a n : Nat) :
    readTable (started op c h s) need a n = readTable s need a n :=
  read_started (readTable · need a n) fun _ _ _ _ _ _ => rfl
@[simp] theorem readCustom_started (op : Op) (c : Cmd) (h : Half) (s : State) :
    readCustom (started op c h s) (submitted s c) = readCustom s c := by
  simp -implicitDefEqProofs only [readCustom, pq_submitted, pf_submitted, readTable_started]
@[simp] theorem lutReferenced_started (op : Op) (c : Cmd) (h k : Half) (s : State) :
    lutReferenced (started op c h s) k = lutReferenced s k :=
  read_started (lutReferenced · k) fun _ _ _ _ _ _ => rfl
@[simp] theorem lutUsable_started (op : Op) (c : Cmd) (h : Half) (s : State) (x : Context) (id : Nat) :
    lutUsable (started op c h s) x id = lutUsable s x id := by
  simp only [lutUsable, started_half_pipe]
@[simp] theorem tapRingsIn_started (op : Op) (c : Cmd) (h k : Half) (s : State) (n t : Nat) :
    tapRingsIn (started op c h s) k n t = tapRingsIn s k n t :=
  read_started (tapRingsIn · k n t) fun _ _ _ _ _ _ => rfl
@[simp] theorem statRingsIn_started (op : Op) (c : Cmd) (h k : Half) (s : State) (n : Nat) :
    statRingsIn (started op c h s) k n = statRingsIn s k n :=
  read_started (statRingsIn · k n) fun _ _ _ _ _ _ => rfl
@[simp] theorem tapEnabled_started (op : Op) (c : Cmd) (h : Half) (s : State) (n t : Nat) :
    tapEnabled (started op c h s) n t = tapEnabled s n t :=
  read_started (tapEnabled · n t) fun _ _ _ _ _ _ => rfl
@[simp] theorem tapRecord_started (op : Op) (c : Cmd) (h : Half) (s : State) (n t : Nat) :
    tapRecord (started op c h s) n t = tapRecord s n t :=
  read_started (tapRecord · n t) fun _ _ _ _ _ _ => rfl

@[simp] theorem started_a_mem (op : Op) (c : Cmd) (h : Half) (s : State) : (started op c h s).a.mem = s.a.mem :=
  started_half_mem op c h .A s
@[simp] theorem started_b_mem (op : Op) (c : Cmd) (h : Half) (s : State) : (started op c h s).b.mem = s.b.mem :=
  started_half_mem op c h .B s

/-- Checks that are made only where a bit is set. -/
theorem all_checks_if {b : Bool} {l : List (Bool × Reply)} {p : Bool × Reply → Bool} :
    (if b then l else []).all p = (!b || l.all p) := by cases b <;> rfl

/-- Settles O6: each opcode's checks are passed, and what is left of its meaning is the effect stated. -/
theorem pictureCommandsComplete : Obligations.PictureCommandsComplete := by
  refine ⟨?streamCorr, ?contextCorr, ?colour, ?lut, ?tap, ?ring, ?buffer, ?status⟩
  case streamCorr =>
    rintro c h s n g lut xt acc res rfl bound cfg lutAt lutRead dyn xtAt xtRead black gain geo mem
    refine answers_of_passed rfl rfl acc rfl ?_ ?_
    · simp_all -implicitDefEqProofs [rsv, bad, all_checks_if, firstErr_eq_none, Option.isSome_iff_ne_none]
      grind
    · simp [lutRead, xtRead]
  case contextCorr =>
    rintro c h s n sh acc res rfl isOpen align shRead ca
    refine answers_of_passed rfl rfl acc rfl ?_ ?_
    · cases tab : pb c 2 8 <;> cases mid : pb c 2 10 <;> simp_all -implicitDefEqProofs [rsv, bad, Nat.pos_iff_ne_zero]
    · simp [shRead]
  case colour =>
    rintro c h s n mt sh acc res2 res3 rfl isOpen sel0 sel3 matrix mtRead shaper shRead
    refine answers_of_passed rfl rfl acc rfl ?_ ?_
    · simp_all -implicitDefEqProofs [rsv, bad]
      grind
    · simp [mtRead, shRead]
  case lut =>
    rintro c h s len acc res halves big rfl each
    refine answers_of_passed rfl rfl acc rfl ?_ (by simp)
    have atA := each .A
    have atB := each .B
    simp_all -implicitDefEqProofs [rsv, bad, firstErr_eq_none]
    grind
  case tap =>
    rintro c h s n t blk k acc res rfl rfl isOpen read named g5 g6 tf filter report log cw0 cw ch0 ch ow0 ow oh0 oh par none
      custom count role crop cust rings
    refine answers_of_passed rfl rfl acc rfl ?_ ?_
    · simp_all -implicitDefEqProofs [rsv, bad]
      grind
    · simp [read]
  case ring =>
    rintro c h hf s n t r acc res rfl rfl half rfl c0 count isOpen tap mem base rec p0 p1 stride regions apart1 apart2 mem2 off free
    refine answers_of_passed rfl rfl acc rfl ?_ (by simp -implicitDefEqProofs [half])
    simp_all -implicitDefEqProofs [rsv, bad, firstErr_eq_none]
    omega
  case buffer =>
    rintro c h s n t k tap b acc res rfl rfl isOpen count rfl rfl op
    obtain ⟨op, newest⟩ | ⟨op, len, found⟩ | ⟨op, rfl, held⟩ := op
    · refine answers_of_passed rfl rfl acc rfl ?_ (by simp [op, newest])
      simpa [rsv, bad, isOpen, count, op, newest] using res
    · refine answers_of_passed rfl rfl acc rfl ?_ (by simp -implicitDefEqProofs [op, found])
      simpa -implicitDefEqProofs [rsv, bad, isOpen, count, op, found, len] using res
    · refine answers_of_passed rfl rfl acc rfl ?_ (by simp [op, held])
      simpa [rsv, bad, isOpen, count, op, held] using res
  case status =>
    rintro c h s n t bs acc res align rfl rfl isOpen count rfl fits
    refine answers_of_passed rfl rfl acc rfl ?_ ?_
    · simp_all -implicitDefEqProofs [rsv, bad]
    · simp [writeRecord_ok, fits]

end Sys2Proof.Machine
end

section
/-! The STAT_ and TRIM_ opcodes (R288, R290, R293 to R297, R300, R301, R305 to R310). -/

namespace Sys2Proof.Machine

open Sys2Proof.Safety

@[simp] theorem trimDomains_submitted (s : State) (c : Cmd) : trimDomains (submitted s c) = trimDomains c := rfl
@[simp] theorem trimDom_submitted (s : State) (c : Cmd) : trimDom (submitted s c) = trimDom c := rfl
@[simp] theorem trimInst_submitted (s : State) (c : Cmd) : trimInst (submitted s c) = trimInst c := rfl
@[simp] theorem clipCodeOk_started (op : Op) (c : Cmd) (h : Half) (s : State) (x : Context) (v : Nat) :
    clipCodeOk (started op c h s) x v = clipCodeOk s x v :=
  read_started (clipCodeOk · x v) fun _ _ _ _ _ _ => rfl
@[simp] theorem refSource_started (op : Op) (c : Cmd) (h : Half) (s : State) (x : Context) :
    refSource (started op c h s) x = refSource s x :=
  read_started (refSource · x) fun _ _ _ _ _ _ => rfl
@[simp] theorem hdrTaken_started (op : Op) (c : Cmd) (h : Half) (s : State) (n : Nat) :
    hdrTaken (started op c h s) n = hdrTaken s n :=
  read_started (hdrTaken · n) fun _ _ _ _ _ _ => rfl
@[simp] theorem statFind_started (op : Op) (c : Cmd) (h : Half) (s : State) (n : Nat) (f : Option Nat) :
    statFind (started op c h s) n f = statFind s n f := by
  simp -implicitDefEqProofs only [statFind, ctxAt_started, refHalf_started, dramDwords_started]
@[simp] theorem trimAt_started (op : Op) (c : Cmd) (h : Half) (s : State) (d i : Nat) :
    trimAt (started op c h s) d i = trimAt s d i :=
  read_started (trimAt · d i) fun _ _ _ _ _ _ => rfl
@[simp] theorem accumOf_started (op : Op) (c : Cmd) (h : Half) (s : State) (i : Nat) :
    accumOf (started op c h s) i = accumOf s i :=
  read_started (accumOf · i) fun _ _ _ _ _ _ => rfl
@[simp] theorem trimBusy_started (op : Op) (c : Cmd) (h : Half) (s : State) :
    trimBusy (started op c h s) (submitted s c) = trimBusy s c := by
  simp -implicitDefEqProofs only [trimBusy, trimInst_submitted, trimDom_submitted, trimAt_started, accumOf_started]
@[simp] theorem trimHalf_started (op : Op) (c : Cmd) (h : Half) (s : State) (d i : Nat) :
    trimHalf (started op c h s) d i = trimHalf s d i := by
  simp -implicitDefEqProofs only [trimHalf, streamHalf_started, leadHalf_started]
@[simp] theorem trimNamed_submitted (s : State) (c : Cmd) (one : Bool) :
    trimNamed (submitted s c) one = trimNamed c one := rfl
@[simp] theorem trimRegions_started (op : Op) (c : Cmd) (h k : Half) (s : State) :
    trimRegions (submitted s c) k (started op c h s) = trimRegions c k s := by
  simp only [trimRegions, started_half_mem, streamAt_started, trimInst_submitted, dw_submitted, pq_submitted]
@[simp] theorem geomOf_started (op : Op) (c : Cmd) (h : Half) (s : State) (n : Nat) :
    geomOf (started op c h s) n = geomOf s n := by simp only [geomOf, streamAt_started]
@[simp] theorem chanAt_started (op : Op) (c : Cmd) (h k : Half) (s : State) (n : Nat) :
    chanAt (started op c h s) k n = chanAt s k n := by simp only [chanAt, started_half_mem]
@[simp] theorem eqCodes_started (op : Op) (c : Cmd) (h : Half) (s : State) (i : Nat) :
    eqCodes (started op c h s) i = eqCodes s i :=
  read_started (eqCodes · i) fun _ _ _ _ _ _ => rfl
@[simp] theorem valsInForce_started (op : Op) (c : Cmd) (h : Half) (s : State) (d i : Nat) :
    valsInForce (started op c h s) d i = valsInForce s d i := by
  simp -implicitDefEqProofs only [valsInForce, eqCodes_started, started_half_mem, chanAt_started, started_corrs]
@[simp] theorem trimHeader_started (op : Op) (c : Cmd) (h : Half) (s : State) (d i n : Nat) :
    trimHeader (started op c h s) d i n = trimHeader s d i n := by simp only [trimHeader, trimAt_started]
@[simp] theorem trimSet_started (op : Op) (c : Cmd) (h : Half) (s : State) (d i : Nat) :
    trimSet (started op c h s) d i = trimSet s d i := by simp -implicitDefEqProofs only [trimSet, started_half_mem]

/-- Settles O7: each opcode's checks are passed, and what is left of its meaning is the effect stated. -/
theorem statAndTrimCommandsComplete : Obligations.StatAndTrimCommandsComplete := by
  refine ⟨?configure, ?trigger, ?read, ?policy, ?measure, ?commit, ?loadKept, ?loadHost, ?trimRead⟩
  case configure =>
    rintro c h hf s n acc res2 res6 res7 rfl isOpen rfl mode div n0 n1 clip align mem free hdr dram
    refine answers_of_passed rfl rfl acc rfl ?_ (by simp)
    simp_all -implicitDefEqProofs [rsv, bad, firstErr_eq_none]
    grind
  case trigger =>
    rintro c h s n zx zy x0 x1 y0 y1 acc res2 res3 res4 res5 rfl grid rfl rfl rfl rfl pol t0 t1 per x y xe ye cnt0 cnt on
    refine answers_of_passed rfl rfl acc rfl ?_ rfl
    obtain ⟨rfl, rfl⟩ := Prod.mk.inj grid
    simp_all -implicitDefEqProofs [rsv, bad]
    omega
  case read =>
    rintro c h s n q bs p acc res align rfl isOpen dram found named fits
    refine answers_of_passed rfl rfl acc rfl ?_ ?_
    · simp_all -implicitDefEqProofs [rsv, bad, firstErr_eq_none]
    · simp -implicitDefEqProofs [isOpen, found, named, copyOut_poison, fits]
  case policy =>
    rintro c h s acc res2 res6 doms inst
    refine answers_of_passed rfl rfl acc rfl ?_ ?_
    · simp_all -implicitDefEqProofs [rsv, bad, trimNamed]
      by_cases three : trimDom c ≤ 3
      · simp [res6 three]
      · simp [three]
    · simp -implicitDefEqProofs
  case measure =>
    rintro c h s i acc res doms rfl inst idle
    constructor
    · rintro g two len res3 res13 res14 n0 n cfg bound pitch wide regions dram
      refine answers_of _ _ _ c h s _ _ rfl rfl acc ?_
      simp -implicitDefEqProofs only [opTrimMeasure, measureStream, two, trimDom_submitted, trimDomains_submitted]
      rw [if_neg, if_pos, firstErr_none]
      · simp -implicitDefEqProofs only [trimInst_submitted, pf_submitted, pb_submitted, streamAt_started]
      · simp_all -implicitDefEqProofs [rsv, bad, trimNamed, firstErr_eq_none, Option.isSome_iff_ne_none]
        omega
      · rfl
      · simp [doms, len]
    · intro other len psl chan
      have two : ¬ trimDom c ≤ 2 := by omega
      refine answers_of _ _ _ c h s _ _ rfl rfl acc ?_
      simp -implicitDefEqProofs only [opTrimMeasure, measureOther, two, trimDom_submitted, trimDomains_submitted]
      rw [if_neg, if_neg, firstErr_none]
      · simp
      · simp_all -implicitDefEqProofs [rsv, bad, trimNamed]
        grind
      · simp
      · simp [len]
  case commit =>
    rintro c h s ready acc res doms inst rfl some
    refine answers_of_passed rfl rfl acc rfl ?_ ?_
    · simp_all -implicitDefEqProofs [rsv, bad, trimNamed]
    · simp
  case loadKept =>
    rintro c h s t d i v r acc res rfl one rfl inst d3 d4 kept val stream idle dram load
    refine answers_of_passed rfl rfl acc rfl ?_ ?_
    · simp_all -implicitDefEqProofs [rsv, bad, trimNamed, firstErr_eq_none, Option.isSome_iff_ne_none]
      grind
    · simpa -implicitDefEqProofs [kept, val, leNat, numsOf] using load
  case loadHost =>
    rintro c h s t d i cnt hd tail b r acc res rfl one rfl inst d3 d4 kept align read rfl len counted more arrays stream idle
      dram load
    have least : (if trimDom c = 2 then leNat (((hd.drop 64).drop 8).take 4) else 0) = cnt := counted.symm
    refine answers_of_passed rfl rfl acc rfl ?_ ?_
    · simp -implicitDefEqProofs only [kept, read, more, least, pb_submitted, pq_submitted, trimDom_submitted,
        hostRead_started, Option.getD_some, if_false, Bool.false_eq_true]
      simp_all -implicitDefEqProofs [rsv, bad, trimNamed, firstErr_eq_none, Option.isSome_iff_ne_none]
      grind
    · simpa -implicitDefEqProofs only [kept, read, more, least, pb_submitted, pq_submitted, trimDom_submitted,
        trimInst_submitted, hostRead_started, Option.getD_some, if_false, Bool.false_eq_true] using load
  case trimRead =>
    rintro c h s d i v now bs body acc res rfl one rfl inst align force val rfl rfl fits
    refine answers_of_passed rfl rfl acc rfl ?_ ?_
    · cases fresh : pb c 2 28 <;> simp_all -implicitDefEqProofs [rsv, bad, trimNamed]
    · have shown : (if pb c 2 28 = true then (trimAt s (trimDom c) (trimInst c)).staged.getD now else now) = v := by
        cases fresh : pb c 2 28 <;> simp_all
      simp -implicitDefEqProofs only [trimDom_submitted, trimInst_submitted, pb_submitted, pq_submitted, trimAt_started,
        valsInForce_started, trimSet_started, trimHeader_started, ← force, shown]
      exact writeRecord_ok _ _ _ _ _ _ (by simpa using fits)

end Sys2Proof.Machine
end

section
/-! The VCU_ opcodes of sessions and encoding (R311 to R317, R326, R330, R331, R337, R340). -/

namespace Sys2Proof.Machine

open Sys2Proof.Safety

@[simp] theorem sessCfgOf_submitted (s : State) (c : Cmd) : sessCfgOf (submitted s c) = sessCfgOf c := rfl
@[simp] theorem sessOutOf_submitted (s : State) (c : Cmd) : sessOutOf (submitted s c) = sessOutOf c := rfl
@[simp] theorem rateOf_submitted (s : State) (c : Cmd) : rateOf (submitted s c) = rateOf c := rfl
@[simp] theorem wrongDir_started (op : Op) (c : Cmd) (h : Half) (s : State) (n : Nat) (d : Bool) :
    wrongDir (started op c h s) n d = wrongDir s n d := by simp -implicitDefEqProofs only [wrongDir, sessAt_started]
@[simp] theorem sessState_started (op : Op) (c : Cmd) (h : Half) (s : State) (n : Nat) (l : List SessState) :
    sessState (started op c h s) n l = sessState s n l := by simp only [sessState, sessAt_started]
@[simp] theorem rateSoon_started (op : Op) (c : Cmd) (h : Half) (s : State) (n : Nat) :
    rateSoon (started op c h s) n = rateSoon s n :=
  read_started (rateSoon · n) fun _ _ _ _ _ _ => rfl
@[simp] theorem encOut_started (op : Op) (c : Cmd) (h : Half) (s : State) (x : Session) :
    encOut (started op c h s) x = encOut s x :=
  read_started (encOut · x) fun _ _ _ _ _ _ => rfl
@[simp] theorem tapInvalid_started (op : Op) (c : Cmd) (h : Half) (s : State) (x : Session) :
    tapInvalid (started op c h s) x = tapInvalid s x :=
  read_started (tapInvalid · x) fun _ _ _ _ _ _ => rfl
@[simp] theorem sessStream_started (op : Op) (c : Cmd) (h : Half) (s : State) (x : Session) :
    sessStream (started op c h s) x = sessStream s x := by simp only [sessStream, refStream_started, ctxAt_started]
@[simp] theorem sessionsOf_started (op : Op) (c : Cmd) (h k : Half) (s : State) :
    sessionsOf (started op c h s) k = sessionsOf s k :=
  read_started (sessionsOf · k) fun _ _ _ _ _ _ => rfl
@[simp] theorem encOutOk_started (op : Op) (c : Cmd) (h k : Half) (s : State) (o : SessOut) :
    encOutOk (started op c h s) k o = encOutOk s k o := by simp only [encOutOk, started_half_mem]
@[simp] theorem decOutOk_started (op : Op) (c : Cmd) (h i : Half) (s : State) (k : SessCfg) (o : SessOut) :
    decOutOk (started op c h s) k i o = decOutOk s k i o := by simp only [decOutOk, started_half_mem]
@[simp] theorem planesBad_started (op : Op) (c : Cmd) (h i : Half) (s : State) (k : SessCfg) (d : Nat) :
    planesBad (started op c h s) k (submitted s c) i d = planesBad s k c i d := by
  simp -implicitDefEqProofs only [planesBad, started_half_mem, pq_submitted, dw_submitted]
@[simp] theorem poolList_started (op : Op) (c : Cmd) (h i : Half) (s : State) (k : SessCfg) :
    poolList (started op c h s) k i = poolList s k i := by simp only [poolList, dramRead_started]
@[simp] theorem refsOk_started (op : Op) (c : Cmd) (h i : Half) (s : State) (k : SessCfg) :
    refsOk (started op c h s) k i = refsOk s k i := by simp only [refsOk, poolList_started, started_half_mem]

/-- The half that a command acts in: one that it names, or the half that it runs in. -/
theorem half_named {p : Prop} [Decidable p] {code : Option Half} {h hf : Half} (named :
    if p then code = some hf else hf = h) :
    (if p then code else some h) = some hf := by
  split at named <;> simp_all

/-- The index of a record that the host has read, from its low 32 bits: the one of the records not yet freed. -/
theorem recHead_of_low {head pos rh low : Nat} (named : rh % 2 ^ 32 = low) (lo : head ≤ rh) (hi : rh ≤ pos)
    (near : pos < head + 2 ^ 32) :
    (if head / 2 ^ 32 * 2 ^ 32 + low < head ∧ head / 2 ^ 32 * 2 ^ 32 + low + 2 ^ 32 ≤ pos then
      head / 2 ^ 32 * 2 ^ 32 + low + 2 ^ 32 else head / 2 ^ 32 * 2 ^ 32 + low) = rh := by
  split <;> omega

/-- Settles O8: each opcode's checks are passed, and what is left of its meaning is the effect stated. -/
theorem encodeCommandsComplete : Obligations.EncodeCommandsComplete := by
  refine ⟨?openSess, ?output, ?rate, ?start, ?stop, ?irap, ?close, ?picture, ?consumed⟩
  case openSess =>
    rintro c h s n k acc res2 res4 res7 res8 rfl rfl host slices tier split half idleA idleB tap num den gop qp format
      splits closed each
    refine answers_of_passed rfl rfl acc rfl ?_ (by simp -implicitDefEqProofs)
    by_cases both : (sessCfgOf c).half = 3 <;> cases dec : (sessCfgOf c).decode <;>
      simp_all -implicitDefEqProofs [rsv, bad, firstErr_eq_none, Nat.pos_iff_ne_zero] <;> grind
  case output =>
    rintro c h hf s n k o acc res2 res6 res9 rfl rfl isOpen half rfl valid dram
    have named := half_named half
    refine answers_of_passed rfl rfl acc rfl ?_ ?_
    · simp -implicitDefEqProofs only [pf_submitted, sessAt_started, sessOutOf_submitted, named, Option.getD_some,
        decOutOk_started, encOutOk_started, valid]
      simp_all -implicitDefEqProofs [rsv, sessState, all_checks_if, firstErr_eq_none]
      grind
    · simp -implicitDefEqProofs only [pf_submitted, sessAt_started, sessOutOf_submitted, named, Option.getD_some]
  case rate =>
    rintro c h s n r acc res rfl rfl mode full0 full qi qp qb dir fits state
    refine answers_of_passed rfl rfl acc rfl ?_ rfl
    simp_all -implicitDefEqProofs [rsv, bad, wrongDir, sessState, Nat.pos_iff_ne_zero]
  case start =>
    rintro c h s n k t acc res rfl rfl dir split tap isOpen out rate rfl
    refine answers_of_passed rfl rfl acc rfl ?_ (by simp)
    simp_all -implicitDefEqProofs [rsv, wrongDir, sessState, Option.isSome_iff_ne_none]
    cases host : (sessAt s (pf c 2 3 0)).cfg.hostInput <;> simp_all
  case stop =>
    rintro c h s n x acc res rfl rfl dir running
    refine answers_of_passed rfl rfl acc rfl ?_ ?_
    · simp_all -implicitDefEqProofs [rsv, wrongDir, sessState]
    · cases idle : (sessAt s (pf c 2 3 0)).held.isEmpty && (sessAt s (pf c 2 3 0)).coding.isNone <;> simp [idle]
  case irap =>
    rintro c h s n acc res rfl dir state
    refine answers_of_passed rfl rfl acc rfl ?_ rfl
    simp_all -implicitDefEqProofs [rsv, wrongDir, sessState]
  case close =>
    rintro c h s n acc res rfl may
    refine answers_of_passed rfl rfl acc rfl ?_ rfl
    simp_all -implicitDefEqProofs [rsv]
    tauto
  case picture =>
    rintro c h s n x num acc res rfl rfl rfl dir host unused align wide planes planesB later state room
    refine answers_of_passed rfl rfl acc rfl ?_ (by simp -implicitDefEqProofs)
    cases last : (sessAt s (pf c 2 3 0)).lastPic <;> by_cases both : (sessAt s (pf c 2 3 0)).cfg.half = 3 <;>
      simp_all -implicitDefEqProofs [rsv, bad, wrongDir, sessState]
  case consumed =>
    rintro c h s n dh rh x acc res rfl rfl dir isOpen drain rfl low lo hi near dlo dhi
    have heads := recHead_of_low low lo hi near
    refine answers_of_passed rfl rfl acc rfl ?_ ?_
    · simp -implicitDefEqProofs only [pf_submitted, pq_submitted, dw_submitted, sessAt_started, wrongDir_started,
        sessState_started, heads]
      simp_all -implicitDefEqProofs [rsv, wrongDir, sessState]
      cases state : (sessAt s (pf c 2 3 0)).st <;> simp_all
    · simp -implicitDefEqProofs only [pf_submitted, pq_submitted, dw_submitted, sessAt_started, heads]

end Sys2Proof.Machine
end

section
/-! The VCU_ opcodes of decoding and status (R315, R344, R348 to R354). -/

namespace Sys2Proof.Machine

open Sys2Proof.Safety

@[simp] theorem sessRecord_started (op : Op) (c : Cmd) (h i : Half) (s : State) (n k : Nat) :
    sessRecord (started op c h s) n i k = sessRecord s n i k :=
  read_started (sessRecord · n i k) fun _ _ _ _ _ _ => rfl

/-- Settles O9: each opcode's checks are passed, and what is left of its meaning is the effect stated. -/
theorem decodeCommandsComplete : Obligations.DecodeCommandsComplete := by
  refine ⟨?data, ?flush, ?buffer, ?pool, ?status⟩
  case data =>
    rintro c h s n acc res2 res5 rfl len dir state source
    refine answers_of_passed rfl rfl acc rfl ?_ (by simp -implicitDefEqProofs)
    cases dram : pb c 2 6 <;> simp_all -implicitDefEqProofs [rsv, bad, wrongDir, sessState, Nat.pos_iff_ne_zero]
  case flush =>
    rintro c h s n acc res rfl dir state
    refine answers_of_passed rfl rfl acc rfl ?_ rfl
    simp_all -implicitDefEqProofs [rsv, wrongDir, sessState]
  case buffer =>
    rintro c h hf s n k x acc res rfl rfl rfl dir state half held
    have named := half_named half
    refine answers_of_passed rfl rfl acc rfl ?_ ?_
    · simp -implicitDefEqProofs only [pf_submitted, sessAt_started, named, Option.getD_some, held]
      simp_all -implicitDefEqProofs [rsv, wrongDir, sessState]
    · simp -implicitDefEqProofs only [pf_submitted, sessAt_started, named, Option.getD_some, apply_ite (Prod.mk ok)]
  case pool =>
    rintro c h hf s n bs acc res rfl half isOpen mem align rfl fits
    refine answers_of_passed rfl rfl acc rfl ?_ ?_
    · simp_all -implicitDefEqProofs [rsv, bad]
    · simp only [pf_submitted, pq_submitted, sessAt_started, half, Option.getD_some]
      exact writeRecord_ok _ _ _ _ _ _ (by rwa [bufferOk_started])
  case status =>
    rintro c h s n bs acc res rfl isOpen align rfl fits
    refine answers_of_passed rfl rfl acc rfl ?_ ?_
    · simp_all -implicitDefEqProofs [rsv, bad]
    · simp [writeRecord_ok, fits]

end Sys2Proof.Machine
end

section
/-! The MEM_ opcodes (R358, R361, R372, R375, R378, R381, R386, R387, R390 to R392). -/

namespace Sys2Proof.Machine

open Sys2Proof.Safety

@[simp] theorem namedChan_submitted (s : State) (c : Cmd) : namedChan (submitted s c) = namedChan c := rfl
@[simp] theorem regionIn_submitted (s : State) (c : Cmd) : regionIn (submitted s c) = regionIn c := rfl
@[simp] theorem policyIn_submitted (s : State) (c : Cmd) : policyIn (submitted s c) = policyIn c := rfl
@[simp] theorem bufChecks_submitted (s : State) (c : Cmd) : bufChecks (submitted s c) = bad [(3, decide (pq c 3 % 32 ≠ 0)),
    (3, false)] := rfl
@[simp] theorem excludedCheck_started (op : Op) (c : Cmd) (h k : Half) (s : State) (all : Bool) :
    excludedCheck (submitted s c) k (started op c h s) all = excludedCheck c k s all := by
  simp only [excludedCheck, chanAt_started, namedChan_submitted]
@[simp] theorem chansNamed_started (op : Op) (c : Cmd) (h k : Half) (s : State) :
    chansNamed (submitted s c) k (started op c h s) = chansNamed c k s := by
  simp only [chansNamed, started_half_mem, namedChan_submitted, pb_submitted]
@[simp] theorem streamsOf_started (op : Op) (c : Cmd) (h k : Half) (s : State) :
    streamsOf (started op c h s) k = streamsOf s k :=
  read_started (streamsOf · k) fun _ _ _ _ _ _ => rfl
@[simp] theorem quietHalf_started (op : Op) (c : Cmd) (h k : Half) (s : State) :
    quietHalf (started op c h s) k = quietHalf s k := by
  simp only [quietHalf, capturesIn, liveIn, streamsOf_started, started_ctxs]
@[simp] theorem structures_started (op : Op) (c : Cmd) (h k : Half) (s : State) :
    structures (started op c h s) k = structures s k := by
  simp -implicitDefEqProofs only [structures, otherRegions_started, tapRingsIn_started, statRingsIn_started, vcuRegions,
    started_sessions, streamHalf_started, started_corrs, streamAt_started]
@[simp] theorem hubsRead_started_mem (op : Op) (c : Cmd) (h k : Half) (s : State) (n : Nat) :
    (half (hubsRead (started op c h s) k n) k).mem = (half (hubsRead s k n) k).mem :=
  read_started (fun s => (half (hubsRead s k n) k).mem) fun _ _ _ _ _ _ => by cases k <;> rfl
@[simp] theorem bufferOk_modChan (s : State) (h : Half) (k : Nat) (f : Chan → Chan) (a n : Nat) :
    bufferOk (modChan s h k f) a n = bufferOk s a n := bufferOk_modMem ..
@[simp] theorem bufferOk_hubsRead (s : State) (h : Half) (k a n : Nat) : bufferOk (hubsRead s h k) a n = bufferOk s a n := by
  simp [hubsRead, fresh]

/-- Settles O10: each opcode's checks are passed, and what is left of its meaning is the effect stated. -/
theorem memCommandsComplete : Obligations.MemCommandsComplete := by
  refine ⟨?status, ?region, ?policy, ?train, ?freq, ?timing, ?repair, ?save, ?inject⟩
  case status =>
    rintro c h s bs acc res align rfl fits
    refine answers_of_passed rfl rfl acc rfl ?_ ?_
    · simp_all [rsv, bad]
    · cases clear : pb c 2 4 <;> simp [writeRecord_ok, fits, clear]
  case region =>
    rintro c h s m m1 r k n acc res2 res3 res4 rfl rfl named rfl rfl count chans size0 size even clash room dram quiet unused
    have named : regionIn c = r := named.symm
    refine answers_of_passed rfl rfl acc rfl ?_ ?_
    · simp only [pf_submitted, pb_submitted, regionIn_submitted, started_half_mem, structures_started,
dramChecks_started, named]
      simp_all -implicitDefEqProofs [rsv, bad, firstErr_eq_none, Nat.pos_iff_ne_zero]
      grind
    · simp only [pf_submitted, regionIn_submitted, started_half_mem, named]
  case policy =>
    rintro c h s acc res2 res3 res4 page scrub dram chan
    refine answers_of_passed rfl rfl acc rfl ?_ (by simp -implicitDefEqProofs [policyIn, chansNamed])
    cases all : pb c 2 4 <;> simp_all -implicitDefEqProofs [rsv, bad, firstErr_eq_none, excludedCheck]
  case train =>
    rintro c h s ks acc res dram chan rfl idle
    refine answers_of_passed rfl rfl acc rfl ?_ (by simp -implicitDefEqProofs [beginSweep, chansNamed])
    cases all : pb c 2 4 <;> simp_all -implicitDefEqProofs [rsv, firstErr_eq_none, excludedCheck, chansNamed]
  case freq =>
    rintro c h s acc res dram may idle
    refine answers_of_passed rfl rfl acc rfl ?_ rfl
    simp_all -implicitDefEqProofs [rsv, firstErr_eq_none]
  case timing =>
    rintro c h s r bs acc res align rfl rfl fits
    refine answers_of_passed rfl rfl acc rfl ?_ ?_
    · simp_all [rsv, bad]
    · simp [writeRecord_ok, fits, namedChan]
  case repair =>
    rintro c h s k r acc rfl rfl rank dram chan
    constructor
    · intro kind res2 res3 row
      refine answers_of_passed rfl rfl acc rfl ?_ (by simp [kind])
      simp_all -implicitDefEqProofs [rsv, bad, firstErr_eq_none, excludedCheck]
    · intro kind res2 res3 spare free idle
      refine answers_of_passed rfl rfl acc rfl ?_ (by simp [kind])
      simp_all -implicitDefEqProofs [rsv, bad, firstErr_eq_none, excludedCheck]
  case save =>
    rintro c h s acc res trained
    refine answers_of_passed rfl rfl acc rfl ?_ (by simp [trainingArea])
    simp_all [rsv]
  case inject =>
    rintro c h s acc res kind bits align dram backs
    refine answers_of_passed rfl rfl acc rfl ?_ rfl
    simp_all -implicitDefEqProofs [rsv, bad, firstErr_eq_none]

end Sys2Proof.Machine
end

section
/-! The VF_ opcodes (R415, R418, R423 to R427, R430). -/

namespace Sys2Proof.Machine

open Sys2Proof.Safety

@[simp] theorem sourceIn_submitted (s : State) (c : Cmd) : sourceIn (submitted s c) = sourceIn c := rfl
@[simp] theorem vfCfgIn_submitted (s : State) (c : Cmd) : vfCfgIn (submitted s c) = vfCfgIn c := rfl
@[simp] theorem started_a_vf (op : Op) (c : Cmd) (h : Half) (s : State) : (started op c h s).a.vf = s.a.vf :=
  started_half_vf op c h .A s
@[simp] theorem sourceOk_started (op : Op) (c : Cmd) (h : Half) (s : State) (z : VfSource) :
    sourceOk (started op c h s) (submitted s c) z = sourceOk s c z := by
  simp -implicitDefEqProofs only [sourceOk, started_half_mem, ctxAt_started, pf_submitted]
@[simp] theorem vfRuns_started (op : Op) (c : Cmd) (h k : Half) (s : State) : vfRuns (started op c h s) k = vfRuns s k := by
  simp -implicitDefEqProofs only [vfRuns, outAt_started]
@[simp] theorem needsPeer_started (op : Op) (c : Cmd) (h k : Half) (s : State) (z : VfSource) :
    needsPeer (started op c h s) z k = needsPeer s z k :=
  read_started (needsPeer · z k) fun _ _ _ _ _ _ => rfl
@[simp] theorem peerOk_started (op : Op) (c : Cmd) (h k : Half) (s : State) (z : VfSource) :
    peerOk (started op c h s) z k = peerOk s z k := by
  simp -implicitDefEqProofs only [peerOk, vfRuns_started, needsPeer_started, started_half_mem]
@[simp] theorem vfCropOk_started (op : Op) (c : Cmd) (h : Half) (s : State) (k : VfCfg) :
    vfCropOk (started op c h s) k = vfCropOk s k :=
  read_started (vfCropOk · k) fun _ _ _ _ _ _ => rfl
@[simp] theorem peerMissing_started (op : Op) (c : Cmd) (h k : Half) (s : State) :
    peerMissing (started op c h s) k = peerMissing s k := by
  simp -implicitDefEqProofs only [peerMissing, started_vfSrc, needsPeer_started]
@[simp] theorem readSeq_started (op : Op) (c : Cmd) (h : Half) (s : State) (n : Nat) :
    ∀ a acc, readSeq (started op c h s) n a acc = readSeq s n a acc := by
  induction n with
  | zero => exact fun _ _ => rfl
  | succ n ih => exact fun a acc => by simp -implicitDefEqProofs only [readSeq, hostRead_started, ih]
@[simp] theorem runningOuts_modVfe (s : State) (h : Half) (f : VfEngine → VfEngine) :
    runningOuts (modVfe s h f) = runningOuts s := by cases h <;> rfl
@[simp] theorem runningOuts_started (op : Op) (c : Cmd) (h : Half) (s : State) :
    runningOuts (started op c h s) = runningOuts s := by simp -implicitDefEqProofs only [runningOuts, outAt_started]

/-- Settles O11: each opcode's checks are passed, and what is left of its meaning is the effect stated. -/
theorem viewfinderCommandsComplete : Obligations.ViewfinderCommandsComplete := by
  refine ⟨?source, ?configure, ?sequence, ?check, ?resume, ?status⟩
  case source =>
    rintro c h s z acc named host tap ok okA okB far
    have source : sourceIn c s.a.vf.serials = z := named.symm
    have kind : z.host = pb c 2 0 := by rw [named]; rfl
    have reached := (Bool.eq_false_or_eq_true (vfRuns s (otherHalf h))).symm.imp_right far
    clear named far
    constructor
    · intro none
      refine answers_of_passed rfl rfl acc rfl ?_ (by simp -implicitDefEqProofs [source, none])
      cases pic : pb c 2 0 <;> simp_all -implicitDefEqProofs [rsv, firstErr_eq_none]
    · intro some
      refine answers_of_passed rfl rfl acc rfl ?_ (by simp -implicitDefEqProofs [source, some])
      cases pic : pb c 2 0 <;> simp_all -implicitDefEqProofs [rsv, firstErr_eq_none]
  case configure =>
    rintro c h s k acc res2 res8 res11 named run lanes te mb0 mb pk0 pk w0 w h0 hh area ow oh ox oy sx sy crop dram align
      backs peer
    have cfg : vfCfgIn c = k := named.symm
    refine answers_of_passed rfl rfl acc rfl ?_ (by simp -implicitDefEqProofs [cfg])
    clear named
    simp_all -implicitDefEqProofs [rsv, bad, firstErr_eq_none, windowOk, Nat.pos_iff_ne_zero]
    grind
  case sequence =>
    rintro c h s o acc res rfl n0 n align on
    constructor
    · intro pkts read
      refine answers_of_passed rfl rfl acc rfl ?_ ?_
      · simp_all -implicitDefEqProofs [rsv, bad, Nat.pos_iff_ne_zero]
      · simp [read]
    · intro read
      refine answers_of_passed rfl rfl acc rfl ?_ ?_
      · simp_all -implicitDefEqProofs [rsv, bad, Nat.pos_iff_ne_zero]
      · simp [read]
  case check =>
    rintro c h s o acc res rfl w0 h0 x y
    refine answers_of_passed rfl rfl acc rfl ?_ rfl
    simp_all -implicitDefEqProofs [rsv, Nat.pos_iff_ne_zero]
  case resume =>
    rintro c h s acc res frozen
    refine answers_of_passed rfl rfl acc rfl ?_ rfl
    simp_all [rsv]
  case status =>
    rintro c h s bs acc res align rfl fits
    refine answers_of_passed rfl rfl acc rfl ?_ ?_
    · simp_all [rsv, bad]
    · simp [writeRecord_ok, fits]

end Sys2Proof.Machine
end

section
/-! The PAIR_ and PWR_ opcodes and HOST_GET_LINK_STATUS (R405, R407, R409, R411, R412, R454, R455, R471, R476, R477). -/

namespace Sys2Proof.Machine

open Sys2Proof.Safety

@[simp] theorem pairRecord_started (op : Op) (c : Cmd) (h : Half) (s : State) :
    pairRecord (started op c h s).pair = pairRecord s.pair :=
  read_started (fun s => pairRecord s.pair) fun _ _ _ _ _ _ => rfl
@[simp] theorem linkRecord_started (op : Op) (c : Cmd) (h k : Half) (s : State) :
    linkRecord (started op c h s) k = linkRecord s k :=
  read_started (linkRecord · k) fun _ _ _ _ _ _ => by cases k <;> rfl
@[simp] theorem pairUp_started (op : Op) (c : Cmd) (h : Half) (s : State) : pairUp (started op c h s) = pairUp s :=
  read_started pairUp fun _ _ _ _ _ _ => rfl

/-- Settles O13: each opcode's checks are passed, and what is left of its meaning is the effect stated. -/
theorem pairAndPowerCommandsComplete : Obligations.PairAndPowerCommandsComplete := by
  refine ⟨?configure, ?pairStatus, ?switchover, ?takeover, ?budget, ?state, ?link⟩
  case configure =>
    rintro c h s acc res miss
    constructor
    · intro on role dram image
      refine answers_of_passed rfl rfl acc rfl ?_ (by simp -implicitDefEqProofs [on])
      simp_all -implicitDefEqProofs [rsv, bad]
      omega
    · intro off
      refine answers_of_passed rfl rfl acc rfl ?_ (by simp -implicitDefEqProofs [off])
      simp_all -implicitDefEqProofs [rsv, bad]
  case pairStatus =>
    rintro c h s bs acc res align rfl fits
    refine answers_of_passed rfl rfl acc rfl ?_ ?_
    · simp_all [recordChecks, rsv, bad]
    · simp [writeRecord_ok, fits]
  case switchover =>
    rintro c h s acc res up drain fence
    refine answers_of_passed rfl rfl acc rfl ?_ rfl
    simp_all [rsv]
  case takeover =>
    rintro c h s acc res role state newer
    refine answers_of_passed rfl rfl acc rfl ?_ rfl
    simp_all -implicitDefEqProofs [rsv]
  case budget =>
    rintro c h s acc res halves up
    refine answers_of_passed rfl rfl acc rfl ?_ (by simp -implicitDefEqProofs)
    simp_all -implicitDefEqProofs [rsv, bad]
    grind
  case state =>
    rintro c h k s bs acc res half align up rfl fits
    refine answers_of _ _ _ c h s _ _ rfl rfl acc ?_
    simp only [opPwrGetState]
    rw [firstErr_none]
    · simp [half, writeRecord_ok, fits]
    · exact halfRecordChecks_passed res half align rfl (by simpa using up)
  case link =>
    rintro c h k s bs acc res half align up rfl fits
    refine answers_of _ _ _ c h s _ _ rfl rfl acc ?_
    simp only [opHostGetLinkStatus]
    rw [firstErr_none]
    · simp [half, writeRecord_ok, fits]
    · exact halfRecordChecks_passed res half align rfl (by simpa using up)

end Sys2Proof.Machine
end

section
/-! Register and doorbell rows (R35 to R42, R62, R64, R67, R397, R402). -/

namespace Sys2Proof.Machine

open Sys2Proof.Safety

/-! The control words of the rings: what the rows that set or clear ENABLE keep of the word that they are given. -/

theorem fld_eq_extract (v : Word) (hi lo : Nat) : fld v hi lo = (v.extractLsb' lo (hi - lo + 1)).toNat := by
  simp [fld]

/-- A field that has no bit of a mask reads the same with the mask's bits set. -/
theorem fld_or {v m : Word} {hi lo : Nat} (apart : m.extractLsb' lo (hi - lo + 1) = 0) :
    fld (v ||| m) hi lo = fld v hi lo := by
  rw [fld_eq_extract, fld_eq_extract, BitVec.extractLsb'_or, apart]
  simp

/-- A field all of whose bits a mask has reads the same with all others clear. -/
theorem fld_and {v m : Word} {hi lo : Nat} (within : m.extractLsb' lo (hi - lo + 1) = BitVec.allOnes _) :
    fld (v &&& m) hi lo = fld v hi lo := by
  rw [fld_eq_extract, fld_eq_extract, BitVec.extractLsb'_and, within, BitVec.and_allOnes]

@[simp] theorem fld_withEnable_size (v : Word) : fld (withEnable v) 4 0 = fld v 4 0 := fld_or (by decide)
@[simp] theorem fld_withEnable_cq (v : Word) : fld (withEnable v) 12 8 = fld v 12 8 := fld_or (by decide)
@[simp] theorem fld_withEnable_vector (v : Word) : fld (withEnable v) 14 8 = fld v 14 8 := fld_or (by decide)
@[simp] theorem fld_withoutEnable_vector (v : Word) : fld (withoutEnable v) 14 8 = fld v 14 8 := fld_and (by decide)
@[simp] theorem bitOf_withEnable (v : Word) : bitOf (withEnable v) 16 = true := by
  simp [bitOf, withEnable]
@[simp] theorem bitOf_withEnable_int (v : Word) : bitOf (withEnable v) 15 = bitOf v 15 := by
  simp [bitOf, withEnable]
@[simp] theorem bitOf_withoutEnable (v : Word) : bitOf (withoutEnable v) 16 = false := by
  simp [bitOf, withoutEnable]
@[simp] theorem bitOf_withoutEnable_int (v : Word) : bitOf (withoutEnable v) 15 = bitOf v 15 := by
  simp [bitOf, withoutEnable]

theorem sizeOk_eq_false_iff (v : Word) : sizeOk v = false ↔ fld v 4 0 < 4 ∨ 16 < fld v 4 0 := by
  simp only [sizeOk, decide_eq_false_iff_not]
  omega

/-- A field of five bits names one of 32 rings. -/
@[simp] theorem fld_12_8_mod (v : Word) : fld v 12 8 % 32 = fld v 12 8 := by
  simp [fld]

/-- A choice told by what refuses it and by what lets it pass. -/
theorem ite_eq_of_iff_not {α : Type} {p q : Prop} [Decidable p] [Decidable q] {x y : α} (refused : q ↔ ¬p) :
    (if q then x else y) = if p then y else x := by
  by_cases p <;> simp_all

/-- A change of a ring is told by what it makes of the ring's own record. -/
theorem modSq_congr {s : State} {h : Half} {n : Nat} {f g : SqRec → SqRec} (same : f (sqAt s h n) = g (sqAt s h n)) :
    modSq s h n f = modSq s h n g := by
  simp only [sqAt] at same
  simp only [modSq, modCmd, modHalf, tmod, same]

/-- The index that a doorbell carries. -/
theorem ofNat_fld_15_0 (v : Word) : BitVec.ofNat 16 (fld v 15 0) = BitVec.setWidth 16 v := by
  apply BitVec.eq_of_toNat_eq
  simp [fld]

theorem fld_15_0 (v : Word) : fld v 15 0 = v.toNat % 65536 := by simp [fld]

theorem cqNamed_iff {s : State} {h : Half} {n : Nat} :
    cqNamed s h n = true ↔ ∃ r ∈ (half s h).cmd.sq.toList, r.enable = true ∧ r.cqId.toNat = n := by
  simp only [cqNamed, List.any_eq_true, Bool.and_eq_true, decide_eq_true_eq]

theorem bar0Write_sqBase (s : State) (h : Half) {n : Nat} (v : Word) (hn : n < 32) :
    bar0Write s h (0x1000 + 32 * n) v =
      modSq s h n fun r => if r.enable then r else { r with base := setLo r.base (fld v 31 12 * 2 ^ 12) } := by
  have index : (0x1000 + 32 * n - 0x1000) / 32 = n := by omega
  have word : (0x1000 + 32 * n) / 4 % 8 = 0 := by omega
  simp only [bar0Write, index, word]
  rw [if_pos (by omega)]
  rfl

/-- Settles O14: what a live ring's doorbell, a control word and a mask make of a ring follows the branches of what they
write. -/
theorem registerRowsComplete : Obligations.RegisterRowsComplete := by
  refine ⟨?tail, ?cqHead, ?evHead, ?sqOn, ?sqOff, ?cqOn, ?cqOff, ?evOn, ?evOff, ?vector, ?control, ?base, ?width⟩
  case tail =>
    rintro h n v env s u hr rfl on live
    refine acts_of _ _ _ _ hr (exec_sqTailDoorbell h n v env s) ?_
    simp only [sqDoorbell, sqAt_linkWake, sqAt_hostUpdate, on, live, fld_15_0, ← ofNat_fld_15_0]
    rw [if_neg (by simp)]
    exact ite_eq_of_iff_not Nat.not_lt.symm
  case cqHead =>
    rintro h n adv v s u r hr rfl rfl on live rfl
    refine acts_of _ _ _ _ hr (exec_cqHeadDoorbell h n v s) ?_
    simp only [cqDoorbell, cqAt_linkWake, on, live, fld_15_0, ← ofNat_fld_15_0, cqUsed]
    rw [if_neg (by simp)]
    exact ite_eq_of_iff_not (by omega)
  case evHead =>
    rintro h v s u r hr rfl rfl on live
    refine acts_of _ _ _ _ hr (exec_headDb h v s) ?_
    simp only [evDoorbell, linkWake_half_cmd, on, live, fld_15_0, ← ofNat_fld_15_0]
    rw [if_neg (by simp)]
    exact ite_eq_of_iff_not (by omega)
  case sqOn =>
    rintro h n v s u hr rfl off
    refine acts_of _ _ _ _ hr rfl ?_
    simp [writeSqCtl, off, sizeOk_eq_false_iff]
  case sqOff =>
    rintro h n v s u hr rfl on
    refine acts_of _ _ _ _ hr rfl ?_
    simp [writeSqCtl, on]
  case cqOn =>
    rintro h n v s u hr rfl off
    refine acts_of _ _ _ _ hr rfl ?_
    simp [writeCqCtl, off, sizeOk_eq_false_iff]
  case cqOff =>
    rintro h n v s u hr rfl on
    refine acts_of _ _ _ _ hr rfl ?_
    simp only [writeCqCtl, cqAt_linkWake, on, bitOf_withoutEnable, cqNamed_iff, linkWake_half_cmd, bitOf_withoutEnable_int,
      fld_withoutEnable_vector, Bool.false_eq_true, if_true, if_false]
  case evOn =>
    rintro h v s u hr rfl off
    refine acts_of _ _ _ _ hr rfl ?_
    simp [writeEvCtl, off, sizeOk_eq_false_iff]
  case evOff =>
    rintro h v s hr on
    refine acts_of _ _ _ _ hr rfl ?_
    simp [writeEvCtl, on]
  case vector =>
    intro h n m s hr
    refine acts_of _ _ _ _ hr rfl ?_
    cases m <;> rfl
  case control =>
    intro h en fm s hr
    exact acts_of _ _ _ _ hr rfl rfl
  case base =>
    intro h n v s hr hn off
    refine acts_of _ _ _ _ hr (exec_registerWrite h _ s) ?_
    rw [regWrite_dword _ h v (by omega), bar0Write_sqBase _ h _ hn]
    refine modSq_congr ?_
    have page : fld (BitVec.setWidth 32 v) 31 12 = v.toNat % 2 ^ 32 / 4096 := by
      simp only [fld, BitVec.toNat_setWidth, Nat.shiftRight_eq_div_pow]
      omega
    simp [off, setLo, page]
  case width =>
    intro h off size v s hr w4 w8
    exact acts_of _ _ _ _ hr (exec_registerWrite h _ s) (by simp [regWrite, w4, w8])

end Sys2Proof.Machine
end

section
/-! Rows of the host's window into DRAM, of the power state of the function, of fetching and of coalescing (R21, R36,
R42, R62,
R398 to R400, R406). -/

namespace Sys2Proof.Machine

open Sys2Proof.Safety

/-! A wake of the link leaves the window, the memories and Mortar. -/

@[simp] theorem linkWake_half_mem (s : State) (h k : Half) : (half (linkWake s h) k).mem = (half s k).mem := by
  simp only [linkWake]
  split
  · cases h <;> cases k <;> rfl
  · rfl
@[simp] theorem linkWake_mortar (s : State) (h : Half) : (linkWake s h).mortar = s.mortar := by
  simp only [linkWake]
  split
  · cases h <;> rfl
  · rfl
/-- Of an endpoint, a wake changes the link state alone. -/
theorem linkWake_ep (s : State) (h : Half) :
    ∃ l, (half (linkWake s h) h).ep = { (half s h).ep with lstate := l } := by
  simp only [linkWake]
  split
  · cases h <;> exact ⟨_, rfl⟩
  · exact ⟨_, rfl⟩
@[simp] theorem inWindow_linkWake (s : State) (h : Half) (off len : Nat) :
    inWindow (half (linkWake s h) h).ep off len = inWindow (half s h).ep off len := by
  obtain ⟨l, ep⟩ := linkWake_ep s h
  rw [ep]; rfl
@[simp] theorem bar2Addr_linkWake (s : State) (h : Half) (off : Nat) :
    bar2Addr (half (linkWake s h) h).ep off = bar2Addr (half s h).ep off := by
  obtain ⟨l, ep⟩ := linkWake_ep s h
  rw [ep]; rfl
@[simp] theorem linkWake_ep_peer (s : State) (h : Half) : (half (linkWake s h) h).ep.peer = (half s h).ep.peer := by
  obtain ⟨l, ep⟩ := linkWake_ep s h
  rw [ep]
@[simp] theorem linkWake_ep_d3hot (s : State) (h : Half) : (half (linkWake s h) h).ep.d3hot = (half s h).ep.d3hot := by
  obtain ⟨l, ep⟩ := linkWake_ep s h
  rw [ep]
@[simp] theorem linkWake_ep_held (s : State) (h : Half) :
    (half (linkWake s h) h).ep.heldCompletions = (half s h).ep.heldCompletions := by
  obtain ⟨l, ep⟩ := linkWake_ep s h
  rw [ep]
@[simp] theorem dramRead_linkWake (s : State) (h : Half) (a n : Nat) : dramRead (linkWake s h) h a n = dramRead s h a n := by
  simp [dramRead]
@[simp] theorem aperFails_linkWake (s : State) (h : Half) : aperFails (linkWake s h) = aperFails s := by
  simp [aperFails]

/-- A change of an endpoint is told by what it makes of the endpoint's own record. -/
theorem modEp_congr {s : State} {h : Half} {f g : Endpoint → Endpoint} (same : f (half s h).ep = g (half s h).ep) :
    modEp s h f = modEp s h g := by
  simp only [modEp, modHalf, same]

theorem modEp_modEp (s : State) (h : Half) (f g : Endpoint → Endpoint) :
    modEp (modEp s h f) h g = modEp s h fun p => g (f p) := by
  cases h <;> rfl

theorem slotsNeeded_pos (w : Word) : 0 < slotsNeeded w := by
  simp only [slotsNeeded]
  split
  · split <;> decide
  · decide

theorem toNat_l0pChoice (width : BitVec 4) (need : Nat) : (l0pChoice width need).toNat =
    min width.toNat (if need ≤ 1 then 1 else if need ≤ 2 then 2 else if need ≤ 4 then 4 else 8) := by
  have small := width.isLt
  simp only [l0pChoice, BitVec.toNat_ofNat]
  exact Nat.mod_eq_of_lt (by omega)

/-- Settles O15: each row's own test is decided by what the statement supposes, and what is left is its effect. -/
theorem fetchAndWindowRowsComplete : Obligations.FetchAndWindowRowsComplete := by
  refine ⟨?bar2Read, ?bar2Write, ?quiesced, ?fetch, ?coal, ?sleep, ?wake, ?l1, ?l0p, ?link⟩
  case bar2Read =>
    intro h off len s bs p hr inside near data
    refine acts_of _ _ _ _ hr rfl ?_
    simp [bar2Read, inside, near, data]
  case bar2Write =>
    intro h off bs s hr inside
    exact ⟨fun near => acts_of _ _ _ _ hr rfl (by simp [bar2Write, inside, near]),
      fun far up => acts_of _ _ _ _ hr rfl (by simp [bar2Write, inside, far, up])⟩
  case quiesced =>
    intro h n s hr stopped idle
    exact acts_of _ _ _ _ hr rfl (modSq_congr (by simp [stopped, idle]))
  case fetch =>
    rintro h n need s bs hr may read rfl none
    refine acts_of _ _ _ _ hr rfl ?_
    have pos := slotsNeeded_pos ((bytesDwords 16 bs).headD 0)
    simp only [fetchEntry, may, read, none]
    rw [if_neg (by simp), if_neg (by omega)]
    rfl
  case coal =>
    intro h n s hr on live int some delay
    exact acts_of _ _ _ _ hr rfl (if_pos (by simpa [on, live, int, some] using delay))
  case sleep =>
    intro h pme s hr awake
    exact acts_of _ _ _ _ hr rfl (by simp [setDState, awake])
  case wake =>
    intro h pme s hr asleep
    exact acts_of _ _ _ _ hr rfl (by simp [setDState, asleep, modEp_modEp])
  case l1 =>
    intro h s hr trained choice awake
    exact acts_of _ _ _ _ hr rfl (if_pos ⟨trained, choice, awake⟩)
  case l0p =>
    rintro h need w s hr trained l0p flit awake rfl
    refine acts_of _ _ _ _ hr rfl ((if_pos ⟨trained, l0p, flit, awake⟩).trans (modEp_congr ?_))
    simp only [toNat_l0pChoice]
    rfl
  case link =>
    intro h gen width flit s hr perst trained
    refine acts_of _ _ _ _ hr rfl ?_
    simp only [linkChange, perst, trained]
    rw [if_neg (by simp)]
    cases (half s h).ep.lastTrained <;> simp [b2n]

end Sys2Proof.Machine
end

section
/-! Rows of the management port's data operations (R69, R70). -/

namespace Sys2Proof.Machine

open Sys2Proof.Safety

theorem portStatus_eq (s : State) : portStatus s =
    (if s.mgmt.completion = none then 0 else 1) + (if s.mgmt.events = [] then 0 else 2) +
      (if s.mgmt.running = false ∧ s.mgmt.completion = none then 0 else 4) +
      (if (half s (leadHalf s)).sys.bootRom = true then 0 else 8) := by
  cases waits : s.mgmt.completion <;> cases evs : s.mgmt.events <;> cases runs : s.mgmt.running <;>
    cases rom : (half s (leadHalf s)).sys.bootRom <;> simp [portStatus, portBusy, b2n, waits, evs, runs, rom]

/-- Settles O16: a port that is served does what its operation says. -/
theorem managementPortRowsComplete : Obligations.ManagementPortRowsComplete := by
  refine ⟨?completion, ?event, ?write, ?read, ?status, ?entry⟩
  case completion => exact fun s hr served => acts_of _ _ _ _ hr rfl (if_pos served)
  case event =>
    refine fun s hr served => ⟨fun none => ?_, fun e t some => ?_⟩
    · exact acts_of _ _ _ _ hr rfl (by simp [served, none])
    · exact acts_of _ _ _ _ hr rfl (by simp [served, some])
  case write => exact fun bytes s hr served => acts_of _ _ _ _ hr rfl (if_pos served)
  case read => exact fun n s hr served => acts_of _ _ _ _ hr rfl (if_pos served)
  case status =>
    rintro s st hr served rfl
    exact acts_of _ _ _ _ hr rfl (by rw [if_pos served, portStatus_eq])
  case entry =>
    rintro ws c s hr served idle rfl
    have code : fld (ws.getD 0 0) 15 0 = (ws.getD 0 0).toNat % 65536 := fld_15_0 _
    refine ⟨fun none => ?_, fun op some passed => ?_⟩
    · refine acts_ofIf _ _ _ _ _ hr (fun wf => wf) rfl ?_
      simp only [portEntry, served, idle, code, none]
      rfl
    · refine acts_ofIf _ _ _ _ _ hr (fun wf => wf) rfl ?_
      simp only [portEntry, served, idle, code, some, passed]
      rfl

end Sys2Proof.Machine
end

section
/-! Rows of the Mortar link (R15, R16, R18 to R22, R411, R543). -/

namespace Sys2Proof.Machine

open Sys2Proof.Safety

/-- A change of a direction of Mortar is told by what it makes of the direction's own record. -/
theorem modMortarDir_congr {s : State} {h : Half} {f g : MortarDir → MortarDir}
    (same : f (dirFrom s.mortar h) = g (dirFrom s.mortar h)) : modMortarDir s h f = modMortarDir s h g := by
  cases h <;> simp_all [modMortarDir, modDir, dirFrom]

theorem dirSettled_iff {a b : MortarDir} : (dirSettled a && dirSettled b) = true ↔
    a.replayLeft = 0 ∧ a.discarding = false ∧ b.replayLeft = 0 ∧ b.discarding = false := by
  simp [dirSettled, and_assoc]

/-- Settles O17: each row's own test is decided by what the statement supposes, and what is left is its effect. -/
theorem mortarRowsComplete : Obligations.MortarRowsComplete := by
  refine ⟨?send, ?receive, ?replay, ?ack, ?unack, ?train, ?backoff, ?idle, ?read, ?write⟩
  case send =>
    rintro h s d hr carries rfl
    refine ⟨fun f left next => ?_, fun k d2 none room pick => ?_⟩
    · refine acts_of _ _ _ _ hr rfl ((if_pos carries).trans (modMortarDir_congr ?_))
      simp [sendFlit, left, next]
    · refine acts_of _ _ _ _ hr rfl ((if_pos carries).trans (modMortarDir_congr ?_))
      simp [sendFlit, none, pick, Nat.not_le.mpr room]
  case receive =>
    rintro h ok s d f rest hr carries rfl wire
    refine ⟨fun other => ?_, fun next good => ?_, fun next bad => ?_⟩
    · refine acts_of _ _ _ _ hr rfl ((if_pos carries).trans ?_)
      simp only [receiveFlit, wire]
      rw [if_pos other]
      exact modMortarDir_congr rfl
    · refine acts_of _ _ _ _ hr rfl ((if_pos carries).trans ?_)
      simp only [receiveFlit, wire]
      rw [if_neg (by simpa using next), if_pos good]
      exact modMortarDir_congr rfl
    · refine acts_of _ _ _ _ hr rfl ((if_pos carries).trans ?_)
      simp only [receiveFlit, wire]
      rw [if_neg (by simpa using next), if_neg (by simp [bad])]
      cases h <;> exact ite_eq_of_iff_not (by simp)
  case replay => exact fun h seq s hr carries => acts_of _ _ _ _ hr rfl (if_pos carries)
  case ack =>
    rintro h seq s u hr carries rfl
    refine acts_of _ _ _ _ hr rfl ((if_pos carries).trans ?_)
    simp only [dirSettled_iff]
  case unack =>
    intro h s hr carries waits
    exact acts_of _ _ _ _ hr rfl (if_pos (by simp [carries, waits]))
  case train =>
    rintro ok cy s u m hr rfl rfl
    refine ⟨fun trains => ?_, fun down tries => ?_⟩
    · refine acts_of _ _ _ _ hr rfl ?_
      have again : (bootRomsRun s).mortar.attempts + 1 < 3 ↔ (bootRomsRun s).mortar.attempts < 2 := by omega
      rcases trains with st | st <;> simp only [mortarTrained, st, again]
    · refine acts_of _ _ _ _ hr rfl ?_
      simp [mortarTrained, down, tries, nextBackoff]
  case backoff => exact fun s hr down => acts_of _ _ _ _ hr rfl (if_pos down)
  case idle =>
    exact fun s hr active ab ba a b => acts_of _ _ _ _ hr rfl (if_pos ⟨active, ab, ba, a, b⟩)
  case read =>
    intro h a n s bs p hr head data
    exact acts_of _ _ _ _ hr rfl (by simp [aperServe, head, data])
  case write =>
    intro h a bs s hr head
    exact acts_of _ _ _ _ hr rfl (by simp [aperServe, head])

end Sys2Proof.Machine
end

section
/-! Rows of the command path, of the islands and of triggers (R26, R27, R29, R31, R42, R44, R49, R51, R62, R70, R146,
R147, R205,
R395, R407, R408, R481, R509, R546). -/

namespace Sys2Proof.Machine

open Sys2Proof.Safety

/-- Settles O18: each row's own test is decided by what the statement supposes, and what is left is its effect. -/
theorem commandPathRowsComplete : Obligations.CommandPathRowsComplete := by
  refine ⟨?entry, ?block, ?start, ?forwarded, ?completion, ?effect, ?peer⟩
  case entry =>
    intro h n slots ws rest s hr fetching swap
    exact acts_of _ _ _ _ hr rfl (by simp [entryArrives, fetching, swap])
  case block =>
    intro h tag f s hr live reading fence swap
    refine acts_ofIf _ _ _ _ _ hr (fun _ => rfl) rfl ?_
    simp only [blockArrives, live]
    rw [if_neg (by simp [reading, fence, swap])]
    cases hostRead s (pq f.cmd 2) (dw f.cmd 4).toNat <;> rfl
  case start =>
    intro h k f s hr ready swap drain fence chosen
    exact acts_ofIf _ _ _ _ _ hr (fun _ => rfl) rfl (by simp [commandStart, ready, swap, drain, fence, chosen])
  case forwarded =>
    intro h f s hr head
    exact acts_ofIf _ _ _ _ _ hr (fun _ => rfl) rfl (by simp only [commandArrives, head])
  case completion =>
    intro h k c s hr head serial
    exact acts_ofIf _ _ _ _ _ hr (fun _ => rfl) rfl (by simp only [reportArrives, head, if_neg serial])
  case effect =>
    intro h k r s hr head
    exact acts_ofIf _ _ _ _ _ hr (fun _ => rfl) rfl (by simp only [reportArrives, head])
  case peer =>
    intro h s hr ready up
    exact acts_ofIf _ _ _ _ _ hr (fun _ => rfl) rfl (by simp [peerReady, ready, up])

/-- Settles O19: each row's own test is decided by what the statement supposes; what an island does beyond is told by
the cases of
the table of islands. -/
theorem islandRowsComplete : Obligations.IslandRowsComplete := by
  refine ⟨?request, ?done, ?entry, ?quad, ?dram, ?fault, ?back, ?slot⟩
  case request =>
    intro h i s hr wake sleeps resetting shed reset
    exact acts_of _ _ _ _ hr rfl (by simp [wakeRequest, wake, sleeps, resetting, shed, reset])
  case done =>
    intro h i s hr waking
    refine ⟨fun other on => ?_, fun other off => ?_, fun dram on => ?_⟩
    · exact acts_of _ _ _ _ hr rfl (by simp [wakeDone, waking, other, on])
    · exact acts_of _ _ _ _ hr rfl (by simp [wakeDone, waking, other, off])
    · subst dram
      exact acts_of _ _ _ _ hr rfl (by simp [wakeDone, waking, on])
  case entry =>
    rintro h i d c s hr resetting waking busy shed reset quad dram domain rfl deeper
    refine acts_of _ _ _ _ hr rfl ?_
    cases i <;> simp_all [stateEntry, Nat.not_le.mpr deeper]
  case quad =>
    intro h q s hr resetting waking busy shed reset disabled
    refine acts_of _ _ _ _ hr rfl ?_
    simp only [stateEntry, resetting, waking, busy, shed, reset]
    rw [if_neg (by simp)]
    exact if_neg (by simpa using disabled)
  case dram =>
    intro h s hr resetting waking busy shed reset deeper freq
    exact acts_of _ _ _ _ hr rfl (by simp [stateEntry, resetting, waking, busy, shed, reset, deeper, freq])
  case fault =>
    intro h i s hr
    refine ⟨?_, ?_, ?_⟩
    · rintro (rfl | rfl) <;> exact acts_of _ _ _ _ hr rfl rfl
    · rintro rfl
      exact acts_of _ _ _ _ hr rfl rfl
    · rintro (rfl | rfl | rfl | rfl | rfl | rfl | ⟨q, rfl⟩) <;> exact acts_of _ _ _ _ hr rfl rfl
  case back =>
    rintro h i cycles code q s u hr resetting codes rfl
    refine acts_of _ _ _ _ hr rfl ?_
    simp only [islandBack, resetting, codes]
    cases i <;> rfl
  case slot => exact fun h s hr runs => acts_of _ _ _ _ hr rfl (if_pos runs)

/-- Settles O20: each row's own test is decided by what the statement supposes, and what is left is its effect. -/
theorem triggerRowsComplete : Obligations.TriggerRowsComplete := by
  refine ⟨?edge, ?received, ?holdoff, ?pulse⟩
  case edge =>
    rintro h b rising s u hr rfl
    exact acts_of _ _ _ _ hr rfl (by simp only [Bool.and_eq_true])
  case received =>
    intro h t s hr head
    exact acts_of _ _ _ _ hr rfl (by simp [triggerArrives, head])
  case holdoff =>
    rintro k s u hr left rfl
    exact acts_of _ _ _ _ hr rfl (if_pos left)
  case pulse => exact fun b s hr => acts_of _ _ _ _ hr rfl rfl

end Sys2Proof.Machine
end

section
/-! Rows of link training, tracking and remaps (R77, R78, R81, R86 to R89, R91 to R93, R95 to R98, R101 to R103, R106 to
R108,
R117). -/

namespace Sys2Proof.Machine

open Sys2Proof.Safety

/-- A change of a lane is told by what it makes of the lane's own record. -/
theorem modLane_congr {s : State} {n : Nat} {f g : Lane → Lane} (same : f (laneAt s n) = g (laneAt s n)) :
    modLane s n f = modLane s n g := by
  simp only [laneAt] at same
  simp only [modLane, tmod, same]

/-- Settles O21: each row's own test is decided by what the statement supposes, and what is left is its effect. -/
theorem linkRowsComplete : Obligations.LinkRowsComplete := by
  refine ⟨?detected, ?lost, ?cap, ?applied, ?lock, ?timeout, ?prbs, ?round, ?backoff, ?psl, ?align, ?eidle, ?train, ?retrain,
    ?loss, ?track, ?remap, ?spare, ?lp11, ?skew, ?check⟩
  case detected =>
    refine fun n s hr => ⟨fun st psl => ?_, fun st => ?_, fun st mode => ?_⟩
    · exact acts_of _ _ _ _ hr rfl (by simp [energyDetected, st, psl])
    · exact acts_of _ _ _ _ hr rfl (by simp [energyDetected, st])
    · exact acts_of _ _ _ _ hr rfl (by simp [energyDetected, st, mode])
  case lost => exact fun n s hr st => acts_of _ _ _ _ hr rfl (if_pos st)
  case cap =>
    rintro lane n p s u hr owner st rfl
    refine acts_of _ _ _ _ hr rfl ?_
    simp only [capArrives, owner]
    rw [if_neg (by simp [st])]
    simp only [List.all_eq_true, Bool.and_eq_true, decide_eq_true_eq]
  case applied => exact fun n s hr => acts_of _ _ _ _ hr rfl rfl
  case lock =>
    refine fun lane n sweep s hr owner stage mem up => ⟨fun e eye => ?_, fun eye => ?_⟩ <;>
    · refine acts_of _ _ _ _ hr rfl ?_
      simp only [lockDone, owner]
      rw [if_neg (by simp [stage, mem, up]), eye]
  case timeout =>
    intro lane n s hr owner stage mem up
    refine acts_of _ _ _ _ hr rfl ?_
    simp only [stageTimeout, owner]
    exact if_neg (by simp [stage, mem, up])
  case prbs =>
    rintro n cycles errs s u hr stage locked none rfl
    refine acts_of _ _ _ _ hr rfl ?_
    simp only [prbsDone, none]
    rw [if_neg (by simpa [stage, or_iff_not_imp_left] using locked)]
    simp
  case round =>
    intro n s hr psl st
    refine acts_of _ _ _ _ hr rfl ?_
    simp only [psl, capTimeout, if_pos st, Bool.false_eq_true, if_false]
    exact ite_eq_of_iff_not (by omega)
  case backoff => exact fun n s hr st => acts_of _ _ _ _ hr rfl (if_pos st)
  case psl =>
    rintro lane n hdr p s y hr owner rfl
    refine acts_of _ _ _ _ hr rfl ?_
    simp only [pslBlock, owner]
    rw [modLane_congr]
    rfl
  case align => exact fun n blocks s hr => acts_of _ _ _ _ hr rfl rfl
  case eidle => exact fun n s hr st allow shut => acts_of _ _ _ _ hr rfl (if_pos ⟨st, allow, shut⟩)
  case train =>
    refine fun n ls s hr => ⟨fun st due shut => ?_, fun st due => ?_⟩
    · exact acts_of _ _ _ _ hr rfl (by simp [trainArrives, st, due, shut])
    · exact acts_of _ _ _ _ hr rfl (by simp [trainArrives, st, due])
  case retrain => exact fun n cycles sweeps s hr st => acts_of _ _ _ _ hr rfl (if_pos st)
  case loss => exact fun n s hr st => acts_of _ _ _ _ hr rfl (if_pos st)
  case track =>
    refine fun lane n density b m a s hr owner st policy forced mode => ⟨fun few => ?_, fun c many short move near => ?_⟩
    · refine acts_of _ _ _ _ hr rfl ?_
      simp only [owner, trackEval]
      rw [if_neg (by simp [st, policy, forced, mode]), if_pos few]
    · refine acts_of _ _ _ _ hr rfl ?_
      simp only [owner, trackEval]
      rw [if_neg (by simp [st, policy, forced, mode]), if_neg (by omega), move]
      simp only [if_pos near]
  case remap =>
    refine fun n done r s hr due applied restore => ⟨?_, ?_⟩
    · rintro rfl
      exact acts_of _ _ _ _ hr rfl (by simp [remapRead, due, applied, restore])
    · rintro rfl
      exact acts_of _ _ _ _ hr rfl (by simp [remapRead, due, applied, restore])
  case spare => exact fun n sweep s hr => acts_of _ _ _ _ hr rfl rfl
  case lp11 =>
    exact fun n s hr csi st => acts_of _ _ _ _ hr rfl (if_pos (by simp [csi, st]))
  case skew =>
    exact fun n s hr csi => acts_ofIf _ _ _ _ _ hr (fun wf => wf) rfl (if_pos csi)
  case check =>
    intro n k c errs s hr due
    exact acts_ofIf _ _ _ _ _ hr (fun wf => wf) rfl (by simp only [prbsCheckDone, due])

end Sys2Proof.Machine
end

section
/-! Rows of ingest and of Quarry's frame close, and of the Ashlar engines (R83, R94, R119 to R129, R132, R133, R136,
R142, R149, R150, R179, R180, R188, R189, R191, R460). -/

namespace Sys2Proof.Machine

open Sys2Proof.Safety

/-- What comes on a bound stream that is configured acts on that stream. -/
theorem forStream_of_bound {s : State} {link n : Nat} {sid : BitVec 4} {f : State → Nat → State}
    (bound : boundStream s link sid = some n) (cfg : (streamAt s n).cfg ≠ none) : forStream s link sid f = f s n := by
  simp only [forStream, bound]
  exact if_pos (Option.isSome_iff_ne_none.mpr cfg)

/-- A packet block that comes on a link that delivers, with its HCRC right, has its effect. -/
theorem packetBlock_of_hcrcOk {s : State} {link : Nat} {b : BitVec 64} {f : State → State} (live : delivers s link = true)
    (good : hcrcOk b = true) : packetBlock s link b f = f s := by
  simp [packetBlock, live, good]

/-- A field of a packet block is the block's number, shifted and cut to the field's width. -/
theorem blockFld_eq (b : BitVec 64) (hi lo : Nat) : blockFld b hi lo = b.toNat / 2 ^ lo % 2 ^ (hi - lo + 1) := by
  rw [blockFld, Nat.shiftRight_eq_div_pow]

/-- A word of `w` bits does not see what a field of `w` bits cuts off. -/
theorem ofNat_mod_two_pow (w a : Nat) : BitVec.ofNat w (a % 2 ^ w) = BitVec.ofNat w a :=
  BitVec.eq_of_toNat_eq (by simp)

/-- The 16 bits of a packet block from bit 16 up. -/
theorem blockFld_31_16 (b : BitVec 64) : blockFld b 31 16 = b.toNat / 2 ^ 16 % 65536 := blockFld_eq b 31 16

/-- The 16 bits of a packet block from bit 32 up. -/
theorem blockFld_47_32 (b : BitVec 64) : blockFld b 47 32 = b.toNat / 2 ^ 32 % 65536 := blockFld_eq b 47 32

/-- The 32 bits of a packet block from bit 16 up, as a word. -/
theorem ofNat_blockFld_47_16 (b : BitVec 64) :
    BitVec.ofNat 32 (blockFld b 47 16) = BitVec.ofNat 32 (b.toNat / 2 ^ 16) := by
  rw [blockFld_eq]
  exact ofNat_mod_two_pow 32 _

/-- The depth of a line's pixels, as its header gives it. -/
theorem ofNat_blockFld_13_12 (b : BitVec 64) :
    BitVec.ofNat 2 (blockFld b 13 12) = BitVec.ofNat 2 (b.toNat / 2 ^ 12) := by
  rw [blockFld_eq]
  exact ofNat_mod_two_pow 2 _

/-- Settles O22: each row's own test is decided by what the statement supposes, and what is left is its effect. -/
theorem ingestRowsComplete : Obligations.IngestRowsComplete := by
  refine ⟨?short, ?long, ?broken, ?packet, ?unmapped, ?data, ?crc, ?gap, ?close, ?progress, ?copied⟩
  case short =>
    rintro link n vc dt v period s u hr csi rfl live bound cfg
    refine ⟨?_, ?_, ?_⟩ <;> rintro rfl <;>
      exact acts_of _ _ _ _ hr rfl (by simp [csi, live, forStream_of_bound bound cfg])
  case long =>
    rintro link n vc dt bs ok s u hr csi rfl live bound cfg
    exact acts_of _ _ _ _ hr rfl (by simp [csi, live, forStream_of_bound bound cfg])
  case broken =>
    intro link period b s live bad
    refine ⟨fun hr => ?_, fun hr => ?_, fun hr => ?_⟩ <;>
      exact acts_of _ _ _ _ hr rfl (by simp [packetBlock, live, bad])
  case packet =>
    rintro link n period b s u live good rfl bound cfg
    refine ⟨fun hr => ?_, fun hr => ?_, fun hr => ?_⟩
    · refine acts_of _ _ _ _ hr rfl ((packetBlock_of_hcrcOk live good).trans ((forStream_of_bound bound cfg).trans ?_))
      rw [ofNat_blockFld_47_16]
    · refine acts_of _ _ _ _ hr rfl ((packetBlock_of_hcrcOk live good).trans ((forStream_of_bound bound cfg).trans ?_))
      simp only [ofNat_blockFld_13_12, blockFld_31_16, blockFld_47_32]
    · refine acts_of _ _ _ _ hr rfl ((packetBlock_of_hcrcOk live good).trans ((forStream_of_bound bound cfg).trans ?_))
      rw [blockFld_31_16]
  case unmapped =>
    intro link period b s hr live good none
    exact acts_of _ _ _ _ hr rfl (by simp [packetBlock, live, good, forStream, none])
  case data => exact fun link w s hr live => acts_of _ _ _ _ hr rfl (if_pos live)
  case crc =>
    intro link b p s hr live pkt good
    rw [← ofNat_blockFld_47_16]
    refine ⟨fun agree => ?_, fun differ => ?_⟩
    · exact acts_of _ _ _ _ hr rfl (by simp [live, good, pkt, lineGood, agree])
    · exact acts_of _ _ _ _ hr rfl (by simp [live, good, pkt, lineGood, differ])
  case gap => exact fun n period s hr => acts_of _ _ _ _ hr rfl rfl
  case close =>
    rintro n w rest s u hr writing closed placed number dram rfl
    have done : frameReady w = true := by simp [frameReady, closed, placed]
    have known : numberKnown s w = true := by
      simpa [numberKnown, Option.isSome_iff_ne_none, ← imp_iff_not_or] using number
    exact acts_of _ _ _ _ hr rfl (by simp [frameCloseWrite, writing, done, known, dram])
  case progress =>
    rintro n s p hr rfl on frames due
    exact acts_of _ _ _ _ hr rfl (if_pos ⟨on, frames, due⟩)
  case copied =>
    intro h tag rd s hr found
    exact acts_ofIf _ _ _ _ _ hr (fun _ => rfl) rfl (by simp only [found])

/-- One change of a half's Ashlar after another is a single change. -/
theorem modAsh_modAsh (s : State) (h : Half) (f g : Ashlar → Ashlar) :
    modAsh (modAsh s h f) h g = modAsh s h fun a => g (f a) := by
  cases h <;> rfl

/-- Settles O23: each row's own test is decided by what the statement supposes, and what is left is its effect. -/
theorem ashlarRowsComplete : Obligations.AshlarRowsComplete := by
  refine ⟨?capture, ?host, ?encoded, ?pipe, ?decoded⟩
  case capture =>
    intro h e b t s hr runs idle waiting
    exact acts_of _ _ _ _ hr rfl (by simp [encoderTake, runs, idle, waiting])
  case host =>
    intro h e k j s hr runs idle waiting pick job
    exact acts_of _ _ _ _ hr rfl (by simp [encoderTake, runs, idle, waiting, pick, job])
  case encoded =>
    rintro h e n b s u hr runs taken stream rfl
    refine ⟨fun bs coded => ?_, fun raw => ?_⟩
    · exact acts_of _ _ _ _ hr rfl (by simp [blockEncoded, runs, taken, stream, coded])
    · exact acts_of _ _ _ _ hr rfl (by simp [blockEncoded, runs, taken, stream, raw, modAsh_modAsh])
  case pipe =>
    intro h e t rest s hr runs idle waiting
    exact acts_of _ _ _ _ hr rfl (by simp [decoderTake, runs, idle, waiting])
  case decoded =>
    rintro h e s u runs rfl
    refine ⟨fun n f stream block hr task => ?_, fun recv tag i hr task => ?_⟩ <;>
      exact acts_of _ _ _ _ hr rfl (by simp [blockDecoded, runs, task])

end Sys2Proof.Machine
end

section
/-! Rows of the pipeline, of span contexts, of statistics and of trims (R208, R213, R219, R223, R279, R291, R298 to R300,
R302, R304). -/

namespace Sys2Proof.Machine

open Sys2Proof.Safety

/-- Taking a message off Mortar changes no context. -/
@[simp] theorem ctxAt_mortarTake (s : State) (h : Half) (k n : Nat) : ctxAt (mortarTake s h k) n = ctxAt s n := rfl

/-- Settles O24: each row's own test is decided by what the statement supposes, and what is left is its effect. -/
theorem pipelineRowsComplete : Obligations.PipelineRowsComplete := by
  refine ⟨?admission, ?finish, ?row, ?seam, ?side, ?fallback, ?tap, ?stat, ?frames, ?cal, ?period, ?eyes, ?lut⟩
  case admission =>
    intro h s u1 u2 u hr running runs lost passed starved
    refine acts_of _ _ _ _ hr rfl ?_
    simp only [unitAdmit, ← lost, ← passed, ← starved]
    exact if_neg (by simp [running, runs])
  case finish =>
    rintro h x r s u hr running frame runs done rfl
    refine acts_of _ _ _ _ hr rfl ?_
    simp only [unitFinish, running, frame]
    exact if_neg (by simp [runs, done])
  case row =>
    intro h x s hr running
    exact acts_ofIf _ _ _ _ _ hr (fun _ => rfl) rfl (by simp only [running])
  case seam => exact fun h n f row px s hr head => acts_of _ _ _ _ hr rfl (by simp only [takeMsg, head])
  case side => exact fun h n f s head hr => acts_of _ _ _ _ hr rfl (by simp only [takeMsg, head])
  case fallback => exact fun h n f s head hr => acts_of _ _ _ _ hr rfl (by simp only [takeMsg, head])
  case tap =>
    intro h n t buf f s head hr span opened
    exact acts_of _ _ _ _ hr rfl (by simp only [takeMsg, head]; exact if_pos ⟨span, opened⟩)
  case stat =>
    intro h n f rec_ s head hr span opened
    exact acts_of _ _ _ _ hr rfl (by simp only [takeMsg, head]; exact if_pos ⟨span, opened⟩)
  case frames =>
    intro i a s acc
    refine ⟨fun hr due => ?_, fun hr due => ?_⟩ <;>
      exact acts_of _ _ _ _ hr rfl (by simp [measurementDone, acc, due])
  case cal =>
    intro i t v s hr measuring
    exact acts_of _ _ _ _ hr rfl (by simp [measurementDone, measuring])
  case period => exact fun h s hr auto idle => acts_of _ _ _ _ hr rfl (if_pos ⟨auto, idle⟩)
  case eyes =>
    intro i eyes k s hr measuring training cause
    exact acts_of _ _ _ _ hr rfl (by simp [measurementDone, measuring, training, cause])
  case lut =>
    intro h id src serial big rest bs f s u hr loading read loaded flight
    refine acts_ofIf _ _ _ _ _ hr (fun _ => rfl) rfl ?_
    simp only [modPipe, modHalf] at loaded
    simp only [lutLoadDone, loading, read, modPipe, modHalf, Bool.false_eq_true, if_false, ← loaded, flight,
List.any_eq_true,
      decide_eq_true_eq]

end Sys2Proof.Machine
end

section
/-! Rows of the VCU (R320, R333, R334, R342 to R349). -/

namespace Sys2Proof.Machine

open Sys2Proof.Safety

/-- Settles O25: each row's own test is decided by what the statement supposes, and what is left is its effect. -/
theorem vcuRowsComplete : Obligations.VcuRowsComplete := by
  refine ⟨?start, ?coded, ?substream, ?band, ?decoded, ?output⟩
  case start =>
    rintro n x r f p plan times s hr rfl coding encode st runs planned timed first held bands rate
    refine acts_of _ _ _ _ hr rfl ?_
    obtain ⟨⟨f', t, idr, q⟩, rest, rfl⟩ : ∃ c rest, plan = c :: rest := by
      cases plan with
      | nil => simp at first
      | cons c rest => exact ⟨c, rest, rfl⟩
    obtain rfl : f' = f := by simpa using first
    rw [pictureStart, if_neg (by simpa [coding, encode, or_assoc] using ⟨fun a b => (st.resolve_left a).resolve_left b,
      runs⟩)]
    simp only [List.isEmpty_iff, ← planned, ← timed, held]
    rw [if_neg (by simp [bands]), rate]
    cases auRoom (sessAt s n) _ _ <;> rfl
  case coded =>
    rintro n h p x c s u hr rfl coding split mine halves noA noB owed runs rfl
    refine acts_of _ _ _ _ hr rfl ?_
    cases h <;> simp [pictureCoded, coding, mine, partOf_, noA, noB, runs, split, halves, auComplete, owed]
  case substream =>
    rintro n h f p c c1 s u hr head coding frame owed rfl rfl
    refine acts_of _ _ _ _ hr rfl ?_
    have same : sessAt (mortarTake s h 4) n = sessAt s n := rfl
    simp only [takeMsg, head, substreamArrives, same, coding]
    rw [if_neg (by simpa [frame] using Nat.ne_of_gt owed)]
  case band =>
    intro n bytes h f s hr head
    exact acts_of _ _ _ _ hr rfl (by simp only [takeMsg, head])
  case decoded =>
    rintro n au x chunks marks s hr rfl may enough starts ended fed
    refine acts_of _ _ _ _ hr rfl ?_
    rw [auDecoded, if_neg (by simpa [may, Nat.not_lt.mpr enough] using starts)]
    simp only [fed, ended]
  case output =>
    intro n k idx x o p h num s s1 s2 s3 s4 hr hx next buf due decode hh ho hnum h1 hidx h2 h3 h4
    refine acts_of _ _ _ _ hr rfl ?_
    simp only [pictureOutput, ← hx, next, buf]
    rw [if_neg (by simp [due, decode])]
    subst h4 h3 h2 hidx h1 hnum ho hh
    rfl

end Sys2Proof.Machine
end

section
/-! Rows of the DRAM controller (R356, R363 to R369, R373, R374, R377, R381 to R388). -/

namespace Sys2Proof.Machine

open Sys2Proof.Safety

/-- A row of a DRAM controller that is not in reset, with its DIMMs out of self-refresh, has the row's effect. -/
theorem acts_ofMem {h : Half} {i : Instr} {s t t' : State} (r : ready i s = true) (e : exec i s = memAct h i s t')
    (resetting : (islandAt s h .dram).resetting = false) (awake : (half s h).mem.selfRefresh = false) (q : t' = t) :
    Acts i s t :=
  acts_of _ _ _ _ r e (by simp [resetting, awake, q])

/-- Settles O26: each row's own test is decided by what the statement supposes, and what is left is its effect. -/
theorem dramRowsComplete : Obligations.DramRowsComplete := by
  refine ⟨?write, ?read, ?issue, ?refresh, ?debt, ?poll, ?clearing, ?sample, ?scrub, ?pass, ?spare, ?init, ?down, ?trained,
    ?freq⟩
  case write =>
    rintro h r p q s hr resetting awake place rfl write
    refine ⟨fun room => ?_, fun full none => ?_⟩
    · refine acts_ofMem hr rfl resetting awake ?_
      simp only [acceptRequest, place, write, if_true]
      rw [if_neg (by simpa [or_iff_not_imp_right, Nat.not_le] using room)]
    · refine acts_ofMem hr rfl resetting awake ?_
      simp only [acceptRequest, place, write, if_true]
      exact if_pos (by simpa using ⟨none, full⟩)
  case read =>
    intro h r p x s hr resetting awake place read mem burst mask
    refine acts_ofMem hr rfl resetting awake ?_
    simp only [acceptRequest, place, read]
    rw [if_neg (by simp), if_pos (List.any_eq_true.mpr ⟨x, mem, by simp [burst, mask]⟩)]
  case issue =>
    intro h k sub e q p s s0 m b0 hr resetting awake h0 hm hb next place mask
    refine acts_ofMem hr rfl resetting (hm ▸ awake) ?_
    subst h0 hm hb
    have same : (half (fresh s).2 h).mem = (half s h).mem := by cases h <;> rfl
    simp only [commandIssue, same, next, place, mask, if_true]
    rfl
  case refresh =>
    rintro h k r cycles s u hr resetting awake there rfl repay
    refine acts_ofMem hr rfl resetting awake ?_
    rw [refreshIssue, if_neg (by simp [there])]
    simp only [chanAt] at repay
    exact if_pos (by simp [Option.isSome_iff_ne_none.mpr repay])
  case debt =>
    rintro h k r d s hr resetting awake there repay rfl
    refine acts_ofMem hr rfl resetting awake ?_
    simp only [chanAt] at repay ⊢
    rw [debtReached]
    exact if_neg (by simpa [there] using repay)
  case poll =>
    rintro h k r cycles t s u x y hr resetting awake there rfl rfl hy
    refine ⟨fun hot limited => ?_, fun cold hot limited => ?_, fun hot cold limited => ?_⟩ <;>
      refine acts_ofMem hr rfl resetting awake ?_ <;> (rw [mr4Poll, if_neg (by simp [there])]; simp only [← hy])
    · simp [hot, limited]
    · simp [cold, hot, limited, b2n]
    · simp [cold, hot, limited, b2n]
  case clearing =>
    intro h k sub r s resetting awake use needed
    refine ⟨fun hr => ?_, fun hr reads writes => ?_⟩
    · exact acts_ofMem hr rfl resetting awake (by simp [subClearing, use, needed])
    · exact acts_ofMem hr rfl resetting awake (by simp [subClearing, use, needed, reads, writes])
  case sample =>
    intro h k xs s u hr resetting awake use auto track idle hu same
    refine acts_ofMem hr rfl resetting awake ?_
    rw [retrainSample, if_neg (by simp [use, auto, track]), ← hu]
    exact if_pos (by simp [idle, same])
  case scrub =>
    rintro h k e c a s hr resetting awake rfl use left rfl
    refine acts_ofMem hr rfl resetting awake ?_
    simp only [chanAt] at use left ⊢
    rw [patrolRead]
    exact if_neg (by simp [use, left])
  case pass =>
    intro h k s hr resetting awake use done
    refine acts_ofMem hr rfl resetting awake ?_
    rw [scrubPass]
    exact if_neg (by simp [use, done])
  case spare =>
    intro h k r c s hr resetting awake sparing new0 new1
    refine acts_ofMem hr rfl resetting awake ?_
    simp only [spareCopied, sparing]
    exact if_neg (by simp [new0, new1])
  case init =>
    intro h k s hr resetting awake use up
    exact acts_ofMem hr rfl resetting awake (by simp [initDone, use, up])
  case down =>
    intro h k r s hr resetting awake there queued shut repay
    refine acts_ofMem hr rfl resetting awake ?_
    rw [powerDownEntry]
    simp only [chanAt] at queued shut repay
    exact if_neg (by simpa [there, queued, repay] using shut)
  case trained =>
    intro h chans s hr stage
    refine ⟨fun asleep => ?_, fun m1 awake saved hm => ?_⟩
    · exact acts_of _ _ _ _ hr rfl (by simp [trainingDone, stage, asleep])
    · refine acts_of _ _ _ _ hr rfl ?_
      subst hm
      simp only [trainingDone, stage, awake, saved, ne_eq, not_true_eq_false, Bool.false_eq_true, if_false, Option.map_none,
        reduceCtorEq, decide_false] <;> rfl
  case freq =>
    intro h set tr m f c ks s u v hr hm up awake resetting change same cmd done hks hu hv
    refine acts_of _ _ _ _ hr rfl ?_
    subst hv hu hks hm
    rw [freqChanged, if_neg (by simp [up, awake, resetting, freqMay, change, same])]
    simp only [done, if_true, change, Option.bind_some, cmd]

end Sys2Proof.Machine
end

section
/-! Rows of the viewfinder, of audio, and of the host links and the resets they bring (R68, R393, R395, R416, R417, R419,
R421 to R426, R433, R436, R438 to R440, R442 to R444, R478, R482). -/

namespace Sys2Proof.Machine

open Sys2Proof.Safety

/-- Two changes of an output that agree on the output as it stands are the same change. -/
theorem modOut_congr {s : State} {o : Nat} {f g : VfOut → VfOut} (eq : f (outAt s o) = g (outAt s o)) :
    modOut s o f = modOut s o g := by
  simp only [outAt] at eq
  simp only [modOut, tmod, eq]

/-- Settles O27: each row's own test is decided by what the statement supposes, and what is left is its effect. -/
theorem viewfinderRowsComplete : Obligations.ViewfinderRowsComplete := by
  refine ⟨?edge, ?lost, ?render, ?push, ?armed, ?send, ?received, ?restart, ?delay⟩
  case edge =>
    rintro o s u hr counts rfl
    exact acts_of _ _ _ _ hr rfl (if_neg (by simp [counts]))
  case lost =>
    intro o s hr counts
    exact acts_of _ _ _ _ hr rfl (if_neg (by simp [counts]))
  case render =>
    rintro o z fr img sigs s u rects hr phase src frame rfl rfl hu hrects
    refine acts_of _ _ _ _ hr rfl ?_
    simp only [renderDone, phase, src, frame, ← hu, ← hrects, Bool.or_eq_true, List.isEmpty_iff, decide_eq_true_eq, or_assoc]
  case push =>
    rintro o x s hr rfl phase
    refine acts_of _ _ _ _ hr rfl ?_
    rw [pushDone, if_neg (by simp [phase])]
    exact congrArg (endUpdate · o) (modOut_congr rfl)
  case armed => exact fun o s hr => acts_of _ _ _ _ hr rfl rfl
  case send =>
    intro h z fr s hr send up runs free island
    refine acts_of _ _ _ _ hr rfl ?_
    simp only [peerSend, send]
    exact if_neg (by simpa [up, runs, island] using free)
  case received =>
    rintro h z fr data k l n s u hr head source free rfl part
    exact acts_of _ _ _ _ hr rfl (by simp only [takeMsg, head, source, free, part])
  case restart =>
    intro o c k rest s hr phase jobs
    exact acts_of _ _ _ _ hr rfl (by simp only [phase, jobs])
  case delay =>
    intro o c p q t rest s phase hr
    refine ⟨fun jobs => ?_, fun jobs => ?_⟩ <;>
      exact acts_ofIf _ _ _ _ _ hr (fun wf => wf) rfl (by simp only [sequenceNext, phase, jobs])

/-- Settles O28: each row's own test is decided by what the statement supposes, and what is left is its effect. -/
theorem audioRowsComplete : Obligations.AudioRowsComplete := by
  refine ⟨?frame, ?stop, ?rate, ?latch⟩
  case frame =>
    intro p gap l r s runs
    refine ⟨fun hr => ?_, fun hr => ?_, fun hr fault => ?_⟩
    · exact acts_of _ _ _ _ hr rfl (by simp [audioFrame, runs])
    · exact acts_of _ _ _ _ hr rfl (by simp [audioFrame, runs])
    · exact acts_of _ _ _ _ hr rfl (by simp [audioFrame, runs, fault])
  case stop => exact fun p s hr fault runs => acts_of _ _ _ _ hr rfl (if_pos (by simp [fault, runs]))
  case rate =>
    intro p hz gap s hr runs alone running measuring enough
    refine acts_of _ _ _ _ hr rfl ?_
    rw [if_pos runs, alone, List.foldl_cons, List.foldl_nil, rateMeasured]
    exact if_neg (by simp [running, measuring, Nat.not_lt.mpr enough])
  case latch =>
    intro h phases n number s hr head
    exact acts_of _ _ _ _ hr rfl (by simp only [takeMsg, head])

/-- Settles O29: each row's own test is decided by what the statement supposes, and what is left is its effect. -/
theorem hostResetRowsComplete : Obligations.HostResetRowsComplete := by
  refine ⟨?down, ?function, ?assert, ?release, ?keystone⟩
  case down => exact fun h s hr up => acts_of _ _ _ _ hr rfl (if_neg up)
  case function => exact fun h s hr wider high => acts_of _ _ _ _ hr rfl (if_neg (by simp [wider, high]))
  case assert =>
    rintro h s u hr high rfl
    refine acts_of _ _ _ _ hr rfl ?_
    rw [perstAssert, if_neg (by simp [high])]
  case release => exact fun h s hr => acts_of _ _ _ _ hr rfl rfl
  case keystone =>
    intro h s hr wider
    refine ⟨fun up => ?_, fun down => ?_⟩ <;> refine acts_ofIf _ _ _ _ _ hr (fun _ => rfl) rfl ?_
    · simp [halfReset, wider, up]
    · simp [halfReset, wider, down]

end Sys2Proof.Machine
end

section
/-! Rows of the pair's heartbeats, claims and ends, and of mirror records (R453 to R463, R465, R466, R469, R471). -/

namespace Sys2Proof.Machine

open Sys2Proof.Safety

/-- Settles O30: each row's own test is decided by what the statement supposes, and what is left is its effect. -/
theorem pairRowsComplete : Obligations.PairRowsComplete := by
  refine ⟨?send, ?received, ?period, ?fence, ?pulse, ?low, ?wait, ?drive, ?trained, ?drain, ?replay⟩
  case send =>
    intro live s hr on up
    exact acts_ofIf _ _ _ _ _ hr (fun _ => rfl) rfl (if_neg (by simpa [on] using up))
  case received =>
    intro b s u hr on hu
    refine ⟨fun _ unformed => ?_, fun formed active newer => ?_, fun formed active claim older unfenced seen moves => ?_⟩ <;>
      refine acts_ofIf _ _ _ _ _ hr (fun _ => rfl) rfl ?_ <;>
      simp only [beat, on, Bool.not_true, Bool.false_eq_true, if_false, ← hu]
    · rw [if_pos (by simp [unformed])]
    · rw [if_neg (by simp [formed]), if_pos (by simp [active, newer])]
    · rw [if_neg (by simp [formed]), if_neg (by simp [Nat.not_lt.mpr older]), if_neg (by simp [active]),
        if_pos ⟨active, unfenced⟩]
      simp [seen, moves]
  case period =>
    intro s hr on formed seen swap
    refine ⟨fun good => ?_, fun bad few => ?_, fun bad many => ?_⟩ <;>
      refine acts_ofIf _ _ _ _ _ hr (fun _ => rfl) rfl ?_ <;>
      rw [periodEnd, if_neg (by simp [on, formed, seen])] <;>
      simp only [swap, Bool.false_and, Bool.not_false, Bool.true_and, Bool.false_eq_true, if_false]
    · rw [if_neg (by simp [good])]
      simp only [modPair, good, swap, if_true, Bool.false_eq_true, if_false]
    · rw [if_neg (by simp [bad, Nat.not_le.mpr few])]
      simp only [modPair, bad, swap, Bool.false_eq_true, if_false]
    · rw [if_pos (by simp [bad, many])]
      simp only [modPair, bad, swap, Bool.false_eq_true, if_false]
  case fence =>
    intro s hr on unfenced still
    exact acts_ofIf _ _ _ _ _ hr (fun _ => rfl) rfl (if_pos (by simp [on, unfenced, still]))
  case pulse =>
    intro s hr silent
    exact acts_ofIf _ _ _ _ _ hr (fun _ => rfl) rfl (if_neg (by simp [silent]))
  case low =>
    intro s free
    refine ⟨fun hr holds => ?_, fun hr waits => ?_⟩ <;> refine acts_ofIf _ _ _ _ _ hr (fun _ => rfl) rfl ?_
    · rw [arbLow, if_neg (by simp [free])]
      exact if_pos (by simpa [or_iff_not_imp_left] using holds)
    · simp [arbLow, free, waits]
  case wait =>
    intro s hr claim
    exact acts_ofIf _ _ _ _ _ hr (fun _ => rfl) rfl (if_neg (by simp [claim]))
  case drive =>
    rintro high cycles s u hr claim rfl
    refine acts_ofIf _ _ _ _ _ hr (fun _ => rfl) rfl ?_
    rw [claimEnds, if_neg (by simp [claim])]
    cases high <;> rfl
  case trained => exact fun h rq e act same comp s hr => acts_ofIf _ _ _ _ _ hr (fun _ => rfl) rfl rfl
  case drain =>
    intro c s hr draining cmd
    refine acts_ofIf _ _ _ _ _ hr (fun _ => rfl) rfl ?_
    simp only [drainEnd, draining, cmd]
    rfl
  case replay => exact fun h s hr up => acts_ofIf _ _ _ _ _ hr (fun _ => rfl) rfl (if_neg up)

/-- A mirror that has the active's configuration applies each record as it comes. -/
theorem record_of_paired {s : State} {r : MirrorRec} (role : s.pair.role = 2) (st : s.pair.st = .paired) :
    record s r = applyRec s r :=
  if_pos (by simp [takesRecords, role, st])

/-- Settles O31: each row's own test is decided by what the statement supposes, and what is left is its effect. -/
theorem mirrorRowsComplete : Obligations.MirrorRowsComplete := by
  refine ⟨?accept, ?apply, ?tags, ?effect, ?admission, ?frame, ?trigger, ?freeze, ?release, ?trim, ?ack, ?snapshot, ?timeout⟩
  case accept =>
    exact fun r s hr role st => acts_ofIf _ _ _ _ _ hr (fun _ => rfl) rfl (record_of_paired role st)
  case apply =>
    rintro c t s u hr role st rfl found
    refine acts_ofIf _ _ _ _ _ hr (fun _ => rfl) rfl ((record_of_paired role st).trans ?_)
    simp only [applyRec, recApply, found]
    refine if_congr ?_ rfl rfl
    simp [and_assoc]
  case tags =>
    intro h tag s role st
    refine ⟨fun hr => ?_, fun hr => ?_, fun hr => ?_⟩ <;>
      exact acts_ofIf _ _ _ _ _ hr (fun _ => rfl) rfl (record_of_paired role st)
  case effect =>
    rintro h tag point n t s u hr role st found rfl
    refine acts_ofIf _ _ _ _ _ hr (fun wf => wf) rfl ((record_of_paired role st).trans ?_)
    simp only [applyRec, recEffect, found]
  case admission =>
    intro n cycles h f s hr role st
    refine acts_ofIf _ _ _ _ _ hr (fun wf => wf) rfl ?_
    rw [if_pos (by simp [takesRecords, role, st]), record_of_paired role st]
    rfl
  case frame =>
    intro n fn number mark w s hr role st found
    refine acts_ofIf _ _ _ _ _ hr (fun wf => wf) rfl ((record_of_paired role st).trans ?_)
    simp only [applyRec, recFrame, found]
  case trigger =>
    intro k t s hr role st new
    refine acts_ofIf _ _ _ _ _ hr (fun wf => wf) rfl ((record_of_paired role st).trans ?_)
    have none : (s.pair.firings.any fun e => decide (e.1 = k)) = false := by simpa using new
    simp only [applyRec, recSegment, none, Bool.false_eq_true, if_false]
  case freeze =>
    intro n last g s hr role st found
    refine acts_ofIf _ _ _ _ _ hr (fun wf => wf) rfl ((record_of_paired role st).trans ?_)
    simp only [applyRec, recSegment, found]
  case release =>
    intro n number g s hr role st found
    refine acts_ofIf _ _ _ _ _ hr (fun wf => wf) rfl ((record_of_paired role st).trans ?_)
    simp only [applyRec, recSegment, found]
  case trim =>
    exact fun r s hr role st => acts_ofIf _ _ _ _ _ hr (fun wf => wf) rfl (record_of_paired role st)
  case ack =>
    intro h tag f s hr live
    exact acts_ofIf _ _ _ _ _ hr (fun _ => rfl) rfl (by simp only [ackArrives, live])
  case snapshot =>
    intro recs s hr role st
    exact acts_ofIf _ _ _ _ _ hr (fun _ => rfl) rfl (if_neg (by simp [role, st]))
  case timeout =>
    rintro n w number s hr role found rfl
    refine acts_ofIf _ _ _ _ _ hr (fun wf => wf) rfl ?_
    rw [frameTimeout, if_neg (by simp [role])]
    simp only [found]

end Sys2Proof.Machine
end

section
/-! Rows of firmware images and of flash, of boot and of resets of the device, and of clocks, supplies and temperature (R50,
R472, R473, R480 to R486, R488 to R490, R493 to R506, R541). -/

namespace Sys2Proof.Machine

open Sys2Proof.Safety

/-- Settles O32: each row's own test is decided by what the statement supposes, and what is left is its effect. -/
theorem firmwareRowsComplete : Obligations.FirmwareRowsComplete := by
  refine ⟨?copy, ?clearing, ?swapped, ?program, ?check⟩
  case copy =>
    rintro ok w image s hr swap step rfl
    refine acts_ofIf _ _ _ _ _ hr (fun _ => rfl) rfl ?_
    simp only [stageCopied, swap]
    exact if_neg (by simp [step])
  case clearing =>
    intro w s hr swap step readyA readyB none
    refine acts_ofIf _ _ _ _ _ hr (fun _ => rfl) rfl ?_
    simp only [swapClearing, swap]
    exact if_pos ⟨step, readyA, readyB, none⟩
  case swapped =>
    rintro img cycles w s u hr swap step rfl
    refine acts_ofIf _ _ _ _ _ hr (fun _ => rfl) rfl ?_
    simp only [swapDone, swap]
    exact if_neg (by simp [step])
  case program =>
    intro ok j t a bs rest s hr jobs busy pieces
    refine acts_ofIf _ _ _ _ _ hr (fun _ => rfl) rfl ?_
    simp only [programDone, jobs, busy, pieces]
    cases ok with
    | false => rfl
    | true => cases rest <;> rfl
  case check =>
    rintro img c h t s u hr waiting rfl
    refine acts_ofIf _ _ _ _ _ hr (fun _ => rfl) rfl ?_
    simp only [imageChecked, waiting, decide_eq_true_eq]
    split <;> rfl

/-- Settles O33: each row's own test is decided by what the statement supposes, and what is left is its effect. -/
theorem bootRowsComplete : Obligations.BootRowsComplete := by
  refine ⟨?power, ?assert, ?release, ?delay, ?watchdog, ?image, ?firmware, ?expiry, ?timeout⟩
  case power => exact fun halfId pairId s => rfl
  case assert =>
    intro s hr free
    exact acts_ofIf _ _ _ _ _ hr (fun _ => rfl) rfl (if_neg (by simp [free]))
  case release => exact fun s hr => acts_ofIf _ _ _ _ _ hr (fun _ => rfl) rfl rfl
  case delay =>
    rintro k t s u hr resets rfl
    refine acts_ofIf _ _ _ _ _ hr (fun _ => rfl) rfl ?_
    simp only [delayExpiry, resets]
    split
    · rfl
    · split <;> rfl
  case watchdog =>
    intro h s hr wider
    exact acts_ofIf _ _ _ _ _ hr (fun _ => rfl) rfl (if_neg (by simp [wider]))
  case image =>
    intro h img s hr up stage hand
    have free : ¬((half s h).sys.inReset || decide ((half s h).ident.bootStage ≠ 0) || !imageAtHand s h) = true := by
      simp [up, stage, hand]
    refine ⟨fun good => ?_, fun bad whole => ?_⟩ <;>
      refine acts_ofIf _ _ _ _ _ hr (fun _ => rfl) rfl ?_ <;> rw [imageVerified, if_neg free]
    · exact if_pos good
    · rw [if_neg bad]
      exact if_neg (by simp [whole])
  case firmware =>
    intro h img env s u1 u2 u3 hr stage
    refine ⟨fun bad => ?_, fun good h1 h2 h3 => ?_⟩ <;> refine acts_ofIf _ _ _ _ _ hr (fun _ => rfl) rfl ?_
    · simp [firmwareLoaded, stage, bad]
    · have same : takeReadings (modIdent s h fun i => { i with
            cmdReady := true, bootStage := 3, fwMajor := img.major, fwMinor := img.minor, fwPatch := img.patch,
            fwBank := s.sys.bootBank }) h env.temps env.rails = takeReadings s h env.temps env.rails := by
        cases h <;> rfl
      rw [same] at h1
      rw [firmwareLoaded, if_neg (by simp [stage]), if_neg (by simp [good])]
      simp only [← h1, ← h2, ← h3, Bool.and_eq_true]
  case expiry =>
    intro s hr boots starts
    refine acts_ofIf _ _ _ _ _ hr (fun _ => rfl) rfl ?_
    rw [bootExpiry, if_pos boots]
    exact if_neg (by simpa [or_iff_not_imp_left] using starts)
  case timeout =>
    intro s hr boots active idle
    exact acts_ofIf _ _ _ _ _ hr (fun _ => rfl) rfl (if_pos (by simp [boots, active, idle]))

/-- What a supply rail at its reset level takes down, by rail. -/
theorem resetLevel_eq (s : State) (h : Half) (rail mv : Nat) :
    resetLevel s h rail mv =
      if rail = 2 ∨ rail = 3 then lanesLost (supplyDip s h rail mv true) h
      else if rail = 4 then dramLost (halfReset (supplyDip s h rail mv true) h 5) h
      else if rail = 5 ∨ rail = 6 then dlDown (supplyDip s h rail mv true) h
      else if rail = 7 then warmStart (supplyDip s h rail mv true) 5
      else if rail = 8 then powerOn (supplyDip s h rail mv true) (supplyDip s h rail mv true).sys.halfId
        (supplyDip s h rail mv true).pair.pairId
      else halfReset (supplyDip s h rail mv true) h 5 := by
  unfold resetLevel
  split
  case h_8 n2 n3 n4 n5 n6 n7 n8 =>
    rw [if_neg (not_or.mpr ⟨n2, n3⟩), if_neg n4, if_neg (not_or.mpr ⟨n5, n6⟩), if_neg n7, if_neg n8]
  all_goals rfl

/-- Settles O34: each row's own test is decided by what the statement supposes, and what is left is its effect. -/
theorem supplyRowsComplete : Obligations.SupplyRowsComplete := by
  refine ⟨?sysClk, ?clocks, ?restored, ?avs, ?retry, ?poll, ?alert, ?dip, ?guardEnd, ?level, ?reading, ?trip, ?above⟩
  case sysClk =>
    intro s hr running
    exact acts_ofIf _ _ _ _ _ hr (fun _ => rfl) rfl (if_neg (by simp [running]))
  case clocks =>
    intro h s
    refine ⟨fun hr => ?_, fun hr => ?_, fun hr => ?_⟩ <;> exact acts_ofIf _ _ _ _ _ hr (fun _ => rfl) rfl rfl
  case restored => exact fun s hr => acts_ofIf _ _ _ _ _ hr (fun _ => rfl) rfl rfl
  case avs =>
    intro h r s hr runs well
    refine acts_ofIf _ _ _ _ _ hr (fun _ => rfl) rfl ?_
    rw [avsRead, if_neg (by simp [runs, well])]
    cases r.answered <;> rfl
  case retry =>
    intro h s hr runs fault
    exact acts_ofIf _ _ _ _ _ hr (fun _ => rfl) rfl (if_pos (by simp [runs, fault]))
  case poll => exact fun v s hr runs => acts_ofIf _ _ _ _ _ hr (fun wf => wf) rfl (if_pos runs)
  case alert => exact fun v s hr runs => acts_ofIf _ _ _ _ _ hr (fun wf => wf) rfl (if_pos runs)
  case dip =>
    intro h rail mv s hr high
    refine acts_ofIf _ _ _ _ _ hr (fun wf => wf) rfl ?_
    rw [if_neg (by simp [high])]
    simp [supplyDip, high, b2n]
  case guardEnd =>
    intro h cycles s hr guarded rails
    exact acts_ofIf _ _ _ _ _ hr (fun _ => rfl) rfl (if_neg (by simp [guarded, rails]))
  case level =>
    rintro h rail mv s u hr rfl
    exact acts_ofIf _ _ _ _ _ hr (fun wf => wf) rfl (resetLevel_eq s h rail mv)
  case reading =>
    intro h t r k s u hr runs cal
    refine acts_ofIf _ _ _ _ _ hr (fun wf => wf) rfl ?_
    rw [thermalRead, if_neg (by simp [runs]), cal]
  case trip => exact fun h sensor s hr => acts_ofIf _ _ _ _ _ hr (fun wf => wf) rfl rfl
  case above => exact fun h rail s hr => acts_ofIf _ _ _ _ _ hr (fun wf => wf) rfl rfl

end Sys2Proof.Machine
end

section
/-! What the command path leaves as it is. Work on rings, logs, messages and Mortar's traffic changes no unit (R35 to
R42, R47 to
R50, R62 to R67): one rule for each of its operations. -/

namespace Sys2Proof.Machine

open Sys2Proof.Safety

/-! What a ring is set up to be: its base, its size, whether it is enabled, and where a submission ring completes. -/

/-- The setup of a submission ring. -/
def sqSetup (r : SqRec) : BitVec 64 × BitVec 5 × BitVec 5 × Bool := (r.base, r.sizeLog2, r.cqId, r.enable)

/-- The setup of a completion ring. -/
def cqSetup (r : CqRec) : BitVec 64 × BitVec 5 × Bool := (r.base, r.sizeLog2, r.enable)

/-- The setup of an event ring. -/
def evSetup (r : EvRec) : BitVec 64 × BitVec 5 × Bool := (r.base, r.sizeLog2, r.enable)

/-- Two states of a half's command path whose rings have the same setup. -/
structure SameSetup (x y : HalfCmd) : Prop where
  sq : ∀ n, sqSetup (tget y.sq n) = sqSetup (tget x.sq n)
  cq : ∀ n, cqSetup (tget y.cq n) = cqSetup (tget x.cq n)
  ev : evSetup y.ev = evSetup x.ev

theorem SameSetup.refl (x : HalfCmd) : SameSetup x x := ⟨fun _ => rfl, fun _ => rfl, rfl⟩

theorem SameSetup.trans {x y z : HalfCmd} (xy : SameSetup x y) (yz : SameSetup y z) : SameSetup x z :=
  ⟨fun n => (yz.sq n).trans (xy.sq n), fun n => (yz.cq n).trans (xy.cq n), yz.ev.trans xy.ev⟩

/-- A change of one entry that keeps what `g` reads of it keeps what `g` reads of every entry. -/
theorem tget_tmod_keeps {α β : Type} [Inhabited α] {n : Nat} (g : α → β) (t : Vector α n) (i j : Nat) (f : α → α)
    (keeps : g (f (tget t i)) = g (tget t i)) : g (tget (tmod t i f) j) = g (tget t j) := by
  by_cases same : i = j
  · subst same
    by_cases inside : i < n
    · rw [tget_tmod_same t i f inside, keeps]
    · simp [tget, Vector.getD, inside]
  · rw [tget_tmod_ne t i j f same]

/-! Work that changes no unit. -/

/-- The second state has the units, the commands in flight and the Mortar link of the first. -/
structure SameUnits (s t : State) : Prop where
  units : unitFrame t = unitFrame s
  flights : t.flights = s.flights
  mortar : t.mortar = s.mortar

theorem SameUnits.refl (s : State) : SameUnits s s := ⟨rfl, rfl, rfl⟩

theorem SameUnits.trans {s t u : State} (st : SameUnits s t) (tu : SameUnits t u) : SameUnits s u :=
  ⟨tu.units.trans st.units, tu.flights.trans st.flights, tu.mortar.trans st.mortar⟩

theorem SameUnits.staged {s t : State} (st : SameUnits s t) : t.staged = s.staged :=
  show (unitFrame t).staged = (unitFrame s).staged by rw [st.units]

/-- Work on the rings: no unit changes, and no ring's setup. -/
structure RingWork (s t : State) : Prop extends SameUnits s t where
  setup : ∀ k, SameSetup (half s k).cmd (half t k).cmd

theorem RingWork.refl (s : State) : RingWork s s := ⟨.refl s, fun _ => .refl _⟩

theorem RingWork.trans {s t u : State} (st : RingWork s t) (tu : RingWork t u) : RingWork s u :=
  ⟨st.toSameUnits.trans tu.toSameUnits, fun k => (st.setup k).trans (tu.setup k)⟩

/-- A choice between two pieces of work on the rings. -/
theorem RingWork.ite {s t u : State} {p : Prop} [Decidable p] (yes : p → RingWork s t) (no : ¬p → RingWork s u) :
    RingWork s (if p then t else u) := by
  split
  · exact yes ‹_›
  · exact no ‹_›

theorem SameUnits.modCmd (s : State) (h : Half) (f : HalfCmd → HalfCmd) : SameUnits s (modCmd s h f) :=
  ⟨by cases h <;> rfl, by simp, by simp⟩

theorem RingWork.modCmd {s : State} {h : Half} {f : HalfCmd → HalfCmd}
    (keeps : SameSetup (half s h).cmd (f (half s h).cmd)) : RingWork s (modCmd s h f) := by
  refine ⟨.modCmd s h f, fun k => ?_⟩
  rcases half_cases h k with rfl | rfl
  · simpa using keeps
  · simpa using SameSetup.refl _

theorem RingWork.modSq {s : State} {h : Half} {n : Nat} {f : SqRec → SqRec}
    (keeps : sqSetup (f (sqAt s h n)) = sqSetup (sqAt s h n)) : RingWork s (modSq s h n f) :=
  .modCmd ⟨fun j => tget_tmod_keeps sqSetup _ n j f keeps, fun _ => rfl, rfl⟩

theorem RingWork.modCq {s : State} {h : Half} {n : Nat} {f : CqRec → CqRec}
    (keeps : cqSetup (f (cqAt s h n)) = cqSetup (cqAt s h n)) : RingWork s (modCq s h n f) :=
  .modCmd ⟨fun _ => rfl, fun j => tget_tmod_keeps cqSetup _ n j f keeps, rfl⟩

theorem RingWork.modEp (s : State) (h : Half) (f : Endpoint → Endpoint) : RingWork s (modEp s h f) :=
  ⟨⟨by cases h <;> rfl, by simp, by simp⟩, fun k => by simpa using SameSetup.refl _⟩

theorem RingWork.fault (s : State) (h : Half) : RingWork s (modIdent s h fun i => { i with fault := true }) :=
  ⟨⟨by cases h <;> rfl, by simp, by simp⟩, fun k => by simpa using SameSetup.refl _⟩

theorem RingWork.hostMem (s : State) (m : Memory) : RingWork s { s with hostMem := m } :=
  ⟨⟨rfl, rfl, rfl⟩, fun k => by cases k <;> exact .refl _⟩

theorem RingWork.modSwap (s : State) (f : LiveSwap → LiveSwap) : RingWork s (modSwap s f) :=
  ⟨⟨rfl, rfl, rfl⟩, fun k => by cases k <;> exact .refl _⟩

theorem RingWork.mgmt (s : State) (m : MgmtPort) : RingWork s { s with mgmt := m } :=
  ⟨⟨rfl, rfl, rfl⟩, fun k => by cases k <;> exact .refl _⟩

theorem RingWork.hostUpdate (s : State) (u : HostUpdate) : RingWork s (hostUpdate s u) :=
  ⟨⟨rfl, rfl, rfl⟩, fun k => by cases k <;> exact .refl _⟩

/-! Host memory, messages and the event log. -/

theorem RingWork.linkWake (s : State) (h : Half) : RingWork s (linkWake s h) := by
  rw [Machine.linkWake]
  refine .ite (fun _ => ?_) fun _ => .refl s
  exact ⟨⟨by cases h <;> rfl, by simp, by simp⟩, fun k => by cases h <;> cases k <;> exact .refl _⟩

theorem RingWork.hostWrite {s t : State} {a : Nat} {bs : List Byte} (written : hostWrite s a bs = some t) :
    RingWork s t := by
  simp only [Machine.hostWrite] at written
  split at written
  · cases written
    exact .refl s
  · split at written
    · cases written
      exact .hostMem s _
    · cases written

theorem RingWork.sendMsix (s : State) (h : Half) (v : Nat) : RingWork s (sendMsix s h v) := by
  rw [Machine.sendMsix]
  refine .trans ?_ (.modEp _ h _)
  cases written : Machine.hostWrite (Machine.linkWake s h) (tget (half s h).ep.msix v).addr.toNat
    (leBytes 4 (tget (half s h).ep.msix v).data.toNat) with
  | none => exact .refl s
  | some t => exact (RingWork.linkWake s h).trans (.hostWrite written)

theorem RingWork.signal (s : State) (h : Half) (v : Nat) : RingWork s (signal s h v) :=
  .ite (fun _ => .refl s) fun _ => .ite (fun _ => .modEp s h _) fun _ => .sendMsix s h v

theorem RingWork.logEvent (s : State) (h : Half) (e : EventRec) : RingWork s (logEvent s h e).2 := by
  simp only [Machine.logEvent]
  exact .ite (fun _ => .trans (.modCmd ⟨fun _ => rfl, fun _ => rfl, rfl⟩) (.fault _ h)) fun _ =>
    .modCmd ⟨fun _ => rfl, fun _ => rfl, rfl⟩

theorem RingWork.modEvRec {s : State} {h : Half} {f : EvRec → EvRec}
    (keeps : evSetup (f (half s h).cmd.ev) = evSetup (half s h).cmd.ev) :
    RingWork s (Machine.modCmd s h fun c => { c with ev := f c.ev }) :=
  .modCmd ⟨fun _ => rfl, fun _ => rfl, keeps⟩

theorem RingWork.pushRecord (s : State) (p : Half) (e : EventRec) : RingWork s (pushRecord s p e) := by
  simp only [Machine.pushRecord]
  split
  next s1 written =>
    have moved := ((RingWork.linkWake s p).trans (.hostWrite written)).trans (.modEvRec (s := s1) (h := p)
      (f := fun r => { r with
        tail := ringNext (half s p).cmd.ev.sizeLog2 (half s p).cmd.ev.tail
        phase := if ringNext (half s p).cmd.ev.sizeLog2 (half s p).cmd.ev.tail = 0 then !(half s p).cmd.ev.phase
          else (half s p).cmd.ev.phase }) rfl)
    exact .ite (fun _ => moved.trans (.signal _ p _)) fun _ => moved
  next => exact .trans (.modEvRec (f := fun r => { r with error := true, errCode := 3 }) rfl) (.logEvent _ p _)

theorem RingWork.pushOverflow (s : State) (p : Half) : RingWork s (pushOverflow s p) := by
  simp only [Machine.pushOverflow]
  refine .ite (fun _ => ?_) fun _ => .refl s
  exact .trans (.logEvent s p _) (.trans (.modEvRec (f := fun r => { r with overflowed := false, lost := 0 }) rfl)
    (.pushRecord _ p _))

theorem RingWork.ringEvent (s : State) (p : Half) (e : EventRec) : RingWork s (ringEvent s p e) := by
  simp only [Machine.ringEvent]
  refine .ite (fun _ => .modSwap s _) fun _ => .trans (.pushOverflow s p) ?_
  refine .ite (fun _ => .refl _) fun _ => .ite (fun _ => .modCmd ⟨fun _ => rfl, fun _ => rfl,
    rfl⟩) fun _ => .pushRecord _ p e

theorem RingWork.raise (s : State) (h : Half) (e : EventRec) : RingWork s (raise s h e) := by
  simp only [Machine.raise]
  have rung : ∀ u : State, RingWork s u → ∀ (c : Bool) (p : Half) (e' : EventRec),
      RingWork s (if c then Machine.ringEvent u p e' else u) := fun u su c p e' =>
    .ite (fun _ => su.trans (.ringEvent u p e')) fun _ => su
  have told : ∀ u : State, RingWork s u → ∀ (c : Bool) (m : MgmtPort), RingWork s (if c then { u with mgmt := m } else u) :=
    fun u su c m => .ite (fun _ => su.trans (.mgmt u m)) fun _ => su
  have pme : ∀ u : State, RingWork s u → ∀ c : Bool,
      RingWork s (if c then Machine.modEp u h (fun p => { p with pmeSent := true }) else u) := fun u su c =>
    .ite (fun _ => su.trans (.modEp u h _)) fun _ => su
  exact pme _ (told _ (rung _ (.logEvent s h e) _ _ _) _ _) _

theorem RingWork.event (s : State) (h : Half) (code : BitVec 16) (sev : BitVec 2) (kind : BitVec 8) (id : Nat) (point :
    Count64)
    (d0 d1 d2 : Nat) : RingWork s (event s h code sev kind id point d0 d1 d2) := .raise s h _

theorem RingWork.logCompletion (s : State) (h : Half) (c : Completion) : RingWork s (logCompletion s h c) := .raise s h _

/-! Ring errors, slots and completion entries. -/

theorem RingWork.cqError (s : State) (h : Half) (n : Nat) (code : BitVec 4) (data1 : Nat) :
    RingWork s (cqError s h n code data1) :=
  .trans (.modCq rfl) (.event ..)

theorem RingWork.sqError (s : State) (h : Half) (n : Nat) (code : BitVec 4) (data1 : Nat) :
    RingWork s (sqError s h n code data1) :=
  .trans (.modSq rfl) (.event ..)

theorem RingWork.offerLoop (h : Half) (n : Nat) (waiting : List (Nat × Nat)) :
    ∀ s : State, RingWork s (offerLoop s h n waiting) := by
  induction waiting with
  | nil => exact fun s => .modCq rfl
  | cons x t ih =>
    intro s
    exact .ite (fun _ => .trans (.trans (.modCq rfl) (.modSq rfl)) (ih _)) fun _ => .refl s

theorem RingWork.offerSlots (s : State) (h : Half) (n k : Nat) : RingWork s (offerSlots s h n k) :=
  .ite (fun _ => .refl s) fun _ => .trans (.modCq rfl) (.offerLoop h n _ _)

theorem RingWork.releaseSlots (s : State) (h : Half) (n k : Nat) : RingWork s (releaseSlots s h n k) :=
  .ite (fun _ => .refl s) fun _ => .trans (.modCq rfl) (.offerSlots _ h n k)

theorem RingWork.writeCompletion (s : State) (h : Half) (n : Nat) (c : Completion) :
    RingWork s (writeCompletion s h n c) := by
  simp only [Machine.writeCompletion]
  split
  next s1 written =>
    have moved := (RingWork.linkWake s h).trans (.hostWrite written)
    exact .ite (fun _ => (moved.trans (.modCq rfl)).trans (.signal _ h _)) fun _ => moved.trans (.modCq rfl)
  next => exact .trans (.cqError s h n _ _) (.logCompletion _ h c)

theorem RingWork.postTo (s : State) (n : Nat) (c : Completion) : RingWork s (postTo s n c) := by
  simp only [Machine.postTo]
  refine .ite (fun _ => .modSwap s _) fun _ => .ite (fun _ => .logCompletion s _ c) fun _ => ?_
  exact .ite (fun _ => .modEp s _ _) fun _ => .writeCompletion s _ n c

end Sys2Proof.Machine
end

section
/-! The rows of the rings, the doorbells and the registers of BAR0: what they keep (R35 to R38, R42, R67), and the lock of an
enabled ring's base and size (R36). -/

namespace Sys2Proof.Machine

open Sys2Proof.Safety

/-! Ring errors and doorbells. -/

theorem RingWork.unstall (s : State) (h : Half) (n : Nat) : RingWork s (unstall s h n) :=
  .trans (.trans (.modSq rfl) (.modCq rfl)) (.releaseSlots _ h _ _)

theorem RingWork.sqStop (s : State) (h : Half) (n : Nat) (code : BitVec 4) (data1 : Nat) :
    RingWork s (sqStop s h n code data1) :=
  .trans (.unstall s h n) (.sqError _ h n _ _)

theorem RingWork.sqRefuse (s : State) (h : Half) (n : Nat) (code : BitVec 4) : RingWork s (sqRefuse s h n code) :=
  .trans (.modSq rfl) (.event ..)

theorem RingWork.cqRefuse (s : State) (h : Half) (n : Nat) (code : BitVec 4) : RingWork s (cqRefuse s h n code) :=
  .trans (.modCq rfl) (.event ..)

theorem RingWork.evRefuse (s : State) (h : Half) (code : BitVec 4) : RingWork s (evRefuse s h code) :=
  .trans (.modEvRec (f := fun r => { r with errCode := code }) rfl) (.event ..)

theorem RingWork.evError (s : State) (h : Half) (code : BitVec 4) (data1 : Nat) : RingWork s (evError s h code data1) :=
  .trans (.modEvRec (f := fun r => { r with error := true, errCode := code }) rfl) (.event ..)

theorem RingWork.sqDoorbell (s : State) (h : Half) (n : Nat) (v : Word) : RingWork s (sqDoorbell s h n v) :=
  .ite (fun _ => .refl s) fun _ => .ite (fun _ => .sqStop s h n _ _) fun _ => .modSq rfl

theorem RingWork.cqDoorbell (s : State) (h : Half) (n : Nat) (v : Word) : RingWork s (cqDoorbell s h n v) :=
  .ite (fun _ => .refl s) fun _ => .ite (fun _ => .cqError s h n _ _) fun _ => .trans (.modCq rfl) (.offerSlots _ h n _)

theorem RingWork.evDoorbell (s : State) (h : Half) (v : Word) : RingWork s (evDoorbell s h v) :=
  .ite (fun _ => .refl s) fun _ => .ite (fun _ => .evError s h _ _) fun _ =>
    .trans (.modEvRec (f := fun r => { r with head := BitVec.ofNat 16 (fld v 15 0) }) rfl) (.pushOverflow _ h)

theorem RingWork.flushMsix (s : State) (h : Half) : RingWork s (flushMsix s h) := by
  have sent : ∀ (vs : List Nat) (u : State), RingWork u (vs.foldl (fun s v =>
      if (tget (half s h).ep.msix v).pendingBit && !(tget
        (half s h).ep.msix v).mask then Machine.sendMsix s h v else s) u) := by
    intro vs
    induction vs with
    | nil => exact .refl
    | cons v vs ih => exact fun u => .trans (.ite (fun _ => .sendMsix u h v) fun _ => .refl u) (ih _)
  exact .ite (fun _ => .refl s) fun _ => sent _ s

theorem RingWork.writeMsix (s : State) (h : Half) (n k : Nat) (v : Word) : RingWork s (writeMsix s h n k v) :=
  .trans (.modEp s h _) (.flushMsix _ h)

/-! The lock of an enabled ring. -/

/-- Two states of a half's command path in which the same rings are enabled. -/
structure SameEnabled (x y : HalfCmd) : Prop where
  sq : ∀ n, (tget y.sq n).enable = (tget x.sq n).enable
  cq : ∀ n, (tget y.cq n).enable = (tget x.cq n).enable
  ev : y.ev.enable = x.ev.enable

/-- Every ring that the first state has enabled keeps its base, its size and the ring that it completes in. -/
structure KeepsEnabled (x y : HalfCmd) : Prop where
  sq : ∀ n, (tget x.sq n).enable = true → (tget y.sq n).base = (tget x.sq n).base ∧
    (tget y.sq n).sizeLog2 = (tget x.sq n).sizeLog2 ∧ (tget y.sq n).cqId = (tget x.sq n).cqId
  cq : ∀ n, (tget x.cq n).enable = true → (tget y.cq n).base = (tget x.cq n).base ∧
    (tget y.cq n).sizeLog2 = (tget x.cq n).sizeLog2
  ev : x.ev.enable = true → y.ev.base = x.ev.base ∧ y.ev.sizeLog2 = x.ev.sizeLog2

theorem SameSetup.enabled {x y : HalfCmd} (xy : SameSetup x y) : SameEnabled x y :=
  ⟨fun n => congrArg (·.2.2.2) (xy.sq n), fun n => congrArg (·.2.2) (xy.cq n), congrArg (·.2.2) xy.ev⟩

theorem SameSetup.keeps {x y : HalfCmd} (xy : SameSetup x y) : KeepsEnabled x y :=
  ⟨fun n _ => ⟨congrArg (·.1) (xy.sq n), congrArg (·.2.1) (xy.sq n), congrArg (·.2.2.1) (xy.sq n)⟩,
    fun n _ => ⟨congrArg (·.1) (xy.cq n), congrArg (·.2.1) (xy.cq n)⟩,
    fun _ => ⟨congrArg (·.1) xy.ev, congrArg (·.2.1) xy.ev⟩⟩

/-- The lock goes on while the rings stay enabled. -/
theorem KeepsEnabled.trans {x y z : HalfCmd} (xy : KeepsEnabled x y) (same : SameEnabled x y) (yz : KeepsEnabled y z) :
    KeepsEnabled x z := by
  refine ⟨fun n on => ?_, fun n on => ?_, fun on => ?_⟩
  · obtain ⟨base, size, cq⟩ := xy.sq n on
    obtain ⟨base', size', cq'⟩ := yz.sq n ((same.sq n).trans on)
    exact ⟨base'.trans base, size'.trans size, cq'.trans cq⟩
  · obtain ⟨base, size⟩ := xy.cq n on
    obtain ⟨base', size'⟩ := yz.cq n ((same.cq n).trans on)
    exact ⟨base'.trans base, size'.trans size⟩
  · obtain ⟨base, size⟩ := xy.ev on
    obtain ⟨base', size'⟩ := yz.ev (same.ev.trans on)
    exact ⟨base'.trans base, size'.trans size⟩

/-- The work of a register write: no unit changes, and the rings that are enabled stay locked. -/
structure RegWork (s t : State) : Prop extends SameUnits s t where
  locked : ∀ k, KeepsEnabled (half s k).cmd (half t k).cmd

theorem RingWork.reg {s t : State} (st : RingWork s t) : RegWork s t := ⟨st.toSameUnits, fun k => (st.setup k).keeps⟩

/-- Work on rings that keeps their setup comes before a register's write. -/
theorem RingWork.then {s t u : State} (st : RingWork s t) (tu : RegWork t u) : RegWork s u :=
  ⟨st.toSameUnits.trans tu.toSameUnits, fun k => (st.setup k).keeps.trans (st.setup k).enabled (tu.locked k)⟩

/-- Two writes, where the first leaves the same rings enabled. -/
theorem RegWork.trans {s t u : State} (st : RegWork s t) (same : ∀ k, SameEnabled (half s k).cmd (half t k).cmd)
    (tu : RegWork t u) : RegWork s u :=
  ⟨st.toSameUnits.trans tu.toSameUnits, fun k => (st.locked k).trans (same k) (tu.locked k)⟩

theorem RegWork.ite {s t u : State} {p : Prop} [Decidable p] (yes : p → RegWork s t) (no : ¬p → RegWork s u) :
    RegWork s (if p then t else u) := by
  split
  · exact yes ‹_›
  · exact no ‹_›

theorem RegWork.modCmd {s : State} {h : Half} {f : HalfCmd → HalfCmd}
    (keeps : KeepsEnabled (half s h).cmd (f (half s h).cmd)) : RegWork s (modCmd s h f) := by
  refine ⟨.modCmd s h f, fun k => ?_⟩
  rcases half_cases h k with rfl | rfl
  · simpa using keeps
  · simpa using (SameSetup.refl _).keeps

theorem RegWork.modSq {s : State} {h : Half} {n : Nat} {f : SqRec → SqRec}
    (keeps : (sqAt s h n).enable = true → (f (sqAt s h n)).base = (sqAt s h n).base ∧
      (f (sqAt s h n)).sizeLog2 = (sqAt s h n).sizeLog2 ∧ (f (sqAt s h n)).cqId = (sqAt s h n).cqId) :
    RegWork s (modSq s h n f) := by
  refine .modCmd ⟨fun j on => ?_, fun _ _ => ⟨rfl, rfl⟩, fun _ => ⟨rfl, rfl⟩⟩
  by_cases same : n = j
  · subst same
    have kept := keeps on
    exact ⟨tget_tmod_keeps (·.base) _ n n f kept.1, tget_tmod_keeps (·.sizeLog2) _ n n f kept.2.1,
      tget_tmod_keeps (·.cqId) _ n n f kept.2.2⟩
  · simp [tget_tmod_ne _ _ _ f same]

theorem RegWork.modCq {s : State} {h : Half} {n : Nat} {f : CqRec → CqRec}
    (keeps : (cqAt s h n).enable = true → (f (cqAt s h n)).base = (cqAt s h n).base ∧
      (f (cqAt s h n)).sizeLog2 = (cqAt s h n).sizeLog2) :
    RegWork s (modCq s h n f) := by
  refine .modCmd ⟨fun _ _ => ⟨rfl, rfl, rfl⟩, fun j on => ?_, fun _ => ⟨rfl, rfl⟩⟩
  by_cases same : n = j
  · subst same
    have kept := keeps on
    exact ⟨tget_tmod_keeps (·.base) _ n n f kept.1, tget_tmod_keeps (·.sizeLog2) _ n n f kept.2⟩
  · simp [tget_tmod_ne _ _ _ f same]

theorem RegWork.modEv {s : State} {h : Half} {f : EvRec → EvRec}
    (keeps : (half s h).cmd.ev.enable = true → (f (half s h).cmd.ev).base = (half s h).cmd.ev.base ∧
      (f (half s h).cmd.ev).sizeLog2 = (half s h).cmd.ev.sizeLog2) :
    RegWork s (modEv s h f) :=
  .modCmd ⟨fun _ _ => ⟨rfl, rfl, rfl⟩, fun _ _ => ⟨rfl, rfl⟩, keeps⟩

/-! The registers of the rings. -/

theorem RegWork.writeSqCtl (s : State) (h : Half) (n : Nat) (v : Word) : RegWork s (writeSqCtl s h n v) := by
  simp only [Machine.writeSqCtl]
  refine .ite (fun _ => .ite (fun _ => (RingWork.modSq rfl).reg) fun _ => (RingWork.unstall s h n).then ?_) fun off => ?_
  · exact .modSq fun _ => ⟨rfl, rfl, rfl⟩
  · refine .ite (fun _ => .ite (fun _ =>
      (RingWork.sqRefuse s h n _).reg) fun _ => ?_) fun _ => .modSq fun on => absurd on off
    exact .ite (fun _ => (RingWork.sqRefuse s h n _).reg) fun _ => .modSq fun on => absurd on off

theorem RegWork.writeCqCtl (s : State) (h : Half) (n : Nat) (v : Word) : RegWork s (writeCqCtl s h n v) := by
  simp only [Machine.writeCqCtl]
  refine .ite (fun _ => .ite (fun _ => (RingWork.modCq rfl).reg) fun _ => ?_) fun off => ?_
  · exact .ite (fun _ => (RingWork.cqRefuse s h n _).reg) fun _ => .modCq fun _ => ⟨rfl, rfl⟩
  · refine .ite (fun _ => ?_) fun _ => .modCq fun on => absurd on off
    exact .ite (fun _ => (RingWork.cqRefuse s h n _).reg) fun _ => .modCq fun on => absurd on off

/-- Work on rings that keeps their setup comes after a register's write. -/
theorem RegWork.andThen {s t u : State} (st : RegWork s t) (tu : RingWork t u) : RegWork s u := by
  refine ⟨st.toSameUnits.trans tu.toSameUnits, fun k => ⟨fun n on => ?_, fun n on => ?_, fun on => ?_⟩⟩
  · obtain ⟨base, size, cq⟩ := (st.locked k).sq n on
    have kept := (tu.setup k).sq n
    simp only [sqSetup, Prod.mk.injEq] at kept
    exact ⟨kept.1.trans base, kept.2.1.trans size, kept.2.2.1.trans cq⟩
  · obtain ⟨base, size⟩ := (st.locked k).cq n on
    have kept := (tu.setup k).cq n
    simp only [cqSetup, Prod.mk.injEq] at kept
    exact ⟨kept.1.trans base, kept.2.1.trans size⟩
  · obtain ⟨base, size⟩ := (st.locked k).ev on
    have kept := (tu.setup k).ev
    simp only [evSetup, Prod.mk.injEq] at kept
    exact ⟨kept.1.trans base, kept.2.1.trans size⟩

theorem RegWork.writeEvCtl (s : State) (h : Half) (v : Word) : RegWork s (writeEvCtl s h v) := by
  simp only [Machine.writeEvCtl]
  refine .ite (fun _ => .modEv fun _ => ⟨rfl, rfl⟩) fun off => .ite (fun _ => ?_) fun _ => .modEv fun on => absurd on off
  exact .ite (fun _ => (RingWork.evRefuse s h _).reg) fun _ =>
    (RegWork.modEv fun on => absurd on off).andThen (.pushOverflow _ h)

theorem RegWork.writeSqWord (s : State) (h : Half) (n k : Nat) (v : Word) : RegWork s (writeSqWord s h n k v) := by
  unfold Machine.writeSqWord
  split
  · exact .modSq fun on => by simp [on]
  · exact .modSq fun on => by simp [on]
  · exact .writeSqCtl s h n v
  · exact (RingWork.modSq (by simp only [sqSetup])).reg
  · exact (RingWork.modSq (by simp only [sqSetup])).reg
  · exact (RingWork.refl s).reg

theorem RegWork.writeCqWord (s : State) (h : Half) (n k : Nat) (v : Word) : RegWork s (writeCqWord s h n k v) := by
  unfold Machine.writeCqWord
  split
  · exact .modCq fun on => by simp [on]
  · exact .modCq fun on => by simp [on]
  · exact .writeCqCtl s h n v
  · exact (RingWork.modCq rfl).reg
  · exact (RingWork.refl s).reg

theorem RegWork.writeEvWord (s : State) (h : Half) (k : Nat) (v : Word) : RegWork s (writeEvWord s h k v) := by
  unfold Machine.writeEvWord
  split
  · exact .modEv fun on => by simp [on]
  · exact .modEv fun on => by simp [on]
  · exact .writeEvCtl s h v
  · exact (RingWork.evDoorbell s h v).reg
  · exact (RingWork.refl s).reg

theorem RegWork.bar0Write (s : State) (h : Half) (off : Nat) (v : Word) : RegWork s (bar0Write s h off v) :=
  .ite (fun _ => .writeSqWord s h _ _ v) fun _ => .ite (fun _ => .writeCqWord s h _ _ v) fun _ =>
  .ite (fun _ => .ite (fun _ => (RingWork.sqDoorbell s h _ v).reg) fun _ => (RingWork.refl s).reg) fun _ =>
  .ite (fun _ => .ite (fun _ => (RingWork.cqDoorbell s h _ v).reg) fun _ => (RingWork.refl s).reg) fun _ =>
  .ite (fun _ => (RingWork.writeMsix s h _ _ v).reg) fun _ => .ite (fun _ => (RingWork.modEp s h _).reg) fun _ =>
  .ite (fun _ => .writeEvWord s h _ v) fun _ => (RingWork.refl s).reg

/-! A write of eight bytes is two of four. Only a control register changes what is enabled, and the dword above one
holds nothing
that can be written. -/

/-- The offset of a ring's control register. -/
def isCtlOffset (off : Nat) : Prop := (0x1000 ≤ off ∧ off < 0x1800 ∧ off % 32 = 8) ∨ off = 0x40008

theorem bar0Write_above_ctl {off : Nat} (ctl : isCtlOffset off) (s : State) (h : Half) (v : Word) :
    bar0Write s h (off + 4) v = s := by
  rcases ctl with ⟨low, high, word⟩ | rfl
  · have index : (off + 4) / 4 % 8 = 3 := by omega
    by_cases sq : off < 0x1400
    · simp only [bar0Write]
      rw [if_pos (by omega), index]
      rfl
    · simp only [bar0Write]
      rw [if_neg (by omega), if_pos (by omega), index]
      rfl
  · rfl

/-- The same rings are enabled in both states. -/
def EnablesKept (s t : State) : Prop := ∀ k, SameEnabled (half s k).cmd (half t k).cmd

theorem RingWork.enables {s t : State} (st : RingWork s t) : EnablesKept s t := fun k => (st.setup k).enabled

theorem EnablesKept.ite {s t u : State} {p : Prop} [Decidable p] (yes : p → EnablesKept s t) (no : ¬p → EnablesKept s u) :
    EnablesKept s (if p then t else u) := by
  split
  · exact yes ‹_›
  · exact no ‹_›

theorem EnablesKept.modCmd {s : State} {h : Half} {f : HalfCmd → HalfCmd}
    (keeps : SameEnabled (half s h).cmd (f (half s h).cmd)) : EnablesKept s (modCmd s h f) := by
  intro k
  rcases half_cases h k with rfl | rfl
  · simpa using keeps
  · simpa using (SameSetup.refl _).enabled

theorem EnablesKept.modSq {s : State} {h : Half} {n : Nat} {f : SqRec → SqRec}
    (keeps : (f (sqAt s h n)).enable = (sqAt s h n).enable) : EnablesKept s (modSq s h n f) :=
  .modCmd ⟨fun j => tget_tmod_keeps (·.enable) _ n j f keeps, fun _ => rfl, rfl⟩

theorem EnablesKept.modCq {s : State} {h : Half} {n : Nat} {f : CqRec → CqRec}
    (keeps : (f (cqAt s h n)).enable = (cqAt s h n).enable) : EnablesKept s (modCq s h n f) :=
  .modCmd ⟨fun _ => rfl, fun j => tget_tmod_keeps (·.enable) _ n j f keeps, rfl⟩

theorem EnablesKept.modEv {s : State} {h : Half} {f : EvRec → EvRec}
    (keeps : (f (half s h).cmd.ev).enable = (half s h).cmd.ev.enable) : EnablesKept s (modEv s h f) :=
  .modCmd ⟨fun _ => rfl, fun _ => rfl, keeps⟩

theorem EnablesKept.writeSqWord (s : State) (h : Half) (n : Nat) {k : Nat} (v : Word) (other : k ≠ 2) :
    EnablesKept s (writeSqWord s h n k v) := by
  unfold Machine.writeSqWord
  split
  · exact .modSq (by split <;> rfl)
  · exact .modSq (by split <;> rfl)
  · contradiction
  · exact .modSq rfl
  · exact .modSq rfl
  · exact (RingWork.refl s).enables

theorem EnablesKept.writeCqWord (s : State) (h : Half) (n : Nat) {k : Nat} (v : Word) (other : k ≠ 2) :
    EnablesKept s (writeCqWord s h n k v) := by
  unfold Machine.writeCqWord
  split
  · exact .modCq (by split <;> rfl)
  · exact .modCq (by split <;> rfl)
  · contradiction
  · exact .modCq rfl
  · exact (RingWork.refl s).enables

theorem EnablesKept.writeEvWord (s : State) (h : Half) {k : Nat} (v : Word) (other : k ≠ 2) :
    EnablesKept s (writeEvWord s h k v) := by
  unfold Machine.writeEvWord
  split
  · exact .modEv (by split <;> rfl)
  · exact .modEv (by split <;> rfl)
  · contradiction
  · exact (RingWork.evDoorbell s h v).enables
  · exact (RingWork.refl s).enables

theorem EnablesKept.bar0Write (s : State) (h : Half) {off : Nat} (v : Word) (aligned : off % 8 = 0)
    (other : ¬isCtlOffset off) : EnablesKept s (bar0Write s h off v) := by
  simp only [isCtlOffset, not_or] at other
  refine .ite (fun _ => .writeSqWord s h _ v (by omega)) fun _ => .ite (fun _ => .writeCqWord s h _ v (by omega)) fun _ => ?_
  refine .ite (fun _ => .ite (fun _ => (RingWork.sqDoorbell s h _ v).enables) fun _ => (RingWork.refl s).enables) fun _ => ?_
  refine .ite (fun _ => .ite (fun _ => (RingWork.cqDoorbell s h _ v).enables) fun _ => (RingWork.refl s).enables) fun _ => ?_
  refine .ite (fun _ => (RingWork.writeMsix s h _ _ v).enables) fun _ => .ite (fun _ =>
    (RingWork.modEp s h _).enables) fun _ => ?_
  exact .ite (fun _ => .writeEvWord s h v (by omega)) fun _ => (RingWork.refl s).enables

theorem RegWork.regWrite (s : State) (h : Half) (off size : Nat) (v : BitVec 64) :
    RegWork s (regWrite s h (.bar0 off size v)) := by
  refine .ite (fun _ => .bar0Write s h off _) fun _ => .ite (fun wide => ?_) fun _ => (RingWork.refl s).reg
  by_cases ctl : isCtlOffset off
  · rw [bar0Write_above_ctl ctl]
    exact .bar0Write s h off _
  · exact (RegWork.bar0Write s h off _).trans (EnablesKept.bar0Write s h _ wide.2 ctl) (.bar0Write _ h _ _)

/-- What a row that answers a next state answers: its effect, or, on a tripped device, the state as it is. -/
theorem next_of_act {i : Instr} {s t u : State} (row : exec i s = .next t) (effect : exec i s = act i s u) :
    t = withQueueOf s u ∨ t = s := by
  rw [effect] at row
  rcases actIf_cases i.wf s u with ⟨_, stops⟩ | ⟨_, _, stays⟩ | ⟨_, _, goes⟩
  · simp [act, stops] at row
  · exact .inr (by simpa [act, stays] using row.symm)
  · exact .inl (by simpa [act, goes] using row.symm)

/-- The queue is a unit of its own: work that changes no unit has kept it. -/
theorem SameUnits.withQueueOf {s u : State} (su : SameUnits s u) : withQueueOf s u = u := by
  have queue : u.pending = s.pending := show (unitFrame u).pending = (unitFrame s).pending by rw [su.units]
  simp only [Machine.withQueueOf, ← queue]

theorem SameUnits.of_act {i : Instr} {s t u : State} (row : exec i s = .next t) (su : SameUnits s u)
    (effect : exec i s = act i s u) : SameUnits s t := by
  rcases next_of_act row effect with rfl | rfl
  · exact su.withQueueOf ▸ su
  · exact .refl t

theorem RegWork.of_act {i : Instr} {s t u : State} (row : exec i s = .next t) (su : RegWork s u)
    (effect : exec i s = act i s u) : RegWork s t := by
  rcases next_of_act row effect with rfl | rfl
  · exact su.withQueueOf ▸ su
  · exact (RingWork.refl t).reg

/-- Settles O54: one write of four bytes keeps every ring that is enabled, and the first of the two that a write of
eight bytes
makes changes what is enabled only where the second holds nothing. -/
theorem baseLockedWhileEnabled : Obligations.BaseLockedWhileEnabled := by
  intro h k off size v s t row
  have work : RegWork s t := .of_act row ((RingWork.linkWake s h).then (.regWrite _ h off size v)) rfl
  obtain ⟨sq, cq, ev⟩ := work.locked k
  exact ⟨fun n _ => sq n, fun n _ => cq n, ev⟩

/-- Settles O55: each row's effect is work on the rings, or the write of a ring's control register. -/
theorem ringRowsKeepUnits : Obligations.RingRowsKeepUnits := by
  rintro i s t ⟨h, n, v, rows⟩ row
  suffices work : SameUnits s t from ⟨work.units, work.flights, work.staged, work.mortar⟩
  have awake := RingWork.linkWake s h
  rcases rows with ⟨env, rfl⟩ | rfl | rfl | rfl | rfl | rfl | rfl | rfl | rfl | ⟨w, rfl⟩ | ⟨off, size, w, rfl⟩ | rfl | rfl
  · exact .of_act row (((RingWork.hostUpdate s env).trans (.linkWake _ h)).trans (.sqDoorbell _ h n v)).toSameUnits rfl
  · exact .of_act row (awake.trans (.cqDoorbell _ h n v)).toSameUnits rfl
  · exact .of_act row (awake.trans (.evDoorbell _ h v)).toSameUnits rfl
  · exact .of_act row (awake.then (.writeSqCtl _ h n _)).toSameUnits rfl
  · exact .of_act row (awake.then (.writeSqCtl _ h n _)).toSameUnits rfl
  · exact .of_act row (awake.then (.writeCqCtl _ h n _)).toSameUnits rfl
  · exact .of_act row (awake.then (.writeCqCtl _ h n _)).toSameUnits rfl
  · exact .of_act row (awake.then (.writeEvCtl _ h _)).toSameUnits rfl
  · exact .of_act row (awake.then (.writeEvCtl _ h _)).toSameUnits rfl
  · cases w with
    | vector m mask => exact .of_act row (RingWork.writeMsix s h m 3 _).toSameUnits rfl
    | control en fm => exact .of_act row ((RingWork.modEp s h _).trans (.flushMsix _ h)).toSameUnits rfl
  · exact .of_act row (awake.then (.regWrite _ h off size w)).toSameUnits rfl
  · refine .of_act row (RingWork.modSq ?_).toSameUnits rfl
    split <;> rfl
  · refine .of_act row (RingWork.ite (fun _ => ?_) fun _ => .refl s).toSameUnits rfl
    exact .trans (.modCq rfl) (.signal _ h _)

end Sys2Proof.Machine
end

section
/-! How a command starts and reports, and what that leaves as it is (R40, R41, R47 to R50, R62). -/

namespace Sys2Proof.Machine

open Sys2Proof.Safety

/-- The work of starting and reporting the command of a serial: no unit changes, and no other command in flight. -/
structure ReportWork (n : Nat) (s t : State) : Prop where
  units : unitFrame t = unitFrame s
  others : othersInFlight n t = othersInFlight n s

theorem ReportWork.refl (n : Nat) (s : State) : ReportWork n s s := ⟨rfl, rfl⟩

theorem ReportWork.trans {n : Nat} {s t u : State} (st : ReportWork n s t) (tu : ReportWork n t u) : ReportWork n s u :=
  ⟨tu.units.trans st.units, tu.others.trans st.others⟩

theorem ReportWork.ite {n : Nat} {s t u : State} {p : Prop} [Decidable p] (yes : p → ReportWork n s t)
    (no : ¬p → ReportWork n s u) : ReportWork n s (if p then t else u) := by
  split
  · exact yes ‹_›
  · exact no ‹_›

theorem ReportWork.staged {n : Nat} {s t : State} (st : ReportWork n s t) : t.staged = s.staged :=
  show (unitFrame t).staged = (unitFrame s).staged by rw [st.units]

/-- Work that leaves the commands in flight as they are. -/
theorem ReportWork.of_flights {n : Nat} {s t : State} (units : unitFrame t = unitFrame s) (flights : t.flights = s.flights) :
    ReportWork n s t :=
  ⟨units, by simp only [othersInFlight, flights]⟩

theorem SameUnits.report {s t : State} (st : SameUnits s t) (n : Nat) : ReportWork n s t := .of_flights st.units st.flights

theorem RingWork.report {s t : State} (st : RingWork s t) (n : Nat) : ReportWork n s t := st.toSameUnits.report n

/-! Starting a command. -/

/-- A change of flights that keeps their serials, and of other commands at most what they note of a predecessor. -/
theorem othersInFlight_map (n : Nat) (s : State) (f : Flight → Flight) (serial : ∀ x, (f x).cmd.serial = x.cmd.serial)
    (other : ∀ x, x.cmd.serial ≠ n → { f x with predOutcome := none } = { x with predOutcome := none }) :
    othersInFlight n { s with flights := s.flights.map f } = othersInFlight n s := by
  simp only [othersInFlight]
  induction s.flights with
  | nil => rfl
  | cons x xs ih =>
    by_cases own : x.cmd.serial = n
    · simpa [serial, own] using ih
    · simp only [List.map_cons, List.filter_cons, serial, own, ne_eq, not_false_iff, decide_true, if_true, other x own, ih]

/-- A change of the command's own flight, which keeps its serial. -/
theorem ReportWork.modFlight (s : State) (n : Nat) (f : Flight → Flight) (keeps : ∀ x, (f x).cmd.serial = x.cmd.serial) :
    ReportWork n s (modFlight s n f) := by
  refine ⟨rfl, othersInFlight_map n s _ (fun x => ?_) fun x other => ?_⟩
  · split
    · exact keeps x
    · rfl
  · rw [if_neg (by simpa [isFlight] using other)]

theorem ReportWork.enterFlight (s : State) (c : Cmd) (op : Op) (h : Half) (slots cq : Nat) :
    ReportWork c.serial s (enterFlight s c op h slots cq) :=
  ⟨rfl, by simp [othersInFlight, Machine.enterFlight]⟩

theorem ReportWork.numberTaken (n : Nat) (s : State) : ReportWork n s (numberTaken s) := .of_flights rfl rfl

theorem ReportWork.tell (n : Nat) (s : State) (r : MirrorRec) : ReportWork n s (tell s r) :=
  .ite (fun _ => .of_flights rfl rfl) fun _ => .refl n s

theorem ReportWork.hold (n : Nat) (s : State) (r : HeldReport) : ReportWork n s (hold s r) := .of_flights rfl rfl

theorem ReportWork.mortarQueue (n : Nat) (s : State) (h : Half) (m : Msg) : ReportWork n s (mortarQueue s h m) :=
  .of_flights rfl rfl

theorem unitFrame_modIsland (s : State) (h : Half) (i : IslandId) (f : Island → Island) :
    unitFrame (modIsland s h i f) = unitFrame s := by
  rw [modIsland]
  split
  · cases h <;> rfl
  · rfl

theorem unitFrame_countWake (s : State) (h : Half) (c : Nat) : unitFrame (countWake s h c) = unitFrame s := by
  rw [countWake]
  split
  · cases h <;> rfl
  · rfl

theorem ReportWork.islandOn (n : Nat) (s : State) (h : Half) (i : IslandId) : ReportWork n s (islandOn s h i) :=
  .of_flights ((unitFrame_countWake ..).trans (unitFrame_modIsland ..)) (islandOn_flights ..)

theorem ReportWork.wakeFor (n : Nat) (op : Op) (c : Cmd) (h : Half) (s : State) : ReportWork n s (wakeFor op c h s) := by
  rcases wakeFor_cases op c h s with same | ⟨i, woken⟩
  · rw [same]
    exact .refl n s
  · rw [woken]
    exact .islandOn n s h i

theorem ReportWork.acceptFlight (s : State) (c : Cmd) (op : Op) : ReportWork c.serial s (acceptFlight s c op) :=
  .ite (fun _ => .trans (.modFlight s c.serial _ (by intro; rfl)) (.tell ..)) fun _ => .refl _ s

theorem ReportWork.entered (op : Op) (c : Cmd) (h : Half) (s : State) : ReportWork c.serial s (entered op c h s) :=
  (ReportWork.enterFlight ..).trans (.acceptFlight ..)

theorem ReportWork.started (op : Op) (c : Cmd) (h : Half) (s : State) : ReportWork s.nextSerial s (started op c h s) :=
  .trans (.trans ((ReportWork.numberTaken _ s).trans (.entered op (submitted s c) h _))
    (.modFlight _ (submitted s c).serial _ (by intro; rfl))) (.wakeFor ..)

/-! Reporting. -/

theorem ReportWork.noteOutcome (n : Nat) (s : State) (recv : Half) (sq : BitVec 5) (order : Nat) (good : Bool) :
    ReportWork n s (noteOutcome s recv sq order good) := by
  refine .trans (t := { s with flights := s.flights.map fun x =>
    if x.cmd.recv = recv ∧ x.cmd.sq = sq ∧ x.cmd.order = order + 1 ∧ !x.dropped then { x with predOutcome := some good }
    else x }) ⟨rfl, othersInFlight_map n s _ (fun x => ?_) fun x _ => ?_⟩
    (.ite (fun _ => (SameUnits.modCmd ..).report n) fun _ => .refl n _)
  · split <;> rfl
  · split <;> rfl

theorem ReportWork.tagOutcome (n : Nat) (s : State) (cq : Nat) (c : Completion) (own : BitVec 16) :
    ReportWork n s (tagOutcome s cq c own) := by
  refine .trans (t := modPair s fun p =>
    if c.status = stLost then { p with lost := satInc p.lost } else { p with replayed := satInc p.replayed }) ?_
    (.ite (fun _ => (RingWork.postTo ..).report n) fun _ => (RingWork.event ..).report n)
  by_cases lost : c.status = stLost
  · simp only [modPair, lost, if_true]
    exact .of_flights rfl rfl
  · simp only [modPair, lost, if_false]
    exact .of_flights rfl rfl

theorem ReportWork.retire (s : State) (n : Nat) : ReportWork n s (retire s n) := by
  rw [Machine.retire]
  split
  · refine .trans (t := { s with flights := s.flights.filter fun x => !isFlight n x }) ⟨rfl, ?_⟩
      ((RingWork.releaseSlots ..).report n)
    simp only [othersInFlight, isFlight, List.filter_filter]
    congr 2
    funext x
    simp
  · exact .refl n s

theorem ReportWork.logCompletion (n : Nat) (s : State) (h : Half) (c : Completion) : ReportWork n s (logCompletion s h c) :=
  (RingWork.logCompletion s h c).report n

/-- The reserved slot of a completion that is delivered. -/
theorem ReportWork.useSlot (s : State) (c : Completion) (f : Flight) :
    ReportWork c.serial s (if f.slots = 0 then s else
      modCq (Machine.modFlight s c.serial fun f => { f with slots := f.slots - 1 }) c.recv f.cq fun r =>
        { r with reserved := r.reserved - 1 }) :=
  .ite (fun _ => .refl _ s) fun _ =>
    .trans (.modFlight s c.serial _ (by intro; rfl)) ((RingWork.modCq rfl).report _)

theorem ReportWork.deliver (s : State) (c : Completion) : ReportWork c.serial s (deliver s c) := by
  rw [Machine.deliver]
  split
  next f _ =>
    refine .ite (fun _ => .refl _ s) fun _ => .trans (.useSlot s c f) ?_
    have posted : ∀ (u : State) (p q r : Prop) [Decidable p] [Decidable q] [Decidable r] (m : MirrorRec) (x : Completion)
        (own : BitVec 16) (good : Bool),
        ReportWork c.serial u
          (let s2 := if p then Machine.tagOutcome u f.cq x own else postTo u f.cq c
           let s3 := if q then Machine.tell s2 m else s2
           if r then s3 else Machine.noteOutcome (Machine.modFlight s3 c.serial fun f => { f with firstDone := true })
             c.recv c.sq f.cmd.order good) := by
      intro u p q r _ _ _ m x own good
      have outcome : ReportWork c.serial u (if p then Machine.tagOutcome u f.cq x own else postTo u f.cq c) :=
        .ite (fun _ => .tagOutcome ..) fun _ => (RingWork.postTo ..).report _
      have told := outcome.trans (.ite (p := q) (fun _ => .tell _ _ m) fun _ => .refl _ _)
      exact told.trans (.ite (fun _ => .refl _ _) fun _ =>
        .trans (.modFlight _ c.serial _ (by intro; rfl)) (.noteOutcome ..))
    exact posted _ _ _ _ _ _ _ _
  next => exact .refl _ s

theorem ReportWork.sendReport (s : State) (h : Half) (c : Completion) (last : Bool) :
    ReportWork c.serial s (sendReport s h c last) := by
  have sent : ReportWork c.serial s (if c.recv = h then Machine.deliver s c else
      match flightOf s c.serial with
      | some f =>
        if f.orphan then Machine.logCompletion s h c
        else if f.dropped then s
        else if mortarUp s then Machine.mortarQueue s h (.completion c.recv c) else Machine.logCompletion s h c
      | none => Machine.logCompletion s h c) := by
    refine .ite (fun _ => .deliver s c) fun _ => ?_
    split
    · exact .ite (fun _ => .logCompletion ..) fun _ => .ite (fun _ => .refl _ s) fun _ =>
        .ite (fun _ => .mortarQueue ..) fun _ => .logCompletion ..
    · exact .logCompletion ..
  exact .ite (fun _ => sent.trans (.retire ..)) fun _ => sent

theorem ReportWork.reportLast (s : State) (h : Half) (c : Completion) (last : Bool) :
    ReportWork c.serial s (reportLast s h c last) :=
  .ite (fun _ => ((ReportWork.ite (fun _ => .tell ..) fun _ => .refl _ s).trans (.tell ..)).trans (.hold ..)) fun _ =>
    .sendReport s h c last

theorem ReportWork.portReport (n : Nat) (s : State) (h : Half) (c : Completion) : ReportWork n s (portReport s h c) :=
  .ite (fun _ => .of_flights rfl rfl) fun _ => .ite (fun _ => .mortarQueue ..) fun _ => .logCompletion ..

theorem ReportWork.complete (s : State) (c : Cmd) (h : Half) (st : BitVec 16) (rs : BitVec 8) (pi : BitVec 16)
    (r0 r1 r2 : Word) : ReportWork c.serial s (complete s c h st rs pi r0 r1 r2) :=
  .ite (fun _ => .portReport _ s h _) fun _ => .reportLast s h (mkCompletion c h st rs pi r0 r1 r2) true

/-- Settles O46: a command starts, answers and raises events by the operations above, each of which keeps the units. -/
theorem startAndAnswerKeepUnits : Obligations.StartAndAnswerKeepUnits :=
  ⟨fun op c h s => ⟨(ReportWork.started op c h s).units, started_staged .., started_hostMem ..⟩,
    fun c h s st rs pi r0 r1 r2 => ⟨(ReportWork.complete s c h st rs pi r0 r1 r2).units, rfl⟩,
    fun h e s => ⟨(RingWork.raise s h e).units, (RingWork.raise s h e).flights⟩⟩

end Sys2Proof.Machine
end

section
/-! Commands that are refused (R27, R33, R47 to R49, R461, R545): which check decides, and that nothing but the report
remains. -/

namespace Sys2Proof.Machine

open Sys2Proof.Safety

theorem ReportWork.reject (s : State) (c : Cmd) (r : Reply) : ReportWork c.serial s (reject s c r) := by
  cases r with
  | done st rs pi r0 r1 r2 =>
    exact (ReportWork.deliver s { mkCompletion c .A st rs pi r0 r1 r2 with exec := 0 }).trans (.retire _ c.serial)
  | deferred => exact .refl _ s
  | running => exact .refl _ s

/-- A command that fails an entry check is rejected with the first one's answer. -/
theorem carryOut_of_firstErr {op : Op} {c : Cmd} {s : State} {r : Reply} (f : Meaning)
    (failed : firstErr (tagChecks s c ++ shapeChecks op c) = some r) :
    carryOut op f c s =
      reject (enterFlight (numberTaken s) (submitted s c) op c.recv 0 (sqAt s c.recv c.sq.toNat).cqId.toNat)
        (submitted s c) r := by
  simp only [carryOut, firstErr_tagChecks_submitted, failed]
  rfl

/-- The row of a command that fails an entry check. -/
theorem acts_rowOf_of_firstErr {op : Op} {c : Cmd} {s : State} {r : Reply} (hr : ready (rowOf op c) s = true)
    (failed : firstErr (tagChecks s c ++ shapeChecks op c) = some r) :
    Acts (rowOf op c) s
      (reject (enterFlight (numberTaken s) (submitted s c) op c.recv 0 (sqAt s c.recv c.sq.toNat).cqId.toNat)
        (submitted s c) r) := by
  obtain ⟨f, row⟩ := exec_rowOf_eq_submit op c s
  exact acts_of _ _ _ _ hr row (carryOut_of_firstErr f failed)

/-- Settles O43: the checks stand in this order in the list, and the first that fails decides. -/
theorem firstFailingCheckCompletes : Obligations.FirstFailingCheckCompletes := by
  rintro op c k s u hr rfl rfl
  refine ⟨fun full => ?_, fun free live => ?_, fun free new => ⟨fun raw encode cont => ?_, fun plain bad => ?_⟩⟩ <;>
    refine acts_rowOf_of_firstErr hr ?_
  · simp [tagChecks, firstErr, full, err]
  · simp [tagChecks, firstErr, Nat.not_le.mpr free, Option.isSome_iff_ne_none.mpr live, errAt]
  · have stores : storeRawOk op = false := by
      unfold storeRawOk
      split
      · exact absurd rfl encode
      · exact absurd rfl cont
      · rfl
    simp [tagChecks, shapeChecks, firstErr, Nat.not_le.mpr free, new, raw, stores, errAt]
  · simp [tagChecks, shapeChecks, firstErr, Nat.not_le.mpr free, new, plain, bad, errAt]

/-- A rejected command's row does the work of a report. -/
theorem rejected_reportWork (op : Op) (c : Cmd) (s : State) (r : Reply) :
    ReportWork s.nextSerial s
      (reject (enterFlight (numberTaken s) (submitted s c) op c.recv 0 (sqAt s c.recv c.sq.toNat).cqId.toNat)
        (submitted s c) r) :=
  ((ReportWork.numberTaken _ s).trans (.enterFlight _ (submitted s c) ..)).trans (.reject _ (submitted s c) r)

/-- Settles O45: whichever check fails, the row rejects the command, and a rejection is the work of a report. -/
theorem rejectedCommandChangesNothing : Obligations.RejectedCommandChangesNothing := by
  intro op c s hr fails
  suffices rejected : ∃ r, Acts (rowOf op c) s
      (reject (enterFlight (numberTaken s) (submitted s c) op c.recv 0 (sqAt s c.recv c.sq.toNat).cqId.toNat)
        (submitted s c) r) by
    obtain ⟨r, acts⟩ := rejected
    have work := rejected_reportWork op c s r
    exact ⟨_, acts, work.units, work.staged, work.others⟩
  cases checks : firstErr (tagChecks s c ++ shapeChecks op c) with
  | some r => exact ⟨r, acts_rowOf_of_firstErr hr checks⟩
  | none =>
    have place : placeOf op c s = none := fails.resolve_left (not_not.mpr checks)
    obtain ⟨f, row⟩ := exec_rowOf_eq_submit op c s
    exact ⟨badTarget, acts_of _ _ _ _ hr row (carryOut_of_placeOf_eq_none f checks place)⟩

/-- Settles O47: the refusal comes before the command's meaning, so that what is left is its start and its answer. -/
theorem refusedAtStartChangesNothing : Obligations.RefusedAtStartChangesNothing := by
  intro op c h s hr checks place
  obtain ⟨f, row⟩ := exec_rowOf_eq_submit op c s
  have tags : firstErr (tagChecks (numberTaken s) (submitted s c) ++ shapeChecks op (submitted s c)) = none := checks
  have mirror : mirrorRefuses (numberTaken s) op (submitted s c) = mirrorRefuses s op (submitted s c) := rfl
  have placed : ∀ t, carryOut op f c s = t → Acts (rowOf op c) s t := fun t effect => acts_of _ _ _ _ hr row effect
  have entering := (ReportWork.numberTaken s.nextSerial s).trans (.entered op (submitted s c) h (numberTaken s))
  refine ⟨fun refuses => placed _ ?_, fun takes other down => ⟨_, placed _ ?_, ?_, rfl⟩,
    fun takes own resets => ⟨_, placed _ ?_, ?_, rfl⟩⟩
  · simp only [carryOut, tags, place, mirror, refuses, if_true]
    rfl
  · simp only [carryOut, tags, place, mirror, takes, Bool.false_eq_true, if_false]
    exact if_pos ⟨other, down⟩
  · exact ((entering.trans (.deliver _ (mkCompletion (submitted s c) h stLinkDown 0 0xFFFF 0 0 0))).trans (.retire _
_)).units
  · have reset := (islandResets_started op c h s).trans resets
    simp only [carryOut, tags, place, mirror, takes, Bool.false_eq_true, if_false]
    rw [if_neg (fun away => away.1 own), if_neg (fun away => away.1 own)]
    simp only [started] at reset
    simp only [start, reset, if_true]
    rfl
  · exact ((ReportWork.started op c h s).trans (.complete _ (submitted s c) ..)).units

end Sys2Proof.Machine
end

section
/-! Which command a half starts next (R51). -/

namespace Sys2Proof.Machine

open Sys2Proof.Safety

/-- The competitors of a half are looked through once each, from the one after the last start. -/
theorem exists_turn {k : Nat} (last : Nat) (hk : k < 64) : ∃ i < 64, (last + 1 + i) % 64 = k :=
  ⟨(k + 64 - (last + 1) % 64) % 64, Nat.mod_lt _ (by omega), by omega⟩

/-- Who competes for the next start of a half: every competitor whose oldest unstarted command can start. -/
theorem mem_rivals_iff {s : State} {h : Half} {k : Nat} {f : Flight} :
    (k, f) ∈ rivals s h ↔ k < 64 ∧ rivalHead s h k = some f ∧ startable s f = true := by
  simp only [rivals, List.mem_filterMap, List.mem_map, List.mem_range]
  constructor
  · rintro ⟨j, ⟨i, _, rfl⟩, head⟩
    split at head
    next g found =>
      split at head
      next can =>
        cases head
        exact ⟨Nat.mod_lt _ (by omega), found, can⟩
      next => cases head
    next => cases head
  · rintro ⟨hk, found, can⟩
    obtain ⟨i, hi, turn⟩ := exists_turn _ hk
    exact ⟨k, ⟨i, hi, turn⟩, by simp [found, can]⟩

/-- The highest priority in a list of competitors. -/
def topPriority (rs : List (Nat × Flight)) : Nat := rs.foldl (fun a r => max a r.2.cmd.priority.toNat) 0

theorem topPriority_eq (rs : List (Nat × Flight)) : topPriority rs =
    (rs.map fun r => r.2.cmd.priority.toNat).foldr max ⊥ := by
  rw [topPriority, ← List.foldl_eq_foldr, List.foldl_map]
  rfl

theorem le_topPriority {rs : List (Nat × Flight)} {r : Nat × Flight} (mem : r ∈ rs) :
    r.2.cmd.priority.toNat ≤ topPriority rs := by
  rw [topPriority_eq]
  exact List.le_max_of_le (List.mem_map_of_mem mem) le_rfl

theorem exists_topPriority {rs : List (Nat × Flight)} (some : rs ≠ []) :
    ∃ r ∈ rs, r.2.cmd.priority.toNat = topPriority rs := by
  have greatest := List.maximum_mem (List.foldr_max_of_ne_nil (l := rs.map fun r => r.2.cmd.priority.toNat) (by simpa)).symm
  simpa [topPriority_eq] using greatest

theorem chooseRival_eq (s : State) (h : Half) :
    chooseRival s h = ((rivals s h).find? fun r => decide (64 ≤ tget (half s h).cmd.passed r.1)).or
      ((rivals s h).find? fun r => decide (r.2.cmd.priority.toNat = topPriority (rivals s h))) := by
  simp only [chooseRival, topPriority]
  cases (rivals s h).find? fun r => decide (64 ≤ tget (half s h).cmd.passed r.1) <;> rfl

/-- Settles O52: the choice is among the competitors that can start; one overdue comes first, and else the highest
priority, which
some competitor has. -/
theorem priorityDecidesStarts : Obligations.PriorityDecidesStarts := by
  intro s h
  refine ⟨fun k f chosen => ?_, fun k f hk head can none => ?_⟩
  · obtain ⟨hk, head, can⟩ := mem_rivals_iff.mp (mem_rivals_of_chooseRival chosen)
    refine ⟨head, can, hk, ?_⟩
    rw [chooseRival_eq, Option.or_eq_some_iff] at chosen
    rcases chosen with overdue | ⟨fresh, top⟩
    · exact .inl (by simpa using List.find?_some overdue)
    · refine .inr fun j g hj head' can' => ?_
      have mem : (j, g) ∈ rivals s h := mem_rivals_iff.mpr ⟨hj, head', can'⟩
      have highest : f.cmd.priority.toNat = topPriority (rivals s h) := by simpa using List.find?_some top
      exact ⟨by simpa using List.find?_eq_none.mp fresh _ mem, highest ▸ le_topPriority mem⟩
  · have mem : (k, f) ∈ rivals s h := mem_rivals_iff.mpr ⟨hk, head, can⟩
    obtain ⟨r, mem', top⟩ := exists_topPriority (List.ne_nil_of_mem mem)
    rw [chooseRival_eq, Option.or_eq_none_iff] at none
    exact absurd top (by simpa using List.find?_eq_none.mp none.2 r mem')

end Sys2Proof.Machine
end

section
/-! The event log (R63, R66): what is logged, what the log keeps, and what is read of it. -/

namespace Sys2Proof.Machine

open Sys2Proof.Safety

/-- What a log keeps of the records that it was given. -/
def keptLog (l : List EventRec) : List EventRec := l.drop (l.length - 1024)

/-- Keeping the newest records again after further ones drops the same ones as keeping them once. -/
theorem keptLog_append (l more : List EventRec) : keptLog (keptLog l ++ more) = keptLog (l ++ more) := by
  have joined : keptLog l ++ more = (l ++ more).drop (l.length - 1024) :=
    (List.drop_append_of_le_length (Nat.sub_le ..)).symm
  rw [joined, keptLog, keptLog, List.drop_drop, List.length_drop, List.length_append]
  have dropped : l.length - 1024 + (l.length + more.length - (l.length - 1024) - 1024) = l.length + more.length - 1024 := by
    omega
  rw [dropped]

theorem length_keptLog (l : List EventRec) : (keptLog l).length = min l.length 1024 := by
  rw [keptLog, List.length_drop]
  omega

/-- The number of the record `a` places before the newest does not change as the next is logged. -/
theorem sub_ofNat_eq_succ (n : Word) (a : Nat) : n - BitVec.ofNat 32 a = n + 1 - BitVec.ofNat 32 (a + 1) := by
  bv_omega

/-- A log that is given its next record stays well formed. -/
theorem logWf_of_logged {x y : HalfCmd} {e : EventRec} (wf : LogWf x) (seq : e.seq = x.nextSeq)
    (log : y.log = keptLog (x.log ++ [e])) (next : y.nextSeq = x.nextSeq + 1) : LogWf y := by
  obtain ⟨short, numbered⟩ := wf
  refine ⟨by rw [log, length_keptLog]; exact Nat.min_le_right .., fun i f at_ => ?_⟩
  have length : y.log.length = min (x.log.length + 1) 1024 := by rw [log, length_keptLog, List.length_append]; rfl
  rw [log, keptLog, List.getElem?_drop, List.length_append, List.length_singleton] at at_
  rw [next, length]
  rcases Nat.lt_or_ge (x.log.length + 1 - 1024 + i) x.log.length with old | new
  · rw [List.getElem?_append_left old] at at_
    rw [numbered _ f at_, sub_ofNat_eq_succ]
    congr 2
    omega
  · rw [List.getElem?_append_right new] at at_
    obtain ⟨last, rfl⟩ : x.log.length + 1 - 1024 + i - x.log.length = 0 ∧ e = f := by
      rw [List.getElem?_singleton] at at_
      split at at_
      · exact ⟨‹_›, Option.some.inj at_⟩
      · cases at_
    have place : min (x.log.length + 1) 1024 - i = 1 := by omega
    rw [seq, place]
    bv_omega

/-- Work in which events are at most logged: no record is lost but the oldest, and FAULT stays set. -/
structure LogWork (s t : State) : Prop where
  logged : ∀ k, ∃ more : List EventRec, (half t k).cmd.nextSeq = (half s k).cmd.nextSeq + BitVec.ofNat 32 more.length ∧
    ∀ before, (half s k).cmd.log = keptLog before → (half t k).cmd.log = keptLog (before ++ more)
  wf : ∀ k, LogWf (half s k).cmd → LogWf (half t k).cmd
  fault : ∀ k, (half s k).ident.fault = true → (half t k).ident.fault = true

theorem LogWork.trans {s t u : State} (st : LogWork s t) (tu : LogWork t u) : LogWork s u := by
  refine ⟨fun k => ?_, fun k wf => tu.wf k (st.wf k wf), fun k on => tu.fault k (st.fault k on)⟩
  obtain ⟨more, next, log⟩ := st.logged k
  obtain ⟨more', next', log'⟩ := tu.logged k
  refine ⟨more ++ more', ?_, fun before start => ?_⟩
  · rw [next', next, List.length_append, BitVec.add_assoc, ← BitVec.ofNat_add]
  · rw [log' _ (log before start), List.append_assoc]

theorem LogWork.ite {s t u : State} {p : Prop} [Decidable p] (yes : p → LogWork s t) (no : ¬p → LogWork s u) :
    LogWork s (if p then t else u) := by
  split
  · exact yes ‹_›
  · exact no ‹_›

/-- Work that logs nothing. -/
theorem LogWork.of_same {s t : State} (log : ∀ k, (half t k).cmd.log = (half s k).cmd.log)
    (next : ∀ k, (half t k).cmd.nextSeq = (half s k).cmd.nextSeq)
    (fault : ∀ k, (half t k).ident.fault = (half s k).ident.fault) : LogWork s t :=
  ⟨fun k => ⟨[], by simp [next k], fun before start => by rw [log k, start, List.append_nil]⟩,
    fun k wf => by simpa only [LogWf, log k, next k] using wf, fun k on => (fault k).trans on⟩

theorem LogWork.refl (s : State) : LogWork s s := .of_same (fun _ => rfl) (fun _ => rfl) fun _ => rfl

theorem LogWork.modCmd {s : State} {h : Half} {f : HalfCmd → HalfCmd} (log : (f (half s h).cmd).log = (half s h).cmd.log)
    (next : (f (half s h).cmd).nextSeq = (half s h).cmd.nextSeq) : LogWork s (modCmd s h f) := by
  refine .of_same (fun k => ?_) (fun k => ?_) fun k => by simp
  all_goals
    rcases half_cases h k with rfl | rfl
    · simpa
    · simp

theorem LogWork.modEp (s : State) (h : Half) (f : Endpoint → Endpoint) : LogWork s (modEp s h f) :=
  .of_same (by simp) (by simp) (by simp)

theorem LogWork.hostMem (s : State) (m : Memory) : LogWork s { s with hostMem := m } := by
  refine .of_same (fun k => ?_) (fun k => ?_) fun k => ?_ <;> cases k <;> rfl

theorem LogWork.modSwap (s : State) (f : LiveSwap → LiveSwap) : LogWork s (modSwap s f) := by
  refine .of_same (fun k => ?_) (fun k => ?_) fun k => ?_ <;> cases k <;> rfl

theorem LogWork.mgmt (s : State) (m : MgmtPort) : LogWork s { s with mgmt := m } := by
  refine .of_same (fun k => ?_) (fun k => ?_) fun k => ?_ <;> cases k <;> rfl

theorem LogWork.linkWake (s : State) (h : Half) : LogWork s (linkWake s h) := by
  refine .of_same (by simp) (by simp) fun k => ?_
  simp only [Machine.linkWake]
  split
  · cases h <;> cases k <;> rfl
  · rfl

theorem LogWork.hostWrite {s t : State} {a : Nat} {bs : List Byte} (written : hostWrite s a bs = some t) : LogWork s t := by
  simp only [Machine.hostWrite] at written
  split at written
  · cases written
    exact .refl s
  · split at written
    · cases written
      exact .hostMem s _
    · cases written

theorem LogWork.sendMsix (s : State) (h : Half) (v : Nat) : LogWork s (sendMsix s h v) := by
  rw [Machine.sendMsix]
  refine .trans ?_ (.modEp _ h _)
  cases written : Machine.hostWrite (Machine.linkWake s h) (tget (half s h).ep.msix v).addr.toNat
    (leBytes 4 (tget (half s h).ep.msix v).data.toNat) with
  | none => exact .refl s
  | some t => exact (LogWork.linkWake s h).trans (.hostWrite written)

theorem LogWork.signal (s : State) (h : Half) (v : Nat) : LogWork s (signal s h v) :=
  .ite (fun _ => .refl s) fun _ => .ite (fun _ => .modEp s h _) fun _ => .sendMsix s h v

theorem logEvent_log (s : State) (h : Half) (e : EventRec) :
    (half (logEvent s h e).2 h).cmd.log = keptLog ((half s h).cmd.log ++ [{ e with seq := (half s h).cmd.nextSeq }]) := by
  simp only [logEvent, keptLog]
  split <;> simp

theorem logEvent_nextSeq (s : State) (h : Half) (e : EventRec) :
    (half (logEvent s h e).2 h).cmd.nextSeq = (half s h).cmd.nextSeq + 1 := by
  simp only [logEvent]
  split <;> simp

theorem logEvent_fault {s : State} {h : Half} {e : EventRec} (severe : e.severity = 3) :
    (half (logEvent s h e).2 h).ident.fault = true := by
  simp [logEvent, severe]

theorem logEvent_otherHalf_cmd (s : State) (h : Half) (e : EventRec) :
    (half (logEvent s h e).2 (otherHalf h)).cmd = (half s (otherHalf h)).cmd := by
  simp only [logEvent]
  split <;> simp

theorem LogWork.logEvent (s : State) (h : Half) (e : EventRec) : LogWork s (logEvent s h e).2 := by
  refine ⟨fun k => ?_, fun k wf => ?_, fun k on => ?_⟩
  · rcases half_cases h k with rfl | rfl
    · refine ⟨[{ e with seq := (half s k).cmd.nextSeq }], logEvent_nextSeq s k e, fun before start => ?_⟩
      rw [logEvent_log, start, keptLog_append]
    · exact ⟨[], by simp [logEvent_otherHalf_cmd], fun before start => by simpa [logEvent_otherHalf_cmd] using start⟩
  · rcases half_cases h k with rfl | rfl
    · exact logWf_of_logged (e := { e with seq := (half s k).cmd.nextSeq }) wf rfl (logEvent_log s k e)
        (logEvent_nextSeq s k e)
    · rwa [logEvent_otherHalf_cmd]
  · simp only [Machine.logEvent]
    split
    · rcases half_cases h k with rfl | rfl <;> simp [on]
    · simpa using on

theorem LogWork.pushRecord (s : State) (p : Half) (e : EventRec) : LogWork s (pushRecord s p e) := by
  simp only [Machine.pushRecord]
  split
  next s1 written =>
    have moved := (LogWork.linkWake s p).trans (.hostWrite written)
    exact .ite (fun _ => (moved.trans (.modCmd rfl rfl)).trans (.signal _ p _)) fun _ => moved.trans (.modCmd rfl rfl)
  next => exact .trans (.modCmd rfl rfl) (.logEvent _ p _)

theorem LogWork.pushOverflow (s : State) (p : Half) : LogWork s (pushOverflow s p) := by
  simp only [Machine.pushOverflow]
  exact .ite (fun _ => .trans (.logEvent s p _) (.trans (.modCmd rfl rfl) (.pushRecord _ p _))) fun _ => .refl s

theorem LogWork.ringEvent (s : State) (p : Half) (e : EventRec) : LogWork s (ringEvent s p e) := by
  simp only [Machine.ringEvent]
  refine .ite (fun _ => .modSwap s _) fun _ => .trans (.pushOverflow s p) ?_
  exact .ite (fun _ => .refl _) fun _ => .ite (fun _ => .modCmd rfl rfl) fun _ => .pushRecord _ p e

/-- What raising an event does after it has logged it. -/
theorem LogWork.raise (s : State) (h : Half) (e : EventRec) : LogWork (Machine.logEvent s h e).2 (raise s h e) := by
  simp only [Machine.raise]
  have rung : ∀ (u : State) (c : Bool) (p : Half) (e' : EventRec), LogWork u (if c then Machine.ringEvent u p e' else u) :=
    fun u c p e' => .ite (fun _ => .ringEvent u p e') fun _ => .refl u
  have told : ∀ (u : State) (c : Bool) (m : MgmtPort), LogWork u (if c then { u with mgmt := m } else u) :=
    fun u c m => .ite (fun _ => .mgmt u m) fun _ => .refl u
  have pme : ∀ (u : State) (c : Bool), LogWork u (if c then Machine.modEp u h (fun p => { p with pmeSent :=
    true }) else u) :=
    fun u c => .ite (fun _ => .modEp u h _) fun _ => .refl u
  exact ((rung _ _ _ _).trans (told _ _ _)).trans (pme _ _)

/-- Settles O49: raising an event logs it first, and what follows at most logs records of the ring's own service. -/
theorem eventLogged : Obligations.EventLogged := by
  rintro s t h e rfl
  have after := LogWork.raise s h e
  refine ⟨?_, fun k wf => after.wf k ((LogWork.logEvent s h e).wf k wf), fun severe => after.fault h (logEvent_fault severe)⟩
  obtain ⟨more, next, log⟩ := after.logged h
  refine ⟨more, fun l whole => ⟨?_, ?_⟩⟩
  · rw [log _ (logEvent_log s h e), whole, List.append_assoc]
    rfl
  · rw [next, logEvent_nextSeq, BitVec.add_assoc, BitVec.ofNat_add]
    rfl

end Sys2Proof.Machine
end

section
/-! What DEV_READ_EVENT_LOG copies of a log (R66). -/

namespace Sys2Proof.Machine

open Sys2Proof.Safety

/-- The record at a place of a well-formed log, numbered from the newest. -/
theorem seq_of_logWf {x : HalfCmd} {i : Nat} {e : EventRec} (wf : LogWf x) (at_ : x.log[i]? = some e) :
    e.seq = x.nextSeq - BitVec.ofNat 32 (x.log.length - i) := wf.2 i e at_

/-- Counted from the newest record back, or from the first asked for onwards, a record has the same number. -/
theorem sub_ofNat_eq_add {next first d : Word} {i k : Nat} (gap : d = next - 1 - first) (split : d.toNat + 1 = i + k) :
    next - BitVec.ofNat 32 k = first + BitVec.ofNat 32 i := by
  have whole := congrArg (BitVec.ofNat 32) split
  simp only [BitVec.ofNat_add, BitVec.ofNat_toNat, BitVec.setWidth_eq] at whole
  generalize BitVec.ofNat 32 i = a at *
  generalize BitVec.ofNat 32 k = b at *
  bv_omega

/-- Counted from the oldest record onwards, a record has the same number. -/
theorem sub_ofNat_eq_oldest {next : Word} {i k n : Nat} (split : n = i + k) :
    next - BitVec.ofNat 32 k = next - BitVec.ofNat 32 n + BitVec.ofNat 32 i := by
  rw [split, BitVec.ofNat_add]
  generalize BitVec.ofNat 32 i = a at *
  generalize BitVec.ofNat 32 k = b at *
  bv_omega

/-- Settles O50: the copy drops what stands before FIRST_SEQ, and the number of each record follows from its place in
the log. -/
theorem eventLogRead : Obligations.EventLogRead := by
  rintro x first d count wf gap
  have far : ∀ n : Nat, n = x.log.length → (n = 0 ∨ 2 ^ 31 ≤ d.toNat → logFrom x first count = []) := by
    rintro n rfl stops
    rw [logFrom, ← gap]
    exact if_pos stops
  have copied : x.log.length ≠ 0 → d.toNat < 2 ^ 31 →
      logFrom x first count = (x.log.drop
        (if d.toNat < x.log.length then x.log.length - 1 - d.toNat else 0)).take count := by
    intro some near
    rw [logFrom, ← gap]
    exact if_neg (not_or.mpr ⟨some, Nat.not_le.mpr near⟩)
  refine ⟨fun empty => far 0 (by simp [empty]) (.inl rfl), fun ahead => far _ rfl (.inr ahead), fun held => ?_,
    fun older near => ?_⟩
  · have short := wf.1
    have copy := copied (by omega) (by omega)
    rw [if_pos held] at copy
    refine ⟨by rw [copy, List.length_take, List.length_drop]; omega, fun i e at_ => ?_⟩
    rw [copy, List.getElem?_take] at at_
    split at at_
    next =>
      rw [List.getElem?_drop] at at_
      have place := (List.getElem?_eq_some_iff.mp at_).1
      refine ⟨?_, List.mem_of_getElem? at_⟩
      rw [seq_of_logWf wf at_]
      exact sub_ofNat_eq_add gap (by omega)
    next => cases at_
  · have copy : logFrom x first count = x.log.take count := by
      by_cases empty : x.log = []
      · rw [far 0 (by simp [empty]) (.inl rfl), empty, List.take_nil]
      · rw [copied (by simpa using empty) near, if_neg (Nat.not_lt.mpr older), List.drop_zero]
    refine ⟨copy, fun i e at_ => ?_⟩
    rw [copy, List.getElem?_take] at at_
    split at at_
    next =>
      have place := (List.getElem?_eq_some_iff.mp at_).1
      have some : x.log.isEmpty = false := by
        cases log : x.log with
        | nil => simp [log] at place
        | cons => rfl
      rw [seq_of_logWf wf at_, oldestSeq, some]
      exact sub_ofNat_eq_oldest (by omega)
    next => cases at_

end Sys2Proof.Machine
end

section
/-! How a completion entry is written (R40, R41, R50). -/

namespace Sys2Proof.Machine

open Sys2Proof.Safety

theorem length_leBytes (n v : Nat) : (leBytes n v).length = n := by
  induction n generalizing v with
  | zero => rfl
  | succ n ih => simp [leBytes, ih]

theorem length_dwordBytes (ws : List Word) : (dwordBytes ws).length = 4 * ws.length := by
  simp [dwordBytes, List.length_flatten, Function.comp_def, length_leBytes]
  omega

/-- A read of a range sees its bytes alone. -/
theorem Memory.readBytes_congr {m m' : Memory} {d : Byte} {a n : Nat}
    (same : ∀ x, a ≤ x → x < a + n → m'.read d x = m.read d x) : m'.readBytes d a n = m.readBytes d a n := by
  induction n generalizing a with
  | zero => rfl
  | succ n ih =>
    rw [Memory.readBytes, Memory.readBytes, same a (by omega) (by omega), ih fun x low high => same x (by omega) (by omega)]

/-! The message that signals an entry. -/

@[simp] theorem linkWake_hostMem (s : State) (h : Half) : (linkWake s h).hostMem = s.hostMem := by
  simp only [linkWake]
  split
  · simp
  · rfl

@[simp] theorem linkWake_hostBad (s : State) (h : Half) : (linkWake s h).hostBad = s.hostBad := by
  simp only [linkWake]
  split
  · simp
  · rfl

@[simp] theorem linkWake_pair (s : State) (h : Half) : (linkWake s h).pair = s.pair := by
  simp only [linkWake]
  split
  · simp
  · rfl

@[simp] theorem linkWake_msix (s : State) (h : Half) : (half (linkWake s h) h).ep.msix = (half s h).ep.msix := by
  simp only [linkWake]
  split
  · simp
  · rfl

theorem hostWrite_cmd {s t : State} {a : Nat} {bs : List Byte} (written : hostWrite s a bs = some t) (k : Half) :
    (half t k).cmd = (half s k).cmd := by
  rcases hostWrite_some s t a bs written with ⟨_, rfl⟩ | ⟨_, _, rfl⟩
  · rfl
  · cases k <;> rfl

theorem sendMsix_cmd (s : State) (h : Half) (v : Nat) (k : Half) : (half (sendMsix s h v) k).cmd = (half s k).cmd := by
  simp only [sendMsix, modEp_half_cmd]
  cases written : hostWrite (linkWake s h) (tget (half s h).ep.msix v).addr.toNat
    (leBytes 4 (tget (half s h).ep.msix v).data.toNat) with
  | none => rfl
  | some t => simpa using hostWrite_cmd written k

theorem signal_cmd (s : State) (h : Half) (v : Nat) (k : Half) : (half (signal s h v) k).cmd = (half s k).cmd := by
  simp only [signal]
  split
  · rfl
  · split
    · simp
    · exact sendMsix_cmd s h v k

theorem sendMsix_hostMem (s : State) (h : Half) (v : Nat) :
    (sendMsix s h v).hostMem = s.hostMem ∨ ∃ bs : List Byte, bs.length = 4 ∧
      (sendMsix s h v).hostMem = s.hostMem.writeBytes hostDefault (tget (half s h).ep.msix v).addr.toNat bs := by
  simp only [sendMsix, modEp_hostMem]
  cases written : hostWrite (linkWake s h) (tget (half s h).ep.msix v).addr.toNat
    (leBytes 4 (tget (half s h).ep.msix v).data.toNat) with
  | none => exact .inl rfl
  | some t =>
    rcases hostWrite_some _ _ _ _ written with ⟨_, rfl⟩ | ⟨_, _, rfl⟩
    · exact .inl (linkWake_hostMem s h)
    · exact .inr ⟨leBytes 4 (tget (half s h).ep.msix v).data.toNat, length_leBytes 4 _, by
        rw [Option.getD_some, linkWake_hostMem]⟩

theorem signal_hostMem (s : State) (h : Half) (v : Nat) :
    (signal s h v).hostMem = s.hostMem ∨ ∃ bs : List Byte, bs.length = 4 ∧
      (signal s h v).hostMem = s.hostMem.writeBytes hostDefault (tget (half s h).ep.msix v).addr.toNat bs := by
  simp only [signal]
  split
  · exact .inl rfl
  · split
    · exact .inl (by simp)
    · exact sendMsix_hostMem s h v

/-! The entry itself. -/

/-- Two changes of a completion ring that agree on the ring as it stands are the same change. -/
theorem modCq_congr {s : State} {h : Half} {n : Nat} {f g : CqRec → CqRec} (same : f (cqAt s h n) = g (cqAt s h n)) :
    modCq s h n f = modCq s h n g := by
  simp only [cqAt] at same
  simp only [modCq, modCmd, modHalf, tmod, same]

/-- Where in host memory a completion ring's next entry stands. -/
def entryPlace (r : CqRec) : Nat := r.base.toNat + 32 * r.tail.toNat

/-- A ring's next entry for a completion, as its 32 bytes. -/
def entryBytes (s : State) (h : Half) (n : Nat) (c : Completion) : List Byte :=
  dwordBytes (completionBytes c (cqAt s h n).phase (sqAt s h c.sq.toNat).head.toNat)

/-- A completion ring that has moved on by one entry. -/
def movedOn (r : CqRec) (unsignalled : Nat) : CqRec :=
  { r with
    tail := ringNext r.sizeLog2 r.tail, phase := if ringNext r.sizeLog2 r.tail = 0 then !r.phase else r.phase
    unsignalled }

/-- The state with the entry in host memory. -/
def entryStored (s : State) (h : Half) (n : Nat) (c : Completion) : State :=
  let u := linkWake s h
  { u with hostMem := u.hostMem.writeBytes hostDefault (entryPlace (cqAt s h n)) (entryBytes s h n c) }

/-- The state once the entry is in host memory and its ring has moved on, before it is signalled. -/
def entryWritten (s : State) (h : Half) (n : Nat) (c : Completion) (unsignalled : Nat) : State :=
  modCq (entryStored s h n c) h n fun _ => movedOn (cqAt s h n) unsignalled

/-- Host memory is apart from the halves. -/
theorem half_hostMem (s : State) (m : Memory) (k : Half) : half { s with hostMem := m } k = half s k := by
  cases k <;> rfl

/-- A write that host memory can take, of a device that is not fenced. -/
theorem hostWrite_of_ok {s : State} {a : Nat} {bs : List Byte} (free : s.pair.fenced = false)
    (ok : hostOk s a bs.length = true) :
    hostWrite s a bs = some { s with hostMem := s.hostMem.writeBytes hostDefault a bs } := by
  simp [hostWrite, free, ok]

theorem entryStored_half (s : State) (h : Half) (n : Nat) (c : Completion) (k : Half) :
    half (entryStored s h n c) k = half (linkWake s h) k := half_hostMem ..

theorem entryStored_cmd (s : State) (h : Half) (n : Nat) (c : Completion) (k : Half) :
    (half (entryStored s h n c) k).cmd = (half s k).cmd := by
  rw [entryStored_half, linkWake_half_cmd]

theorem cqAt_entryStored (s : State) (h : Half) (n : Nat) (c : Completion) :
    cqAt (entryStored s h n c) h n = cqAt s h n := by
  rw [cqAt, entryStored_cmd, cqAt]

theorem cqAt_entryWritten {s : State} {h : Half} {n : Nat} (c : Completion) (u : Nat) (hn : n < 32) :
    cqAt (entryWritten s h n c u) h n = movedOn (cqAt s h n) u := by
  simp only [entryWritten, modCq, cqAt, modCmd_half_cmd, tget_tmod_same _ _ _ hn]

theorem entryWritten_hostMem (s : State) (h : Half) (n : Nat) (c : Completion) (u : Nat) :
    (entryWritten s h n c u).hostMem =
      s.hostMem.writeBytes hostDefault (entryPlace (cqAt s h n)) (entryBytes s h n c) := by
  simp [entryWritten, modCq, entryStored]

theorem entryWritten_msix (s : State) (h : Half) (n : Nat) (c : Completion) (u : Nat) :
    (half (entryWritten s h n c u) h).ep.msix = (half s h).ep.msix := by
  simp only [entryWritten, modCq, modCmd_half_ep, entryStored_half, linkWake_msix]

theorem length_entryBytes (s : State) (h : Half) (n : Nat) (c : Completion) : (entryBytes s h n c).length = 32 :=
  length_dwordBytes _

/-- Host memory that can take the entry takes it. -/
theorem hostWrite_entry {s : State} {h : Half} {n : Nat} (c : Completion) (free : s.pair.fenced = false)
    (ok : hostOk s (entryPlace (cqAt s h n)) 32 = true) :
    hostWrite (linkWake s h) (entryPlace (cqAt s h n)) (entryBytes s h n c) = some (entryStored s h n c) := by
  have room : hostOk (linkWake s h) (entryPlace (cqAt s h n)) (entryBytes s h n c).length = true := by
    rw [length_entryBytes]
    simpa [hostOk] using ok
  exact hostWrite_of_ok (by rwa [linkWake_pair]) room

/-- Where host memory takes the entry, it is written and then, where it is due, signalled. -/
theorem writeCompletion_cases {s : State} {h : Half} {n : Nat} (c : Completion) (free : s.pair.fenced = false)
    (ok : hostOk s (entryPlace (cqAt s h n)) 32 = true) :
    ∃ u, writeCompletion s h n c = entryWritten s h n c u ∨
      writeCompletion s h n c = signal (entryWritten s h n c u) h (cqAt s h n).vector.toNat := by
  have written := hostWrite_entry c free ok
  have moved : ∀ u, entryWritten s h n c u = modCq (entryStored s h n c) h n fun r => { r with
      tail := ringNext (cqAt s h n).sizeLog2 (cqAt s h n).tail
      phase := if ringNext (cqAt s h n).sizeLog2 (cqAt s h n).tail = 0 then !r.phase else r.phase
      unsignalled := u } := by
    intro u
    refine modCq_congr ?_
    rw [cqAt_entryStored]
    rfl
  simp only [entryPlace, entryBytes] at written
  simp only [writeCompletion, written, ← moved]
  split
  · exact ⟨_, .inr rfl⟩
  · exact ⟨_, .inl rfl⟩

/-- Settles O48: the entry is written and its ring moves on; the message that may follow writes its own four bytes. -/
theorem completionEntryWritten : Obligations.CompletionEntryWritten := by
  rintro s t h n a c r e wf free hn rfl rfl ok rfl rfl
  obtain ⟨u, done⟩ := writeCompletion_cases c free ok
  have wrote := entryWritten_hostMem s h n c u
  have cq : cqAt (writeCompletion s h n c) h n = cqAt (entryWritten s h n c u) h n := by
    rcases done with done | done
    · rw [done]
    · rw [done, cqAt, signal_cmd]
      rfl
  have mem : (writeCompletion s h n c).hostMem = (entryWritten s h n c u).hostMem ∨ ∃ bs : List Byte, bs.length = 4 ∧
      (writeCompletion s h n c).hostMem = (entryWritten s h n c u).hostMem.writeBytes hostDefault
        (tget (half s h).ep.msix (cqAt s h n).vector.toNat).addr.toNat bs := by
    rcases done with done | done
    · exact .inl (by rw [done])
    · rw [done, ← entryWritten_msix s h n c u]
      exact signal_hostMem ..
  have wf' : (entryWritten s h n c u).hostMem.wf hostDefault = true := by
    rw [wrote]
    exact Memory.writeBytes_wf _ _ _ _ wf
  have length := length_entryBytes s h n c
  have moved : cqAt (writeCompletion s h n c) h n = movedOn (cqAt s h n) u := cq.trans (cqAt_entryWritten c u hn)
  refine ⟨fun apart => ?_, fun x out far => ?_, ?_, ?_, ?_, (RingWork.writeCompletion s h n c).units⟩
  · have entry : (entryWritten s h n c u).hostMem.readBytes hostDefault (entryPlace
      (cqAt s h n)) 32 = entryBytes s h n c := by
      rw [wrote, ← length]
      exact Memory.readBytes_writeBytes _ _ _ _ wf
    refine Eq.trans (Memory.readBytes_congr fun x low high => ?_) entry
    rcases mem with mem | ⟨bs, four, mem⟩
    · rw [mem]
    · rw [mem]
      exact Memory.read_writeBytes_out _ _ _ _ _ wf' (by omega)
  · have kept : (entryWritten s h n c u).hostMem.read hostDefault x = s.hostMem.read hostDefault x := by
      rw [wrote]
      exact Memory.read_writeBytes_out _ _ _ _ _ wf (by rw [length]; exact out)
    rcases mem with mem | ⟨bs, four, mem⟩
    · rw [mem, kept]
    · rw [mem, Memory.read_writeBytes_out _ _ _ _ _ wf' (by rw [four]; exact far), kept]
  · rcases mem with mem | ⟨bs, _, mem⟩
    · rw [mem]
      exact wf'
    · rw [mem]
      exact Memory.writeBytes_wf _ _ _ _ wf'
  · rw [moved]
    simp [movedOn, ringNext]
  · rw [moved]
    simp only [movedOn]
    split <;> simp_all

end Sys2Proof.Machine
end

section
/-! DRAM upkeep keeps the data (R364 to R369). -/

namespace Sys2Proof.Machine

open Sys2Proof.Safety

/-- The contents, the poison and the map of both halves' DRAM are the same. -/
structure SameDram (s t : State) : Prop where
  mem : ∀ k, (half t k).mem.mem = (half s k).mem.mem
  poison : ∀ k, (half t k).mem.poison = (half s k).mem.poison
  regions : ∀ k, (half t k).mem.regions = (half s k).mem.regions

theorem SameDram.refl (s : State) : SameDram s s := ⟨fun _ => rfl, fun _ => rfl, fun _ => rfl⟩

theorem SameDram.trans {s t u : State} (st : SameDram s t) (tu : SameDram t u) : SameDram s u :=
  ⟨fun k => (tu.mem k).trans (st.mem k), fun k => (tu.poison k).trans (st.poison k),
    fun k => (tu.regions k).trans (st.regions k)⟩

theorem SameDram.ite {s t u : State} {p : Prop} [Decidable p] (yes : p → SameDram s t) (no : ¬p → SameDram s u) :
    SameDram s (if p then t else u) := by
  split
  · exact yes ‹_›
  · exact no ‹_›

theorem SameDram.backed {s t : State} (st : SameDram s t) (k : Half) (a : Nat) :
    backed (half t k).mem a = backed (half s k).mem a := by
  rw [Machine.backed, regionOf, st.regions k, Machine.backed, regionOf]

theorem SameDram.dramByte {s t : State} (st : SameDram s t) (k : Half) (a : Nat) :
    dramByte (half t k).mem a = dramByte (half s k).mem a := by
  rw [Machine.dramByte, st.backed k a, st.mem k, Machine.dramByte]

theorem SameDram.poisoned {s t : State} (st : SameDram s t) (k : Half) (a : Nat) :
    poisoned (half t k).mem a = poisoned (half s k).mem a := by
  rw [Machine.poisoned, st.backed k a, st.poison k, Machine.poisoned]

theorem SameDram.modChan (s : State) (h : Half) (k : Nat) (f : Chan → Chan) : SameDram s (modChan s h k f) := by
  refine ⟨fun j => ?_, fun j => ?_, fun j => ?_⟩ <;> cases h <;> cases j <;> rfl

theorem SameUnits.mem {s t : State} (st : SameUnits s t) (k : Half) : (half t k).mem = (half s k).mem := by
  cases k
  · exact (show (unitFrame t).a.mem = (unitFrame s).a.mem by rw [st.units])
  · exact (show (unitFrame t).b.mem = (unitFrame s).b.mem by rw [st.units])

theorem SameUnits.dram {s t : State} (st : SameUnits s t) : SameDram s t :=
  ⟨fun k => by rw [st.mem k], fun k => by rw [st.mem k], fun k => by rw [st.mem k]⟩

theorem SameDram.chanEvent (s : State) (h : Half) (k : Nat) (code : BitVec 16) (sev : BitVec 2) (point : Count64)
    (d0 d1 d2 : Nat) : SameDram s (chanEvent s h k code sev point d0 d1 d2) :=
  (RingWork.event ..).toSameUnits.dram

theorem SameDram.startRepay (s : State) (h : Half) (k r : Nat) : SameDram s (startRepay s h k r) :=
  .ite (fun _ => .modChan s h k _) fun _ => .refl s

theorem SameDram.passCycles (s : State) (h : Half) (k r cycles : Nat) : SameDram s (passCycles s h k r cycles) :=
  .ite (fun _ => (SameDram.modChan s h k _).trans (.modChan _ h k _)) fun _ => .modChan s h k _

theorem SameDram.issueRefresh (s : State) (h : Half) (k r : Nat) : SameDram s (issueRefresh s h k r) := by
  simp only [Machine.issueRefresh]
  split
  · exact .modChan s h k _
  · exact .ite (fun _ => ((SameDram.modChan s h k _).trans (.modChan _ h k _)).trans (.chanEvent ..)) fun _ =>
      (SameDram.modChan s h k _).trans (.modChan _ h k _)

theorem SameDram.refreshIssue (s : State) (h : Half) (k r cycles : Nat) : SameDram s (refreshIssue s h k r cycles) :=
  .ite (fun _ => .refl s) fun _ =>
    .ite (fun _ => (SameDram.passCycles s h k r cycles).trans (.issueRefresh _ h k r)) fun _ => .passCycles s h k r cycles

theorem SameDram.debtReached (s : State) (h : Half) (k r : Nat) : SameDram s (debtReached s h k r) :=
  .ite (fun _ => .refl s) fun _ => (SameDram.modChan s h k _).trans (.startRepay _ h k r)

theorem SameDram.mr4Poll (s : State) (h : Half) (k r : Nat) (t : Mr4Temp) (cycles : Nat) :
    SameDram s (mr4Poll s h k r t cycles) := by
  have repaid : ∀ (u : State) (c : Bool), SameDram u (if c then Machine.startRepay u h k r else u) := fun u c =>
    .ite (fun _ => .startRepay u h k r) fun _ => .refl u
  refine .ite (fun _ => .refl s) fun _ => .trans ?_ (repaid _ _)
  refine .trans ?_ (.ite (fun _ => .refl _) fun _ => .chanEvent ..)
  refine .trans ?_ (.ite (fun _ => .refl _) fun _ => .chanEvent ..)
  exact (SameDram.passCycles s h k r cycles).trans (.modChan _ h k _)

theorem SameDram.powerDownEntry (s : State) (h : Half) (k r : Nat) : SameDram s (powerDownEntry s h k r) :=
  .ite (fun _ => .refl s) fun _ => .modChan s h k _

/-- The queue is apart from the halves. -/
theorem half_withQueueOf (s t : State) (k : Half) : half (withQueueOf s t) k = half t k := by
  cases k <;> rfl

/-- A row of the DRAM controller whose effect keeps the data keeps them whether or not the controller works. -/
theorem SameDram.of_memAct {i : Instr} {h : Half} {s t u : State} (row : exec i s = .next t) (su : SameDram s u)
    (effect : exec i s = memAct h i s u) : SameDram s t := by
  have queue : ∀ v, SameDram s v → SameDram s (withQueueOf s v) := fun v sv =>
    ⟨fun k => by rw [half_withQueueOf, sv.mem], fun k => by rw [half_withQueueOf, sv.poison],
      fun k => by rw [half_withQueueOf, sv.regions]⟩
  rcases next_of_act row effect with rfl | rfl
  · exact queue _ (.ite (fun _ => .refl s) fun _ => su)
  · exact .refl t

/-- Settles O60: each of the four rows changes channels and raises events, and neither holds data. -/
theorem dramUpkeepKeepsData : Obligations.DramUpkeepKeepsData := by
  intro i s t h k r rows row x a
  suffices same : SameDram s t from ⟨same.dramByte x a, same.poisoned x a⟩
  rcases rows with ⟨cycles, rfl⟩ | rfl | ⟨temp, cycles, rfl⟩ | rfl
  · exact .of_memAct row (.refreshIssue s h k r cycles) rfl
  · exact .of_memAct row (.debtReached s h k r) rfl
  · exact .of_memAct row (.mr4Poll s h k r temp cycles) rfl
  · exact .of_memAct row (.powerDownEntry s h k r) rfl

end Sys2Proof.Machine
end

section
/-! A DRAM write reads back (R358, R384). -/

namespace Sys2Proof.Machine

open Sys2Proof.Safety

/-- What is backed depends on the map alone. -/
theorem backed_congr {m m' : HalfMem} (same : m'.regions = m.regions) (a : Nat) : backed m' a = backed m a := by
  rw [backed, regionOf, same, backed, regionOf]

/-! Storing bytes where they are backed. -/

/-- One byte stored where it is backed. -/
def storeBacked (m : HalfMem) (a : Nat) (b : Byte) : HalfMem :=
  if backed m a then { m with mem := m.mem.write dramDefault a b } else m

theorem writeBacked_cons (m : HalfMem) (a : Nat) (b : Byte) (bs : List Byte) :
    writeBacked m a (b :: bs) = writeBacked (storeBacked m a b) (a + 1) bs := rfl

theorem storeBacked_regions (m : HalfMem) (a : Nat) (b : Byte) : (storeBacked m a b).regions = m.regions := by
  rw [storeBacked]
  split <;> rfl

theorem storeBacked_poison (m : HalfMem) (a : Nat) (b : Byte) : (storeBacked m a b).poison = m.poison := by
  rw [storeBacked]
  split <;> rfl

theorem storeBacked_wf {m : HalfMem} (a : Nat) (b : Byte) (wf : m.mem.wf dramDefault = true) :
    (storeBacked m a b).mem.wf dramDefault = true := by
  rw [storeBacked]
  split
  · exact Memory.write_wf _ _ _ _ wf
  · exact wf

theorem storeBacked_read_ne {m : HalfMem} {a x : Nat} (b : Byte) (wf : m.mem.wf dramDefault = true) (ne : a ≠ x) :
    (storeBacked m a b).mem.read dramDefault x = m.mem.read dramDefault x := by
  rw [storeBacked]
  split
  · exact Memory.read_write_ne _ _ _ _ _ wf ne
  · rfl

theorem storeBacked_read_same {m : HalfMem} {a : Nat} (b : Byte) (wf : m.mem.wf dramDefault = true)
    (here : backed m a = true) : (storeBacked m a b).mem.read dramDefault a = b := by
  rw [storeBacked, if_pos here]
  exact Memory.read_write_same _ _ _ _ wf

theorem writeBacked_regions (bs : List Byte) : ∀ (m : HalfMem) (a : Nat), (writeBacked m a bs).regions = m.regions := by
  induction bs with
  | nil => exact fun _ _ => rfl
  | cons b bs ih => exact fun m a => (ih _ _).trans (storeBacked_regions m a b)

theorem writeBacked_poison (bs : List Byte) : ∀ (m : HalfMem) (a : Nat), (writeBacked m a bs).poison = m.poison := by
  induction bs with
  | nil => exact fun _ _ => rfl
  | cons b bs ih => exact fun m a => (ih _ _).trans (storeBacked_poison m a b)

theorem writeBacked_wf (bs : List Byte) : ∀ (m : HalfMem) (a : Nat), m.mem.wf dramDefault = true →
    (writeBacked m a bs).mem.wf dramDefault = true := by
  induction bs with
  | nil => exact fun _ _ wf => wf
  | cons b bs ih => exact fun m a wf => ih _ _ (storeBacked_wf a b wf)

theorem writeBacked_read_out (bs : List Byte) : ∀ (m : HalfMem) (a x : Nat), m.mem.wf dramDefault = true →
    (x < a ∨ a + bs.length ≤ x) → (writeBacked m a bs).mem.read dramDefault x = m.mem.read dramDefault x := by
  induction bs with
  | nil => exact fun _ _ _ _ _ => rfl
  | cons b bs ih =>
    intro m a x wf out
    rw [List.length_cons] at out
    rw [writeBacked_cons, ih _ _ _ (storeBacked_wf a b wf) (by omega), storeBacked_read_ne b wf (by omega)]

theorem writeBacked_read_in (bs : List Byte) : ∀ (m : HalfMem) (a i : Nat) (b : Byte), m.mem.wf dramDefault = true →
    bs[i]? = some b → backed m (a + i) = true → (writeBacked m a bs).mem.read dramDefault (a + i) = b := by
  induction bs with
  | nil => exact fun _ _ _ _ _ at_ => by simp at at_
  | cons c bs ih =>
    intro m a i b wf at_ here
    rw [writeBacked_cons]
    have wf' := storeBacked_wf a c wf
    cases i with
    | zero =>
      obtain rfl : c = b := by simpa using at_
      rw [writeBacked_read_out bs _ _ _ wf' (by omega)]
      exact storeBacked_read_same c wf here
    | succ i =>
      have there : backed (storeBacked m a c) (a + 1 + i) = true := by
        rw [backed_congr (storeBacked_regions m a c), show a + 1 + i = a + (i + 1) by omega, here]
      rw [show a + (i + 1) = a + 1 + i by omega]
      exact ih _ _ i b wf' (by simpa using at_) there

/-! The bursts of a write. -/

/-- A burst stands among those that a write covers whole exactly where the write covers it whole. -/
theorem contains_burstsOf_iff {a len b : Nat} :
    (burstsOf a len).contains (b, true) = true ↔ a ≤ 64 * b ∧ 64 * b + 64 ≤ a + len := by
  rw [List.contains_iff_mem, burstsOf]
  constructor
  · intro mem
    split at mem
    · cases mem
    · obtain ⟨i, _, burst⟩ := List.mem_map.mp mem
      simp only [Prod.mk.injEq, decide_eq_true_eq] at burst
      omega
  · intro covered
    rw [if_neg (by omega)]
    refine List.mem_map.mpr ⟨b - a / 64, List.mem_range.mpr (by omega), ?_⟩
    have place : a / 64 + (b - a / 64) = b := by omega
    simp only [place, Prod.mk.injEq, true_and, decide_eq_true_eq]
    omega

/-! The write. -/

theorem dramWriteMem_mem (m : HalfMem) (a : Nat) (bs : List Byte) :
    (dramWriteMem m a bs).mem = (writeBacked m a bs).mem := by
  simp only [dramWriteMem]
  split <;> rfl

theorem dramWriteMem_regions (m : HalfMem) (a : Nat) (bs : List Byte) : (dramWriteMem m a bs).regions = m.regions := by
  rw [← writeBacked_regions bs m a]
  simp only [dramWriteMem]
  split <;> rfl

theorem dramWriteMem_poison (m : HalfMem) (a : Nat) (bs : List Byte) :
    (dramWriteMem m a bs).poison = m.poison.filter fun p => !(burstsOf a bs.length).contains (p, true) := by
  rw [← writeBacked_poison bs m a]
  simp only [dramWriteMem]
  split <;> rfl

/-- A burst is poisoned after a write where it was before and the write does not cover it whole. -/
theorem poisoned_dramWriteMem (m : HalfMem) (a : Nat) (bs : List Byte) (b : Nat) :
    poisoned (dramWriteMem m a bs) (64 * b) =
      (!backed m (64 * b) || (m.poison.contains b && !(burstsOf a bs.length).contains (b, true))) := by
  rw [poisoned, backed_congr (dramWriteMem_regions m a bs), dramWriteMem_poison, Nat.mul_div_cancel_left b (by decide)]
  congr 1
  rw [Bool.eq_iff_iff]
  simp

theorem dramByte_dramWriteMem (m : HalfMem) (a : Nat) (bs : List Byte) (x : Nat) :
    dramByte (dramWriteMem m a bs) x = if backed m x then (writeBacked m a bs).mem.read dramDefault x else 0xFF := by
  rw [dramByte, backed_congr (dramWriteMem_regions m a bs), dramWriteMem_mem]

/-- Settles O57: the bytes are stored one by one where they are backed, the map stands, and the bursts covered whole
leave the
list of poisoned ones. -/
theorem dramReadsBackWrites : Obligations.DramReadsBackWrites := by
  rintro s t h a bs wf rfl
  have written : (half (dramWrite s h a bs) h).mem = dramWriteMem (half s h).mem a bs := by cases h <;> rfl
  have other : half (dramWrite s h a bs) (otherHalf h) = half s (otherHalf h) := by cases h <;> rfl
  rw [written]
  generalize (half s h).mem = m at *
  refine ⟨?_, fun i b at_ here => ?_, fun x gone => ⟨?_, ?_⟩, fun x out => ?_, fun b low high here => ?_,
    fun b part => ?_, other⟩
  · rw [dramWriteMem_mem]
    exact writeBacked_wf bs m a wf
  · rw [dramByte_dramWriteMem, if_pos here]
    exact writeBacked_read_in bs m a i b wf at_ here
  · rw [dramByte_dramWriteMem, if_neg (by simp [gone])]
  · rw [poisoned, backed_congr (dramWriteMem_regions m a bs), gone]
    rfl
  · rw [dramByte_dramWriteMem, writeBacked_read_out bs m a x wf out, dramByte]
  · rw [poisoned_dramWriteMem, here, contains_burstsOf_iff.mpr ⟨low, high⟩]
    simp
  · have uncovered : (burstsOf a bs.length).contains (b, true) = false :=
      Bool.eq_false_iff.mpr fun covered => part (contains_burstsOf_iff.mp covered)
    rw [poisoned_dramWriteMem, uncovered, poisoned, Nat.mul_div_cancel_left b (by decide)]
    simp

end Sys2Proof.Machine
end

section
/-! Packed pixels, raw blocks and index entries round-trip (R121, R177, R181). -/

namespace Sys2Proof.Machine

open Sys2Proof.Safety

/-! Numbers as bytes, least significant first. -/

theorem leNat_leBytes (n v : Nat) : leNat (leBytes n v) = v % 256 ^ n := by
  induction n generalizing v with
  | zero => simp [leBytes, leNat, Nat.mod_one]
  | succ n ih =>
    rw [leBytes, leNat, ih, Nat.pow_succ', Nat.mod_mul, BitVec.toNat_ofNat]

/-- A number that fits in its bytes is read back. -/
theorem leNat_leBytes_of_lt {n v : Nat} (fits : v < 256 ^ n) : leNat (leBytes n v) = v := by
  rw [leNat_leBytes, Nat.mod_eq_of_lt fits]

/-! Pixels. -/

theorem packNat_cons (d p : Nat) (px : List Nat) : packNat d (p :: px) = p % 2 ^ d + 2 ^ d * packNat d px := rfl

theorem packNat_cons_div (d p : Nat) (px : List Nat) : packNat d (p :: px) / 2 ^ d = packNat d px := by
  rw [packNat_cons, Nat.add_mul_div_left _ _ (Nat.two_pow_pos d), Nat.div_eq_of_lt (Nat.mod_lt _ (Nat.two_pow_pos d)),
    Nat.zero_add]

theorem packNat_cons_mod (d p : Nat) (px : List Nat) : packNat d (p :: px) % 2 ^ d = p % 2 ^ d := by
  rw [packNat_cons, Nat.add_mul_mod_self_left, Nat.mod_mod]

theorem packNat_lt (d : Nat) (px : List Nat) : packNat d px < 2 ^ (px.length * d) := by
  induction px with
  | nil => simp [packNat]
  | cons p px ih =>
    rw [packNat_cons, List.length_cons, Nat.succ_mul, Nat.add_comm (px.length * d), Nat.pow_add]
    have low := Nat.mod_lt p (Nat.two_pow_pos d)
    calc p % 2 ^ d + 2 ^ d * packNat d px < 2 ^ d * (packNat d px + 1) := by rw [Nat.mul_add, Nat.mul_one]; omega
      _ ≤ 2 ^ d * 2 ^ (px.length * d) := Nat.mul_le_mul_left _ ih

/-- The field at a place of packed pixels is the pixel there. -/
theorem packNat_field (d : Nat) (px : List Nat) (i : Nat) (hi : i < px.length) :
    (packNat d px >>> (i * d)) % 2 ^ d = px[i] % 2 ^ d := by
  induction px generalizing i with
  | nil => simp at hi
  | cons p px ih =>
    cases i with
    | zero => simpa using packNat_cons_mod d p px
    | succ i =>
      rw [Nat.succ_mul, Nat.add_comm (i * d), Nat.shiftRight_add, Nat.shiftRight_eq_div_pow _ d, packNat_cons_div]
      simpa using ih i (by simpa using hi)

theorem leNat_packPixels (d : Nat) (px : List Nat) : leNat (packPixels d px) = packNat d px := by
  refine leNat_leBytes_of_lt (Nat.lt_of_lt_of_le (packNat_lt d px) ?_)
  rw [show 256 = 2 ^ 8 by rfl, ← Nat.pow_mul]
  exact Nat.pow_le_pow_right (by omega) (by omega)

theorem length_packPixels (d : Nat) (px : List Nat) : (packPixels d px).length = (px.length * d + 7) / 8 :=
  length_leBytes ..

theorem unpackPixels_packPixels {d : Nat} {px : List Nat} (fit : ∀ p ∈ px, p < 2 ^ d) :
    unpackPixels d px.length (packPixels d px) = px := by
  rw [unpackPixels, leNat_packPixels]
  refine List.ext_getElem (by simp) fun i _ hi => ?_
  rw [List.getElem_map, List.getElem_range, packNat_field d px i hi, Nat.mod_eq_of_lt (fit _ (List.getElem_mem hi))]

/-- A raw block decodes to its pixels. -/
theorem decodeRaw_packPixels {depth : BitVec 2} {w h : Nat} {px : List Nat} (length : px.length = w * h)
    (fit : ∀ p ∈ px, p < 2 ^ depthBits depth) : decodeRaw depth w h (packPixels (depthBits depth) px) = some px := by
  have whole : (packPixels (depthBits depth) px).length = rawLen w h (depthBits depth) ∧
      leNat (packPixels (depthBits depth) px) < 2 ^ (w * h * depthBits depth) := by
    rw [length_packPixels, leNat_packPixels, length, ← length]
    exact ⟨by rw [rawLen, length], packNat_lt ..⟩
  simp only [decodeRaw]
  rw [if_pos whole, ← length, unpackPixels_packPixels fit]

/-! Index entries. -/

theorem b2n_lt (b : Bool) : b2n b < 2 := by cases b <;> decide

theorem testBit_eq_of_mod {v k : Nat} {b : Bool} (bit : v / 2 ^ k % 2 = b2n b) : v.testBit k = b := by
  rw [Nat.testBit_eq_decide_div_mod_eq, bit]
  cases b <;> rfl

/-- An index entry is read back from its bytes. -/
theorem idxOf_idxBytes {e : IndexEntry} (offset : e.offset < 2 ^ 40) (length : e.length < 2 ^ 16) :
    idxOf (idxBytes e) = e := by
  have coded := b2n_lt e.coded
  have raw := b2n_lt e.raw
  have error := b2n_lt e.error
  have skip := b2n_lt e.skip
  simp only [idxOf, idxBytes, List.take_of_length_le (Nat.le_of_eq (length_leBytes 8 _)), Nat.mod_eq_of_lt offset,
    Nat.mod_eq_of_lt length]
  rw [leNat_leBytes_of_lt (by omega), Nat.shiftRight_eq_div_pow]
  rw [testBit_eq_of_mod (k := 56) (b := e.coded) (by omega), testBit_eq_of_mod (k := 57) (b := e.raw) (by omega),
    testBit_eq_of_mod (k := 58) (b := e.error) (by omega), testBit_eq_of_mod (k := 59) (b := e.skip) (by omega)]
  congr 1 <;> omega

/-- Settles O58: the three round trips. -/
theorem pixelsAndIndexRoundTrip : Obligations.PixelsAndIndexRoundTrip :=
  ⟨fun d px fit => ⟨unpackPixels_packPixels fit, length_packPixels d px⟩,
    fun _ _ _ _ length fit => decodeRaw_packPixels length fit, fun _ offset length => idxOf_idxBytes offset length⟩

end Sys2Proof.Machine
end

section
/-! Payload bits of Ashlar blocks: numbers as bits, Golomb-Rice codes and the bytes that hold them (R172 to R175). -/

namespace Sys2Proof.Machine

open Sys2Proof.Safety

/-! Numbers as bits, most significant first. -/

theorem length_bitsMsb (n v : Nat) : (bitsMsb n v).length = n := by simp [bitsMsb]

theorem bitsMsb_succ (n v : Nat) : bitsMsb (n + 1) v = bitsMsb n (v / 2) ++ [v.testBit 0] := by
  rw [bitsMsb, List.range_succ, List.map_append, List.map_singleton, Nat.add_sub_cancel, Nat.sub_self, bitsMsb]
  congr 1
  refine List.map_congr_left fun i hi => ?_
  have bound := List.mem_range.mp hi
  rw [← Nat.testBit_add_one]
  congr 1
  omega

theorem bitsNum_append_singleton (bs : List Bool) (b : Bool) : bitsNum (bs ++ [b]) = 2 * bitsNum bs + b2n b := by
  rw [bitsNum, List.foldl_append, ← bitsNum]
  rfl

theorem b2n_testBit_zero (v : Nat) : b2n (v.testBit 0) = v % 2 := by
  rw [Nat.testBit_zero]
  rcases Nat.mod_two_eq_zero_or_one v with even | odd
  · simp [even, b2n]
  · simp [odd, b2n]

/-- The bits of a number are read back as its low bits. -/
theorem bitsNum_bitsMsb (n v : Nat) : bitsNum (bitsMsb n v) = v % 2 ^ n := by
  induction n generalizing v with
  | zero => simp [bitsMsb, bitsNum, Nat.mod_one]
  | succ n ih =>
    rw [bitsMsb_succ, bitsNum_append_singleton, ih, b2n_testBit_zero, Nat.pow_succ', Nat.mod_mul, Nat.add_comm]

/-- The bits of the number that bits stand for are those bits. -/
theorem bitsMsb_bitsNum (bs : List Bool) : bitsMsb bs.length (bitsNum bs) = bs := by
  induction bs using List.reverseRecOn with
  | nil => rfl
  | append_singleton bs b ih =>
    have half : (2 * bitsNum bs + b2n b) / 2 = bitsNum bs := by have := b2n_lt b; omega
    have low : (2 * bitsNum bs + b2n b).testBit 0 = b := testBit_eq_of_mod (by have := b2n_lt b; omega)
    rw [List.length_append, List.length_singleton, bitsMsb_succ, bitsNum_append_singleton, half, low, ih]

/-! Golomb-Rice codes. -/

theorem onesRun_replicate (n : Nat) (t : List Bool) : onesRun n (List.replicate n true ++ t) = n := by
  induction n with
  | zero => rfl
  | succ n ih => simp [List.replicate_succ, onesRun, ih]

theorem onesRun_replicate_false {n u : Nat} (short : u < n) (t : List Bool) :
    onesRun n (List.replicate u true ++ false :: t) = u := by
  induction n generalizing u with
  | zero => omega
  | succ n ih =>
    cases u with
    | zero => rfl
    | succ u => simp [List.replicate_succ, onesRun, ih (Nat.lt_of_succ_lt_succ short)]

/-- A value with fewer than 24 steps of its parameter reads back from its code. -/
theorem riceRead_unary {d k u low : Nat} (short : u < 24) (rest : List Bool) :
    riceRead d k (List.replicate u true ++ false :: (bitsMsb k low ++ rest)) = some (u * 2 ^ k + low % 2 ^ k, rest) := by
  have dropped (t : List Bool) : (List.replicate u true ++ false :: t).drop (u + 1) = t := by
    rw [← List.singleton_append, ← List.append_assoc]
    exact List.drop_left' (by simp)
  have remaining : (List.replicate u true ++ false :: (bitsMsb k low ++ rest)).drop (u + 1 + k) = rest := by
    rw [← List.drop_drop, dropped, List.drop_left' (length_bitsMsb ..)]
  simp only [riceRead, onesRun_replicate_false short, if_neg (Nat.ne_of_lt short)]
  rw [if_neg (by simp [length_bitsMsb]; omega), remaining, dropped, List.take_left' (length_bitsMsb ..), bitsNum_bitsMsb]

/-- A value of 24 steps or more reads back from its escape code. -/
theorem riceRead_escape {d k m : Nat} (fits : m < 2 ^ d) (rest : List Bool) :
    riceRead d k (List.replicate 24 true ++ (bitsMsb d m ++ rest)) = some (m, rest) := by
  simp only [riceRead, onesRun_replicate, if_true]
  rw [if_neg (by rw [List.length_append, List.length_append, List.length_replicate, length_bitsMsb]; omega),
    ← List.drop_drop, List.drop_left' (by simp), List.take_left' (length_bitsMsb ..),
    List.drop_left' (length_bitsMsb ..), bitsNum_bitsMsb, Nat.mod_eq_of_lt fits]

/-- A value reads back from its code (R173). -/
theorem riceRead_riceCode {d m : Nat} (fits : m < 2 ^ d) (k : Nat) (rest : List Bool) :
    riceRead d k (riceCode d k m ++ rest) = some (m, rest) := by
  by_cases short : m >>> k < 24
  · have code : riceCode d k m ++ rest = List.replicate (m >>> k) true ++ false :: (bitsMsb k m ++ rest) := by
      simp [riceCode, short]
    rw [code, riceRead_unary short, Nat.shiftRight_eq_div_pow, Nat.div_add_mod']
  · have code : riceCode d k m ++ rest = List.replicate 24 true ++ (bitsMsb d m ++ rest) := by
      simp [riceCode, short]
    rw [code, riceRead_escape fits]

/-! Payload bits as bytes. -/

theorem bitsByte_toNat {bs : List Bool} (whole : bs.length = 8) : (bitsByte bs).toNat = bitsNum bs := by
  obtain ⟨b0, b1, b2, b3, b4, b5, b6, b7, rfl⟩ : ∃ b0 b1 b2 b3 b4 b5 b6 b7, bs = [b0, b1, b2, b3, b4, b5, b6, b7] := by
    match bs, whole with
    | [b0, b1, b2, b3, b4, b5, b6, b7], _ => exact ⟨b0, b1, b2, b3, b4, b5, b6, b7, rfl⟩
  revert b0 b1 b2 b3 b4 b5 b6 b7
  decide

theorem getD_append_replicate_false (bs : List Bool) (n i : Nat) :
    (bs ++ List.replicate n false).getD i false = bs.getD i false := by
  rcases Nat.lt_or_ge i bs.length with inside | after
  · exact List.getD_append _ _ _ _ inside
  · rw [List.getD_append_right _ _ _ _ after, List.getD_eq_default _ _ after, List.getD_eq_getElem?_getD,
      List.getElem?_getD_replicate_default_eq]

/-- A byte of a payload holds its bits, and zeros after them. -/
theorem bitsMsb_bitsByte {bs : List Bool} (short : bs.length ≤ 8) :
    bitsMsb 8 (bitsByte bs).toNat = bs ++ List.replicate (8 - bs.length) false := by
  have filled : bitsByte (bs ++ List.replicate (8 - bs.length) false) = bitsByte bs := by
    simp only [bitsByte, getD_append_replicate_false]
  have whole : (bs ++ List.replicate (8 - bs.length) false).length = 8 := by simp; omega
  calc bitsMsb 8 (bitsByte bs).toNat
      = bitsMsb (bs ++ List.replicate (8 - bs.length) false).length (bitsNum (bs ++ List.replicate
        (8 - bs.length) false)) := by
        rw [← filled, bitsByte_toNat whole, whole]
    _ = bs ++ List.replicate (8 - bs.length) false := bitsMsb_bitsNum _

theorem bitsBytes_nil : bitsBytes [] = [] := rfl

/-- The first byte of a payload holds its first 8 bits. -/
theorem bitsBytes_of_ne_nil {bs : List Bool} (some : bs ≠ []) :
    bitsBytes bs = bitsByte (bs.take 8) :: bitsBytes (bs.drop 8) := by
  have count : (bs.length + 7) / 8 = ((bs.drop 8).length + 7) / 8 + 1 := by
    have := List.length_pos_iff.mpr some
    rw [List.length_drop]
    omega
  rw [bitsBytes, count, List.range_succ_eq_map, List.map_cons, List.map_map]
  congr 1
  refine List.map_congr_left fun i _ => ?_
  rw [Function.comp_apply, List.drop_drop, Nat.mul_succ, Nat.add_comm]

theorem bytesBits_cons (b : Byte) (bs : List Byte) : bytesBits (b :: bs) = bitsMsb 8 b.toNat ++ bytesBits bs := rfl

/-- A payload's bytes hold its bits and fewer than 8 zeros after them (R172, R175). -/
theorem bytesBits_bitsBytes (bs : List Bool) : ∃ n < 8, bytesBits (bitsBytes bs) = bs ++ List.replicate n false := by
  by_cases empty : bs = []
  · exact ⟨0, by decide, by rw [empty]; rfl⟩
  have first := bitsMsb_bitsByte (bs := bs.take 8) (by rw [List.length_take]; omega)
  by_cases short : bs.length ≤ 8
  · refine ⟨8 - bs.length, by have := List.length_pos_iff.mpr empty; omega, ?_⟩
    rw [List.take_of_length_le short] at first
    rw [bitsBytes_of_ne_nil empty, List.drop_of_length_le short, List.take_of_length_le short, bytesBits_cons, first]
    simp [bitsBytes_nil, bytesBits]
  · have whole : (bs.take 8).length = 8 := by rw [List.length_take]; omega
    obtain ⟨n, few, rest⟩ := bytesBits_bitsBytes (bs.drop 8)
    refine ⟨n, few, ?_⟩
    rw [bitsBytes_of_ne_nil empty, bytesBits_cons, first, whole, rest, Nat.sub_self, List.replicate_zero, List.append_nil,
      ← List.append_assoc, List.take_append_drop]
termination_by bs.length
decreasing_by simp; omega

end Sys2Proof.Machine
end

section
/-! The block codec: what an encode engine emits decodes within the error bound (R166 to R179, R191). -/

namespace Sys2Proof.Machine

open Sys2Proof.Safety

/-! Prediction. -/

theorem getD_lt {xs : List Nat} {b : Nat} (fit : ∀ x ∈ xs, x < b) (pos : 0 < b) (i : Nat) : xs.getD i 0 < b := by
  rcases Nat.lt_or_ge i xs.length with inside | after
  · rw [List.getD_eq_getElem _ _ inside]
    exact fit _ (List.getElem_mem inside)
  · rwa [List.getD_eq_default _ _ after]

theorem med_lt {a b q n : Nat} (ha : a < n) (hb : b < n) : med a b q < n := by
  unfold med
  split_ifs <;> omega

/-- A prediction from pixels of the depth is of the depth. -/
theorem predictPx_lt {base n : Nat} {xs : List Nat} (fitBase : base < n) (fit : ∀ x ∈ xs, x < n) (pred w i : Nat) :
    predictPx pred base w xs i < n := by
  have at_ := getD_lt fit (Nat.zero_lt_of_lt fitBase)
  simp only [predictPx]
  generalize (if pred < 4 then 1 else 2) = d
  split_ifs
  · exact fitBase
  · exact at_ _
  · exact at_ _
  · split
    · exact at_ _
    · exact at_ _
    · exact med_lt (at_ _) (at_ _)
    · have left := at_ (i / w * w + (i % w - d))
      have above := at_ ((i / w - d) * w + i % w)
      omega

/-! Residuals. -/

theorem unfoldSign_foldSign (v : Int) : unfoldSign (foldSign v) = v := by
  unfold unfoldSign foldSign
  split_ifs <;> omega

/-- The first number is at most `e` away from the second. -/
def Within (e x y : Nat) : Prop := x ≤ y + e ∧ y ≤ x + e

theorem within_zero : Within 0 = Eq := by
  funext x y
  exact propext ⟨fun ⟨up, down⟩ => by omega, fun eq => by subst eq; exact ⟨Nat.le_refl _, Nat.le_refl _⟩⟩

/-- A residual in force of a bound is the difference divided by 2e + 1, rounded to the nearest. -/
theorem residual_rounds {d e x p : Nat} (lossy : 0 < e) :
    (x : Int) - p ≤ residual d e x p * (2 * e + 1) + e ∧ residual d e x p * (2 * e + 1) ≤ (x : Int) - p + e := by
  have divides (r : Int) := And.intro (Int.emod_add_ediv_mul r (2 * e + 1))
    (And.intro (Int.emod_nonneg r (b := 2 * e + 1) (by omega)) (Int.emod_lt_of_pos r (b := 2 * e + 1) (by omega)))
  simp only [residual, if_neg (Nat.ne_of_gt lossy)]
  split_ifs with sign
  · obtain ⟨sum, low, high⟩ := divides ((x : Int) - p + e)
    omega
  · obtain ⟨sum, low, high⟩ := divides (e - ((x : Int) - p))
    rw [Int.neg_mul]
    omega

/-- The residual of a lossless pixel lies in the signed range of the depth. -/
theorem residual_lossless_range {d x p : Nat} (pos : 0 < d) :
    -2 ^ (d - 1) ≤ residual d 0 x p ∧ residual d 0 x p < 2 ^ (d - 1) := by
  have double : ((2 ^ d : Nat) : Int) = 2 * 2 ^ (d - 1) := by
    rw [← pow_sub_one_mul (Nat.ne_of_gt pos) 2, Nat.cast_mul, Int.mul_comm, Nat.cast_pow, Nat.cast_ofNat]
  have positive : (0 : Int) < 2 ^ (d - 1) := by positivity
  simp only [residual, if_true, double]
  have low := Int.emod_nonneg ((x : Int) - p + 2 ^ (d - 1)) (b := 2 * 2 ^ (d - 1)) (by omega)
  have high := Int.emod_lt_of_pos ((x : Int) - p + 2 ^ (d - 1)) (b := 2 * 2 ^ (d - 1)) (by omega)
  omega

/-- The unsigned residual fits in the bits of the depth, so that its escape code holds it (R173). -/
theorem foldSign_residual_lt {d e x p : Nat} (pos : 0 < d) (fitX : x < 2 ^ d) (fitP : p < 2 ^ d) :
    foldSign (residual d e x p) < 2 ^ d := by
  rcases Nat.eq_zero_or_pos e with lossless | lossy
  · subst lossless
    obtain ⟨low, high⟩ := residual_lossless_range (x := x) (p := p) pos
    have double := pow_sub_one_mul (Nat.ne_of_gt pos) 2
    have cast : ((2 ^ (d - 1) : Nat) : Int) = 2 ^ (d - 1) := by rw [Nat.cast_pow, Nat.cast_ofNat]
    unfold foldSign
    split_ifs <;> omega
  · obtain ⟨low, high⟩ := residual_rounds (d := d) (x := x) (p := p) lossy
    generalize residual d e x p = v at low high
    have steps (u : Int) (step : 1 ≤ u) : e + 2 * u - 1 ≤ 2 * e * u := by
      have := mul_nonneg (a := (e : Int) - 1) (b := 2 * u - 1) (by omega) (by omega)
      linarith
    have up : 3 * v ≤ (2 ^ d : Nat) := by
      rcases lt_or_ge v 1 with small | large
      · omega
      · linarith [steps v large, Int.ofNat_lt.mpr fitX]
    have down : -(3 * v) ≤ (2 ^ d : Nat) := by
      rcases lt_or_ge (-v) 1 with small | large
      · omega
      · linarith [steps (-v) large, Int.ofNat_lt.mpr fitP]
    unfold foldSign
    split_ifs <;> omega

theorem reconstruct_lt (d e p : Nat) (v : Int) : reconstruct d e p v < 2 ^ d := by
  have pos := Nat.two_pow_pos d
  unfold reconstruct
  split_ifs
  · have := Int.emod_lt_of_pos ((p : Int) + v) (b := (2 ^ d : Nat)) (by omega)
    omega
  · omega

/-- A lossless pixel is reconstructed as it was. -/
theorem reconstruct_lossless {d x : Nat} (fit : x < 2 ^ d) (p : Nat) : reconstruct d 0 p (residual d 0 x p) = x := by
  simp only [reconstruct, residual, if_true]
  rw [show (p : Int) + ((((x : Int) - p + 2 ^ (d - 1)) % (2 ^ d : Nat)) - 2 ^ (d - 1)) =
      ((x : Int) - p + 2 ^ (d - 1)) % (2 ^ d : Nat) + (p - 2 ^ (d - 1)) by ring, Int.emod_add_emod,
    show (x : Int) - p + 2 ^ (d - 1) + (p - 2 ^ (d - 1)) = x by ring, Int.emod_eq_of_lt (by omega) (by omega)]
  rfl

/-- A reconstructed pixel is within the error bound of its pixel (R169, R170). -/
theorem reconstruct_within {d x : Nat} (fit : x < 2 ^ d) (e p : Nat) :
    Within e x (reconstruct d e p (residual d e x p)) := by
  rcases Nat.eq_zero_or_pos e with lossless | lossy
  · subst lossless
    rw [within_zero, reconstruct_lossless fit]
  · obtain ⟨low, high⟩ := residual_rounds (d := d) (x := x) (p := p) lossy
    simp only [reconstruct, if_neg (Nat.ne_of_gt lossy), Within]
    omega

/-! The pixels of a predicted block. -/

/-- Coded pixels decode within the error bound, whatever follows their codes. -/
theorem decodePixels_codePixels {d e pred base w : Nat} (pos : 0 < d) (fitBase : base < 2 ^ d) (rest : List Bool)
    (px : List Nat) (fit : ∀ x ∈ px, x < 2 ^ d) (i : Nat) (xs : List Nat) (fitXs : ∀ x ∈ xs, x < 2 ^ d) (a n : Nat) :
    ∃ ys, decodePixels d e pred base w px.length i xs a n (codePixels d e pred base w px i xs a n ++ rest) = some
      (xs ++ ys, rest) ∧
      List.Forall₂ (Within e) px ys := by
  induction px generalizing i xs a n with
  | nil => exact ⟨[], by simp [decodePixels, codePixels], .nil⟩
  | cons x px ih =>
    obtain ⟨fitX, fitPx⟩ := List.forall_mem_cons.mp fit
    have predicted := predictPx_lt fitBase fitXs pred w i
    generalize prediction : predictPx pred base w xs i = p at predicted
    have fits := foldSign_residual_lt (e := e) pos fitX predicted
    have fitNext : ∀ y ∈ xs ++ [reconstruct d e p (residual d e x p)], y < 2 ^ d :=
      List.forall_mem_append.mpr ⟨fitXs, by simpa using reconstruct_lt ..⟩
    obtain ⟨ys, decoded, within⟩ := ih fitPx (i + 1) _ fitNext (adapt a n (foldSign (residual d e x p))).1
      (adapt a n (foldSign (residual d e x p))).2
    refine ⟨reconstruct d e p (residual d e x p) :: ys, ?_, .cons (reconstruct_within fitX e p) within⟩
    simp only [List.length_cons, decodePixels, codePixels, prediction, List.append_assoc, riceRead_riceCode fits,
      unfoldSign_foldSign, decoded, List.singleton_append]

/-! Headers. -/

theorem depthBits_bounds (depth : BitVec 2) : 10 ≤ depthBits depth ∧ depthBits depth ≤ 16 := by
  have := depth.isLt
  unfold depthBits
  omega

theorem lt_two_pow_16 {depth : BitVec 2} {v : Nat} (fit : v < 2 ^ depthBits depth) : v < 2 ^ 16 :=
  Nat.lt_of_lt_of_le fit (Nat.pow_le_pow_right (by decide) (depthBits_bounds depth).2)

/-- The fields of a block header, as a decoder reads them (R167). -/
theorem blockHeader_toNat {flat : Bool} {pred k0 base : Nat} {err : BitVec 3} {depth : BitVec 2} (hp : pred < 8) (hk :
    k0 < 16)
    (hb : base < 2 ^ 16) : (blockHeader flat pred err k0 depth base).toNat =
      b2n flat + 4 * pred + 32 * err.toNat + 256 * k0 + 4096 * depth.toNat + 65536 * base := by
  have kind := b2n_lt flat
  have he := err.isLt
  have hd := depth.isLt
  simp only [blockHeader, pack, List.map_cons, List.map_nil, List.sum_cons, List.sum_nil, BitVec.toNat_ofNat]
  omega

theorem blockHeader_fields {flat : Bool} {pred k0 base : Nat} {err : BitVec 3} {depth : BitVec 2} (hp : pred < 8) (hk :
    k0 < 16)
    (hb : base < 2 ^ 16) (word : Word) (is : word = blockHeader flat pred err k0 depth base) :
    fld word 1 0 = b2n flat ∧ fld word 4 2 = pred ∧ fld word 7 5 = err.toNat ∧ fld word 11 8 = k0 ∧
      fld word 13 12 = depth.toNat ∧ fld word 15 14 = 0 ∧ fld word 31 16 = base := by
  have kind := b2n_lt flat
  have he := err.isLt
  have hd := depth.isLt
  simp only [fld, is, blockHeader_toNat hp hk hb, Nat.shiftRight_eq_div_pow]
  refine ⟨?_, ?_, ?_, ?_, ?_, ?_, ?_⟩ <;> omega

/-- A block's header, read as a decoder reads it from the block's bytes. -/
theorem header_read (word : Word) (payload : List Byte) :
    BitVec.ofNat 32 (leNat ((leBytes 4 word.toNat ++ payload).take 4)) = word := by
  rw [List.take_left' (length_leBytes ..), leNat_leBytes_of_lt (by have := word.isLt; omega), BitVec.ofNat_toNat,
    BitVec.setWidth_eq]

/-- The header of a flat block decodes to its base everywhere. -/
theorem decodeCoded_flat {depth : BitVec 2} {err : BitVec 3} {base : Nat} (bound : err.toNat ≤ 4)
    (fit : base < 2 ^ depthBits depth) (w h : Nat) :
    decodeCoded depth w h (leBytes 4 (blockHeader true 0 err 0 depth base).toNat) = some (List.replicate (w * h) base) := by
  generalize word : blockHeader true 0 err 0 depth base = v
  have length : (leBytes 4 v.toNat).length = 4 := length_leBytes ..
  have read := header_read v []
  rw [List.append_nil] at read
  obtain ⟨kind, -, error, -, depths, zeros, bases⟩ := blockHeader_fields (by decide) (by decide)
    (lt_two_pow_16 fit) v word.symm
  simp only [decodeCoded, read, kind, error, depths, zeros, bases, length]
  rw [if_neg (by simp [b2n]; omega)]
  simp [b2n]

/-- The header of a predicted block says how its payload decodes. -/
theorem decodeCoded_predicted {depth : BitVec 2} {err : BitVec 3} {pred k0 base w h : Nat} {payload : List Byte}
    {xs : List Nat} {n : Nat} (hp : pred < 8) (hk : k0 < 16) (bound : err.toNat ≤ 4) (fit : base < 2 ^ depthBits depth)
    (decoded : decodePixels (depthBits depth) (errBound err) pred base w (w * h - 1) 1 [base] (2 ^ k0) 1
      (bytesBits payload) =
      some (xs, List.replicate n false)) (filler : n < 8) :
    decodeCoded depth w h (leBytes 4 (blockHeader false pred err k0 depth base).toNat ++ payload) = some xs := by
  generalize word : blockHeader false pred err k0 depth base = v
  have length : (leBytes 4 v.toNat ++ payload).length = 4 + payload.length := by rw [List.length_append, length_leBytes]
  obtain ⟨kind, pred, error, k0, depths, zeros, bases⟩ := blockHeader_fields hp hk (lt_two_pow_16 fit) v word.symm
  simp only [decodeCoded, header_read, kind, pred, error, k0, depths, zeros, bases, length,
    List.drop_left' (length_leBytes 4 v.toNat), BitVec.ofNat_toNat, BitVec.setWidth_eq, decoded]
  rw [if_neg (by simp [b2n]; omega), if_neg (by decide), if_pos (by simpa using filler)]

/-! The best coding. -/

/-- A coding of a block's pixels: a predictor, a K0 and the payload bits they give. -/
def IsCoding (d e w : Nat) (px : List Nat) (b : Nat × Nat × List Bool) : Prop :=
  b.1 < 8 ∧ b.2.1 < 16 ∧ b.2.2 = payloadBits d e b.1 b.2.1 w px

theorem allCodings_bounds {pk : Nat × Nat} (mem : pk ∈ allCodings) : pk.1 < 8 ∧ pk.2 < 16 := by
  simp only [allCodings, List.mem_flatMap, List.mem_map, List.mem_range] at mem
  obtain ⟨p, hp, k, hk, rfl⟩ := mem
  exact ⟨hp, hk⟩

/-- The best coding is one of the codings (R178). -/
theorem isCoding_bestCoding (d e w : Nat) (px : List Nat) : IsCoding d e w px (bestCoding d e w px) := by
  refine List.foldlRecOn allCodings _ (motive := IsCoding d e w px) ⟨Nat.zero_lt_succ 7, Nat.zero_lt_succ 15,
    rfl⟩ fun best coding pk mem => ?_
  dsimp only
  split_ifs
  · exact ⟨(allCodings_bounds mem).1, (allCodings_bounds mem).2, rfl⟩
  · exact coding

/-! Flat blocks. -/

theorem le_foldl_max (px : List Nat) (a : Nat) : a ≤ px.foldl max a ∧ ∀ x ∈ px, x ≤ px.foldl max a := by
  induction px generalizing a with
  | nil => simp
  | cons y px ih =>
    obtain ⟨start, all⟩ := ih (max a y)
    exact ⟨Nat.le_trans (Nat.le_max_left ..) start,
      List.forall_mem_cons.mpr ⟨Nat.le_trans (Nat.le_max_right ..) start, all⟩⟩

theorem foldl_min_le (px : List Nat) (a : Nat) : px.foldl min a ≤ a ∧ ∀ x ∈ px, px.foldl min a ≤ x := by
  induction px generalizing a with
  | nil => simp
  | cons y px ih =>
    obtain ⟨start, all⟩ := ih (min a y)
    exact ⟨Nat.le_trans start (Nat.min_le_left ..),
      List.forall_mem_cons.mpr ⟨Nat.le_trans start (Nat.min_le_right ..), all⟩⟩

theorem foldl_max_lt {px : List Nat} {n a : Nat} (start : a < n) (fit : ∀ x ∈ px, x < n) : px.foldl max a < n :=
  List.foldlRecOn px max (motive := (· < n)) start fun _ below x mem => Nat.max_lt.mpr ⟨below, fit x mem⟩

/-- The mean of a block's extremes is within the error bound of each pixel where they lie close enough (R176). -/
theorem flat_within {px : List Nat} {e x : Nat} (close : pxMax px - pxMin px ≤ 2 * e) (mem : x ∈ px) :
    Within e x ((pxMax px + pxMin px) / 2) := by
  have most : x ≤ pxMax px := (le_foldl_max px 0).2 x mem
  have least : pxMin px ≤ x := (foldl_min_le px (px.headD 0)).2 x mem
  unfold Within
  omega

theorem flat_lt {px : List Nat} {n : Nat} (fit : ∀ x ∈ px, x < n) (some : px ≠ []) : (pxMax px + pxMin px) / 2 < n := by
  obtain ⟨x, mem⟩ := List.exists_mem_of_ne_nil px some
  have most : pxMax px < n := foldl_max_lt (Nat.zero_lt_of_lt (fit x mem)) fit
  have least : pxMin px ≤ x := (foldl_min_le px (px.headD 0)).2 x mem
  have := fit x mem
  omega

/-! Coded blocks. -/

section
variable {depth : BitVec 2} {err : BitVec 3} {w h : Nat} {px : List Nat}

/-- A flat block decodes to pixels within the error bound. -/
theorem decodes_flat (bound : err.toNat ≤ 4) (length : px.length = w * h) (some_ : px ≠ [])
    (fit : ∀ p ∈ px, p < 2 ^ depthBits depth) (close : pxMax px - pxMin px ≤ 2 * errBound err) :
    ∃ ys, decodeCoded depth w h (codedBlock depth err w px) = some ys ∧ List.Forall₂ (Within (errBound err)) px ys := by
  refine ⟨List.replicate (w * h) ((pxMax px + pxMin px) / 2), ?_, ?_⟩
  · simp only [codedBlock, if_pos close]
    exact decodeCoded_flat bound (flat_lt fit some_) w h
  · rw [← length, List.forall₂_iff_get]
    exact ⟨by simp, fun i hi _ => by simpa using flat_within close (List.getElem_mem hi)⟩

/-- A predicted block decodes to its first pixel, and to pixels within the error bound after it. -/
theorem decodes_predicted (bound : err.toNat ≤ 4) {x : Nat} {t : List Nat} (length : t.length + 1 = w * h)
    (fit : ∀ p ∈ x :: t, p < 2 ^ depthBits depth) (far : 2 * errBound err < pxMax (x :: t) - pxMin (x :: t)) :
    ∃ ys, decodeCoded depth w h (codedBlock depth err w (x :: t)) = some (x :: ys) ∧
      List.Forall₂ (Within (errBound err)) t ys := by
  obtain ⟨fitX, fitT⟩ := List.forall_mem_cons.mp fit
  obtain ⟨hp, hk, bits⟩ := isCoding_bestCoding (depthBits depth) (errBound err) w (x :: t)
  simp only [codedBlock, if_neg (Nat.not_le_of_lt far)]
  generalize bestCoding (depthBits depth) (errBound err) w (x :: t) = b at *
  obtain ⟨n, filler, bytes⟩ := bytesBits_bitsBytes b.2.2
  obtain ⟨ys, decoded, within⟩ := decodePixels_codePixels (e := errBound err) (pred := b.1) (w := w)
    (by have := depthBits_bounds depth; omega) fitX (List.replicate n false) t fitT 1 [x] (by simpa using fitX) (2 ^ b.2.1) 1
  refine ⟨ys, decodeCoded_predicted hp hk bound fitX ?_ filler, within⟩
  rw [bytes, bits, ← length]
  exact decoded

/-- A coded block decodes to pixels within the error bound; the first pixel of a predicted block is exact. -/
theorem decodes_codedBlock (bound : err.toNat ≤ 4) (length : px.length = w * h) (some_ : px ≠ [])
    (fit : ∀ p ∈ px, p < 2 ^ depthBits depth) :
    ∃ ys, decodeCoded depth w h (codedBlock depth err w px) = some ys ∧ List.Forall₂ (Within (errBound err)) px ys ∧
      (2 * errBound err < pxMax px - pxMin px → ys.head? = px.head?) := by
  rcases Nat.lt_or_ge (2 * errBound err) (pxMax px - pxMin px) with far | close
  · obtain ⟨x, t, rfl⟩ := List.exists_cons_of_ne_nil some_
    obtain ⟨ys, decoded, within⟩ := decodes_predicted bound length fit far
    exact ⟨x :: ys, decoded, .cons ⟨Nat.le_add_right .., Nat.le_add_right ..⟩ within, fun _ => rfl⟩
  · obtain ⟨ys, decoded, within⟩ := decodes_flat bound length some_ fit close
    exact ⟨ys, decoded, within, fun far => absurd close (Nat.not_le_of_lt far)⟩

end

theorem within_of_forall₂ {e i x y : Nat} {px ys : List Nat} (within : List.Forall₂ (Within e) px ys) (hx : px[i]? = some x)
    (hy : ys[i]? = some y) : Within e x y := by
  obtain ⟨inside, rfl⟩ := List.getElem?_eq_some_iff.mp hx
  obtain ⟨inside', rfl⟩ := List.getElem?_eq_some_iff.mp hy
  exact within.get inside inside'

theorem eq_of_forall₂_within_zero {px ys : List Nat} (within : List.Forall₂ (Within 0) px ys) : ys = px := by
  rw [within_zero, List.forall₂_eq_eq_eq] at within
  exact within.symm

/-- A block is emitted exactly where it gains at least 4 bytes over the raw block (R179). -/
theorem encodeBlock_eq_some_iff {depth : BitVec 2} {err : BitVec 3} {w h : Nat} {px : List Nat} {bs : List Byte} :
    encodeBlock depth err w h px = some bs ↔
      bs = codedBlock depth err w px ∧ (codedBlock depth err w px).length + 4 ≤ rawLen w h (depthBits depth) := by
  simp only [encodeBlock]
  split_ifs with loses
  · simp [Nat.not_le_of_lt loses]
  · simp [Nat.le_of_not_lt loses, eq_comm]

/-- Settles O59, by induction on the pixels of a predicted block and from the extremes of a flat one. -/
theorem ashlarBlocksDecodeWithinBound : Obligations.AshlarBlocksDecodeWithinBound := by
  intro depth err w h px hw _ hh _ bound length fit
  have some_ : px ≠ [] := List.length_pos_iff.mp (length ▸ Nat.mul_pos hw hh)
  obtain ⟨ys, decoded, within, first⟩ := decodes_codedBlock bound length some_ fit
  refine ⟨⟨ys, decoded, within.length_eq.symm, fun i x y => within_of_forall₂ within, fun lossless => ?_, first⟩,
    fun bs => encodeBlock_eq_some_iff⟩
  subst lossless
  exact eq_of_forall₂_within_zero within

end Sys2Proof.Machine
end
